-- ==== Sys2Proof/Word.lean ====
section
/-! DEFINITION. The words of the CW1024-H48: bytes, 32-bit register words and 64-bit counters (R4). -/

namespace Sys2Proof

/-- One byte. -/
abbrev Byte := BitVec 8

/-- A register word: every register is 32 bits wide (R4). -/
abbrev Word := BitVec 32

/-- A 64-bit counter value (the system counter, R451). -/
abbrev DWord := BitVec 64

end Sys2Proof
end

