-- ==== Sys2Proof/Syntax.lean ====
section
/-! DEFINITION. The commands the block takes, one constructor of `Instr` per row of spec/opcode_table.json, and the
operand types they carry. The table gives its rows no operand fields; the operands are the values each rule needs from
outside (log entry 2). -/

namespace Sys2Proof

/-- One quire engine: engine `e` of gathering `g` (R43 onwards, "64 gatherings of 16"). -/
structure EngId where
  g : Fin 64
  e : Fin 16
deriving DecidableEq, Repr

/-- Who issues a bus access (R141, R151): an engine, the Spine, Clasp under a tag it chose, host PF0 or host PF1. -/
inductive Ini where
  | engine (q : EngId)
  | spine
  | clasp (tag : Byte)
  | host0
  | host1
deriving DecidableEq, Repr

/-- The seven units that have commit groups (R19), numbered as FOLD's mask bits number them (R84). -/
inductive CommitUnit where
  | couch | press | imp | ing | tm | time | aud
deriving DecidableEq, Repr

/-- Operand fields of a Mutan instruction in the R format; `fn` is held only where an instruction requires it to be 0
(R62, R68), the others being selected by it. `x` is bit [25], which must be 0 outside the I format. -/
structure RArgs where
  x : Bool
  rd : BitVec 5
  ra : BitVec 5
  rb : BitVec 5
  pr : BitVec 3
  pn : Bool
  fn : BitVec 6
deriving DecidableEq, Repr

/-- Operand fields of a vector instruction: the R format with fn[5] selecting the lane width (R69). -/
structure VArgs where
  x : Bool
  rd : BitVec 5
  ra : BitVec 5
  rb : BitVec 5
  pr : BitVec 3
  pn : Bool
  w32 : Bool
deriving DecidableEq, Repr

/-- Operand fields in the I format; `ext` is the extension word that follows when x = 1 (0 otherwise). -/
structure IArgs where
  x : Bool
  rd : BitVec 5
  ra : BitVec 5
  pr : BitVec 3
  imm12 : BitVec 12
  ext : Word
deriving DecidableEq, Repr

/-- Operand fields in the M format. -/
structure MArgs where
  x : Bool
  rd : BitVec 5
  ra : BitVec 5
  pr : BitVec 3
  sz : BitVec 2
  off10 : BitVec 10
deriving DecidableEq, Repr

/-- Operand fields in the T format. -/
structure TArgs where
  x : Bool
  rd : BitVec 5
  ra : BitVec 5
  rb : BitVec 5
  rc : BitVec 5
  pr : BitVec 3
  fb : BitVec 2
deriving DecidableEq, Repr

/-- Operand fields in the U format; `low` is bits [1:0], which must be 0. -/
structure UArgs where
  x : Bool
  rd : BitVec 5
  ra : BitVec 5
  queue : BitVec 10
  pr : BitVec 3
  low : BitVec 2
deriving DecidableEq, Repr

/-- Operand fields in the B format. -/
structure BArgs where
  x : Bool
  pr : BitVec 3
  pn : Bool
  off21 : BitVec 21
deriving DecidableEq, Repr

/-- What the Spine reads at one management tick (R30, R527): 64 junction temperatures in 1/16 °C, 9 rail voltages in mV,
128 minimum slacks in 0.1 %, the regulator's read-back in mV (none: the bus failed), and whether core speed fell below
the range of R34. -/
structure TickReadings where
  temps : List (BitVec 16)
  vmons : List (BitVec 16)
  pace : List (BitVec 16)
  readback : Option (BitVec 16)
  critical : Bool
deriving DecidableEq, Repr

/-- A completion ring or receive ring whose RING_CTL register resets its write index (R186). -/
inductive RingId where
  | couch (b : Fin 16)
  | press (b : Fin 16)
  | imp
  | backChannel
  | ing (e : Fin 16)
  | tm
  | time
  | timeRx
  | aud
  | cvu (u : Fin 32)
deriving DecidableEq, Repr

/-- One run of samples in an ST 2110-20 packet: row, byte offset of the run in the row, and its bytes. -/
structure RowPiece where
  row : Nat
  field : Bool
  offset : Nat
  data : List Byte
deriving DecidableEq, Repr

/-- An RTP packet as a session sees it: extended sequence number, timestamp, marker bit, the sample row pieces
(ST 2110-20), the sample frames (ST 2110-30: one piece a frame, its data one 32-bit little-endian word per channel, MSB-aligned) or
the plain payload (every other kind), and, for compressed kinds, whether it ends an access unit. -/
structure RtpPacket where
  seq : Word
  ts : Word
  marker : Bool
  pieces : List RowPiece
  payload : List Byte
  auEnd : Bool
deriving DecidableEq, Repr

/-- One SDI line at its EAV: line of the active picture, its bytes, CRC result, the measured raster, and the embedded audio frames it
carried, one word per channel, MSB-aligned, with the pairs whose channel status says non-audio (byte 0 bit 1). -/
structure SdiLine where
  line : Nat
  data : List Byte
  crcOk : Bool
  width : BitVec 15
  height : BitVec 14
  payloadIdOk : Bool
  audio : List (List Word)
  nonPcm : List Nat
deriving DecidableEq, Repr

/-- An upstream Folio packet as it arrives (R326, R328, R331): the lane it arrived on, its 32-byte header, and its encrypted data with the 16-byte tag
behind them. -/
structure UpFrame where
  lane : BitVec 6
  header : List Byte
  body : List Byte
deriving DecidableEq, Repr

/-- A frame as a MAC receives it: whether FCS and PCS were good, and its bytes from destination address to the end of the payload, or of the ICV
when it is protected. -/
structure RxFrame where
  fcsOk : Bool
  bytes : List Byte
deriving DecidableEq, Repr

/-- A token-bucket shaper: subscriber node n, or service node k of port q as 8q + k (R403). -/
inductive ShaperId where
  | sub (n : Fin 1024)
  | svc (n : Fin 336)
deriving DecidableEq, Repr

/-- What a lane carried since it was last asked: how many bits it sent, and the bits it received, the first first (R429-R431). -/
structure LaneBits where
  sent : Nat
  got : List Bool
deriving DecidableEq, Repr

/-- A lane and what it carried since it was last asked. -/
structure LaneRun where
  lane : Fin 58
  bits : LaneBits
deriving DecidableEq, Repr

/-- A received PTP message: sourcePortIdentity, sequenceId, domain, the lane crossing time of an event message in 2⁻¹⁶ ns on
the port's base, the timestamp it carries, its correction, whether it is two-step, the port it answers, and its bytes from
the common header onwards. -/
structure PtpMsg where
  source : BitVec 80
  seqId : BitVec 16
  domain : Byte
  crossing : Int
  carried : Int
  correction : Int
  twoStep : Bool
  answers : BitVec 80
  bytes : List Byte
deriving DecidableEq, Repr

/-- A 192-frame AES3 block: channel status and user bytes of subframes A and B (24 each). -/
structure Aes3Block where
  csA : List Byte
  csB : List Byte
  uA : List Byte
  uB : List Byte
deriving DecidableEq, Repr

/-- What finds a frame sync (R466, R468, R472): a serial port, an AES3 receiver with the validity bits of its two subframes, or the PDM inputs, whose
"samples" are the 64 bits of each microphone as two words. -/
inductive AudioIn where
  | serial (p : Fin 16)
  | aes (a : Fin 4) (vA vB : Bool)
  | pdm
deriving DecidableEq, Repr

/-- The two senders of Clasp envelopes: PF1 on channels 32 and 33, the Spine on 34 and 35 (Commands, R493). -/
inductive ClaspSide where
  | pf1 | spine
deriving DecidableEq, Repr

/-- One command entry of a host queue as the Spine fetches it (R511), with what the outside answers during it: the bytes of the
host buffer a command reads, the levels of the 32 GPIO pins, bytes an SMBus device returned and the index of a NACKed byte, whether
PCIe failed during the command, and whether the flash reported an error. -/
structure HostCmd where
  entry : List Byte
  hostData : List Byte
  pins : Word
  smbusData : List Byte
  smbusNack : Option Nat
  pcieFail : Bool
  flashFail : Bool
deriving DecidableEq, Repr

/-- The levels of the straps (R533) and of TEST_EN (R573) at the end of device reset. -/
structure Straps where
  bootSrc : Bool
  svcMode : Bool
  twinPrio : Bool
  testEn : Bool
deriving DecidableEq, Repr

/-- The commands of the block: one constructor per row of the opcode table, in its order. -/
inductive Instr where
  /-- REGISTER_WRITE (R5). A write to a register that has no behaviour of its own is applied according to its access type, and reserved fields are ignored. -/
  | registerWrite (ini : Ini) (off : BitVec 28) (v : Word)
  /-- COMMIT (R27). A write to a unit's COMMIT register arms a commit group, optionally with a link tag, or sets COMMIT_STS.bad if the group is out of range. -/
  | commit (ini : Ini) (u : CommitUnit) (v : Word)
  /-- COMMIT_POINT (R20). At a unit's commit point an armed group latches its shadow set in one indivisible step and consumes the arming. -/
  | commitPoint (u : CommitUnit) (grp : BitVec 16)
  /-- LINK_TIMEOUT (R25). A unit that has not voted 2 µs after the link's commit point causes the whole link to be refused with LINK_TIMEOUT and LINK_PEER. -/
  | linkTimeout (link : Byte) (u : CommitUnit) (also : List CommitUnit)
  /-- IDLE_COMMIT (R578). A group whose stream is not running takes effect within 2 µs of arming, or at the frame-grid point of its link. -/
  | idleCommit (u : CommitUnit) (grp : BitVec 16)
  /-- MANAGEMENT_TICK (R30). Every 1 ms the Spine reads the sensors and pace monitors, records minimum slack and steers VDD_CORE over AVSBus. -/
  | managementTick (t : TickReadings)
  /-- AVS_STEER_DOWN (R31). After up_hold reaches 64 ticks with slack above hi, the requested core voltage falls by 5 mV, down to vmin. -/
  | avsSteerDown
  /-- AVS_FAULT (R528). After 3 ticks of read-back mismatch or bus failure, steering stops, fault is set and host event 0x0A is raised. -/
  | avsFault
  /-- LADDER_DESCEND (R33). Negative slack on any monitor moves the ladder down one step, at most one step per 16 slices, and raises events. -/
  | ladderDescend (mon : Fin 128)
  /-- LADDER_ASCEND (R33). After 2 s with slack at or above lo on every monitor, the ladder moves up one step. -/
  | ladderAscend
  /-- LINE_ARRIVAL (R205). A completed source line is written to HBM, and line-progress and frame-complete tokens are posted as rows and frames complete. -/
  | lineArrival (i : Fin 64) (line : BitVec 14)
  /-- FRAME_BOUNDARY (R221). At a sheet's frame boundary the couch samples tokens, posts and armed commits, then chooses each layer's frame and taps. -/
  | frameBoundary (k : Fin 4)
  /-- COMPOSE_SLICE (R14). Once the tokens covering a slice's source rows are posted, a couch pipe composes its band of the slice and writes it to HBM. -/
  | composeSlice (k : Fin 4) (b : Fin 16) (slice : BitVec 10)
  /-- SLICE_LATEST_START (R17). When the slice's latest start passes with rows still missing, the couch completes the layer from the last complete frame and counts a SPLIT. -/
  | sliceLatestStart (k : Fin 4) (slice : BitVec 10)
  /-- COUCH_CM_FORCED_CLEAR (R258). A safety-tagged write of 1 to COUCH_CM_STS.forced clears the forcing from the next picture whose check starts after it. -/
  | couchCmForcedClear (ini : Ini) (r : Fin 15) (v : Word)
  /-- FORM_FOLIO_ROW (R311). Imposition walks the table for a composed leaf row and forms each receiver's folio rows with orientation and calibration. -/
  | formFolioRow (cy : Fin 576)
  /-- CODE_SEGMENT (R286). The press codes one receiver's folio segment, choosing leaf modes under the budget and tail mode. -/
  | codeSegment (ch : Fin 512) (rx : Fin 16)
  /-- PICTURE_BOUNDARY (R267). At a context's picture boundary the press reads the folio entries, starts pending keys or refreshes, and checks that the raster agrees with its source. -/
  | pictureBoundary (c : Fin 64)
  /-- CODE_PORTION (R281). A pipe codes or decodes one HEVC portion, earliest deadline first, without interruption. -/
  | codePortion (b : Fin 16)
  /-- ACCESS_UNIT_DECODE (R302). HEVC_DEC decodes an access unit handed over by ingest into the session's ring, concealing or marking it unsupported as needed. -/
  | accessUnitDecode (c : Fin 64)
  /-- TRUNK_SEGMENT_DECODE (R303). FOLIO_DEC decodes a segment received on a trunk lane into its output raster and posts leaf-row tokens. -/
  | trunkSegmentDecode (c : Fin 64)
  /-- SEND_PACKET (R327). The network splits coded segments into Folio packets, numbers and encrypts them, and enqueues them on path A and path B. -/
  | sendPacket (ch : Fin 512)
  /-- QE_ENABLE_WRITE (R45). A write to QE_CTRL.enable starts the engine or makes it finish its started instructions and hold. -/
  | qeEnableWrite (ini : Ini) (q : EngId) (v : Word)
  /-- INTERRUPT_ENTRY (R54). An enabled, unmasked engine with a free urgent context takes a presented interrupt: the mask is set and pc, tsk and g1 are loaded. -/
  | interruptEntry (q : EngId)
  /-- ADD (R64). rd := ra + rb modulo 2^32. -/
  | add (q : EngId) (a : RArgs)
  /-- SUB (R64). rd := ra - rb modulo 2^32. -/
  | sub (q : EngId) (a : RArgs)
  /-- AND (R64). Bitwise AND of ra and rb into rd. -/
  | and_ (q : EngId) (a : RArgs)
  /-- OR (R64). Bitwise OR of ra and rb into rd. -/
  | or_ (q : EngId) (a : RArgs)
  /-- XOR (R64). Bitwise XOR of ra and rb into rd. -/
  | xor (q : EngId) (a : RArgs)
  /-- SHL (R64). Shift ra left by rb[4:0]. -/
  | shl (q : EngId) (a : RArgs)
  /-- SHR (R64). Shift ra right by rb[4:0], filling with 0. -/
  | shr (q : EngId) (a : RArgs)
  /-- SRA (R64). Shift ra right by rb[4:0], filling with the sign. -/
  | sra (q : EngId) (a : RArgs)
  /-- MUL (R64). rd := low 32 bits of ra × rb. -/
  | mul (q : EngId) (a : RArgs)
  /-- MULH (R64). rd := high 32 bits of the signed 64-bit product. -/
  | mulh (q : EngId) (a : RArgs)
  /-- MULHU (R64). rd := high 32 bits of the unsigned 64-bit product. -/
  | mulhu (q : EngId) (a : RArgs)
  /-- DIV (R64). Signed quotient rounded towards zero, with the defined results for division by zero and overflow. -/
  | div (q : EngId) (a : RArgs)
  /-- DIVU (R64). Unsigned quotient, with the defined result for division by zero. -/
  | divu (q : EngId) (a : RArgs)
  /-- REM (R64). Signed remainder carrying the sign of ra. -/
  | rem (q : EngId) (a : RArgs)
  /-- REMU (R64). Unsigned remainder. -/
  | remu (q : EngId) (a : RArgs)
  /-- MIN (R64). Signed minimum of ra and rb. -/
  | min (q : EngId) (a : RArgs)
  /-- MAX (R64). Signed maximum of ra and rb. -/
  | max (q : EngId) (a : RArgs)
  /-- MINU (R64). Unsigned minimum of ra and rb. -/
  | minu (q : EngId) (a : RArgs)
  /-- MAXU (R64). Unsigned maximum of ra and rb. -/
  | maxu (q : EngId) (a : RArgs)
  /-- PCMP_EQ (R64). Sets predicate p[rd[22:20]] to ra = rb. -/
  | pcmpEq (q : EngId) (a : RArgs)
  /-- PCMP_NE (R64). Sets the named predicate to ra ≠ rb. -/
  | pcmpNe (q : EngId) (a : RArgs)
  /-- PCMP_LT (R64). Sets the named predicate to ra < rb, signed. -/
  | pcmpLt (q : EngId) (a : RArgs)
  /-- PCMP_GE (R64). Sets the named predicate to ra ≥ rb, signed. -/
  | pcmpGe (q : EngId) (a : RArgs)
  /-- PCMP_LTU (R64). Sets the named predicate to ra < rb, unsigned. -/
  | pcmpLtu (q : EngId) (a : RArgs)
  /-- PCMP_GEU (R64). Sets the named predicate to ra ≥ rb, unsigned. -/
  | pcmpGeu (q : EngId) (a : RArgs)
  /-- ADDI (R65). rd := ra + sign-extended immediate. -/
  | addi (q : EngId) (a : IArgs)
  /-- ANDI (R65). rd := ra AND zero-extended immediate. -/
  | andi (q : EngId) (a : IArgs)
  /-- ORI (R65). rd := ra OR zero-extended immediate. -/
  | ori (q : EngId) (a : IArgs)
  /-- XORI (R65). rd := ra XOR zero-extended immediate. -/
  | xori (q : EngId) (a : IArgs)
  /-- SHLI (R65). Shift ra left by imm[4:0]. -/
  | shli (q : EngId) (a : IArgs)
  /-- SHRI (R65). Shift ra right logically by imm[4:0]. -/
  | shri (q : EngId) (a : IArgs)
  /-- SRAI (R65). Shift ra right arithmetically by imm[4:0]. -/
  | srai (q : EngId) (a : IArgs)
  /-- LD (R66). Sign-extended load from local memory, interlocked with outstanding far transfers. -/
  | ld (q : EngId) (a : MArgs)
  /-- LDU (R66). Zero-extended load from local memory. -/
  | ldu (q : EngId) (a : MArgs)
  /-- ST (R66). Stores the low bytes of rd into local memory. -/
  | st (q : EngId) (a : MArgs)
  /-- VLD (R66). Loads 32 bytes of local memory into a vector register. -/
  | vld (q : EngId) (a : MArgs)
  /-- VST (R66). Stores a vector register into 32 bytes of local memory. -/
  | vst (q : EngId) (a : MArgs)
  /-- FLD (R67). Starts a far-to-local copy of rc bytes and returns a token. -/
  | fld (q : EngId) (a : TArgs)
  /-- FST (R67). Starts a local-to-far copy of rc bytes and returns a token. -/
  | fst (q : EngId) (a : TArgs)
  /-- FAR_COMPLETE (R76). An outstanding far transfer takes effect at its target and its token completes, holding an error if it failed. -/
  | farComplete (q : EngId) (urgent : Bool) (slot : Fin 16)
  /-- FWAIT (R74). Waits for one token or for every token of the context, and takes any held error as a deferred fault. -/
  | fwait (q : EngId) (a : IArgs)
  /-- AMOADD (R78). Atomically adds ra to a Sheet store word and returns the old value. -/
  | amoadd (q : EngId) (a : TArgs)
  /-- AMOSWAP (R78). Atomically swaps ra into a Sheet store word and returns the old value. -/
  | amoswap (q : EngId) (a : TArgs)
  /-- AMOCAS (R78). Atomically compares a Sheet store word with rc, stores ra if they are equal, and returns the old value. -/
  | amocas (q : EngId) (a : TArgs)
  /-- AMOMIN (R78). Atomically stores the signed minimum of the word and ra, and returns the old value. -/
  | amomin (q : EngId) (a : TArgs)
  /-- AMOMAX (R78). Atomically stores the signed maximum of the word and ra, and returns the old value. -/
  | amomax (q : EngId) (a : TArgs)
  /-- IFILL (R59). Starts an asynchronous 2 KiB copy of checked owner code into an overlay page and returns a token. -/
  | ifill (q : EngId) (a : IArgs)
  /-- IFILL_COMPLETE (R60). An overlay page fill ends, and fetches stalled on the page resume on the whole new page. -/
  | ifillComplete (q : EngId) (urgent : Bool) (slot : Fin 16)
  /-- BR (R68). Branches to pc + sext(off21) × 4 when the predicate holds. -/
  | br (q : EngId) (a : BArgs)
  /-- CALL (R68). Writes the link to g31 and branches to the target. -/
  | call (q : EngId) (a : BArgs)
  /-- JR (R68). Writes rd := pc + 4 and jumps to ra. -/
  | jr (q : EngId) (a : RArgs)
  /-- UCALL (R81). After its release wait, posts a 32-byte descriptor to a unit queue and returns ACCEPTED, FULL, MALFORMED or ABSENT. -/
  | ucall (q : EngId) (a : UArgs)
  /-- FOLD (R84). After its release wait, arms every group of a fold list at one instant, optionally linked, or returns BAD_LIST or BAD_GROUP. -/
  | fold (q : EngId) (a : TArgs)
  /-- TREADY (R86). Readies a task through its gathering's arbiter, which stamps it into settle or returns another result. -/
  | tready (q : EngId) (a : RArgs)
  /-- TCANCEL (R86). Cancels a task: it is removed, its cancel is remembered, it is signalled, or the cancel is refused. -/
  | tcancel (q : EngId) (a : RArgs)
  /-- TDONE (R90). Ends the task with a status after the release wait, writes its descriptor result and frees the context. -/
  | tdone (q : EngId) (a : RArgs)
  /-- TYIELD (R101). Returns the task to the tail of its priority's ready list and frees the context. -/
  | tyield (q : EngId) (a : RArgs)
  /-- TSELF (R68). rd := gathering << 16 | tsk. -/
  | tself (q : EngId) (a : RArgs)
  /-- EWAIT (R88). Returns at once if a routed source is pending, and otherwise sleeps, with an optional timeout. -/
  | ewait (q : EngId) (a : IArgs)
  /-- EWAIT_WAKE (R88). A sleeping EWAIT wakes with 0x0 when a routed, enabled source becomes pending. -/
  | ewaitWake (q : EngId)
  /-- EWAIT_TIMEOUT (R88). An EWAIT timeout expires and EWAIT returns 0x1, or does so when enable returns if the engine is held. -/
  | ewaitTimeout (q : EngId)
  /-- ESIG (R89). Sets pending a software event source, 448–511, of a named gathering. -/
  | esig (q : EngId) (a : RArgs)
  /-- EMASK (R68). Sets the interrupt mask and returns the old mask. -/
  | emask (q : EngId) (a : IArgs)
  /-- MFS (R53). Reads a special register; reading sysctr_lo latches the high half and reading cancel clears it. -/
  | mfs (q : EngId) (a : IArgs)
  /-- MTS (R53). Writes a writable special register, such as a far base. -/
  | mts (q : EngId) (a : IArgs)
  /-- VADD (R69). Lane-wise wrapping add. -/
  | vadd (q : EngId) (a : VArgs)
  /-- VSUB (R69). Lane-wise wrapping subtract. -/
  | vsub (q : EngId) (a : VArgs)
  /-- VADDS (R69). Lane-wise saturating add. -/
  | vadds (q : EngId) (a : VArgs)
  /-- VSUBS (R69). Lane-wise saturating subtract. -/
  | vsubs (q : EngId) (a : VArgs)
  /-- VMUL (R69). Lane-wise low product. -/
  | vmul (q : EngId) (a : VArgs)
  /-- VMULQ (R69). Lane-wise rounded, saturated Q-format product. -/
  | vmulq (q : EngId) (a : VArgs)
  /-- VMAC (R69). Lane-wise saturating multiply-accumulate into d. -/
  | vmac (q : EngId) (a : VArgs)
  /-- VMIN (R69). Lane-wise signed minimum. -/
  | vmin (q : EngId) (a : VArgs)
  /-- VMAX (R69). Lane-wise signed maximum. -/
  | vmax (q : EngId) (a : VArgs)
  /-- VABS (R69). Lane-wise saturated absolute value. -/
  | vabs (q : EngId) (a : VArgs)
  /-- VSHL (R69). Lane-wise shift left by lane 0 of v[rb]. -/
  | vshl (q : EngId) (a : VArgs)
  /-- VSRA (R69). Lane-wise rounding arithmetic shift right. -/
  | vsra (q : EngId) (a : VArgs)
  /-- VAND (R69). Lane-wise bitwise AND. -/
  | vand (q : EngId) (a : VArgs)
  /-- VOR (R69). Lane-wise bitwise OR. -/
  | vor (q : EngId) (a : VArgs)
  /-- VXOR (R69). Lane-wise bitwise XOR. -/
  | vxor (q : EngId) (a : VArgs)
  /-- VSPLAT (R70). Copies a scalar into every lane of a vector register. -/
  | vsplat (q : EngId) (a : VArgs)
  /-- VEXT (R70). Extracts a sign-extended lane into a scalar register. -/
  | vext (q : EngId) (a : VArgs)
  /-- VINS (R70). Inserts a scalar into one lane of a vector register. -/
  | vins (q : EngId) (a : VArgs)
  /-- VSUM (R70). Sums the sign-extended lanes into a scalar register. -/
  | vsum (q : EngId) (a : VArgs)
  /-- VMOV (R70). Copies a vector register. -/
  | vmov (q : EngId) (a : VArgs)
  /-- DESCRIPTOR_UNDEFINED_KIND (R82). A descriptor whose kind the unit does not define completes with BAD_FIELD and changes nothing. -/
  | descriptorUndefinedKind (queue : BitVec 10)
  /-- TSU_DESC_WRITE (R97). A write to TSU_DESC_BASE or TSU_DESC_COUNT is applied only while the gathering holds no task, and is otherwise discarded with cfg_busy set. -/
  | tsuDescWrite (ini : Ini) (g : Fin 64) (count : Bool) (v : Word)
  /-- SETTLE_EXPIRY (R102). A readied task leaves settle 1,000 counts after its stamp, reads its descriptor and joins the tail of its ready list. -/
  | settleExpiry (g : Fin 64) (task : BitVec 16)
  /-- CANCEL_MEMORY_EXPIRY (R103). A remembered cancel expires 1,000 counts after its stamp and frees its entry. -/
  | cancelMemoryExpiry (g : Fin 64) (task : BitVec 16)
  /-- EVENT_PRESENT (R116). A pending, enabled, unheld source is presented to one engine, or, in task mode, readies its task. -/
  | eventPresent (g : Fin 64) (src : Fin 512)
  /-- MODERATION_HOLDOFF_EXPIRY (R118). A moderation group's hold-off ends, and its pending sources are presented together. -/
  | moderationHoldoffExpiry (g : Fin 64) (grp : Fin 16)
  /-- EVC_TAKE_READ (R113). A read of EVC_TAKE returns and clears, indivisibly, the sources routed to the reading engine. -/
  | evcTakeRead (ini : Ini) (g : Fin 64) (w : Fin 16)
  /-- EVC_ROUTE_WRITE (R120). A route write takes effect at once, and pending sources are presented again under the new route. -/
  | evcRouteWrite (ini : Ini) (g : Fin 64) (src : Fin 512) (v : Word)
  /-- STRAND_TIMEOUT (R121). A source still stranded after EVC_STRAND_TO raises a host event naming the gathering and source. -/
  | strandTimeout (g : Fin 64) (src : Fin 512)
  /-- GATH_PWR_WRITE (R125). A write of park requests parking, and a write of unpark returns the engines reset within 20 µs. -/
  | gathPwrWrite (ini : Ini) (g : Fin 64) (v : Word)
  /-- GATHERING_PARK (R125). The gathering powers down once all engines are held and no task is in settle, ready or running. -/
  | gatheringPark (g : Fin 64)
  /-- MBX_CFG_WRITE (R126). A channel configuration write is taken or discarded according to the endpoint rules. -/
  | mbxCfgWrite (ini : Ini) (n : Fin 48) (v : Word)
  /-- MBX_DATA_WRITE (R133). The sender writes a data word, and a refused write is met as a bus error or counted as an overrun. -/
  | mbxDataWrite (ini : Ini) (n : Fin 48) (k : Fin 16) (v : Word)
  /-- MBX_SEND (R131). The sender sets full and notifies the receiver. -/
  | mbxSend (ini : Ini) (n : Fin 48) (v : Word)
  /-- MBX_LAST_WORD_READ (R131). The receiver's read that covers word 15 clears full and sends the sender a space notice. -/
  | mbxLastWordRead (ini : Ini) (n : Fin 48)
  /-- MBX_DBI (R136). A host ring of an inbound doorbell sets the routed event source pending, if the doorbell is enabled. -/
  | mbxDbi (ini : Ini) (i : Fin 2) (v : Word)
  /-- MBX_DBO_SET (R138). An engine or the Spine sets a device-to-host doorbell and requests its host vector. -/
  | mbxDboSet (ini : Ini) (i : Fin 2) (v : Word)
  /-- MBX_DBO_CLEAR (R140). A host W1C clear of a device-to-host doorbell; a set accepted later wins. -/
  | mbxDboClear (ini : Ini) (i : Fin 2) (v : Word)
  /-- SYS_MAP_REMAP (R147). The Spine sets remap, and the address-zero window then shows the first 512 KiB of the Sheet store. -/
  | sysMapRemap (ini : Ini) (v : Word)
  /-- SCRUB_COMPLETE (R156). Zeroing of a retagged Sheet store granule ends, and stalled transactions meet the new entry. -/
  | scrubComplete (i : Fin 1024)
  /-- SRAM_SCRUB (R161). Background scrubbing reads and corrects one Sheet store sector per bank every 10 µs. -/
  | sramScrub (bank : Fin 128) (sector : Fin 16384)
  /-- HBM_COMMAND_ISSUE (R163). At each command slot the PHY offers, an HBM controller chooses the next command by row-hit and rotation rules and drains writes. -/
  | hbmCommandIssue (p : Fin 64) (ready : BitVec 16) (wr : Bool)
  /-- HBM_REFRESH (R165). A per-bank refresh falls due on the PHY clock. -/
  | hbmRefresh (p : Fin 64) (bank : Fin 16)
  /-- HBM_CFG_WRITE (R167). A write of nref_k is taken if it lies in 8–16, and is otherwise discarded. -/
  | hbmCfgWrite (ini : Ini) (v : Word)
  /-- RETRAIN_DUE (R168). A pseudo-channel becomes due for retraining at 64 ms × m + p × 1 ms. -/
  | retrainDue (p : Fin 64)
  /-- RETRAIN_START (R168). A due retraining starts at the next slice boundary of sheet 0 when no other pseudo-channel is retraining. -/
  | retrainStart (p : Fin 64)
  /-- RETRAIN_FORCED (R168). With no slice boundary within 1 ms, retraining starts at once, is counted as forced and raises the memory event. -/
  | retrainForced (p : Fin 64)
  /-- RETRAIN_END (R168). The retraining pause ends, and queued transactions are served in order. -/
  | retrainEnd (p : Fin 64)
  /-- COMPUTE (R176). A check-value unit folds a memory range into its running CRC, compares the result if asked, and completes. -/
  | compute (u : Fin 32)
  /-- CVU_RUN_WRITE (R179). A write to CVU_RUN or CVU_SEQ is taken only while the unit is idle, and otherwise sets run_busy. -/
  | cvuRunWrite (ini : Ini) (u : Fin 32) (r : Fin 4) (v : Word)
  /-- RING_CTL_WRITE (R186). A write of a completion ring's entries resets its write index to 0. -/
  | ringCtlWrite (ini : Ini) (ring : RingId) (v : Word)
  /-- INGEST_PACKET (R206). An RTP packet of a session is received, merged across legs and written, and a new timestamp starts a frame. -/
  | ingestPacket (i : Fin 64) (legB : Bool) (p : RtpPacket)
  /-- SDI_LINE (R205). An SDI line is received at its EAV and written as received, with any CRC error counted. -/
  | sdiLine (i : Fin 64) (l : SdiLine)
  /-- PACKET_LOSS_DECLARE (R206). After the skew window, a missing packet is declared lost and concealed from the line above. -/
  | packetLossDeclare (i : Fin 64) (seq : Word)
  /-- SESSION_TIMEOUT (R209). After silence for timeout, the session enters LOST and abandons its frame. -/
  | sessionTimeout (i : Fin 64)
  /-- SDI_LOCK_LOSS (R209). The SDI framer loses lock, and the session enters LOST. -/
  | sdiLockLoss (i : Fin 64)
  /-- CLIP_FEED (R213). Starts feeding a stored clip's access units to the press, one per frame period from start. -/
  | clipFeed (e : Fin 16)
  /-- CLIP_HANDOVER (R213). At each frame period a clip feed hands the next access unit to the press. -/
  | clipHandover (i : Fin 64)
  /-- STOP (R214). Ends a session's running CLIP_FEED, which completes STOPPED. -/
  | stop (e : Fin 16)
  /-- OUTPUT_ENABLE (R217). Setting ING_OUT_CFG.en checks the output, then starts it or records a refusal reason. -/
  | outputEnable (ini : Ini) (o : Fin 8) (v : Word)
  /-- OUTPUT_LINE_SEND (R219). An output sends a line at its time, from the previous frame if the row is not yet written. -/
  | outputLineSend (o : Fin 8) (row : BitVec 14)
  /-- SDI_OUTPUT_SLIP (R220). An SDI output drifted more than half a frame repeats or drops one frame and counts a slip. -/
  | sdiOutputSlip (o : Fin 8) (dropped : Bool)
  /-- BUFFER_POST (R252). A couch queue accepts a buffer post, which waits for the layer's next frame boundary. -/
  | bufferPost (b : Fin 16)
  /-- KEY (R278). Requests keys for a range of folios or a context through the context's arbiter. -/
  | key (b : Fin 16)
  /-- PIN (R291). Pins or unpins a long-term slot for folios at their next picture. -/
  | pin (b : Fin 16)
  /-- IMP_TABLE_WRITE (R308). A write through the imposition window is staged, or is applied at once while sheet 0 is disabled, or is refused. -/
  | impTableWrite (ini : Ini) (index : BitVec 20) (vals : List (BitVec 64))
  /-- CAL_LOAD (R315). Reads up to 256 owner calibration sets and writes them into the group 0 shadow in one step. -/
  | calLoad
  /-- JOIN (R332). A receiver's JOIN is negotiated into a version and state, and answered with ACCEPT. -/
  | join (p : UpFrame)
  /-- KEY_REQUEST (R333). A receiver's key request sets its folio key_pending, directly or through the ring. -/
  | keyRequest (p : UpFrame)
  /-- STATUS (R334). A receiver's STATUS is ringed and returns a SILENT receiver to JOINED. -/
  | status (p : UpFrame)
  /-- STATUS_TIMEOUT (R334). After 3 s without a STATUS, a JOINED receiver becomes SILENT. -/
  | statusTimeout (ch : Fin 512) (rx : Fin 16)
  /-- COUNTERMARK_ECHO (R336). A receiver's echo is compared with the kept CRC, and a mismatch forces its region. -/
  | countermarkEcho (p : UpFrame)
  /-- ECHO_MISSING (R336). With strict set, a kept value with no echo 8 frame periods after presentation forces its region. -/
  | echoMissing (ch : Fin 512) (rx : Fin 16) (picture : Word) (row : Byte) (region : Fin 15)
  /-- CONTROL_SEND (R542). Sends a service control message to a joined receiver on its channel. -/
  | controlSend
  /-- SERVICE_REPLY (R543). A receiver's service reply is written to the back-channel ring. -/
  | serviceReply (p : UpFrame)
  /-- EPOCH_LOAD (R554). Loads the checkpointed epochs of disabled channels. -/
  | epochLoad
  /-- PORT_ENABLE (R384). Setting MAC_CTRL.en checks the port's settings, then starts it or records AGREE. -/
  | portEnable (ini : Ini) (m : Fin 42) (v : Word)
  /-- LINK_CHANGE (R387). A lane gains or loses block lock and link, and with auto set the CTLE is acquired first. -/
  | linkChange (i : Fin 58) (up : Bool) (errs : List Nat)
  /-- MAC_FRAME_RECEIVE (R393). A received frame is validated and dispatched by recognisers, classifier and policer, or discarded. -/
  | macFrameReceive (m : Fin 42) (f : RxFrame)
  /-- ARP_REQUEST (R386). A running port answers an ARP request for MAC_IP4. -/
  | arpRequest (m : Fin 42) (senderMac : BitVec 48) (senderIp : Word) (targetIp : Word)
  /-- NEIGHBOUR_SOLICITATION (R386). A running port answers an IPv6 neighbour solicitation for its addresses. -/
  | neighbourSolicitation (m : Fin 42) (senderMac : BitVec 48) (senderIp : BitVec 128) (target : BitVec 128)
  /-- POLICER_REFILL (R396). Every 1,000 counts, each policer adds CIR and EIR credit, capped at CBS and EBS. -/
  | policerRefill (i : Fin 512)
  /-- CLASSIFIER_WRITE (R394). A write to a classifier entry is taken while it is disabled, and enabling a multicast entry starts membership reports. -/
  | classifierWrite (ini : Ini) (e : Fin 512) (w : Fin 16) (v : Word)
  /-- SHAPER_REFILL (R406). Every 1 µs a shaper gains credit, and at a commit refill it applies forgive, credit and cap in order. -/
  | shaperRefill (n : ShaperId)
  /-- SUBSCRIBER_RELEASE (R399). A subscriber node releases its head packet when its shaper allows, and places it in each destination port FIFO. -/
  | subscriberRelease (n : Fin 1024)
  /-- PORT_TRANSMIT (R401). When the port is free, it chooses the next frame from the eligible service nodes and sends it. -/
  | portTransmit (m : Fin 42)
  /-- MACSEC_TX_AN_WRITE (R391). A write of tx_an switches the transmit SA at the next frame. -/
  | macsecTxAnWrite (ini : Ini) (m : Fin 42) (v : Word)
  /-- PRP_SUPERVISION (R392). Every 2 s the PRP pair sends supervision frames. -/
  | prpSupervision
  /-- GATE_ENTRY_ADVANCE (R409). A running gate list moves to its next entry or cycle on its time base. -/
  | gateEntryAdvance (m : Fin 42)
  /-- GATE_LIST_START (R410). An accepted gate list takes over at its chosen start, adjusted if its base was too early. -/
  | gateListStart (m : Fin 42)
  /-- FLOW_ENABLE (R411). Setting a programme flow's en checks the flow, then starts it or leaves en at 0. -/
  | flowEnable (ini : Ini) (f : Fin 16) (v : Word)
  /-- PROGRAMME_ACCESS_UNIT_SEND (R412). An HEVC access unit is encapsulated as TS or RTP HEVC and enqueued with its timestamps. -/
  | programmeAccessUnitSend (f : Fin 16)
  /-- PSI_INSERT (R412). PAT and PMT are inserted at least every 100 ms, and the PCR at least every 40 ms. -/
  | psiInsert (f : Fin 16)
  /-- FRAME_SEND (R413). The traffic manager reads an owner frame, pads it, appends the FCS and places it in a port FIFO. -/
  | frameSend
  /-- REF_LOSS (R416). A reference absent or out of range for 10 µs is lost, and its ports, SDI lanes, PCIe or time unit react. -/
  | refLoss (r : Fin 7) (ppm : BitVec 16)
  /-- REF_REGAIN (R416). A reference within 200 ppm for 1 ms is regained, and its lanes reacquire. -/
  | refRegain (r : Fin 7) (ppm : BitVec 16) (fractional : Bool)
  /-- EBUF_RATE_MATCH (R420). The elastic buffer deletes or inserts an idle within a gap, or on overflow or underflow sets ebuf and raises an event. -/
  | ebufRateMatch (i : Fin 58) (fill : BitVec 6) (gap : Bool)
  /-- LANE_CTRL_WRITE (R422). A LANE_CTRL write is taken while the lane is idle, and is otherwise discarded with busy set. -/
  | laneCtrlWrite (ini : Ini) (i : Fin 58) (v : Word)
  /-- LANE_EQ_WRITE (R428). A LANE_RX or LANE_TX write takes effect within 1 µs. -/
  | laneEqWrite (ini : Ini) (i : Fin 58) (tx : Bool) (v : Word)
  /-- LANE_PRBS_WRITE (R430). Sets the generator, checker, inversion and pattern, subject to the busy rules. -/
  | lanePrbsWrite (ini : Ini) (l : LaneRun) (v : Word)
  /-- PRBS_CLEAR (R431). Clears the error, bit and relock counts. -/
  | prbsClear (ini : Ini) (i : Fin 58) (v : Word) (w : LaneBits)
  /-- PRBS_INJECT (R432). Inverts one bit of the generated stream. -/
  | prbsInject (ini : Ini) (l : LaneRun) (v : Word)
  /-- PRBS_SNAP (R434). Copies the error and bit counts into the snapshot registers in one step. -/
  | prbsSnap (ini : Ini) (i : Fin 58) (v : Word) (w : LaneBits)
  /-- PRBS_LOCK (R431). After 1,024 error-free bits the checker locks and starts counting. -/
  | prbsLock (l : LaneRun)
  /-- PRBS_LOCK_LOSS (R431). With 64 errors in 1,024 bits, the checker loses lock, counts a relock and resynchronises. -/
  | prbsLockLoss (i : Fin 58) (w : LaneBits)
  /-- SERVO_SAMPLE (R443). An offset sample updates the PI servo, or steps or slews the time base. -/
  | servoSample (t : Fin 8) (theta : Int)
  /-- HOLDOVER_TIMEOUT (R444). With no sample for 2 s, the time base enters HOLDOVER. -/
  | holdoverTimeout (t : Fin 8)
  /-- REF_SYS_FAIL (R454). After 1 s of REF_SYS loss, every enabled time base enters FAILED. -/
  | refSysFail
  /-- TB_SNAP (R440). Captures a time base and the system counter at the same instant. -/
  | tbSnap (ini : Ini) (t : Fin 8) (v : Word)
  /-- SYNC_SEND (R447). A master port sends Sync, and Follow_Up when two-step, at its interval. -/
  | syncSend (m : Fin 42)
  /-- DELAY_REQ_SEND (R447). A slave port sends Delay_Req or Pdelay_Req at its interval. -/
  | delayReqSend (m : Fin 42)
  /-- SYNC (R447). A slave port timestamps a received Sync from its qualified master. -/
  | sync (m : Fin 42) (p : PtpMsg)
  /-- FOLLOW_UP (R447). A slave port takes the precise origin time of a two-step Sync. -/
  | followUp (m : Fin 42) (p : PtpMsg)
  /-- DELAY_REQ (R447). A master port answers a received Delay_Req with Delay_Resp. -/
  | delayReq (m : Fin 42) (p : PtpMsg)
  /-- DELAY_RESP (R447). A slave port completes an E2E exchange and delivers an offset if qualified. -/
  | delayResp (m : Fin 42) (p : PtpMsg)
  /-- PDELAY_REQ (R447). A port answers a Pdelay_Req with Pdelay_Resp and, if needed, Pdelay_Resp_Follow_Up. -/
  | pdelayReq (m : Fin 42) (p : PtpMsg)
  /-- PDELAY_RESP (R447). A port takes a peer delay response into its path-delay measurement. -/
  | pdelayResp (m : Fin 42) (p : PtpMsg)
  /-- PDELAY_RESP_FOLLOW_UP (R447). A port completes a peer delay measurement. -/
  | pdelayRespFollowUp (m : Fin 42) (p : PtpMsg)
  /-- PTP_GENERAL_MESSAGE (R447). Announce, Signaling and Management messages are written to TIME_RX_RING. -/
  | ptpGeneralMessage (m : Fin 42) (p : PtpMsg)
  /-- OFFSET (R450). An OFFSET descriptor delivers a sample to a base with src 0x2, and otherwise completes IGNORED. -/
  | offset
  /-- PTP_SEND (R450). Sends a PTP general message with transport headers in service class 7. -/
  | ptpSend
  /-- SYS_CTR_LO_READ (R452). A read of SYS_CTR_LO latches the high half for the reading initiator. -/
  | sysCtrLoRead (ini : Ini)
  /-- PPS_IN_EDGE (R453). A PPS_IN rising edge is timestamped, raises TIME_EVT and may feed a servo. -/
  | ppsInEdge
  /-- PPS_OUT_PULSE (R453). PPS_OUT rises at each second boundary plus phase and falls after width µs. -/
  | ppsOutPulse (rise : Bool)
  /-- TIME_ECHO (R460). A receiver's TIME_ECHO is timestamped and answered on its lane, and its reported θ and D are stored. -/
  | timeEcho (p : UpFrame)
  /-- AUDIO_BLOCK_BOUNDARY (R465). At a 64-frame block boundary of an audio clock, the armed audio groups take effect. -/
  | audioBlockBoundary (grp : BitVec 16)
  /-- AUDIO_CLOCK_STOPPED (R465). An audio clock with no block boundary for two block periods lets its armed group commit within 2 µs. -/
  | audioClockStopped (grp : BitVec 16)
  /-- AUDIO_FRAME_SYNC (R466). A serial port finds a frame sync, moving samples, gaining lock after 16 or counting an error. -/
  | audioFrameSync (src : AudioIn) (onSpacing : Bool) (samples : List Word)
  /-- AES3_BLOCK (R468). An AES3 receiver captures a 192-frame channel-status block, or counts a CRCC error. -/
  | aes3Block (a : Fin 4) (b : Aes3Block)
  /-- NONAUDIO_EXIT (R471). After 4,096 frames without a burst preamble, the pair returns to audio. -/
  | nonaudioExit (g : Fin 16) (pair : Fin 8)
  /-- AUDIO_OUTPUT_BLOCK (R476). At each output block a group updates ρ, resamples, inserts or drops frames and writes a ring block. -/
  | audioOutputBlock (g : Fin 16)
  /-- AUDIO_SOURCE_LOSS (R478). With no frame for two output block periods, the group writes zeros flagged unlocked. -/
  | audioSourceLoss (g : Fin 16)
  /-- AUDIO_OUTPUT_SEND (R483). An audio output sends the frames of a ring block at their presentation time, by port, AES3, network, embedding or Folio. -/
  | audioOutputSend (o : Fin 16)
  /-- MUTE (R480). Mutes or unmutes a group with a ramp over its next output block. -/
  | mute
  /-- CLASP_TRIGGER (R493). Clasp copies an envelope on its trigger message, checks it, runs the command and replies. -/
  | claspTrigger (side : ClaspSide)
  /-- ATTEST (R495). Returns a signed attestation report. -/
  | attest (side : ClaspSide)
  /-- RESTORE (R498). Loads a sealed key book for this serial and generation. -/
  | restore (side : ClaspSide)
  /-- SEAL (R498). Returns the key book sealed under the sealing key. -/
  | seal (side : ClaspSide)
  /-- ALARM_READ (R501). Returns up to 8 of the oldest unacknowledged alarm records, signed. -/
  | alarmRead (side : ClaspSide)
  /-- PLACEMENT (R488). Returns a tenant's active layer registers, signed. -/
  | placement (side : ClaspSide)
  /-- ENROL_OWNER (R497). Enrols a new owner with a ticket, burning fuses and clearing safety and tenants. -/
  | enrolOwner (side : ClaspSide)
  /-- ENROL_SAFETY (R497). Enrols a safety key under the owner's signature and the current authority's. -/
  | enrolSafety (side : ClaspSide)
  /-- TENANT_ADD (R487). Enrols a tenant's public key. -/
  | tenantAdd (side : ClaspSide)
  /-- TENANT_RETIRE (R496). Retags the tenant's granules to vendor, draws a new HBM key and erases its keys. -/
  | tenantRetire (side : ClaspSide)
  /-- GRANULE (R499). Sets a run of domain map entries to a tag and flags. -/
  | granule (side : ClaspSide)
  /-- CONTENT_KEY (R496). Unwraps a content key into a tenant's or the safety authority's slot. -/
  | contentKey (side : ClaspSide)
  /-- SEALED_WRITE (R496). Decrypts host-staged ciphertext with GCM into the signer's granules, or zeroes the destination on a tag failure. -/
  | sealedWrite (side : ClaspSide)
  /-- SAFETY_WRITE (R500). Writes safety entries and registers with the safety tag and arms the named groups. -/
  | safetyWrite (side : ClaspSide)
  /-- ALARM_ACK (R501). Frees alarm records up to a number. -/
  | alarmAck (side : ClaspSide)
  /-- WALL_SEED (R494). Unwraps a wall seed into the key store. -/
  | wallSeed (side : ClaspSide)
  /-- WALL_KEY (R494). Derives a channel key from a seed into a slot and assigns it to a channel. -/
  | wallKey (side : ClaspSide)
  /-- MACSEC_CAK (R389). Installs a port's MACsec CAK. -/
  | macsecCak (side : ClaspSide)
  /-- MKA_OP (R389). Computes or checks an ICV, unwraps an SAK into an SA, or generates an SAK for the Spine. -/
  | mkaOp (side : ClaspSide)
  /-- CODE_CHECK (R495). Hashes a Sheet store region and, on a match, marks it owner code with owner_rd only. -/
  | codeCheck (side : ClaspSide)
  /-- DEBUG_UNLOCK (R502). Opens the debug scopes until reset, with owner and vendor authorisation. -/
  | debugUnlock (side : ClaspSide)
  /-- TWIN_EXPORT (R498). Seals the key book to a named twin. -/
  | twinExport (side : ClaspSide)
  /-- HIF_SQ_TAIL_WRITE (R507). The host advances a command queue tail, or a tail out of range is ignored with bad_tail set. -/
  | hifSqTailWrite (ini : Ini) (q : Fin 64) (v : Word)
  /-- HIF_QUEUE_CFG_WRITE (R509). Enabling or disabling a command or completion queue is checked and resets head, tail and phase. -/
  | hifQueueCfgWrite (ini : Ini) (cq : Bool) (q : Fin 64) (v : Word)
  /-- HIF_CQ_HEAD_WRITE (R508). The host frees completion entries, and held entries may then be written. -/
  | hifCqHeadWrite (ini : Ini) (q : Fin 64) (v : Word)
  /-- COMMAND_FETCH (R510). The Spine fetches the next command of an enabled queue in rotation and runs it. -/
  | commandFetch (q : Fin 64) (c : HostCmd)
  /-- HIF_EVT_CFG_WRITE (R513). Enabling the event queue places the pending codes in ascending order. -/
  | hifEvtCfgWrite (ini : Ini) (v : Word)
  /-- MSIX_TIMER_EXPIRY (R516). A vector's moderation timer expires and the vector fires. -/
  | msixTimerExpiry (v : Fin 120)
  /-- HIF_IDLE_HINT_WRITE (R517). Setting idle fires every vector with a nonzero count within 1 µs and bypasses moderation. -/
  | hifIdleHintWrite (ini : Ini) (v : Word)
  /-- PME_TURN_OFF (R519). The device finishes the writes it has begun, sends PME_TO_Ack and holds new entries. -/
  | pmeTurnOff
  /-- D3HOT_ENTRY (R519). A function enters D3hot, and its writes and MSI-X are held. -/
  | d3hotEntry (pf1 : Bool) (pmeEn clr : Bool)
  /-- D0_RETURN (R519). On return to D0 the held entries are written in order and the vectors with counts fire. -/
  | d0Return (pf1 : Bool) (pmeEn clr : Bool)
  /-- PCIE_LINK_LOSS (R520). Loss of the link is handled as D3hot without PME, and its return as a return to D0. -/
  | pcieLinkLoss (back : Bool)
  /-- PCIE_CONVENTIONAL_RESET (R520). PERST or a hot reset resets both functions. -/
  | pcieConventionalReset
  /-- PCIE_FLR_PF0 (R520). Disables PF0 queues, discards held completions, resets HIF registers except pending events, and clears mailboxes. -/
  | pcieFlrPf0
  /-- PCIE_FLR_PF1 (R520). Lets a running Clasp command finish and discards its reply. -/
  | pcieFlrPf1
  /-- IDENTIFY (R523). Writes the 256-byte identity record. -/
  | identify (q : Fin 64) (c : HostCmd)
  /-- NEGOTIATE (R524). Chooses the highest common host command set version. -/
  | negotiate (q : Fin 64) (c : HostCmd)
  /-- AVS_LIMITS (R528). Sets the AVS voltage window and slack thresholds, and clears fault. -/
  | avsLimits (q : Fin 64) (c : HostCmd)
  /-- THERM_LIMITS (R523). Sets the warning and critical thresholds. -/
  | thermLimits (q : Fin 64) (c : HostCmd)
  /-- SENSOR_DUMP (R523). Writes one tick's sensor block to a host buffer. -/
  | sensorDump (q : Fin 64) (c : HostCmd)
  /-- PROGRAM_START (R525). Fills page 0 of every engine, loads the start context on engine 0 of gathering 0 and enables it. -/
  | programStart (q : Fin 64) (c : HostCmd)
  /-- ROUTE (R523). Writes a non-secure mailbox configuration or doorbell route for the host. -/
  | route (q : Fin 64) (c : HostCmd)
  /-- FLASH_READ (R523). Copies QSPI flash to a host buffer. -/
  | flashRead (q : Fin 64) (c : HostCmd)
  /-- FLASH_WRITE (R523). Erases the touched sectors and programs a range of the flash. -/
  | flashWrite (q : Fin 64) (c : HostCmd)
  /-- TRUNK_SET (R526). Sets the trunk protocol version. -/
  | trunkSet (q : Fin 64) (c : HostCmd)
  /-- GPIO (R523). Drives GPIO pins under a mask and returns the pin levels. -/
  | gpio (q : Fin 64) (c : HostCmd)
  /-- SMBUS (R523). Performs one SMBus write-then-read transfer. -/
  | smbus (q : Fin 64) (c : HostCmd)
  /-- RAIL_INVALID (R532). A rail below its threshold for 1 µs puts the device into device reset. -/
  | railInvalid (r : Fin 9)
  /-- SYS_RESET_ASSERT (R532). SYS_RESET_N asserted for 1 µs resets the whole device. -/
  | sysResetAssert
  /-- DEVICE_RESET_END (R532). 2 ms after the rails are valid and reset is released, device reset ends and the straps latch. -/
  | deviceResetEnd (st : Straps)
  /-- CLASP_IMAGE_CHECK (R537). Clasp reads a boot directory and checks the Clasp image, falling back to the other directory or failing. -/
  | claspImageCheck
  /-- SPINE_RELEASE (R535). Clasp firmware checks and places the Spine image and releases the Spine. -/
  | spineRelease
  /-- SPINE_READY (R535). The Spine firmware starts, sets remap and readies the HIF and MBX blocks. -/
  | spineReady
  /-- BOOT_DIR_POLL (R538). Every 1 ms Clasp reads the host boot area and boots once it holds a valid directory. -/
  | bootDirPoll
  /-- WATCHDOG_EXPIRY (R540). With the Spine tick absent for 50 ms, the Spine is rechecked and restarted. -/
  | watchdogExpiry
  /-- TWIN_IN_ASSERT (R547). TWIN_ACT_IN_N asserted stops every wall and trunk transmitter within 100 ns. -/
  | twinInAssert
  /-- CLAIM (R548). After TWIN_ACT_IN_N has been released for 10 or 110 µs, an enabled, armed or claiming device asserts its claim. -/
  | claim
  /-- COLLISION_BACKOFF_EXPIRY (R549). After equal-strap collisions the random 10–100 µs wait ends and claiming may resume. -/
  | collisionBackoffExpiry
  /-- SYS_TWIN_KEEP (R546). A write restarts the keepalive timer. -/
  | sysTwinKeep (ini : Ini) (v : Word)
  /-- TWIN_RELEASE (R550). A write of release drops the claim and sets lost. -/
  | twinRelease (ini : Ini) (v : Word)
  /-- KEEPALIVE_EXPIRY (R550). With no keepalive for timeout ms, the claim is released with lost set, or event 0x14 is raised when en is 0. -/
  | keepaliveExpiry
  /-- HBM_STACK_FAIL (R550). A pseudo-channel not ready for 100 µs outside retraining releases the claim. -/
  | hbmStackFail (p : Fin 64)
  /-- CORE_SUPPLY_FAULT (R550). VDD_CORE below 0.55 V for 10 µs releases the claim. -/
  | coreSupplyFault
  /-- TWIN_IN_RELEASE (R547). TWIN_ACT_IN_N is released by the partner, lifting the transmitter gate and starting the release count of R548. -/
  | twinInRelease
  /-- TIME_PORT_QUAL_WRITE (R444). A write of TIME_PORT_QUAL.qualified starts or stops offset delivery, resets the accepted sourcePortIdentity, and clearing it puts the time base into HOLDOVER. -/
  | timePortQualWrite (ini : Ini) (m : Fin 42) (v : Word)
  /-- AUDIO_PORT_LOCK_LOSS (R467). A slave serial port whose frame sync stops for two frame periods loses lock and raises AUD_EVT. -/
  | audioPortLockLoss (p : Fin 16)
  /-- AES3_LOCK_CHANGE (R469). An AES3 receiver gains lock after 64 valid frames or loses it when preambles or biphase decode fail, updating lock and rate and raising AUD_EVT. -/
  | aes3LockChange (a : Fin 4) (locked : Bool) (rate : BitVec 4)
  /-- TEST_EN_HIGH (R573). TEST_EN driven high holds the device in device reset whatever the rails and SYS_RESET_N do. -/
  | testEnHigh
  /-- SPINE_STOP (R540). The Spine stops and its 1 ms tick becomes absent, pausing management until the watchdog restarts it. -/
  | spineStop (cmd : Option (Fin 64 × BitVec 16))
  /-- CLASP_STOP (R540). Clasp stops answering, and keys already loaded stay in use while new commands wait until the next device reset. -/
  | claspStop
deriving DecidableEq, Repr

end Sys2Proof
end

