-- ==== Sys2Proof/Decode.lean ====
section
/-! DEFINITION. Words and commands. The opcode table gives no row any bits, so no word spells a command of the block; an engine's
instructions have words of their own (Encoding formats, R62-R70), which `Instr.words` spells and an engine's fetch compares. -/

namespace Sys2Proof

/-- The command a word spells by the opcode table's bits: the table gives none (log entry 1). -/
def decodeTableWord (_nbits _w : Nat) : Option Instr := none

/-! ### The words of the Mutan instructions -/

/-- A word in the R format: op, x, rd, ra, rb, pr, pn, fn. -/
def wordR (op fn : BitVec 6) (a : RArgs) : Word :=
  op ++ BitVec.ofBool a.x ++ a.rd ++ a.ra ++ a.rb ++ a.pr ++ BitVec.ofBool a.pn ++ fn
/-- A vector word: the R format with fn[5] the lane width and fn[4:0] the operation (R69, R70). -/
def wordV (op : BitVec 6) (fn : BitVec 5) (a : VArgs) : Word :=
  op ++ BitVec.ofBool a.x ++ a.rd ++ a.ra ++ a.rb ++ a.pr ++ BitVec.ofBool a.pn ++ BitVec.ofBool a.w32 ++ fn
/-- The words of an I-format instruction: with x = 1 the extension word follows. -/
def wordsI (op : BitVec 6) (a : IArgs) : List Word :=
  (op ++ BitVec.ofBool a.x ++ a.rd ++ a.ra ++ a.pr ++ a.imm12 : Word) :: if a.x then [a.ext] else []
/-- A word in the M format: op, x, rd, ra, pr, sz, off10. -/
def wordM (op : BitVec 6) (a : MArgs) : Word := op ++ BitVec.ofBool a.x ++ a.rd ++ a.ra ++ a.pr ++ a.sz ++ a.off10
/-- A word in the T format: op, x, rd, ra, rb, rc, pr, fb. -/
def wordT (op : BitVec 6) (a : TArgs) : Word := op ++ BitVec.ofBool a.x ++ a.rd ++ a.ra ++ a.rb ++ a.rc ++ a.pr ++ a.fb
/-- A word in the U format: op, x, rd, ra, queue, pr, bits [1:0]. -/
def wordU (op : BitVec 6) (a : UArgs) : Word := op ++ BitVec.ofBool a.x ++ a.rd ++ a.ra ++ a.queue ++ a.pr ++ a.low
/-- A word in the B format: op, x, pr, pn, off21. -/
def wordB (op : BitVec 6) (a : BArgs) : Word := op ++ BitVec.ofBool a.x ++ a.pr ++ BitVec.ofBool a.pn ++ a.off21

/-- The words of an engine's instruction, the first at the lowest address (R64-R70); no words for a command that is no instruction. -/
def Instr.words : Instr → List Word
  | .add _ a => [wordR 0x00 0x00 a]
  | .sub _ a => [wordR 0x00 0x01 a]
  | .and_ _ a => [wordR 0x00 0x02 a]
  | .or_ _ a => [wordR 0x00 0x03 a]
  | .xor _ a => [wordR 0x00 0x04 a]
  | .shl _ a => [wordR 0x00 0x05 a]
  | .shr _ a => [wordR 0x00 0x06 a]
  | .sra _ a => [wordR 0x00 0x07 a]
  | .mul _ a => [wordR 0x00 0x08 a]
  | .mulh _ a => [wordR 0x00 0x09 a]
  | .mulhu _ a => [wordR 0x00 0x0A a]
  | .div _ a => [wordR 0x00 0x0B a]
  | .divu _ a => [wordR 0x00 0x0C a]
  | .rem _ a => [wordR 0x00 0x0D a]
  | .remu _ a => [wordR 0x00 0x0E a]
  | .min _ a => [wordR 0x00 0x0F a]
  | .max _ a => [wordR 0x00 0x10 a]
  | .minu _ a => [wordR 0x00 0x11 a]
  | .maxu _ a => [wordR 0x00 0x12 a]
  | .pcmpEq _ a => [wordR 0x00 0x18 a]
  | .pcmpNe _ a => [wordR 0x00 0x19 a]
  | .pcmpLt _ a => [wordR 0x00 0x1A a]
  | .pcmpGe _ a => [wordR 0x00 0x1B a]
  | .pcmpLtu _ a => [wordR 0x00 0x1C a]
  | .pcmpGeu _ a => [wordR 0x00 0x1D a]
  | .addi _ a => wordsI 0x01 a
  | .andi _ a => wordsI 0x02 a
  | .ori _ a => wordsI 0x03 a
  | .xori _ a => wordsI 0x04 a
  | .shli _ a => wordsI 0x05 a
  | .shri _ a => wordsI 0x06 a
  | .srai _ a => wordsI 0x07 a
  | .ld _ a => [wordM 0x10 a]
  | .ldu _ a => [wordM 0x11 a]
  | .st _ a => [wordM 0x12 a]
  | .vld _ a => [wordM 0x13 a]
  | .vst _ a => [wordM 0x14 a]
  | .fld _ a => [wordT 0x18 a]
  | .fst _ a => [wordT 0x19 a]
  | .fwait _ a => wordsI 0x1A a
  | .amoadd _ a => [wordT 0x1B a]
  | .amoswap _ a => [wordT 0x1C a]
  | .amocas _ a => [wordT 0x1D a]
  | .amomin _ a => [wordT 0x1E a]
  | .amomax _ a => [wordT 0x1F a]
  | .ifill _ a => wordsI 0x23 a
  | .br _ a => [wordB 0x20 a]
  | .call _ a => [wordB 0x21 a]
  | .jr _ a => [wordR 0x22 a.fn a]
  | .ucall _ a => [wordU 0x28 a]
  | .fold _ a => [wordT 0x29 a]
  | .tready _ a => [wordR 0x2A a.fn a]
  | .tcancel _ a => [wordR 0x2B a.fn a]
  | .tdone _ a => [wordR 0x2C a.fn a]
  | .tyield _ a => [wordR 0x2D a.fn a]
  | .tself _ a => [wordR 0x2E a.fn a]
  | .ewait _ a => wordsI 0x30 a
  | .esig _ a => [wordR 0x31 a.fn a]
  | .emask _ a => wordsI 0x32 a
  | .mfs _ a => wordsI 0x34 a
  | .mts _ a => wordsI 0x35 a
  | .vadd _ a => [wordV 0x38 0x00 a]
  | .vsub _ a => [wordV 0x38 0x01 a]
  | .vadds _ a => [wordV 0x38 0x02 a]
  | .vsubs _ a => [wordV 0x38 0x03 a]
  | .vmul _ a => [wordV 0x38 0x04 a]
  | .vmulq _ a => [wordV 0x38 0x05 a]
  | .vmac _ a => [wordV 0x38 0x06 a]
  | .vmin _ a => [wordV 0x38 0x07 a]
  | .vmax _ a => [wordV 0x38 0x08 a]
  | .vabs _ a => [wordV 0x38 0x09 a]
  | .vshl _ a => [wordV 0x38 0x0A a]
  | .vsra _ a => [wordV 0x38 0x0B a]
  | .vand _ a => [wordV 0x38 0x0C a]
  | .vor _ a => [wordV 0x38 0x0D a]
  | .vxor _ a => [wordV 0x38 0x0E a]
  | .vsplat _ a => [wordV 0x39 0x00 a]
  | .vext _ a => [wordV 0x39 0x01 a]
  | .vins _ a => [wordV 0x39 0x02 a]
  | .vsum _ a => [wordV 0x39 0x03 a]
  | .vmov _ a => [wordV 0x39 0x04 a]
  | _ => []

/-- Is the major opcode of a word in the instruction tables (R62)? -/
def wordOpKnown (w : Word) : Bool :=
  let op := w.toNat / 2 ^ 26
  decide (op ≤ 0x07) || (decide (0x10 ≤ op) && decide (op ≤ 0x14)) || (decide (0x18 ≤ op) && decide (op ≤ 0x23)) ||
    (decide (0x28 ≤ op) && decide (op ≤ 0x2E)) || (decide (0x30 ≤ op) && decide (op ≤ 0x32)) || decide (op = 0x34) || decide (op = 0x35) ||
    decide (op = 0x38) || decide (op = 0x39)

/-- Is the fn value of a word of an opcode that fn selects in the instruction tables (R62, R64, R69, R70)? -/
def wordFnKnown (w : Word) : Bool :=
  let op := w.toNat / 2 ^ 26
  let fn := w.toNat % 2 ^ 6
  if op = 0x00 then decide (fn ≤ 0x12) || (decide (0x18 ≤ fn) && decide (fn ≤ 0x1D))
  else if op = 0x38 then decide (fn % 32 ≤ 0x0E)
  else if op = 0x39 then decide (fn % 32 ≤ 0x04)
  else true

end Sys2Proof
end

