-- ==== Sys2Proof/Config.lean ====
section
/-! DEFINITION. What one device fixes and what the spec leaves open: constants with no body, so that no proof can see a
value of theirs (log entries 3, 4, 6-12, 19, 33, 34, 43, 45, 50, 73, 79, 102, 144 and 166). A statement that holds of the model holds whatever
they are. -/

namespace Sys2Proof

/-- A fresh free value: the n-th value the spec leaves open (log entry 3). -/
opaque Config.freeNat : Nat → Nat

/-- The session whose event a COMMIT write to ingest raises when its group names no session (R27; log entry 79). -/
opaque Config.ingRefusalSession : Nat → Nat

/-- What a byte of HBM that nothing has written under the present keys reads as: noise (R156, R173; log entry 4). The first
argument counts the key changes so far. -/
opaque Config.hbmNoise : Nat → Nat → Byte

/-- The number a pseudo-channel's controller draws on its n-th row activation from the source Clasp seeds (R166; log entry 73). -/
opaque Config.hbmDraw : Nat → Nat → Nat

/-- What a byte of local data memory reads as after the n-th unpark, until it is written (log entry 19). -/
opaque Config.ramNoise : Nat → Nat → Byte
/-- What general register k of a context reads as after the n-th unpark (log entry 19). -/
opaque Config.gNoise : Nat → Nat → Word
/-- What vector register k of a context reads as after the n-th unpark (log entry 19). -/
opaque Config.vNoise : Nat → Nat → BitVec 256
/-- What far base k of a context reads as after the n-th unpark (log entry 19). -/
opaque Config.fbNoise : Nat → Nat → BitVec 48
/-- What the predicates of a context read as after the n-th unpark (log entry 19). -/
opaque Config.pNoise : Nat → BitVec 8

/-- The boot ROM in the address-zero window (R146). -/
opaque Config.bootRom : Nat → Byte

/-- Word k of the fused 128-bit serial (R492). -/
opaque Config.serial : Nat → Word

/-- The die revision IDENTIFY reports (R523). -/
opaque Config.dieRevision : Word
/-- The four bytes of IDENTIFY's ROM, Clasp and Spine versions, whose layout the spec does not state (R523; log entry 45). -/
opaque Config.versionBytes : Word
/-- The boot flash's size as its JESD216 table reports it (R523). -/
opaque Config.flashSize : Nat
/-- What the flash holds at a byte no FLASH_WRITE has touched (R536). -/
opaque Config.flashByte : Nat → Byte

/-- The TWIN_PRIO strap of the device at the other end of TWIN_ACT_IN_N (R545, R549): the partner's, which this device cannot read. -/
opaque Config.partnerPrio : Bool

/-- The fused vendor root key and identity public key, as SEC 1 points (R487, Keys). -/
opaque Config.vendorRoot : List Byte
/-- The identity public key derived from the fused identity secret. -/
opaque Config.identityKey : List Byte

/-- SHA-384 of a byte string. -/
opaque Config.sha384 : List Byte → List Byte
/-- ECDSA P-384 verification: key, digest, signature (R493). -/
opaque Config.ecdsaVerify : List Byte → List Byte → List Byte → Bool
/-- A signature by the identity key over a digest. -/
opaque Config.identitySign : List Byte → List Byte
/-- The ECDH x-coordinate of the identity key with a public key (R496). -/
opaque Config.ecdhX : List Byte → List Byte
/-- HKDF-SHA-384: salt, input key material, info, length. -/
opaque Config.hkdf : List Byte → List Byte → List Byte → Nat → List Byte
/-- RFC 3394 key unwrap under a key-encryption key: none when the integrity check fails. -/
opaque Config.keyUnwrap : List Byte → List Byte → Option (List Byte)
/-- RFC 3394 key wrap. -/
opaque Config.keyWrap : List Byte → List Byte → List Byte
/-- AES-256-GCM encryption: key, IV, additional data, plain text; cipher text followed by the 16-byte tag (R328). -/
opaque Config.gcmSeal : List Byte → List Byte → List Byte → List Byte → List Byte
/-- AES-256-GCM decryption of cipher text followed by its tag: none when the tag fails. -/
opaque Config.gcmOpen : List Byte → List Byte → List Byte → List Byte → Option (List Byte)
/-- AES-CMAC as MKA uses it: key and message. -/
opaque Config.cmac : List Byte → List Byte → List Byte
/-- The sealing key (Keys). -/
opaque Config.sealingKey : List Byte
/-- The n-th draw of Clasp's random source, of the length given. -/
opaque Config.random : Nat → Nat → List Byte
/-- The public key of the n-th ephemeral pair Clasp draws. -/
opaque Config.ephPublic : Nat → List Byte
/-- The ECDH x-coordinate of that pair with a public key. -/
opaque Config.ephShared : Nat → List Byte → List Byte
/-- SHA-384 of the boot ROM image. -/
opaque Config.romHash : List Byte

/-- The key book (R498): owner and safety keys, tenant keys by tag, content keys, wall seeds, CAKs by port with their names, and one more than
the last seq accepted from each signer. -/
structure KeyBook where
  owner : Option (List Byte)
  safety : Option (List Byte)
  tenants : List (Nat × List Byte)
  content : List (Nat × List Byte)
  seeds : List (Nat × List Byte)
  caks : List (Nat × List Byte × List Byte)
  seqs : List (Nat × Nat)
deriving DecidableEq, Repr

/-- A sealed book: serial and gen of its additional data, the ephemeral public key of one sealed to a twin, IV, cipher text and tag. -/
structure SealedBook where
  serial : List Byte
  gen : Nat
  eph : Option (List Byte)
  iv : List Byte
  body : List Byte
deriving DecidableEq, Repr

/-- The bytes of a key book, whose layout the spec does not state (log entry 50). -/
opaque Config.bookBytes : KeyBook → List Byte
/-- The key book that bytes hold. -/
opaque Config.bookOf : List Byte → Option KeyBook
/-- The bytes of a sealed book (log entry 50). -/
opaque Config.sealedBytes : SealedBook → List Byte
/-- The sealed book that bytes hold. -/
opaque Config.sealedOf : List Byte → Option SealedBook
/-- The additional data of a sealed book: of serial and gen (R498). -/
opaque Config.bookAad : List Byte → Nat → List Byte
/-- ATTEST's report, from the fields R495 lists (log entry 50). -/
opaque Config.attestLayout : List (List Byte) → List Byte
/-- PLACEMENT's reply, from each layer's number and registers (log entry 50). -/
opaque Config.placementLayout : List (Nat × List Word) → List Byte

/-- What an MKA_OP body asks (Commands; R390): the ICV of an MKPDU, a check of one that ends in its ICV, an SAK to unwrap, a new SAK. -/
inductive MkaOp where
  | icv (port : Nat) (pdu : List Byte)
  | check (port : Nat) (pdu icv : List Byte)
  | unwrap (port : Nat) (wrapped : List Byte)
  | generate (port : Nat)
deriving DecidableEq, Repr

/-- The MKA operation a body asks for: its layout is not in the spec (log entry 50). -/
opaque Config.mkaOf : List Byte → Option MkaOp
/-- The ICK that IEEE 802.1X derives from a CAK and its name. -/
opaque Config.mkaIck : List Byte → List Byte → List Byte
/-- The KEK that IEEE 802.1X derives from a CAK and its name. -/
opaque Config.mkaKek : List Byte → List Byte → List Byte

/-- Which of the codes that R240 and R242 allow a stage gives, picked by the stage and its inputs (log entry 11). -/
opaque Config.codeError : Nat → List Int → Nat
/-- Working value of a component of a cascade source, whose transfer the spec does not state (log entry 34): 16-bit component, peak. -/
opaque Config.cascadeWork : Nat → Nat → Nat
/-- Place of a tap in the window of a kernel stretched by a ratio above 1: taps, crop and destination samples (their ratio), phase, tap (log entry 33). -/
opaque Config.lanczosTap : Nat → Nat → Nat → Nat → Nat → Nat
/-- The timestamp a frame of a stored clip carries in its tokens: the spec gives none (R205; log entry 166). -/
opaque Config.clipStamp : Nat → BitVec 32
/-- What ITU-T H.265 reads from an access unit and the parameter sets in force before it: those in force for it (log entry 9). -/
opaque Config.hevcParams : List Byte → List Byte → List Byte
/-- Of those parameter sets: is the profile, tier and level one HEVC_DEC supports (R302)? -/
opaque Config.hevcSupported : List Byte → Bool
/-- Picture width. -/
opaque Config.hevcWidth : List Byte → Nat
/-- Picture height. -/
opaque Config.hevcHeight : List Byte → Nat
/-- Bytes of the decoded picture buffer needed. -/
opaque Config.hevcDpb : List Byte → Nat
/-- Is a sample 8 bits wide (R302)? -/
opaque Config.hevc8Bit : List Byte → Bool
/-- Are wavefront entry points used? -/
opaque Config.hevcWpp : List Byte → Bool
/-- Luma lines of a CTU. -/
opaque Config.hevcCtu : List Byte → Nat
/-- Of parameter sets and access unit: can the picture be decoded at all (R304)? -/
opaque Config.hevcDecodable : List Byte → List Byte → Bool
/-- The first CTU row of each of its slices. -/
opaque Config.hevcSliceRows : List Byte → List Byte → List Nat
/-- Its picture order count, after that of the picture before. -/
opaque Config.hevcPoc : List Byte → Int → List Byte → Int
/-- Is it an intra random access point? -/
opaque Config.hevcIrap : List Byte → Bool
/-- recovery_poc_cnt of its recovery point SEI, if it carries one. -/
opaque Config.hevcRecovery : List Byte → Option Nat
/-- The references it predicts from: order counts, and whether long-term. -/
opaque Config.hevcUses : List Byte → Int → List Byte → List (Int × Bool)
/-- The order counts its reference picture set keeps. -/
opaque Config.hevcKeeps : List Byte → Int → List Byte → List Int
/-- Sample i of the picture at the stream's depth, 4:2:2 in pgroup order (4:2:0 chroma upsampled, R212): of parameter sets, access unit and reference
planes. -/
opaque Config.hevcSample : List Byte → List Byte → List (List Nat) → Nat → Nat

/-- What the press fixes of a coded HEVC unit (R293, R297, R298, R300): QP, whether SKIP, whether intra, the luma lines of the short-term reference it may
predict from (none: all), whether the long-term picture may be predicted from, and the unit's source samples. -/
structure HevcUnit where
  qp : Nat
  skip : Bool
  intra : Bool
  lines : Option Nat
  longTerm : Bool
  src : List Nat

/-- Parameter sets and SEI of a coded picture (R298, R300, R301), from the values the spec fixes and the SEI block (log entry 9). -/
opaque Config.hevcHead : List Nat → List Byte → List Byte
/-- The header of a slice of it: of the values the spec fixes (R298). -/
opaque Config.hevcSliceHead : List Nat → List Byte
/-- The bytes of the n-th unit coded (R300). -/
opaque Config.hevcUnitBytes : Nat → HevcUnit → List Byte
/-- The SAD of that unit's source against its prediction. -/
opaque Config.hevcUnitSad : Nat → HevcUnit → Nat
/-- Is that unit one coded SKIP (0), intra (1) or neither (2)? -/
opaque Config.hevcUnitKind : Nat → HevcUnit → Nat
/-- Byte i of what a pipe saves of a context at the n-th draw (R282; log entry 102). -/
opaque Config.savedByte : Nat → Nat → Byte
/-- Value k of the n-th draw behind what R286 leaves open: a candidate's residual, and which of several candidates of least J (log entry 10). -/
opaque Config.leafChoice : Nat → Nat → Nat
/-- The resampler's output (R476): the input frames of one channel, ρ, and the output frame number. -/
opaque Config.resample : List Word → Nat → Nat → Word
/-- The sample frames of an ST 302M PES payload (R188, R212), whose coding SMPTE ST 302 fixes. -/
opaque Config.st302 : List Byte → List (List Word)
/-- The pairs of an ST 302M PES payload whose channel status says non-audio (R471), which SMPTE ST 302 carries with the samples. -/
opaque Config.st302Status : List Byte → List Nat
/-- The sample frames of an ST 2110-30 payload (R188): no register gives a flow's channel count and sample width (log entry 43). -/
opaque Config.st2110x30 : List Byte → List (List Word)
/-- An ST 302M PES payload of sample frames (R482), whose coding SMPTE ST 302 fixes. -/
opaque Config.st302Code : List (List Word) → List Byte
/-- Whether frame i of a rising ramp of 64 frames has the gain (i + 1) ÷ 64, or else i ÷ 64 (R478, R480; log entry 12). -/
opaque Config.rampLater : Bool
/-- Whether a ramp's samples are rounded up, or else down. -/
opaque Config.rampUp : Bool
/-- The PDM decimator's output (R472): bits of one microphone, high-pass flag, gain. -/
opaque Config.pdm : List Word → Bool → Nat → Word

end Sys2Proof
end

