-- ==== Sys2Proof/Machine/Bits.lean ====
section
/-! DEFINITION. Bit fields, sign extension and byte order: the helpers every other file reads words with (R4). -/

namespace Sys2Proof.Machine

/-- Bits hi..lo of a natural number. -/
def bitsN (n hi lo : Nat) : Nat := (n / 2 ^ lo) % 2 ^ (hi + 1 - lo)

/-- Field hi..lo of a register word. -/
def fld (w : Word) (hi lo : Nat) : Nat := bitsN w.toNat hi lo

/-- Bit `b` of a register word. -/
def bit (w : Word) (b : Nat) : Bool := w.getLsbD b

/-- The word with field hi..lo replaced by `v` (taken modulo the field's width). -/
def putFld (w : Word) (hi lo v : Nat) : Word :=
  let m : Word := BitVec.ofNat 32 ((2 ^ (hi + 1 - lo) - 1) * 2 ^ lo)
  (w &&& ~~~m) ||| (BitVec.ofNat 32 ((v % 2 ^ (hi + 1 - lo)) * 2 ^ lo))

/-- `b` as 0 or 1. -/
def b2n (b : Bool) : Nat := if b then 1 else 0

/-- The `n` bytes of `v`, least significant first. -/
def leBytes : Nat → Nat → List Byte
  | 0, _ => []
  | n + 1, v => BitVec.ofNat 8 v :: leBytes n (v / 256)

/-- The `n` bytes of `v`, most significant first. -/
def beBytes (n v : Nat) : List Byte := (leBytes n v).reverse

/-- The number a little-endian byte list spells. -/
def ofLe : List Byte → Nat
  | [] => 0
  | b :: bs => b.toNat + 256 * ofLe bs

/-- The number a big-endian byte list spells. -/
def ofBe (bs : List Byte) : Nat := ofLe bs.reverse

/-- `n` bytes of `bs` from position `i` on, as a little-endian number. -/
def leAt (bs : List Byte) (i n : Nat) : Nat := ofLe ((bs.drop i).take n)

/-- `n` bytes of `bs` from position `i` on, as a big-endian number. -/
def beAt (bs : List Byte) (i n : Nat) : Nat := ofBe ((bs.drop i).take n)

/-- Byte `i` of a list, 0 past its end. -/
def byteAt (bs : List Byte) (i : Nat) : Nat := (bs.getD i 0).toNat

/-- Are bytes i..i+n-1 all zero? -/
def zeroBytes (bs : List Byte) (i n : Nat) : Bool := ((bs.drop i).take n).all (fun b => b == 0)

/-- The low `w` bits of `n` as a signed number. -/
def signed (w n : Nat) : Int := if n % 2 ^ w < 2 ^ (w - 1) then (n % 2 ^ w : Nat) else (n % 2 ^ w : Nat) - (2 ^ w : Nat)

/-- The word that spells integer `i` in two's complement. -/
def wordOfInt (i : Int) : Word := BitVec.ofInt 32 i

/-- `i` limited to lo..hi. -/
def clampI (lo hi i : Int) : Int := max lo (min hi i)

/-- Round `a / b` up. -/
def ceilDiv (a b : Nat) : Nat := (a + b - 1) / b

/-- Round `a` up to a multiple of `b`. -/
def roundUp (a b : Nat) : Nat := ceilDiv a b * b

/-- Pad a byte list with zeros to length `n`. -/
def padTo (n : Nat) (bs : List Byte) : List Byte := bs ++ List.replicate (n - bs.length) 0

end Sys2Proof.Machine
end

