-- ==== Sys2Proof/Machine/RegNames.lean ====
section
/-! DEFINITION. The unit offset of every register, by the spec's register name (R7 and the register tables). -/

namespace Sys2Proof.Machine

/-- SYS_MAP (R146). -/
def Reg.sysMap : Nat := 0x40
/-- SYS_STRAP (R534). -/
def Reg.sysStrap : Nat := 0x44
/-- SYS_BOOT (R539). -/
def Reg.sysBoot : Nat := 0x48
/-- SYS_TWIN_CFG (R546). -/
def Reg.sysTwinCfg : Nat := 0x80
/-- SYS_TWIN_KEEP (R546). -/
def Reg.sysTwinKeep : Nat := 0x84
/-- SYS_TWIN_STS (R546). -/
def Reg.sysTwinSts : Nat := 0x88
/-- SYS_TWIN_EVT (R546). -/
def Reg.sysTwinEvt : Nat := 0x8C
/-- CLS_VER (R490). -/
def Reg.clsVer : Nat := 0x10000
/-- CLS_STS (R491). -/
def Reg.clsSts : Nat := 0x10004
/-- CLS_NONCE (R492). -/
def Reg.clsNonce (i : Nat) : Nat := 0x10008 + 0x4 * i
/-- CLS_SERIAL (R492). -/
def Reg.clsSerial (i : Nat) : Nat := 0x10010 + 0x4 * i
/-- CLS_ALARM (R492). -/
def Reg.clsAlarm : Nat := 0x10020
/-- MBX_DATA (R128). -/
def Reg.mbxData (i : Nat) (j : Nat) : Nat := 0x20000 + 0x80 * i + 0x4 * j
/-- MBX_SEND (R129). -/
def Reg.mbxSend (i : Nat) : Nat := 0x20040 + 0x80 * i
/-- MBX_STS (R130). -/
def Reg.mbxSts (i : Nat) : Nat := 0x20044 + 0x80 * i
/-- MBX_CFG (R127). -/
def Reg.mbxCfg (i : Nat) : Nat := 0x21800 + 0x4 * i
/-- MBX_DBI (R136). -/
def Reg.mbxDbi (i : Nat) : Nat := 0x21A00 + 0x4 * i
/-- MBX_DBI_ROUTE (R137). -/
def Reg.mbxDbiRoute (i : Nat) : Nat := 0x21C00 + 0x4 * i
/-- MBX_DBO_SET (R138). -/
def Reg.mbxDboSet (i : Nat) : Nat := 0x21B00 + 0x4 * i
/-- MBX_DBO (R139). -/
def Reg.mbxDbo (i : Nat) : Nat := 0x21B08 + 0x4 * i
/-- HIF_VER (R521). -/
def Reg.hifVer : Nat := 0x30000
/-- HIF_HOLD_STS (R521). -/
def Reg.hifHoldSts : Nat := 0x30014
/-- HIF_IDLE_HINT (R517). -/
def Reg.hifIdleHint : Nat := 0x30010
/-- HIF_EVT_CFG (R513). -/
def Reg.hifEvtCfg : Nat := 0x30020
/-- HIF_EVT_MASK (R513). -/
def Reg.hifEvtMask : Nat := 0x30024
/-- HIF_EVT_PEND (R513). -/
def Reg.hifEvtPend : Nat := 0x30028
/-- HIF_MBX_VEC (R518). -/
def Reg.hifMbxVec (i : Nat) : Nat := 0x30100 + 0x4 * i
/-- HIF_DBO_VEC (R518). -/
def Reg.hifDboVec (i : Nat) : Nat := 0x30200 + 0x4 * i
/-- HIF_SQ_BASE_LO (R507). -/
def Reg.hifSqBaseLo (i : Nat) : Nat := 0x31000 + 0x20 * i
/-- HIF_SQ_BASE_HI (R507). -/
def Reg.hifSqBaseHi (i : Nat) : Nat := 0x31004 + 0x20 * i
/-- HIF_SQ_CFG (R507). -/
def Reg.hifSqCfg (i : Nat) : Nat := 0x31008 + 0x20 * i
/-- HIF_SQ_TAIL (R507). -/
def Reg.hifSqTail (i : Nat) : Nat := 0x3100C + 0x20 * i
/-- HIF_SQ_STS (R507). -/
def Reg.hifSqSts (i : Nat) : Nat := 0x31010 + 0x20 * i
/-- HIF_CQ_BASE_LO (R508). -/
def Reg.hifCqBaseLo (i : Nat) : Nat := 0x32000 + 0x20 * i
/-- HIF_CQ_BASE_HI (R508). -/
def Reg.hifCqBaseHi (i : Nat) : Nat := 0x32004 + 0x20 * i
/-- HIF_CQ_CFG (R508). -/
def Reg.hifCqCfg (i : Nat) : Nat := 0x32008 + 0x20 * i
/-- HIF_CQ_HEAD (R508). -/
def Reg.hifCqHead (i : Nat) : Nat := 0x3200C + 0x20 * i
/-- HIF_CQ_STS (R508). -/
def Reg.hifCqSts (i : Nat) : Nat := 0x32010 + 0x20 * i
/-- HIF_MOD (R515). -/
def Reg.hifMod (i : Nat) : Nat := 0x33000 + 0x4 * i
/-- TSU_DESC_BASE (R95). -/
def Reg.tsuDescBase (i : Nat) : Nat := 0x400000 + 0x10000 * i
/-- TSU_DESC_COUNT (R96). -/
def Reg.tsuDescCount (i : Nat) : Nat := 0x400004 + 0x10000 * i
/-- TSU_STS (R107). -/
def Reg.tsuSts (i : Nat) : Nat := 0x400008 + 0x10000 * i
/-- TSU_REFUSED (R108). -/
def Reg.tsuRefused (i : Nat) : Nat := 0x40000C + 0x10000 * i
/-- TSU_UNBOUND (R109). -/
def Reg.tsuUnbound (i : Nat) : Nat := 0x400010 + 0x10000 * i
/-- EVC_STRAND_TO (R122). -/
def Reg.evcStrandTo (i : Nat) : Nat := 0x401C40 + 0x10000 * i
/-- EVC_STRANDED (R123). -/
def Reg.evcStranded (i : Nat) : Nat := 0x401C44 + 0x10000 * i
/-- GATH_PWR (R124). -/
def Reg.gathPwr (i : Nat) : Nat := 0x407F00 + 0x10000 * i
/-- EVC_PEND (R112). -/
def Reg.evcPend (i : Nat) (j : Nat) : Nat := 0x401000 + 0x10000 * i + 0x4 * j
/-- EVC_TAKE (R113). -/
def Reg.evcTake (i : Nat) (j : Nat) : Nat := 0x401040 + 0x10000 * i + 0x4 * j
/-- EVC_EN (R114). -/
def Reg.evcEn (i : Nat) (j : Nat) : Nat := 0x401080 + 0x10000 * i + 0x4 * j
/-- EVC_ROUTE (R115). -/
def Reg.evcRoute (i : Nat) (j : Nat) : Nat := 0x401400 + 0x10000 * i + 0x4 * j
/-- EVC_MOD (R119). -/
def Reg.evcMod (i : Nat) (j : Nat) : Nat := 0x401C00 + 0x10000 * i + 0x4 * j
/-- QE_CTRL (R45). -/
def Reg.qeCtrl (i : Nat) (j : Nat) : Nat := 0x408000 + 0x10000 * i + 0x100 * j
/-- QE_STS (R46). -/
def Reg.qeSts (i : Nat) (j : Nat) : Nat := 0x408004 + 0x10000 * i + 0x100 * j
/-- QE_VEC (R47). -/
def Reg.qeVec (i : Nat) (j : Nat) : Nat := 0x408008 + 0x10000 * i + 0x100 * j
/-- QE_FAULT (R48). -/
def Reg.qeFault (i : Nat) (j : Nat) : Nat := 0x408010 + 0x10000 * i + 0x100 * j
/-- QE_FAULT_PC (R49). -/
def Reg.qeFaultPc (i : Nat) (j : Nat) : Nat := 0x408014 + 0x10000 * i + 0x100 * j
/-- QE_FAULT_ADDR_LO (R50). -/
def Reg.qeFaultAddrLo (i : Nat) (j : Nat) : Nat := 0x408018 + 0x10000 * i + 0x100 * j
/-- QE_FAULT_ADDR_HI (R51). -/
def Reg.qeFaultAddrHi (i : Nat) (j : Nat) : Nat := 0x40801C + 0x10000 * i + 0x100 * j
/-- COUCH_PIPE_STS (R263). -/
def Reg.couchPipeSts (i : Nat) : Nat := 0x800000 + 0x10000 * i
/-- COUCH_PIPE_RING (R253). -/
def Reg.couchPipeRing (i : Nat) : Nat := 0x800020 + 0x10000 * i
/-- COUCH_PIPE_RING_CTL (R253). -/
def Reg.couchPipeRingCtl (i : Nat) : Nat := 0x800024 + 0x10000 * i
/-- COUCH_EVT (R262). -/
def Reg.couchEvt : Nat := 0x900010
/-- COUCH_SHEET_CTRL (R224). -/
def Reg.couchSheetCtrl (i : Nat) : Nat := 0x900100 + 0x40 * i
/-- COUCH_SHEET_SIZE (R225). -/
def Reg.couchSheetSize (i : Nat) : Nat := 0x900104 + 0x40 * i
/-- COUCH_SHEET_BUF_LO (R225). -/
def Reg.couchSheetBufLo (i : Nat) : Nat := 0x900108 + 0x40 * i
/-- COUCH_SHEET_BUF_HI (R225). -/
def Reg.couchSheetBufHi (i : Nat) : Nat := 0x90010C + 0x40 * i
/-- COUCH_SHEET_LUM (R226). -/
def Reg.couchSheetLum (i : Nat) : Nat := 0x900110 + 0x40 * i
/-- COUCH_SHEET_BG (R226). -/
def Reg.couchSheetBg (i : Nat) : Nat := 0x900114 + 0x40 * i
/-- COUCH_SHEET_OFFSET (R226). -/
def Reg.couchSheetOffset (i : Nat) : Nat := 0x900118 + 0x40 * i
/-- COUCH_SHEET_STS (R227). -/
def Reg.couchSheetSts (i : Nat) : Nat := 0x900120 + 0x40 * i
/-- COUCH_SHEET_PIC (R227). -/
def Reg.couchSheetPic (i : Nat) : Nat := 0x900124 + 0x40 * i
/-- COUCH_LAYER_CTRL (R232). -/
def Reg.couchLayerCtrl (i : Nat) : Nat := 0x901000 + 0x40 * i
/-- COUCH_LAYER_SRC (R233). -/
def Reg.couchLayerSrc (i : Nat) : Nat := 0x901004 + 0x40 * i
/-- COUCH_LAYER_CROP_XY (R234). -/
def Reg.couchLayerCropXy (i : Nat) : Nat := 0x901008 + 0x40 * i
/-- COUCH_LAYER_CROP_WH (R234). -/
def Reg.couchLayerCropWh (i : Nat) : Nat := 0x90100C + 0x40 * i
/-- COUCH_LAYER_DST_XY (R234). -/
def Reg.couchLayerDstXy (i : Nat) : Nat := 0x901010 + 0x40 * i
/-- COUCH_LAYER_DST_WH (R234). -/
def Reg.couchLayerDstWh (i : Nat) : Nat := 0x901014 + 0x40 * i
/-- COUCH_LAYER_MIX (R235). -/
def Reg.couchLayerMix (i : Nat) : Nat := 0x901018 + 0x40 * i
/-- COUCH_LAYER_FILL (R235). -/
def Reg.couchLayerFill (i : Nat) : Nat := 0x90101C + 0x40 * i
/-- COUCH_LAYER_BUF_LO (R236). -/
def Reg.couchLayerBufLo (i : Nat) : Nat := 0x901020 + 0x40 * i
/-- COUCH_LAYER_BUF_HI (R236). -/
def Reg.couchLayerBufHi (i : Nat) : Nat := 0x901024 + 0x40 * i
/-- COUCH_LAYER_BUF_SIZE (R236). -/
def Reg.couchLayerBufSize (i : Nat) : Nat := 0x901028 + 0x40 * i
/-- COUCH_LAYER_STS (R261). -/
def Reg.couchLayerSts (i : Nat) : Nat := 0x901030 + 0x40 * i
/-- COUCH_LAYER_CNT (R261). -/
def Reg.couchLayerCnt (i : Nat) : Nat := 0x901034 + 0x40 * i
/-- COUCH_LAYER_ALLOC (R245). -/
def Reg.couchLayerAlloc (i : Nat) (j : Nat) : Nat := 0x902000 + 0x40 * i + 0x4 * j
/-- COUCH_CM_CFG (R259). -/
def Reg.couchCmCfg (i : Nat) : Nat := 0x904040 + 0x40 * i
/-- COUCH_CM_EXP (R259). -/
def Reg.couchCmExp (i : Nat) (j : Nat) : Nat := 0x904044 + 0x40 * i + 0x4 * j
/-- COUCH_CM_STS (R260). -/
def Reg.couchCmSts (i : Nat) : Nat := 0x904064 + 0x40 * i
/-- COUCH_CM_LAST (R260). -/
def Reg.couchCmLast (i : Nat) : Nat := 0x904068 + 0x40 * i
/-- COUCH_CM_PIC (R260). -/
def Reg.couchCmPic (i : Nat) : Nat := 0x90406C + 0x40 * i
/-- PRESS_EVT (R268). -/
def Reg.pressEvt : Nat := 0xA00010
/-- PRESS_CTX_CTRL (R269). -/
def Reg.pressCtxCtrl (i : Nat) : Nat := 0xA01000 + 0x80 * i
/-- PRESS_CTX_PIPES (R270). -/
def Reg.pressCtxPipes (i : Nat) : Nat := 0xA01004 + 0x80 * i
/-- PRESS_CTX_SIZE (R270). -/
def Reg.pressCtxSize (i : Nat) : Nat := 0xA01008 + 0x80 * i
/-- PRESS_CTX_QP (R270). -/
def Reg.pressCtxQp (i : Nat) : Nat := 0xA0100C + 0x80 * i
/-- PRESS_CTX_BUDGET (R270). -/
def Reg.pressCtxBudget (i : Nat) : Nat := 0xA01010 + 0x80 * i
/-- PRESS_CTX_RSV (R270). -/
def Reg.pressCtxRsv (i : Nat) : Nat := 0xA01014 + 0x80 * i
/-- PRESS_CTX_SEARCH (R271). -/
def Reg.pressCtxSearch (i : Nat) : Nat := 0xA01018 + 0x80 * i
/-- PRESS_CTX_KEY (R271). -/
def Reg.pressCtxKey (i : Nat) : Nat := 0xA0101C + 0x80 * i
/-- PRESS_CTX_OUT_LO (R272). -/
def Reg.pressCtxOutLo (i : Nat) : Nat := 0xA01020 + 0x80 * i
/-- PRESS_CTX_OUT_HI (R272). -/
def Reg.pressCtxOutHi (i : Nat) : Nat := 0xA01024 + 0x80 * i
/-- PRESS_CTX_REF_LO (R272). -/
def Reg.pressCtxRefLo (i : Nat) : Nat := 0xA01028 + 0x80 * i
/-- PRESS_CTX_REF_HI (R272). -/
def Reg.pressCtxRefHi (i : Nat) : Nat := 0xA0102C + 0x80 * i
/-- PRESS_CTX_STATS (R272). -/
def Reg.pressCtxStats (i : Nat) : Nat := 0xA01030 + 0x80 * i
/-- PRESS_CTX_TABLE (R272). -/
def Reg.pressCtxTable (i : Nat) : Nat := 0xA01034 + 0x80 * i
/-- PRESS_CTX_FILL (R272). -/
def Reg.pressCtxFill (i : Nat) : Nat := 0xA01038 + 0x80 * i
/-- PRESS_CTX_STS (R273). -/
def Reg.pressCtxSts (i : Nat) : Nat := 0xA01040 + 0x80 * i
/-- PRESS_CTX_PIC (R273). -/
def Reg.pressCtxPic (i : Nat) : Nat := 0xA01044 + 0x80 * i
/-- PRESS_CTX_CNT (R273). -/
def Reg.pressCtxCnt (i : Nat) : Nat := 0xA01048 + 0x80 * i
/-- PRESS_CTX_EVT (R272). -/
def Reg.pressCtxEvt (i : Nat) : Nat := 0xA0103C + 0x80 * i
/-- PRESS_CTX_BRATE (R274). -/
def Reg.pressCtxBrate (i : Nat) : Nat := 0xA0104C + 0x80 * i
/-- PRESS_PIPE_STS (R275). -/
def Reg.pressPipeSts (i : Nat) : Nat := 0xA08000 + 0x10000 * i
/-- PRESS_PIPE_RING (R275). -/
def Reg.pressPipeRing (i : Nat) : Nat := 0xA08020 + 0x10000 * i
/-- PRESS_PIPE_RING_CTL (R275). -/
def Reg.pressPipeRingCtl (i : Nat) : Nat := 0xA08024 + 0x10000 * i
/-- IMP_EVT (R317). -/
def Reg.impEvt : Nat := 0xB00010
/-- IMP_STS (R318). -/
def Reg.impSts : Nat := 0xB00020
/-- IMP_CNT (R318). -/
def Reg.impCnt : Nat := 0xB00024
/-- IMP_RING (R317). -/
def Reg.impRing : Nat := 0xB00030
/-- IMP_RING_CTL (R317). -/
def Reg.impRingCtl : Nat := 0xB00034
/-- IMP_BC_RING (R317). -/
def Reg.impBcRing : Nat := 0xB00040
/-- IMP_BC_RING_CTL (R317). -/
def Reg.impBcRingCtl : Nat := 0xB00044
/-- IMP_ECHO (R319). -/
def Reg.impEcho : Nat := 0xB00048
/-- IMP_HOP (R320). -/
def Reg.impHop : Nat := 0xB00050
/-- IMP_FB_CFG (R319). -/
def Reg.impFbCfg (i : Nat) : Nat := 0xB00110 + 0x10 * i
/-- IMP_FB_LO (R319). -/
def Reg.impFbLo (i : Nat) : Nat := 0xB00114 + 0x10 * i
/-- IMP_FB_HI (R319). -/
def Reg.impFbHi (i : Nat) : Nat := 0xB00118 + 0x10 * i
/-- IMP_CAL (R319). -/
def Reg.impCal (i : Nat) (j : Nat) : Nat := 0xB08000 + 0x20 * i + 0x4 * j
/-- WCH_CTRL (R321). -/
def Reg.wchCtrl (i : Nat) : Nat := 0xB10000 + 0x100 * i
/-- WCH_KEY (R321). -/
def Reg.wchKey (i : Nat) : Nat := 0xB10004 + 0x100 * i
/-- WCH_MAC_LO (R321). -/
def Reg.wchMacLo (i : Nat) : Nat := 0xB10008 + 0x100 * i
/-- WCH_MAC_HI (R321). -/
def Reg.wchMacHi (i : Nat) : Nat := 0xB1000C + 0x100 * i
/-- WCH_VLAN (R321). -/
def Reg.wchVlan (i : Nat) : Nat := 0xB10010 + 0x100 * i
/-- WCH_PORT (R321). -/
def Reg.wchPort (i : Nat) : Nat := 0xB10024 + 0x100 * i
/-- WCH_TM (R321). -/
def Reg.wchTm (i : Nat) : Nat := 0xB10028 + 0x100 * i
/-- WCH_SEQ (R323). -/
def Reg.wchSeq (i : Nat) : Nat := 0xB10030 + 0x100 * i
/-- WCH_EPOCH (R323). -/
def Reg.wchEpoch (i : Nat) : Nat := 0xB10034 + 0x100 * i
/-- WCH_STS (R323). -/
def Reg.wchSts (i : Nat) : Nat := 0xB10038 + 0x100 * i
/-- WCH_CNT (R323). -/
def Reg.wchCnt (i : Nat) : Nat := 0xB1003C + 0x100 * i
/-- WCH_DST_IP (R321). -/
def Reg.wchDstIp (i : Nat) (j : Nat) : Nat := 0xB10014 + 0x100 * i + 0x4 * j
/-- WCH_RX (R322). -/
def Reg.wchRx (i : Nat) (j : Nat) : Nat := 0xB10080 + 0x100 * i + 0x8 * j
/-- WCH_RX_STS (R322). -/
def Reg.wchRxSts (i : Nat) (j : Nat) : Nat := 0xB10084 + 0x100 * i + 0x8 * j
/-- ING_RING (R190). -/
def Reg.ingRing (i : Nat) : Nat := 0xC00800 + 0x10 * i
/-- ING_RING_CTL (R190). -/
def Reg.ingRingCtl (i : Nat) : Nat := 0xC00804 + 0x10 * i
/-- ING_SESS_CFG (R191). -/
def Reg.ingSessCfg (i : Nat) : Nat := 0xC01000 + 0x40 * i
/-- ING_SESS_SIZE (R192). -/
def Reg.ingSessSize (i : Nat) : Nat := 0xC01004 + 0x40 * i
/-- ING_SESS_FMT (R193). -/
def Reg.ingSessFmt (i : Nat) : Nat := 0xC01008 + 0x40 * i
/-- ING_SESS_PITCH (R195). -/
def Reg.ingSessPitch (i : Nat) : Nat := 0xC01014 + 0x40 * i
/-- ING_SESS_TIME (R196). -/
def Reg.ingSessTime (i : Nat) : Nat := 0xC01018 + 0x40 * i
/-- ING_SESS_STS (R198). -/
def Reg.ingSessSts (i : Nat) : Nat := 0xC01020 + 0x40 * i
/-- ING_SESS_CNT (R200). -/
def Reg.ingSessCnt (i : Nat) : Nat := 0xC01028 + 0x40 * i
/-- ING_SESS_BUF_LO (R194). -/
def Reg.ingSessBufLo (i : Nat) : Nat := 0xC0100C + 0x40 * i
/-- ING_SESS_BUF_HI (R194). -/
def Reg.ingSessBufHi (i : Nat) : Nat := 0xC01010 + 0x40 * i
/-- ING_SESS_EVT (R197). -/
def Reg.ingSessEvt (i : Nat) : Nat := 0xC0101C + 0x40 * i
/-- ING_SESS_RX (R199). -/
def Reg.ingSessRx (i : Nat) : Nat := 0xC01024 + 0x40 * i
/-- ING_OUT_CFG (R215). -/
def Reg.ingOutCfg (i : Nat) : Nat := 0xC03000 + 0x10 * i
/-- ING_OUT_STS (R216). -/
def Reg.ingOutSts (i : Nat) : Nat := 0xC03004 + 0x10 * i
/-- ING_OUT_LANE (R218). -/
def Reg.ingOutLane (i : Nat) : Nat := 0xC03400 + 0x80 * i
/-- ING_OUT_A_MAC_LO (R218). -/
def Reg.ingOutAMacLo (i : Nat) : Nat := 0xC03404 + 0x80 * i
/-- ING_OUT_A_MAC_HI (R218). -/
def Reg.ingOutAMacHi (i : Nat) : Nat := 0xC03408 + 0x80 * i
/-- ING_OUT_A_VLAN (R218). -/
def Reg.ingOutAVlan (i : Nat) : Nat := 0xC0340C + 0x80 * i
/-- ING_OUT_A_DST_IP0 (R218). -/
def Reg.ingOutADstIp0 (i : Nat) : Nat := 0xC03410 + 0x80 * i
/-- ING_OUT_A_DST_IP1 (R218). -/
def Reg.ingOutADstIp1 (i : Nat) : Nat := 0xC03414 + 0x80 * i
/-- ING_OUT_A_DST_IP2 (R218). -/
def Reg.ingOutADstIp2 (i : Nat) : Nat := 0xC03418 + 0x80 * i
/-- ING_OUT_A_DST_IP3 (R218). -/
def Reg.ingOutADstIp3 (i : Nat) : Nat := 0xC0341C + 0x80 * i
/-- ING_OUT_A_PORT (R218). -/
def Reg.ingOutAPort (i : Nat) : Nat := 0xC03420 + 0x80 * i
/-- ING_OUT_B_MAC_LO (R218). -/
def Reg.ingOutBMacLo (i : Nat) : Nat := 0xC03428 + 0x80 * i
/-- ING_OUT_B_MAC_HI (R218). -/
def Reg.ingOutBMacHi (i : Nat) : Nat := 0xC0342C + 0x80 * i
/-- ING_OUT_B_VLAN (R218). -/
def Reg.ingOutBVlan (i : Nat) : Nat := 0xC03430 + 0x80 * i
/-- ING_OUT_B_DST_IP0 (R218). -/
def Reg.ingOutBDstIp0 (i : Nat) : Nat := 0xC03434 + 0x80 * i
/-- ING_OUT_B_DST_IP1 (R218). -/
def Reg.ingOutBDstIp1 (i : Nat) : Nat := 0xC03438 + 0x80 * i
/-- ING_OUT_B_DST_IP2 (R218). -/
def Reg.ingOutBDstIp2 (i : Nat) : Nat := 0xC0343C + 0x80 * i
/-- ING_OUT_B_DST_IP3 (R218). -/
def Reg.ingOutBDstIp3 (i : Nat) : Nat := 0xC03440 + 0x80 * i
/-- ING_OUT_B_PORT (R218). -/
def Reg.ingOutBPort (i : Nat) : Nat := 0xC03444 + 0x80 * i
/-- ING_OUT_RTP (R218). -/
def Reg.ingOutRtp (i : Nat) : Nat := 0xC03450 + 0x80 * i
/-- ING_OUT_SSRC (R218). -/
def Reg.ingOutSsrc (i : Nat) : Nat := 0xC03454 + 0x80 * i
/-- TM_EVT (R414). -/
def Reg.tmEvt : Nat := 0xD00010
/-- TM_STS (R414). -/
def Reg.tmSts : Nat := 0xD00020
/-- TM_RING (R414). -/
def Reg.tmRing : Nat := 0xD00030
/-- TM_RING_CTL (R414). -/
def Reg.tmRingCtl : Nat := 0xD00034
/-- TM_SUB_CFG (R403). -/
def Reg.tmSubCfg (i : Nat) : Nat := 0xD10000 + 0x20 * i
/-- TM_SVC_CFG (R403). -/
def Reg.tmSvcCfg (i : Nat) : Nat := 0xD20000 + 0x20 * i
/-- TM_SUB_RATE (R403). -/
def Reg.tmSubRate (i : Nat) : Nat := 0xD10004 + 0x20 * i
/-- TM_SVC_RATE (R403). -/
def Reg.tmSvcRate (i : Nat) : Nat := 0xD20004 + 0x20 * i
/-- TM_SUB_BURST (R403). -/
def Reg.tmSubBurst (i : Nat) : Nat := 0xD10008 + 0x20 * i
/-- TM_SVC_BURST (R403). -/
def Reg.tmSvcBurst (i : Nat) : Nat := 0xD20008 + 0x20 * i
/-- TM_SUB_TOK (R403). -/
def Reg.tmSubTok (i : Nat) : Nat := 0xD1000C + 0x20 * i
/-- TM_SVC_TOK (R403). -/
def Reg.tmSvcTok (i : Nat) : Nat := 0xD2000C + 0x20 * i
/-- TM_GATE_CTRL (R408). -/
def Reg.tmGateCtrl (i : Nat) : Nat := 0xD30000 + 0x1000 * i
/-- TM_GATE_BASE_S_LO (R408). -/
def Reg.tmGateBaseSLo (i : Nat) : Nat := 0xD30004 + 0x1000 * i
/-- TM_GATE_BASE_S_HI (R408). -/
def Reg.tmGateBaseSHi (i : Nat) : Nat := 0xD30008 + 0x1000 * i
/-- TM_GATE_BASE_NS (R408). -/
def Reg.tmGateBaseNs (i : Nat) : Nat := 0xD3000C + 0x1000 * i
/-- TM_GATE_CYCLE (R408). -/
def Reg.tmGateCycle (i : Nat) : Nat := 0xD30010 + 0x1000 * i
/-- TM_GATE_STS (R408). -/
def Reg.tmGateSts (i : Nat) : Nat := 0xD30020 + 0x1000 * i
/-- TM_GATE_START_S_LO (R408). -/
def Reg.tmGateStartSLo (i : Nat) : Nat := 0xD30024 + 0x1000 * i
/-- TM_GATE_START_S_HI (R408). -/
def Reg.tmGateStartSHi (i : Nat) : Nat := 0xD30028 + 0x1000 * i
/-- TM_GATE_START_NS (R408). -/
def Reg.tmGateStartNs (i : Nat) : Nat := 0xD3002C + 0x1000 * i
/-- TM_GATE_ENT (R408). -/
def Reg.tmGateEnt (i : Nat) (j : Nat) : Nat := 0xD30400 + 0x1000 * i + 0x4 * j
/-- TM_POL_CFG (R397). -/
def Reg.tmPolCfg (i : Nat) : Nat := 0xD60000 + 0x20 * i
/-- TM_POL_CIR (R397). -/
def Reg.tmPolCir (i : Nat) : Nat := 0xD60004 + 0x20 * i
/-- TM_POL_EIR (R397). -/
def Reg.tmPolEir (i : Nat) : Nat := 0xD60008 + 0x20 * i
/-- TM_POL_CBS (R397). -/
def Reg.tmPolCbs (i : Nat) : Nat := 0xD6000C + 0x20 * i
/-- TM_POL_EBS (R397). -/
def Reg.tmPolEbs (i : Nat) : Nat := 0xD60010 + 0x20 * i
/-- TM_POL_CNT_G (R397). -/
def Reg.tmPolCntG (i : Nat) : Nat := 0xD60014 + 0x20 * i
/-- TM_POL_CNT_Y (R397). -/
def Reg.tmPolCntY (i : Nat) : Nat := 0xD60018 + 0x20 * i
/-- TM_POL_CNT_R (R397). -/
def Reg.tmPolCntR (i : Nat) : Nat := 0xD6001C + 0x20 * i
/-- TM_CLS_CTRL (R394). -/
def Reg.tmClsCtrl (i : Nat) : Nat := 0xD70000 + 0x40 * i
/-- TM_CLS_KEY (R394). -/
def Reg.tmClsKey (i : Nat) : Nat := 0xD70004 + 0x40 * i
/-- TM_CLS_DST (R394). -/
def Reg.tmClsDst (i : Nat) (j : Nat) : Nat := 0xD70010 + 0x40 * i + 0x4 * j
/-- TM_CLS_SRC (R394). -/
def Reg.tmClsSrc (i : Nat) (j : Nat) : Nat := 0xD70020 + 0x40 * i + 0x4 * j
/-- TM_FLOW_CTRL (R411). -/
def Reg.tmFlowCtrl (i : Nat) : Nat := 0xD80000 + 0x80 * i
/-- TM_FLOW_A_MAC_LO (R411). -/
def Reg.tmFlowAMacLo (i : Nat) : Nat := 0xD80004 + 0x80 * i
/-- TM_FLOW_A_MAC_HI (R411). -/
def Reg.tmFlowAMacHi (i : Nat) : Nat := 0xD80008 + 0x80 * i
/-- TM_FLOW_A_VLAN (R411). -/
def Reg.tmFlowAVlan (i : Nat) : Nat := 0xD8000C + 0x80 * i
/-- TM_FLOW_A_DST_IP0 (R411). -/
def Reg.tmFlowADstIp0 (i : Nat) : Nat := 0xD80010 + 0x80 * i
/-- TM_FLOW_A_DST_IP1 (R411). -/
def Reg.tmFlowADstIp1 (i : Nat) : Nat := 0xD80014 + 0x80 * i
/-- TM_FLOW_A_DST_IP2 (R411). -/
def Reg.tmFlowADstIp2 (i : Nat) : Nat := 0xD80018 + 0x80 * i
/-- TM_FLOW_A_DST_IP3 (R411). -/
def Reg.tmFlowADstIp3 (i : Nat) : Nat := 0xD8001C + 0x80 * i
/-- TM_FLOW_A_PORT (R411). -/
def Reg.tmFlowAPort (i : Nat) : Nat := 0xD80020 + 0x80 * i
/-- TM_FLOW_B_MAC_LO (R411). -/
def Reg.tmFlowBMacLo (i : Nat) : Nat := 0xD80028 + 0x80 * i
/-- TM_FLOW_B_MAC_HI (R411). -/
def Reg.tmFlowBMacHi (i : Nat) : Nat := 0xD8002C + 0x80 * i
/-- TM_FLOW_B_VLAN (R411). -/
def Reg.tmFlowBVlan (i : Nat) : Nat := 0xD80030 + 0x80 * i
/-- TM_FLOW_B_DST_IP0 (R411). -/
def Reg.tmFlowBDstIp0 (i : Nat) : Nat := 0xD80034 + 0x80 * i
/-- TM_FLOW_B_DST_IP1 (R411). -/
def Reg.tmFlowBDstIp1 (i : Nat) : Nat := 0xD80038 + 0x80 * i
/-- TM_FLOW_B_DST_IP2 (R411). -/
def Reg.tmFlowBDstIp2 (i : Nat) : Nat := 0xD8003C + 0x80 * i
/-- TM_FLOW_B_DST_IP3 (R411). -/
def Reg.tmFlowBDstIp3 (i : Nat) : Nat := 0xD80040 + 0x80 * i
/-- TM_FLOW_B_PORT (R411). -/
def Reg.tmFlowBPort (i : Nat) : Nat := 0xD80044 + 0x80 * i
/-- TM_FLOW_RTP (R411). -/
def Reg.tmFlowRtp (i : Nat) : Nat := 0xD80050 + 0x80 * i
/-- TM_FLOW_SSRC (R411). -/
def Reg.tmFlowSsrc (i : Nat) : Nat := 0xD80054 + 0x80 * i
/-- TM_FLOW_PID (R411). -/
def Reg.tmFlowPid (i : Nat) : Nat := 0xD80058 + 0x80 * i
/-- TM_FLOW_APID (R411). -/
def Reg.tmFlowApid (i : Nat) : Nat := 0xD8005C + 0x80 * i
/-- TM_FLOW_TS (R411). -/
def Reg.tmFlowTs (i : Nat) : Nat := 0xD80060 + 0x80 * i
/-- MAC_CTRL (R383). -/
def Reg.macCtrl (i : Nat) : Nat := 0xE00000 + 0x4000 * i
/-- MAC_STS (R387). -/
def Reg.macSts (i : Nat) : Nat := 0xE00004 + 0x4000 * i
/-- MAC_SA_LO (R385). -/
def Reg.macSaLo (i : Nat) : Nat := 0xE00008 + 0x4000 * i
/-- MAC_SA_HI (R385). -/
def Reg.macSaHi (i : Nat) : Nat := 0xE0000C + 0x4000 * i
/-- MAC_IP4 (R385). -/
def Reg.macIp4 (i : Nat) : Nat := 0xE00010 + 0x4000 * i
/-- MAC_IP6 (R385). -/
def Reg.macIp6 (i : Nat) (j : Nat) : Nat := 0xE00014 + 0x4000 * i + 0x4 * j
/-- MAC_CNT_TX (R387). -/
def Reg.macCntTx (i : Nat) : Nat := 0xE00020 + 0x4000 * i
/-- MAC_CNT_RX (R387). -/
def Reg.macCntRx (i : Nat) : Nat := 0xE00024 + 0x4000 * i
/-- MAC_CNT_ERR (R387). -/
def Reg.macCntErr (i : Nat) : Nat := 0xE00028 + 0x4000 * i
/-- MAC_CNT_DROP (R387). -/
def Reg.macCntDrop (i : Nat) : Nat := 0xE0002C + 0x4000 * i
/-- MAC_CNT_PAUSE (R387). -/
def Reg.macCntPause (i : Nat) : Nat := 0xE00030 + 0x4000 * i
/-- MAC_SEC_CFG (R390). -/
def Reg.macSecCfg (i : Nat) : Nat := 0xE00040 + 0x4000 * i
/-- LANE_CTRL (R423). -/
def Reg.laneCtrl (i : Nat) : Nat := 0xF00000 + 0x1000 * i
/-- LANE_RX (R425). -/
def Reg.laneRx (i : Nat) : Nat := 0xF00004 + 0x1000 * i
/-- LANE_TX (R427). -/
def Reg.laneTx (i : Nat) : Nat := 0xF00008 + 0x1000 * i
/-- LANE_PRBS (R432). -/
def Reg.lanePrbs (i : Nat) : Nat := 0xF0000C + 0x1000 * i
/-- LANE_STS (R433). -/
def Reg.laneSts (i : Nat) : Nat := 0xF00010 + 0x1000 * i
/-- LANE_SNAP_ERR_LO (R434). -/
def Reg.laneSnapErrLo (i : Nat) : Nat := 0xF00018 + 0x1000 * i
/-- LANE_SNAP_ERR_HI (R434). -/
def Reg.laneSnapErrHi (i : Nat) : Nat := 0xF0001C + 0x1000 * i
/-- LANE_SNAP_BITS_LO (R434). -/
def Reg.laneSnapBitsLo (i : Nat) : Nat := 0xF00020 + 0x1000 * i
/-- LANE_SNAP_BITS_HI (R434). -/
def Reg.laneSnapBitsHi (i : Nat) : Nat := 0xF00024 + 0x1000 * i
/-- LANE_REF_STS (R417). -/
def Reg.laneRefSts : Nat := 0xF80000
/-- LANE_REF_PPM (R418). -/
def Reg.laneRefPpm (i : Nat) : Nat := 0xF80004 + 0x4 * i
/-- LANE_EVT (R419). -/
def Reg.laneEvt : Nat := 0xF80040
/-- TIME_EVT (R438). -/
def Reg.timeEvt : Nat := 0x1000010
/-- TIME_RING (R438). -/
def Reg.timeRing : Nat := 0x1000014
/-- TIME_RING_CTL (R438). -/
def Reg.timeRingCtl : Nat := 0x1000018
/-- TIME_RX_RING (R438). -/
def Reg.timeRxRing : Nat := 0x1000020
/-- TIME_RX_RING_CTL (R438). -/
def Reg.timeRxRingCtl : Nat := 0x1000024
/-- SYS_CTR_CFG (R452). -/
def Reg.sysCtrCfg : Nat := 0x1000030
/-- SYS_CTR_LO (R452). -/
def Reg.sysCtrLo : Nat := 0x1000034
/-- SYS_CTR_HI (R452). -/
def Reg.sysCtrHi : Nat := 0x1000038
/-- SYS_CTR_RATE (R452). -/
def Reg.sysCtrRate : Nat := 0x100003C
/-- PPS_IN_CFG (R453). -/
def Reg.ppsInCfg : Nat := 0x1000040
/-- PPS_IN_S (R453). -/
def Reg.ppsInS : Nat := 0x1000044
/-- PPS_IN_NS (R453). -/
def Reg.ppsInNs : Nat := 0x1000048
/-- PPS_IN_FRAC (R453). -/
def Reg.ppsInFrac : Nat := 0x100004C
/-- PPS_OUT_CFG (R453). -/
def Reg.ppsOutCfg : Nat := 0x1000050
/-- PPS_OUT_PHASE (R453). -/
def Reg.ppsOutPhase : Nat := 0x1000054
/-- TIME_ECHO_TBL (R463). -/
def Reg.timeEchoTbl : Nat := 0x1000060
/-- TIME_ECHO_CNT (R463). -/
def Reg.timeEchoCnt : Nat := 0x1000064
/-- TIME_ALLOW (R457). -/
def Reg.timeAllow (i : Nat) : Nat := 0x1000100 + 0x4 * i
/-- TB_CTRL (R439). -/
def Reg.tbCtrl (i : Nat) : Nat := 0x1001000 + 0x100 * i
/-- TB_KP (R439). -/
def Reg.tbKp (i : Nat) : Nat := 0x1001004 + 0x100 * i
/-- TB_KI (R439). -/
def Reg.tbKi (i : Nat) : Nat := 0x1001008 + 0x100 * i
/-- TB_LIMIT (R439). -/
def Reg.tbLimit (i : Nat) : Nat := 0x100100C + 0x100 * i
/-- TB_SET_S_LO (R439). -/
def Reg.tbSetSLo (i : Nat) : Nat := 0x1001010 + 0x100 * i
/-- TB_SET_S_HI (R439). -/
def Reg.tbSetSHi (i : Nat) : Nat := 0x1001014 + 0x100 * i
/-- TB_SET_NS (R439). -/
def Reg.tbSetNs (i : Nat) : Nat := 0x1001018 + 0x100 * i
/-- TB_UTC (R439). -/
def Reg.tbUtc (i : Nat) : Nat := 0x100101C + 0x100 * i
/-- TB_ID (R439). -/
def Reg.tbId (i : Nat) (j : Nat) : Nat := 0x1001048 + 0x100 * i + 0x4 * j
/-- TB_SNAP (R440). -/
def Reg.tbSnap (i : Nat) : Nat := 0x1001020 + 0x100 * i
/-- TB_NOW_S_LO (R440). -/
def Reg.tbNowSLo (i : Nat) : Nat := 0x1001024 + 0x100 * i
/-- TB_NOW_S_HI (R440). -/
def Reg.tbNowSHi (i : Nat) : Nat := 0x1001028 + 0x100 * i
/-- TB_NOW_NS (R440). -/
def Reg.tbNowNs (i : Nat) : Nat := 0x100102C + 0x100 * i
/-- TB_NOW_FRAC (R440). -/
def Reg.tbNowFrac (i : Nat) : Nat := 0x1001030 + 0x100 * i
/-- TB_SNAP_CTR_LO (R440). -/
def Reg.tbSnapCtrLo (i : Nat) : Nat := 0x1001034 + 0x100 * i
/-- TB_SNAP_CTR_HI (R440). -/
def Reg.tbSnapCtrHi (i : Nat) : Nat := 0x1001038 + 0x100 * i
/-- TB_RATE (R440). -/
def Reg.tbRate (i : Nat) : Nat := 0x100103C + 0x100 * i
/-- TB_OFF (R440). -/
def Reg.tbOff (i : Nat) : Nat := 0x1001040 + 0x100 * i
/-- TB_STS (R440). -/
def Reg.tbSts (i : Nat) : Nat := 0x1001044 + 0x100 * i
/-- TIME_PORT_CFG (R448). -/
def Reg.timePortCfg (i : Nat) : Nat := 0x1008000 + 0x40 * i
/-- TIME_PORT_INTV (R448). -/
def Reg.timePortIntv (i : Nat) : Nat := 0x1008004 + 0x40 * i
/-- TIME_PORT_ASYM_RX (R448). -/
def Reg.timePortAsymRx (i : Nat) : Nat := 0x1008008 + 0x40 * i
/-- TIME_PORT_ASYM_TX (R448). -/
def Reg.timePortAsymTx (i : Nat) : Nat := 0x100800C + 0x40 * i
/-- TIME_PORT_QUAL (R448). -/
def Reg.timePortQual (i : Nat) : Nat := 0x1008010 + 0x40 * i
/-- TIME_PORT_MPD (R448). -/
def Reg.timePortMpd (i : Nat) : Nat := 0x1008014 + 0x40 * i
/-- AUD_EVT (R464). -/
def Reg.audEvt : Nat := 0x1100010
/-- AUD_RING (R464). -/
def Reg.audRing : Nat := 0x1100014
/-- AUD_RING_CTL (R464). -/
def Reg.audRingCtl : Nat := 0x1100018
/-- AUD_SP_CFG (R466). -/
def Reg.audSpCfg (i : Nat) : Nat := 0x1101000 + 0x40 * i
/-- AUD_SP_STS (R466). -/
def Reg.audSpSts (i : Nat) : Nat := 0x1101004 + 0x40 * i
/-- AUD_SP_CNT (R466). -/
def Reg.audSpCnt (i : Nat) : Nat := 0x1101008 + 0x40 * i
/-- AUD_AR_CFG (R469). -/
def Reg.audArCfg (i : Nat) : Nat := 0x1101400 + 0x80 * i
/-- AUD_AR_STS (R469). -/
def Reg.audArSts (i : Nat) : Nat := 0x1101404 + 0x80 * i
/-- AUD_AR_CNT (R469). -/
def Reg.audArCnt (i : Nat) : Nat := 0x1101408 + 0x80 * i
/-- AUD_AR_SEQ (R469). -/
def Reg.audArSeq (i : Nat) : Nat := 0x110140C + 0x80 * i
/-- AUD_AR_CS0 (R469). -/
def Reg.audArCs0 (i : Nat) (j : Nat) : Nat := 0x1101410 + 0x80 * i + 0x4 * j
/-- AUD_AR_U0 (R469). -/
def Reg.audArU0 (i : Nat) (j : Nat) : Nat := 0x1101440 + 0x80 * i + 0x4 * j
/-- AUD_AT_CS0 (R470). -/
def Reg.audAtCs0 (i : Nat) (j : Nat) : Nat := 0x1101610 + 0x80 * i + 0x4 * j
/-- AUD_AR_CS1 (R469). -/
def Reg.audArCs1 (i : Nat) (j : Nat) : Nat := 0x1101428 + 0x80 * i + 0x4 * j
/-- AUD_AR_U1 (R469). -/
def Reg.audArU1 (i : Nat) (j : Nat) : Nat := 0x1101458 + 0x80 * i + 0x4 * j
/-- AUD_AT_CS1 (R470). -/
def Reg.audAtCs1 (i : Nat) (j : Nat) : Nat := 0x1101628 + 0x80 * i + 0x4 * j
/-- AUD_AT_CFG (R470). -/
def Reg.audAtCfg (i : Nat) : Nat := 0x1101600 + 0x80 * i
/-- AUD_PDM_CFG (R472). -/
def Reg.audPdmCfg (i : Nat) : Nat := 0x1101800 + 0x10 * i
/-- AUD_GRP_CFG (R473). -/
def Reg.audGrpCfg (i : Nat) : Nat := 0x1102000 + 0x40 * i
/-- AUD_GRP_OUT (R473). -/
def Reg.audGrpOut (i : Nat) : Nat := 0x1102004 + 0x40 * i
/-- AUD_GRP_RING (R473). -/
def Reg.audGrpRing (i : Nat) : Nat := 0x1102008 + 0x40 * i
/-- AUD_GRP_RING_CTL (R473). -/
def Reg.audGrpRingCtl (i : Nat) : Nat := 0x110200C + 0x40 * i
/-- AUD_GRP_STS (R473). -/
def Reg.audGrpSts (i : Nat) : Nat := 0x1102010 + 0x40 * i
/-- AUD_GRP_RATIO (R473). -/
def Reg.audGrpRatio (i : Nat) : Nat := 0x1102014 + 0x40 * i
/-- AUD_GRP_CNT (R473). -/
def Reg.audGrpCnt (i : Nat) : Nat := 0x1102018 + 0x40 * i
/-- AUD_OUT_CFG (R481). -/
def Reg.audOutCfg (i : Nat) : Nat := 0x1103000 + 0x40 * i
/-- AUD_OUT_NET (R481). -/
def Reg.audOutNet (i : Nat) : Nat := 0x1103004 + 0x40 * i
/-- AUD_OUT_DELAY (R481). -/
def Reg.audOutDelay (i : Nat) : Nat := 0x110302C + 0x40 * i
/-- AUD_OUT_SSRC (R481). -/
def Reg.audOutSsrc (i : Nat) : Nat := 0x1103030 + 0x40 * i
/-- AUD_OUT_MAC_LO (R481). -/
def Reg.audOutMacLo (i : Nat) : Nat := 0x1103008 + 0x40 * i
/-- AUD_OUT_MAC_HI (R481). -/
def Reg.audOutMacHi (i : Nat) : Nat := 0x110300C + 0x40 * i
/-- AUD_OUT_VLAN (R481). -/
def Reg.audOutVlan (i : Nat) : Nat := 0x1103010 + 0x40 * i
/-- AUD_OUT_DST_IP0 (R481). -/
def Reg.audOutDstIp0 (i : Nat) : Nat := 0x1103014 + 0x40 * i
/-- AUD_OUT_DST_IP1 (R481). -/
def Reg.audOutDstIp1 (i : Nat) : Nat := 0x1103018 + 0x40 * i
/-- AUD_OUT_DST_IP2 (R481). -/
def Reg.audOutDstIp2 (i : Nat) : Nat := 0x110301C + 0x40 * i
/-- AUD_OUT_DST_IP3 (R481). -/
def Reg.audOutDstIp3 (i : Nat) : Nat := 0x1103020 + 0x40 * i
/-- AUD_OUT_PORT (R481). -/
def Reg.audOutPort (i : Nat) : Nat := 0x1103024 + 0x40 * i
/-- CVU_CTRL (R180). -/
def Reg.cvuCtrl (i : Nat) : Nat := 0x1200000 + 0x1000 * i
/-- CVU_STS (R181). -/
def Reg.cvuSts (i : Nat) : Nat := 0x1200004 + 0x1000 * i
/-- CVU_EVT (R183). -/
def Reg.cvuEvt (i : Nat) : Nat := 0x1200018 + 0x1000 * i
/-- CVU_RING (R184). -/
def Reg.cvuRing (i : Nat) : Nat := 0x1200020 + 0x1000 * i
/-- CVU_RING_CTL (R185). -/
def Reg.cvuRingCtl (i : Nat) : Nat := 0x1200024 + 0x1000 * i
/-- CVU_RUN (R182). -/
def Reg.cvuRun (i : Nat) (j : Nat) : Nat := 0x1200008 + 0x1000 * i + 0x4 * j
/-- CVU_SEQ (R182). -/
def Reg.cvuSeq (i : Nat) (j : Nat) : Nat := 0x1200010 + 0x1000 * i + 0x4 * j
/-- MEM_DV_ADDR_LO (R157). -/
def Reg.memDvAddrLo : Nat := 0x1300100
/-- MEM_DV_ADDR_HI (R158). -/
def Reg.memDvAddrHi : Nat := 0x1300104
/-- MEM_DV_INFO (R158). -/
def Reg.memDvInfo : Nat := 0x1300108
/-- MEM_DV_COUNT (R158). -/
def Reg.memDvCount : Nat := 0x130010C
/-- MEM_EVT (R159). -/
def Reg.memEvt : Nat := 0x1300110
/-- HBM_CFG (R167). -/
def Reg.hbmCfg : Nat := 0x1300200
/-- HBM_PC_STS (R169). -/
def Reg.hbmPcSts (i : Nat) : Nat := 0x1300400 + 0x4 * i
/-- HBM_PC_ERR (R170). -/
def Reg.hbmPcErr (i : Nat) : Nat := 0x1300500 + 0x4 * i
/-- MEM_DOM_SS (R152). -/
def Reg.memDomSs (i : Nat) : Nat := 0x1310000 + 0x4 * i
/-- MEM_DOM_HBM (R152). -/
def Reg.memDomHbm (i : Nat) : Nat := 0x1320000 + 0x4 * i
/-- SNS_TEMP (R527). -/
def Reg.snsTemp (i : Nat) : Nat := 0x1400000 + 0x4 * i
/-- SNS_VMON (R527). -/
def Reg.snsVmon (i : Nat) : Nat := 0x1400100 + 0x4 * i
/-- SNS_PACE (R527). -/
def Reg.snsPace (i : Nat) : Nat := 0x1400400 + 0x4 * i
/-- SNS_THERM (R527). -/
def Reg.snsTherm : Nat := 0x1400810
/-- AVS_CFG (R528). -/
def Reg.avsCfg : Nat := 0x1400800
/-- AVS_STS (R528). -/
def Reg.avsSts : Nat := 0x1400804
/-- AVS_THR (R528). -/
def Reg.avsThr : Nat := 0x140080C
/-- LADDER_STS (R35). -/
def Reg.ladderSts : Nat := 0x1400808

end Sys2Proof.Machine
end

