-- ==== Sys2Proof/Machine/RegTable.lean ====
section
/-! DEFINITION. The register map (R7 and the register tables of every chapter): each register's unit offset, its
index dimensions, its fields with their access types (R5) and reset values. Reserved fields are not listed: they read
as 0 and ignore writes (R6). A register that a chapter lays out "as" another carries that other's fields. -/

namespace Sys2Proof.Machine

/-- The access types of R5. -/
inductive Acc where
  | rw | ro | wo | w1c | w1s | rc | sh | lv
deriving DecidableEq, Repr

/-- One field of a register: bits msb..lsb, access type, reset value. -/
structure RegField where
  msb : Nat
  lsb : Nat
  acc : Acc
  reset : Nat
deriving DecidableEq, Repr

/-- One register, or an array of registers: `n1` copies `s1` bytes apart, each of `n2` copies `s2` bytes apart. -/
structure RegDesc where
  name : String
  base : Nat
  n1 : Nat
  s1 : Nat
  n2 : Nat
  s2 : Nat
  fields : List RegField
deriving DecidableEq, Repr

/-- Does the descriptor cover unit offset `off`? -/
def RegDesc.covers (d : RegDesc) (off : Nat) : Bool :=
  decide (d.base ≤ off) && decide ((off - d.base) / d.s1 < d.n1) &&
    decide ((off - d.base) % d.s1 / d.s2 < d.n2) && decide ((off - d.base) % d.s1 % d.s2 = 0)

/-- Registers of the SYS block. -/
def RegTable.sys : List RegDesc := [
  ⟨"SYS_MAP", 0x40, 1, 0x4, 1, 0x4, [⟨0, 0, .w1s, 0x0⟩]⟩,
  ⟨"SYS_STRAP", 0x44, 1, 0x4, 1, 0x4, [⟨2, 2, .ro, 0x0⟩, ⟨1, 1, .ro, 0x0⟩, ⟨0, 0, .ro, 0x0⟩]⟩,
  ⟨"SYS_BOOT", 0x48, 1, 0x4, 1, 0x4, [⟨31, 28, .ro, 0x0⟩, ⟨27, 26, .ro, 0x0⟩, ⟨25, 25, .ro, 0x0⟩, ⟨23, 16, .ro, 0x0⟩]⟩,
  ⟨"SYS_TWIN_CFG", 0x80, 1, 0x4, 1, 0x4, [⟨31, 31, .lv, 0x0⟩, ⟨30, 30, .lv, 0x0⟩, ⟨29, 29, .lv, 0x0⟩, ⟨28, 28, .w1s, 0x0⟩, ⟨15, 8, .lv, 0x8⟩]⟩,
  ⟨"SYS_TWIN_KEEP", 0x84, 1, 0x4, 1, 0x4, [⟨31, 0, .wo, 0x0⟩]⟩,
  ⟨"SYS_TWIN_STS", 0x88, 1, 0x4, 1, 0x4, [⟨31, 31, .ro, 0x0⟩, ⟨30, 30, .ro, 0x0⟩, ⟨29, 29, .ro, 0x0⟩, ⟨28, 26, .ro, 0x0⟩, ⟨15, 0, .ro, 0x0⟩]⟩,
  ⟨"SYS_TWIN_EVT", 0x8C, 1, 0x4, 1, 0x4, [⟨31, 31, .lv, 0x0⟩, ⟨29, 24, .lv, 0x0⟩, ⟨23, 15, .lv, 0x0⟩]⟩]

/-- Registers of the CLS block. -/
def RegTable.cls : List RegDesc := [
  ⟨"CLS_VER", 0x10000, 1, 0x4, 1, 0x4, [⟨31, 16, .ro, 0x1⟩, ⟨15, 0, .ro, 0x0⟩]⟩,
  ⟨"CLS_STS", 0x10004, 1, 0x4, 1, 0x4, [⟨31, 29, .ro, 0x0⟩, ⟨28, 28, .ro, 0x0⟩, ⟨27, 27, .ro, 0x0⟩, ⟨26, 26, .ro, 0x0⟩, ⟨23, 16, .ro, 0x0⟩, ⟨14, 8, .ro, 0x0⟩, ⟨0, 0, .ro, 0x0⟩]⟩,
  ⟨"CLS_NONCE", 0x10008, 2, 0x4, 1, 0x4, [⟨31, 0, .ro, 0x0⟩]⟩,
  ⟨"CLS_SERIAL", 0x10010, 4, 0x4, 1, 0x4, [⟨31, 0, .ro, 0x0⟩]⟩,
  ⟨"CLS_ALARM", 0x10020, 1, 0x4, 1, 0x4, [⟨31, 16, .ro, 0x0⟩, ⟨15, 0, .ro, 0x0⟩]⟩]

/-- Registers of the MBX block. -/
def RegTable.mbx : List RegDesc := [
  ⟨"MBX_DATA", 0x20000, 48, 0x80, 16, 0x4, [⟨31, 0, .rw, 0x0⟩]⟩,
  ⟨"MBX_SEND", 0x20040, 48, 0x80, 1, 0x80, [⟨0, 0, .wo, 0x0⟩]⟩,
  ⟨"MBX_STS", 0x20044, 48, 0x80, 1, 0x80, [⟨31, 31, .ro, 0x0⟩, ⟨30, 30, .w1c, 0x0⟩, ⟨29, 29, .w1c, 0x0⟩, ⟨15, 0, .ro, 0x0⟩]⟩,
  ⟨"MBX_CFG", 0x21800, 48, 0x4, 1, 0x4, [⟨31, 28, .rw, 0x0⟩, ⟨27, 24, .rw, 0x0⟩, ⟨23, 18, .rw, 0x0⟩, ⟨17, 9, .rw, 0x0⟩, ⟨0, 0, .rw, 0x0⟩]⟩,
  ⟨"MBX_DBI", 0x21A00, 2, 0x4, 1, 0x4, [⟨31, 0, .w1s, 0x0⟩]⟩,
  ⟨"MBX_DBI_ROUTE", 0x21C00, 64, 0x4, 1, 0x4, [⟨31, 31, .rw, 0x0⟩, ⟨29, 24, .rw, 0x0⟩, ⟨23, 15, .rw, 0x0⟩]⟩,
  ⟨"MBX_DBO_SET", 0x21B00, 2, 0x4, 1, 0x4, [⟨31, 0, .w1s, 0x0⟩]⟩,
  ⟨"MBX_DBO", 0x21B08, 2, 0x4, 1, 0x4, [⟨31, 0, .w1c, 0x0⟩]⟩]

/-- Registers of the HIF block, part 1. -/
def RegTable.hif1 : List RegDesc := [
  ⟨"HIF_VER", 0x30000, 1, 0x4, 1, 0x4, [⟨31, 24, .ro, 0x0⟩, ⟨23, 16, .ro, 0x0⟩, ⟨15, 8, .ro, 0x0⟩]⟩,
  ⟨"HIF_HOLD_STS", 0x30014, 1, 0x4, 1, 0x4, [⟨31, 31, .ro, 0x1⟩, ⟨14, 0, .ro, 0x0⟩]⟩,
  ⟨"HIF_IDLE_HINT", 0x30010, 1, 0x4, 1, 0x4, [⟨0, 0, .lv, 0x0⟩]⟩,
  ⟨"HIF_EVT_CFG", 0x30020, 1, 0x4, 1, 0x4, [⟨31, 31, .rw, 0x0⟩, ⟨5, 0, .rw, 0x0⟩]⟩,
  ⟨"HIF_EVT_MASK", 0x30024, 1, 0x4, 1, 0x4, [⟨31, 0, .rw, 0xFFFFFFFF⟩]⟩,
  ⟨"HIF_EVT_PEND", 0x30028, 1, 0x4, 1, 0x4, [⟨31, 0, .ro, 0x0⟩]⟩,
  ⟨"HIF_MBX_VEC", 0x30100, 32, 0x4, 1, 0x4, [⟨31, 31, .rw, 0x0⟩, ⟨6, 0, .rw, 0x0⟩]⟩,
  ⟨"HIF_DBO_VEC", 0x30200, 64, 0x4, 1, 0x4, [⟨31, 31, .rw, 0x0⟩, ⟨6, 0, .rw, 0x0⟩]⟩,
  ⟨"HIF_SQ_BASE_LO", 0x31000, 64, 0x20, 1, 0x20, [⟨31, 12, .rw, 0x0⟩]⟩,
  ⟨"HIF_SQ_BASE_HI", 0x31004, 64, 0x20, 1, 0x20, [⟨31, 0, .rw, 0x0⟩]⟩,
  ⟨"HIF_SQ_CFG", 0x31008, 64, 0x20, 1, 0x20, [⟨31, 31, .rw, 0x0⟩, ⟨21, 16, .rw, 0x0⟩, ⟨12, 0, .rw, 0x0⟩]⟩,
  ⟨"HIF_SQ_TAIL", 0x3100C, 64, 0x20, 1, 0x20, [⟨11, 0, .lv, 0x0⟩]⟩]

/-- Registers of the HIF block, part 2. -/
def RegTable.hif2 : List RegDesc := [
  ⟨"HIF_SQ_STS", 0x31010, 64, 0x20, 1, 0x20, [⟨31, 31, .ro, 0x0⟩, ⟨30, 30, .w1c, 0x0⟩, ⟨29, 29, .ro, 0x0⟩, ⟨28, 28, .w1c, 0x0⟩, ⟨11, 0, .ro, 0x0⟩]⟩,
  ⟨"HIF_CQ_BASE_LO", 0x32000, 64, 0x20, 1, 0x20, [⟨31, 12, .rw, 0x0⟩]⟩,
  ⟨"HIF_CQ_BASE_HI", 0x32004, 64, 0x20, 1, 0x20, [⟨31, 0, .rw, 0x0⟩]⟩,
  ⟨"HIF_CQ_CFG", 0x32008, 64, 0x20, 1, 0x20, [⟨31, 31, .rw, 0x0⟩, ⟨19, 13, .rw, 0x0⟩, ⟨12, 0, .rw, 0x0⟩]⟩,
  ⟨"HIF_CQ_HEAD", 0x3200C, 64, 0x20, 1, 0x20, [⟨11, 0, .lv, 0x0⟩]⟩,
  ⟨"HIF_CQ_STS", 0x32010, 64, 0x20, 1, 0x20, [⟨31, 31, .ro, 0x0⟩, ⟨30, 30, .w1c, 0x0⟩, ⟨29, 29, .ro, 0x0⟩, ⟨28, 28, .w1c, 0x0⟩, ⟨12, 12, .ro, 0x1⟩, ⟨11, 0, .ro, 0x0⟩]⟩,
  ⟨"HIF_MOD", 0x33000, 120, 0x4, 1, 0x4, [⟨31, 16, .lv, 0x0⟩, ⟨7, 0, .lv, 0x0⟩]⟩]

/-- Registers of the HIF block. -/
def RegTable.hif : List RegDesc := RegTable.hif1 ++ RegTable.hif2

/-- Registers of the gatherings block, part 1. -/
def RegTable.gath1 : List RegDesc := [
  ⟨"TSU_DESC_BASE", 0x400000, 64, 0x10000, 1, 0x10000, [⟨25, 5, .lv, 0x0⟩]⟩,
  ⟨"TSU_DESC_COUNT", 0x400004, 64, 0x10000, 1, 0x10000, [⟨15, 0, .lv, 0x0⟩]⟩,
  ⟨"TSU_STS", 0x400008, 64, 0x10000, 1, 0x10000, [⟨23, 23, .w1c, 0x0⟩, ⟨22, 14, .ro, 0x0⟩, ⟨13, 8, .ro, 0x0⟩, ⟨7, 0, .ro, 0x0⟩]⟩,
  ⟨"TSU_REFUSED", 0x40000C, 64, 0x10000, 1, 0x10000, [⟨31, 0, .rc, 0x0⟩]⟩,
  ⟨"TSU_UNBOUND", 0x400010, 64, 0x10000, 1, 0x10000, [⟨31, 0, .rc, 0x0⟩]⟩,
  ⟨"EVC_STRAND_TO", 0x401C40, 64, 0x10000, 1, 0x10000, [⟨15, 0, .lv, 0x3E8⟩]⟩,
  ⟨"EVC_STRANDED", 0x401C44, 64, 0x10000, 1, 0x10000, [⟨25, 16, .ro, 0x0⟩, ⟨15, 0, .rc, 0x0⟩]⟩,
  ⟨"GATH_PWR", 0x407F00, 64, 0x10000, 1, 0x10000, [⟨1, 1, .ro, 0x0⟩, ⟨0, 0, .lv, 0x0⟩]⟩,
  ⟨"EVC_PEND", 0x401000, 64, 0x10000, 16, 0x4, [⟨31, 0, .w1c, 0x0⟩]⟩,
  ⟨"EVC_TAKE", 0x401040, 64, 0x10000, 16, 0x4, [⟨31, 0, .rc, 0x0⟩]⟩,
  ⟨"EVC_EN", 0x401080, 64, 0x10000, 16, 0x4, [⟨31, 0, .lv, 0x0⟩]⟩,
  ⟨"EVC_ROUTE", 0x401400, 64, 0x10000, 512, 0x4, [⟨31, 30, .lv, 0x0⟩, ⟨28, 28, .lv, 0x0⟩, ⟨27, 24, .lv, 0x0⟩, ⟨15, 0, .lv, 0x0⟩]⟩]

/-- Registers of the gatherings block, part 2. -/
def RegTable.gath2 : List RegDesc := [
  ⟨"EVC_MOD", 0x401C00, 64, 0x10000, 16, 0x4, [⟨15, 0, .lv, 0x0⟩]⟩,
  ⟨"QE_CTRL", 0x408000, 64, 0x10000, 16, 0x100, [⟨0, 0, .lv, 0x0⟩]⟩,
  ⟨"QE_STS", 0x408004, 64, 0x10000, 16, 0x100, [⟨31, 16, .ro, 0x0⟩, ⟨12, 8, .ro, 0x0⟩, ⟨4, 4, .ro, 0x0⟩, ⟨3, 3, .ro, 0x0⟩, ⟨2, 2, .ro, 0x0⟩, ⟨1, 1, .ro, 0x0⟩, ⟨0, 0, .ro, 0x1⟩]⟩,
  ⟨"QE_VEC", 0x408008, 64, 0x10000, 16, 0x100, [⟨12, 2, .lv, 0x0⟩]⟩,
  ⟨"QE_FAULT", 0x408010, 64, 0x10000, 16, 0x100, [⟨31, 31, .w1c, 0x0⟩, ⟨30, 30, .ro, 0x0⟩, ⟨29, 29, .ro, 0x0⟩, ⟨23, 8, .ro, 0x0⟩, ⟨7, 0, .ro, 0x0⟩]⟩,
  ⟨"QE_FAULT_PC", 0x408014, 64, 0x10000, 16, 0x100, [⟨28, 16, .ro, 0x0⟩, ⟨12, 0, .ro, 0x0⟩]⟩,
  ⟨"QE_FAULT_ADDR_LO", 0x408018, 64, 0x10000, 16, 0x100, [⟨31, 0, .ro, 0x0⟩]⟩,
  ⟨"QE_FAULT_ADDR_HI", 0x40801C, 64, 0x10000, 16, 0x100, [⟨15, 0, .ro, 0x0⟩]⟩]

/-- Registers of the gatherings block. -/
def RegTable.gath : List RegDesc := RegTable.gath1 ++ RegTable.gath2

/-- Registers of the couch pipes block. -/
def RegTable.couchPipe : List RegDesc := [
  ⟨"COUCH_PIPE_STS", 0x800000, 16, 0x10000, 1, 0x10000, [⟨31, 31, .ro, 0x0⟩, ⟨10, 0, .ro, 0x0⟩]⟩,
  ⟨"COUCH_PIPE_RING", 0x800020, 16, 0x10000, 1, 0x10000, [⟨25, 4, .lv, 0x0⟩]⟩,
  ⟨"COUCH_PIPE_RING_CTL", 0x800024, 16, 0x10000, 1, 0x10000, [⟨31, 16, .ro, 0x0⟩, ⟨15, 0, .lv, 0x0⟩]⟩]

/-- Registers of the couch control block, part 1. -/
def RegTable.couch1 : List RegDesc := [
  ⟨"COUCH.COMMIT", 0x900000, 1, 0x4, 1, 0x4, [⟨31, 24, .wo, 0x0⟩, ⟨15, 0, .wo, 0x0⟩]⟩,
  ⟨"COUCH.COMMIT_SEL", 0x900004, 1, 0x4, 1, 0x4, [⟨15, 0, .lv, 0x0⟩]⟩,
  ⟨"COUCH.COMMIT_STS", 0x900008, 1, 0x4, 1, 0x4, [⟨31, 31, .ro, 0x0⟩, ⟨30, 30, .w1c, 0x0⟩, ⟨23, 16, .ro, 0x0⟩, ⟨15, 0, .ro, 0x0⟩]⟩,
  ⟨"COUCH_EVT", 0x900010, 1, 0x4, 1, 0x4, [⟨31, 31, .lv, 0x0⟩, ⟨29, 24, .lv, 0x0⟩, ⟨23, 15, .lv, 0x0⟩]⟩,
  ⟨"COUCH_SHEET_CTRL", 0x900100, 4, 0x40, 1, 0x40, [⟨31, 31, .sh, 0x0⟩, ⟨30, 30, .sh, 0x0⟩, ⟨29, 27, .sh, 0x0⟩, ⟨26, 24, .sh, 0x0⟩, ⟨23, 20, .sh, 0x9⟩, ⟨19, 18, .sh, 0x1⟩]⟩,
  ⟨"COUCH_SHEET_SIZE", 0x900104, 4, 0x40, 1, 0x40, [⟨30, 16, .sh, 0x0⟩, ⟨13, 0, .sh, 0x0⟩]⟩,
  ⟨"COUCH_SHEET_BUF_LO", 0x900108, 4, 0x40, 1, 0x40, [⟨31, 8, .sh, 0x0⟩]⟩,
  ⟨"COUCH_SHEET_BUF_HI", 0x90010C, 4, 0x40, 1, 0x40, [⟨31, 16, .sh, 0x0⟩, ⟨15, 0, .sh, 0x0⟩]⟩,
  ⟨"COUCH_SHEET_LUM", 0x900110, 4, 0x40, 1, 0x40, [⟨31, 16, .sh, 0x3E8⟩, ⟨15, 0, .sh, 0xCB⟩]⟩,
  ⟨"COUCH_SHEET_BG", 0x900114, 4, 0x40, 1, 0x40, [⟨29, 20, .sh, 0x0⟩, ⟨19, 10, .sh, 0x0⟩, ⟨9, 0, .sh, 0x0⟩]⟩,
  ⟨"COUCH_SHEET_OFFSET", 0x900118, 4, 0x40, 1, 0x40, [⟨31, 0, .sh, 0x0⟩]⟩,
  ⟨"COUCH_SHEET_STS", 0x900120, 4, 0x40, 1, 0x40, [⟨31, 31, .ro, 0x0⟩, ⟨30, 30, .ro, 0x0⟩]⟩]

/-- Registers of the couch control block, part 2. -/
def RegTable.couch2 : List RegDesc := [
  ⟨"COUCH_SHEET_PIC", 0x900124, 4, 0x40, 1, 0x40, [⟨31, 0, .ro, 0x0⟩]⟩,
  ⟨"COUCH_LAYER_CTRL", 0x901000, 64, 0x40, 1, 0x40, [⟨31, 31, .sh, 0x0⟩, ⟨30, 29, .sh, 0x0⟩, ⟨28, 23, .sh, 0x0⟩, ⟨22, 21, .sh, 0x0⟩, ⟨20, 19, .sh, 0x0⟩, ⟨18, 18, .sh, 0x0⟩, ⟨17, 17, .sh, 0x0⟩, ⟨15, 8, .sh, 0x1⟩]⟩,
  ⟨"COUCH_LAYER_SRC", 0x901004, 64, 0x40, 1, 0x40, [⟨31, 29, .sh, 0x0⟩, ⟨21, 16, .sh, 0x0⟩, ⟨3, 0, .sh, 0x0⟩]⟩,
  ⟨"COUCH_LAYER_CROP_XY", 0x901008, 64, 0x40, 1, 0x40, [⟨31, 16, .sh, 0x0⟩, ⟨15, 0, .sh, 0x0⟩]⟩,
  ⟨"COUCH_LAYER_CROP_WH", 0x90100C, 64, 0x40, 1, 0x40, [⟨31, 16, .sh, 0x0⟩, ⟨15, 0, .sh, 0x0⟩]⟩,
  ⟨"COUCH_LAYER_DST_XY", 0x901010, 64, 0x40, 1, 0x40, [⟨31, 16, .sh, 0x0⟩, ⟨15, 0, .sh, 0x0⟩]⟩,
  ⟨"COUCH_LAYER_DST_WH", 0x901014, 64, 0x40, 1, 0x40, [⟨31, 16, .sh, 0x0⟩, ⟨15, 0, .sh, 0x0⟩]⟩,
  ⟨"COUCH_LAYER_MIX", 0x901018, 64, 0x40, 1, 0x40, [⟨31, 16, .sh, 0xFFFF⟩, ⟨7, 4, .sh, 0x4⟩, ⟨3, 0, .sh, 0x4⟩]⟩,
  ⟨"COUCH_LAYER_FILL", 0x90101C, 64, 0x40, 1, 0x40, [⟨29, 20, .sh, 0x0⟩, ⟨19, 10, .sh, 0x0⟩, ⟨9, 0, .sh, 0x0⟩]⟩,
  ⟨"COUCH_LAYER_BUF_LO", 0x901020, 64, 0x40, 1, 0x40, [⟨31, 8, .sh, 0x0⟩]⟩,
  ⟨"COUCH_LAYER_BUF_HI", 0x901024, 64, 0x40, 1, 0x40, [⟨31, 16, .sh, 0x0⟩, ⟨15, 0, .sh, 0x0⟩]⟩,
  ⟨"COUCH_LAYER_BUF_SIZE", 0x901028, 64, 0x40, 1, 0x40, [⟨30, 16, .sh, 0x0⟩, ⟨13, 0, .sh, 0x0⟩]⟩]

/-- Registers of the couch control block, part 3. -/
def RegTable.couch3 : List RegDesc := [
  ⟨"COUCH_LAYER_STS", 0x901030, 64, 0x40, 1, 0x40, [⟨31, 31, .w1c, 0x0⟩, ⟨30, 30, .w1c, 0x0⟩, ⟨29, 29, .w1c, 0x0⟩, ⟨7, 4, .ro, 0x0⟩, ⟨3, 0, .ro, 0x0⟩]⟩,
  ⟨"COUCH_LAYER_CNT", 0x901034, 64, 0x40, 1, 0x40, [⟨31, 16, .rc, 0x0⟩, ⟨15, 0, .rc, 0x0⟩]⟩,
  ⟨"COUCH_LAYER_ALLOC", 0x902000, 64, 0x40, 16, 0x4, [⟨10, 0, .sh, 0x0⟩]⟩,
  ⟨"COUCH_CM_CFG", 0x904040, 15, 0x40, 1, 0x40, [⟨31, 31, .sh, 0x0⟩, ⟨6, 4, .sh, 0x0⟩, ⟨3, 0, .sh, 0x0⟩]⟩,
  ⟨"COUCH_CM_EXP", 0x904044, 15, 0x40, 8, 0x4, [⟨31, 0, .sh, 0x0⟩]⟩,
  ⟨"COUCH_CM_STS", 0x904064, 15, 0x40, 1, 0x40, [⟨31, 31, .w1c, 0x0⟩, ⟨30, 30, .ro, 0x0⟩, ⟨29, 29, .ro, 0x0⟩, ⟨28, 28, .ro, 0x0⟩, ⟨15, 0, .ro, 0x0⟩]⟩,
  ⟨"COUCH_CM_LAST", 0x904068, 15, 0x40, 1, 0x40, [⟨31, 0, .ro, 0x0⟩]⟩,
  ⟨"COUCH_CM_PIC", 0x90406C, 15, 0x40, 1, 0x40, [⟨31, 0, .ro, 0x0⟩]⟩]

/-- Registers of the couch control block. -/
def RegTable.couch : List RegDesc := RegTable.couch1 ++ RegTable.couch2 ++ RegTable.couch3

/-- Registers of the press block, part 1. -/
def RegTable.press1 : List RegDesc := [
  ⟨"PRESS.COMMIT", 0xA00000, 1, 0x4, 1, 0x4, [⟨31, 24, .wo, 0x0⟩, ⟨15, 0, .wo, 0x0⟩]⟩,
  ⟨"PRESS.COMMIT_SEL", 0xA00004, 1, 0x4, 1, 0x4, [⟨15, 0, .lv, 0x0⟩]⟩,
  ⟨"PRESS.COMMIT_STS", 0xA00008, 1, 0x4, 1, 0x4, [⟨31, 31, .ro, 0x0⟩, ⟨30, 30, .w1c, 0x0⟩, ⟨23, 16, .ro, 0x0⟩, ⟨15, 0, .ro, 0x0⟩]⟩,
  ⟨"PRESS_EVT", 0xA00010, 1, 0x4, 1, 0x4, [⟨31, 31, .lv, 0x0⟩, ⟨29, 24, .lv, 0x0⟩, ⟨23, 15, .lv, 0x0⟩]⟩,
  ⟨"PRESS_CTX_CTRL", 0xA01000, 64, 0x80, 1, 0x80, [⟨31, 31, .sh, 0x0⟩, ⟨30, 28, .sh, 0x0⟩, ⟨27, 22, .sh, 0x0⟩, ⟨21, 20, .sh, 0x1⟩, ⟨19, 19, .sh, 0x0⟩, ⟨15, 8, .sh, 0x4⟩, ⟨7, 4, .sh, 0x1⟩, ⟨3, 0, .sh, 0x9⟩]⟩,
  ⟨"PRESS_CTX_PIPES", 0xA01004, 64, 0x80, 1, 0x80, [⟨17, 17, .sh, 0x0⟩, ⟨15, 0, .sh, 0x0⟩]⟩,
  ⟨"PRESS_CTX_SIZE", 0xA01008, 64, 0x80, 1, 0x80, [⟨30, 16, .sh, 0x0⟩, ⟨13, 0, .sh, 0x0⟩]⟩,
  ⟨"PRESS_CTX_QP", 0xA0100C, 64, 0x80, 1, 0x80, [⟨5, 0, .sh, 0x16⟩]⟩,
  ⟨"PRESS_CTX_BUDGET", 0xA01010, 64, 0x80, 1, 0x80, [⟨31, 0, .sh, 0x0⟩]⟩,
  ⟨"PRESS_CTX_RSV", 0xA01014, 64, 0x80, 1, 0x80, [⟨31, 16, .sh, 0x258⟩, ⟨15, 0, .sh, 0x8⟩]⟩,
  ⟨"PRESS_CTX_SEARCH", 0xA01018, 64, 0x80, 1, 0x80, [⟨31, 24, .sh, 0x10⟩, ⟨23, 16, .sh, 0x40⟩]⟩,
  ⟨"PRESS_CTX_KEY", 0xA0101C, 64, 0x80, 1, 0x80, [⟨31, 31, .sh, 0x1⟩, ⟨30, 30, .sh, 0x0⟩, ⟨29, 29, .sh, 0x0⟩, ⟨27, 26, .sh, 0x1⟩, ⟨25, 25, .sh, 0x0⟩, ⟨23, 16, .sh, 0x8⟩, ⟨15, 0, .sh, 0x0⟩]⟩]

/-- Registers of the press block, part 2. -/
def RegTable.press2 : List RegDesc := [
  ⟨"PRESS_CTX_OUT_LO", 0xA01020, 64, 0x80, 1, 0x80, [⟨31, 8, .sh, 0x0⟩]⟩,
  ⟨"PRESS_CTX_OUT_HI", 0xA01024, 64, 0x80, 1, 0x80, [⟨31, 20, .sh, 0x0⟩, ⟨19, 16, .sh, 0x0⟩, ⟨15, 0, .sh, 0x0⟩]⟩,
  ⟨"PRESS_CTX_REF_LO", 0xA01028, 64, 0x80, 1, 0x80, [⟨31, 8, .sh, 0x0⟩]⟩,
  ⟨"PRESS_CTX_REF_HI", 0xA0102C, 64, 0x80, 1, 0x80, [⟨31, 20, .sh, 0x0⟩, ⟨15, 0, .sh, 0x0⟩]⟩,
  ⟨"PRESS_CTX_STATS", 0xA01030, 64, 0x80, 1, 0x80, [⟨31, 29, .sh, 0x2⟩, ⟨25, 5, .sh, 0x0⟩]⟩,
  ⟨"PRESS_CTX_TABLE", 0xA01034, 64, 0x80, 1, 0x80, [⟨25, 5, .sh, 0x0⟩]⟩,
  ⟨"PRESS_CTX_FILL", 0xA01038, 64, 0x80, 1, 0x80, [⟨29, 20, .sh, 0x40⟩, ⟨19, 10, .sh, 0x200⟩, ⟨9, 0, .sh, 0x200⟩]⟩,
  ⟨"PRESS_CTX_STS", 0xA01040, 64, 0x80, 1, 0x80, [⟨31, 31, .ro, 0x0⟩, ⟨30, 30, .ro, 0x0⟩, ⟨29, 29, .ro, 0x0⟩, ⟨28, 28, .ro, 0x0⟩, ⟨27, 27, .ro, 0x0⟩]⟩,
  ⟨"PRESS_CTX_PIC", 0xA01044, 64, 0x80, 1, 0x80, [⟨31, 0, .ro, 0x0⟩]⟩,
  ⟨"PRESS_CTX_CNT", 0xA01048, 64, 0x80, 1, 0x80, [⟨31, 16, .rc, 0x0⟩, ⟨15, 0, .rc, 0x0⟩]⟩,
  ⟨"PRESS_CTX_EVT", 0xA0103C, 64, 0x80, 1, 0x80, [⟨31, 31, .lv, 0x0⟩, ⟨29, 24, .lv, 0x0⟩, ⟨23, 15, .lv, 0x0⟩]⟩,
  ⟨"PRESS_CTX_BRATE", 0xA0104C, 64, 0x80, 1, 0x80, [⟨19, 0, .sh, 0x0⟩]⟩]

/-- Registers of the press block, part 3. -/
def RegTable.press3 : List RegDesc := [
  ⟨"PRESS_PIPE_STS", 0xA08000, 16, 0x10000, 1, 0x10000, [⟨31, 31, .ro, 0x0⟩, ⟨30, 30, .ro, 0x0⟩, ⟨5, 0, .ro, 0x0⟩]⟩,
  ⟨"PRESS_PIPE_RING", 0xA08020, 16, 0x10000, 1, 0x10000, [⟨25, 4, .lv, 0x0⟩]⟩,
  ⟨"PRESS_PIPE_RING_CTL", 0xA08024, 16, 0x10000, 1, 0x10000, [⟨31, 16, .ro, 0x0⟩, ⟨15, 0, .lv, 0x0⟩]⟩]

/-- Registers of the press block. -/
def RegTable.press : List RegDesc := RegTable.press1 ++ RegTable.press2 ++ RegTable.press3

/-- Registers of the imposition block, part 1. -/
def RegTable.imp1 : List RegDesc := [
  ⟨"IMP.COMMIT", 0xB00000, 1, 0x4, 1, 0x4, [⟨31, 24, .wo, 0x0⟩, ⟨15, 0, .wo, 0x0⟩]⟩,
  ⟨"IMP.COMMIT_SEL", 0xB00004, 1, 0x4, 1, 0x4, [⟨15, 0, .lv, 0x0⟩]⟩,
  ⟨"IMP.COMMIT_STS", 0xB00008, 1, 0x4, 1, 0x4, [⟨31, 31, .ro, 0x0⟩, ⟨30, 30, .w1c, 0x0⟩, ⟨23, 16, .ro, 0x0⟩, ⟨15, 0, .ro, 0x0⟩]⟩,
  ⟨"IMP_EVT", 0xB00010, 1, 0x4, 1, 0x4, [⟨31, 31, .lv, 0x0⟩, ⟨29, 24, .lv, 0x0⟩, ⟨23, 15, .lv, 0x0⟩]⟩,
  ⟨"IMP_STS", 0xB00020, 1, 0x4, 1, 0x4, [⟨31, 31, .ro, 0x1⟩, ⟨14, 0, .ro, 0x0⟩]⟩,
  ⟨"IMP_CNT", 0xB00024, 1, 0x4, 1, 0x4, [⟨31, 24, .rc, 0x0⟩, ⟨23, 12, .rc, 0x0⟩, ⟨11, 0, .rc, 0x0⟩]⟩,
  ⟨"IMP_RING", 0xB00030, 1, 0x4, 1, 0x4, [⟨25, 4, .lv, 0x0⟩]⟩,
  ⟨"IMP_RING_CTL", 0xB00034, 1, 0x4, 1, 0x4, [⟨31, 16, .ro, 0x0⟩, ⟨15, 0, .lv, 0x0⟩]⟩,
  ⟨"IMP_BC_RING", 0xB00040, 1, 0x4, 1, 0x4, [⟨25, 4, .lv, 0x0⟩]⟩,
  ⟨"IMP_BC_RING_CTL", 0xB00044, 1, 0x4, 1, 0x4, [⟨31, 16, .ro, 0x0⟩, ⟨15, 0, .lv, 0x0⟩]⟩,
  ⟨"IMP_ECHO", 0xB00048, 1, 0x4, 1, 0x4, [⟨31, 31, .sh, 0x0⟩]⟩,
  ⟨"IMP_HOP", 0xB00050, 1, 0x4, 1, 0x4, [⟨7, 0, .sh, 0x0⟩]⟩]

/-- Registers of the imposition block, part 2. -/
def RegTable.imp2 : List RegDesc := [
  ⟨"IMP_FB_CFG", 0xB00110, 15, 0x10, 1, 0x10, [⟨31, 31, .sh, 0x0⟩, ⟨29, 20, .sh, 0x0⟩, ⟨19, 10, .sh, 0x0⟩, ⟨9, 0, .sh, 0x0⟩]⟩,
  ⟨"IMP_FB_LO", 0xB00114, 15, 0x10, 1, 0x10, [⟨31, 8, .sh, 0x0⟩]⟩,
  ⟨"IMP_FB_HI", 0xB00118, 15, 0x10, 1, 0x10, [⟨15, 0, .sh, 0x0⟩]⟩,
  ⟨"IMP_CAL", 0xB08000, 64, 0x20, 8, 0x4, [⟨31, 0, .sh, 0x0⟩]⟩]

/-- Registers of the imposition block. -/
def RegTable.imp : List RegDesc := RegTable.imp1 ++ RegTable.imp2

/-- Registers of the wall channels block, part 1. -/
def RegTable.wch1 : List RegDesc := [
  ⟨"WCH_CTRL", 0xB10000, 512, 0x100, 1, 0x100, [⟨31, 31, .sh, 0x0⟩, ⟨30, 29, .sh, 0x0⟩, ⟨28, 28, .sh, 0x0⟩, ⟨27, 27, .sh, 0x0⟩, ⟨26, 26, .sh, 0x0⟩, ⟨25, 20, .sh, 0x0⟩, ⟨19, 14, .sh, 0x0⟩]⟩,
  ⟨"WCH_KEY", 0xB10004, 512, 0x100, 1, 0x100, [⟨31, 24, .sh, 0x0⟩, ⟨9, 0, .sh, 0x0⟩]⟩,
  ⟨"WCH_MAC_LO", 0xB10008, 512, 0x100, 1, 0x100, [⟨31, 0, .sh, 0x0⟩]⟩,
  ⟨"WCH_MAC_HI", 0xB1000C, 512, 0x100, 1, 0x100, [⟨31, 16, .sh, 0x0⟩, ⟨15, 0, .sh, 0x0⟩]⟩,
  ⟨"WCH_VLAN", 0xB10010, 512, 0x100, 1, 0x100, [⟨15, 13, .sh, 0x0⟩, ⟨11, 0, .sh, 0x0⟩]⟩,
  ⟨"WCH_PORT", 0xB10024, 512, 0x100, 1, 0x100, [⟨31, 16, .sh, 0x0⟩, ⟨15, 0, .sh, 0x0⟩]⟩,
  ⟨"WCH_TM", 0xB10028, 512, 0x100, 1, 0x100, [⟨9, 0, .sh, 0x0⟩]⟩,
  ⟨"WCH_SEQ", 0xB10030, 512, 0x100, 1, 0x100, [⟨31, 0, .ro, 0x0⟩]⟩,
  ⟨"WCH_EPOCH", 0xB10034, 512, 0x100, 1, 0x100, [⟨15, 0, .ro, 0x0⟩]⟩,
  ⟨"WCH_STS", 0xB10038, 512, 0x100, 1, 0x100, [⟨31, 31, .ro, 0x0⟩, ⟨30, 30, .ro, 0x0⟩, ⟨29, 29, .ro, 0x0⟩, ⟨28, 28, .ro, 0x0⟩]⟩,
  ⟨"WCH_CNT", 0xB1003C, 512, 0x100, 1, 0x100, [⟨31, 16, .rc, 0x0⟩, ⟨15, 8, .rc, 0x0⟩, ⟨7, 0, .rc, 0x0⟩]⟩,
  ⟨"WCH_DST_IP", 0xB10014, 512, 0x100, 4, 0x4, [⟨31, 0, .sh, 0x0⟩]⟩]

/-- Registers of the wall channels block, part 2. -/
def RegTable.wch2 : List RegDesc := [
  ⟨"WCH_RX", 0xB10080, 512, 0x100, 16, 0x8, [⟨31, 31, .sh, 0x0⟩, ⟨30, 28, .sh, 0x0⟩, ⟨27, 26, .sh, 0x3⟩, ⟨25, 25, .sh, 0x0⟩, ⟨17, 9, .sh, 0x0⟩, ⟨8, 0, .sh, 0x0⟩]⟩,
  ⟨"WCH_RX_STS", 0xB10084, 512, 0x100, 16, 0x8, [⟨31, 29, .ro, 0x0⟩, ⟨28, 27, .ro, 0x0⟩, ⟨15, 0, .ro, 0x0⟩]⟩]

/-- Registers of the wall channels block. -/
def RegTable.wch : List RegDesc := RegTable.wch1 ++ RegTable.wch2

/-- Registers of the ingest block, part 1. -/
def RegTable.ing1 : List RegDesc := [
  ⟨"ING.COMMIT", 0xC00000, 1, 0x4, 1, 0x4, [⟨31, 24, .wo, 0x0⟩, ⟨15, 0, .wo, 0x0⟩]⟩,
  ⟨"ING.COMMIT_SEL", 0xC00004, 1, 0x4, 1, 0x4, [⟨15, 0, .lv, 0x0⟩]⟩,
  ⟨"ING.COMMIT_STS", 0xC00008, 1, 0x4, 1, 0x4, [⟨31, 31, .ro, 0x0⟩, ⟨30, 30, .w1c, 0x0⟩, ⟨23, 16, .ro, 0x0⟩, ⟨15, 0, .ro, 0x0⟩]⟩,
  ⟨"ING_RING", 0xC00800, 16, 0x10, 1, 0x10, [⟨25, 4, .lv, 0x0⟩]⟩,
  ⟨"ING_RING_CTL", 0xC00804, 16, 0x10, 1, 0x10, [⟨31, 16, .ro, 0x0⟩, ⟨15, 0, .lv, 0x0⟩]⟩,
  ⟨"ING_SESS_CFG", 0xC01000, 64, 0x40, 1, 0x40, [⟨31, 31, .sh, 0x0⟩, ⟨30, 28, .sh, 0x0⟩, ⟨27, 27, .sh, 0x0⟩, ⟨26, 22, .sh, 0x0⟩, ⟨21, 17, .sh, 0x0⟩, ⟨16, 16, .sh, 0x0⟩, ⟨15, 8, .sh, 0x1⟩, ⟨7, 7, .sh, 0x0⟩, ⟨5, 0, .sh, 0x0⟩]⟩,
  ⟨"ING_SESS_SIZE", 0xC01004, 64, 0x40, 1, 0x40, [⟨30, 16, .sh, 0x0⟩, ⟨13, 0, .sh, 0x0⟩]⟩,
  ⟨"ING_SESS_FMT", 0xC01008, 64, 0x40, 1, 0x40, [⟨19, 16, .sh, 0x9⟩, ⟨15, 12, .sh, 0x0⟩, ⟨11, 8, .sh, 0x1⟩, ⟨7, 6, .sh, 0x0⟩, ⟨5, 4, .sh, 0x0⟩, ⟨3, 3, .sh, 0x0⟩, ⟨2, 1, .sh, 0x0⟩]⟩,
  ⟨"ING_SESS_PITCH", 0xC01014, 64, 0x40, 1, 0x40, [⟨31, 16, .sh, 0x0⟩, ⟨3, 0, .sh, 0x0⟩]⟩,
  ⟨"ING_SESS_TIME", 0xC01018, 64, 0x40, 1, 0x40, [⟨31, 16, .sh, 0x0⟩, ⟨15, 0, .sh, 0xC8⟩]⟩,
  ⟨"ING_SESS_STS", 0xC01020, 64, 0x40, 1, 0x40, [⟨31, 29, .ro, 0x0⟩, ⟨28, 25, .ro, 0x0⟩, ⟨24, 21, .ro, 0xF⟩, ⟨20, 11, .ro, 0x0⟩, ⟨10, 0, .ro, 0x0⟩]⟩,
  ⟨"ING_SESS_CNT", 0xC01028, 64, 0x40, 1, 0x40, [⟨31, 16, .rc, 0x0⟩, ⟨15, 8, .rc, 0x0⟩, ⟨7, 0, .rc, 0x0⟩]⟩]

/-- Registers of the ingest block, part 2. -/
def RegTable.ing2 : List RegDesc := [
  ⟨"ING_SESS_BUF_LO", 0xC0100C, 64, 0x40, 1, 0x40, [⟨31, 8, .sh, 0x0⟩]⟩,
  ⟨"ING_SESS_BUF_HI", 0xC01010, 64, 0x40, 1, 0x40, [⟨15, 0, .sh, 0x0⟩]⟩,
  ⟨"ING_SESS_EVT", 0xC0101C, 64, 0x40, 1, 0x40, [⟨31, 31, .lv, 0x0⟩, ⟨29, 24, .lv, 0x0⟩, ⟨23, 15, .lv, 0x0⟩]⟩,
  ⟨"ING_SESS_RX", 0xC01024, 64, 0x40, 1, 0x40, [⟨30, 16, .ro, 0x0⟩, ⟨13, 0, .ro, 0x0⟩]⟩,
  ⟨"ING_OUT_CFG", 0xC03000, 8, 0x10, 1, 0x10, [⟨31, 31, .rw, 0x0⟩, ⟨30, 30, .rw, 0x0⟩, ⟨29, 28, .rw, 0x0⟩, ⟨27, 26, .rw, 0x0⟩, ⟨25, 16, .rw, 0x0⟩, ⟨13, 0, .rw, 0x0⟩]⟩,
  ⟨"ING_OUT_STS", 0xC03004, 8, 0x10, 1, 0x10, [⟨31, 24, .ro, 0x0⟩, ⟨23, 23, .ro, 0x0⟩, ⟨15, 8, .ro, 0x0⟩, ⟨7, 0, .ro, 0x0⟩]⟩,
  ⟨"ING_OUT_LANE", 0xC03400, 8, 0x80, 1, 0x80, [⟨31, 31, .rw, 0x0⟩, ⟨30, 30, .rw, 0x0⟩, ⟨29, 24, .rw, 0x0⟩, ⟨21, 16, .rw, 0x0⟩]⟩,
  ⟨"ING_OUT_A_MAC_LO", 0xC03404, 8, 0x80, 1, 0x80, [⟨31, 0, .rw, 0x0⟩]⟩,
  ⟨"ING_OUT_A_MAC_HI", 0xC03408, 8, 0x80, 1, 0x80, [⟨15, 0, .rw, 0x0⟩]⟩,
  ⟨"ING_OUT_A_VLAN", 0xC0340C, 8, 0x80, 1, 0x80, [⟨15, 13, .rw, 0x0⟩, ⟨11, 0, .rw, 0x0⟩]⟩,
  ⟨"ING_OUT_A_DST_IP0", 0xC03410, 8, 0x80, 1, 0x80, [⟨31, 0, .rw, 0x0⟩]⟩,
  ⟨"ING_OUT_A_DST_IP1", 0xC03414, 8, 0x80, 1, 0x80, [⟨31, 0, .rw, 0x0⟩]⟩]

/-- Registers of the ingest block, part 3. -/
def RegTable.ing3 : List RegDesc := [
  ⟨"ING_OUT_A_DST_IP2", 0xC03418, 8, 0x80, 1, 0x80, [⟨31, 0, .rw, 0x0⟩]⟩,
  ⟨"ING_OUT_A_DST_IP3", 0xC0341C, 8, 0x80, 1, 0x80, [⟨31, 0, .rw, 0x0⟩]⟩,
  ⟨"ING_OUT_A_PORT", 0xC03420, 8, 0x80, 1, 0x80, [⟨31, 16, .rw, 0x0⟩, ⟨15, 0, .rw, 0x0⟩]⟩,
  ⟨"ING_OUT_B_MAC_LO", 0xC03428, 8, 0x80, 1, 0x80, [⟨31, 0, .rw, 0x0⟩]⟩,
  ⟨"ING_OUT_B_MAC_HI", 0xC0342C, 8, 0x80, 1, 0x80, [⟨15, 0, .rw, 0x0⟩]⟩,
  ⟨"ING_OUT_B_VLAN", 0xC03430, 8, 0x80, 1, 0x80, [⟨15, 13, .rw, 0x0⟩, ⟨11, 0, .rw, 0x0⟩]⟩,
  ⟨"ING_OUT_B_DST_IP0", 0xC03434, 8, 0x80, 1, 0x80, [⟨31, 0, .rw, 0x0⟩]⟩,
  ⟨"ING_OUT_B_DST_IP1", 0xC03438, 8, 0x80, 1, 0x80, [⟨31, 0, .rw, 0x0⟩]⟩,
  ⟨"ING_OUT_B_DST_IP2", 0xC0343C, 8, 0x80, 1, 0x80, [⟨31, 0, .rw, 0x0⟩]⟩,
  ⟨"ING_OUT_B_DST_IP3", 0xC03440, 8, 0x80, 1, 0x80, [⟨31, 0, .rw, 0x0⟩]⟩,
  ⟨"ING_OUT_B_PORT", 0xC03444, 8, 0x80, 1, 0x80, [⟨31, 16, .rw, 0x0⟩, ⟨15, 0, .rw, 0x0⟩]⟩,
  ⟨"ING_OUT_RTP", 0xC03450, 8, 0x80, 1, 0x80, [⟨30, 24, .rw, 0x60⟩, ⟨15, 0, .rw, 0x0⟩]⟩]

/-- Registers of the ingest block, part 4. -/
def RegTable.ing4 : List RegDesc := [
  ⟨"ING_OUT_SSRC", 0xC03454, 8, 0x80, 1, 0x80, [⟨31, 0, .rw, 0x0⟩]⟩]

/-- Registers of the ingest block. -/
def RegTable.ing : List RegDesc := RegTable.ing1 ++ RegTable.ing2 ++ RegTable.ing3 ++ RegTable.ing4

/-- Registers of the traffic manager block, part 1. -/
def RegTable.tm1 : List RegDesc := [
  ⟨"TM.COMMIT", 0xD00000, 1, 0x4, 1, 0x4, [⟨31, 24, .wo, 0x0⟩, ⟨15, 0, .wo, 0x0⟩]⟩,
  ⟨"TM.COMMIT_SEL", 0xD00004, 1, 0x4, 1, 0x4, [⟨15, 0, .lv, 0x0⟩]⟩,
  ⟨"TM.COMMIT_STS", 0xD00008, 1, 0x4, 1, 0x4, [⟨31, 31, .ro, 0x0⟩, ⟨30, 30, .w1c, 0x0⟩, ⟨23, 16, .ro, 0x0⟩, ⟨15, 0, .ro, 0x0⟩]⟩,
  ⟨"TM_EVT", 0xD00010, 1, 0x4, 1, 0x4, [⟨31, 31, .lv, 0x0⟩, ⟨29, 24, .lv, 0x0⟩, ⟨23, 15, .lv, 0x0⟩]⟩,
  ⟨"TM_STS", 0xD00020, 1, 0x4, 1, 0x4, [⟨31, 31, .w1c, 0x0⟩, ⟨30, 30, .ro, 0x0⟩, ⟨21, 0, .ro, 0x0⟩]⟩,
  ⟨"TM_RING", 0xD00030, 1, 0x4, 1, 0x4, [⟨25, 4, .lv, 0x0⟩]⟩,
  ⟨"TM_RING_CTL", 0xD00034, 1, 0x4, 1, 0x4, [⟨31, 16, .ro, 0x0⟩, ⟨15, 0, .lv, 0x0⟩]⟩,
  ⟨"TM_SUB_CFG", 0xD10000, 1024, 0x20, 1, 0x20, [⟨31, 31, .sh, 0x0⟩, ⟨30, 30, .sh, 0x0⟩, ⟨29, 27, .sh, 0x0⟩, ⟨23, 16, .sh, 0x1⟩, ⟨13, 8, .sh, 0x0⟩, ⟨7, 0, .sh, 0x0⟩]⟩,
  ⟨"TM_SVC_CFG", 0xD20000, 336, 0x20, 1, 0x20, [⟨31, 31, .sh, 0x0⟩, ⟨30, 30, .sh, 0x0⟩, ⟨23, 16, .sh, 0x1⟩, ⟨7, 0, .sh, 0x0⟩]⟩,
  ⟨"TM_SUB_RATE", 0xD10004, 1024, 0x20, 1, 0x20, [⟨19, 16, .sh, 0x0⟩, ⟨15, 0, .sh, 0x0⟩]⟩,
  ⟨"TM_SVC_RATE", 0xD20004, 336, 0x20, 1, 0x20, [⟨19, 16, .sh, 0x0⟩, ⟨15, 0, .sh, 0x0⟩]⟩,
  ⟨"TM_SUB_BURST", 0xD10008, 1024, 0x20, 1, 0x20, [⟨23, 0, .sh, 0x0⟩]⟩]

/-- Registers of the traffic manager block, part 2. -/
def RegTable.tm2 : List RegDesc := [
  ⟨"TM_SVC_BURST", 0xD20008, 336, 0x20, 1, 0x20, [⟨23, 0, .sh, 0x0⟩]⟩,
  ⟨"TM_SUB_TOK", 0xD1000C, 1024, 0x20, 1, 0x20, [⟨31, 0, .ro, 0x0⟩]⟩,
  ⟨"TM_SVC_TOK", 0xD2000C, 336, 0x20, 1, 0x20, [⟨31, 0, .ro, 0x0⟩]⟩,
  ⟨"TM_GATE_CTRL", 0xD30000, 42, 0x1000, 1, 0x1000, [⟨31, 31, .sh, 0x0⟩, ⟨30, 30, .sh, 0x0⟩, ⟨29, 27, .sh, 0x0⟩, ⟨8, 0, .sh, 0x0⟩]⟩,
  ⟨"TM_GATE_BASE_S_LO", 0xD30004, 42, 0x1000, 1, 0x1000, [⟨31, 0, .sh, 0x0⟩]⟩,
  ⟨"TM_GATE_BASE_S_HI", 0xD30008, 42, 0x1000, 1, 0x1000, [⟨15, 0, .sh, 0x0⟩]⟩,
  ⟨"TM_GATE_BASE_NS", 0xD3000C, 42, 0x1000, 1, 0x1000, [⟨29, 0, .sh, 0x0⟩]⟩,
  ⟨"TM_GATE_CYCLE", 0xD30010, 42, 0x1000, 1, 0x1000, [⟨31, 0, .sh, 0x0⟩]⟩,
  ⟨"TM_GATE_STS", 0xD30020, 42, 0x1000, 1, 0x1000, [⟨31, 31, .ro, 0x0⟩, ⟨30, 30, .w1c, 0x0⟩, ⟨29, 29, .w1c, 0x0⟩, ⟨7, 0, .ro, 0x0⟩]⟩,
  ⟨"TM_GATE_START_S_LO", 0xD30024, 42, 0x1000, 1, 0x1000, [⟨31, 0, .ro, 0x0⟩]⟩,
  ⟨"TM_GATE_START_S_HI", 0xD30028, 42, 0x1000, 1, 0x1000, [⟨15, 0, .ro, 0x0⟩]⟩,
  ⟨"TM_GATE_START_NS", 0xD3002C, 42, 0x1000, 1, 0x1000, [⟨29, 0, .ro, 0x0⟩]⟩]

/-- Registers of the traffic manager block, part 3. -/
def RegTable.tm3 : List RegDesc := [
  ⟨"TM_GATE_ENT", 0xD30400, 42, 0x1000, 256, 0x4, [⟨31, 24, .sh, 0xFF⟩, ⟨23, 0, .sh, 0x0⟩]⟩,
  ⟨"TM_POL_CFG", 0xD60000, 512, 0x20, 1, 0x20, [⟨31, 31, .lv, 0x0⟩, ⟨30, 30, .lv, 0x0⟩, ⟨29, 29, .lv, 0x0⟩]⟩,
  ⟨"TM_POL_CIR", 0xD60004, 512, 0x20, 1, 0x20, [⟨19, 16, .lv, 0x0⟩, ⟨15, 0, .lv, 0x0⟩]⟩,
  ⟨"TM_POL_EIR", 0xD60008, 512, 0x20, 1, 0x20, [⟨19, 16, .lv, 0x0⟩, ⟨15, 0, .lv, 0x0⟩]⟩,
  ⟨"TM_POL_CBS", 0xD6000C, 512, 0x20, 1, 0x20, [⟨23, 0, .lv, 0x0⟩]⟩,
  ⟨"TM_POL_EBS", 0xD60010, 512, 0x20, 1, 0x20, [⟨23, 0, .lv, 0x0⟩]⟩,
  ⟨"TM_POL_CNT_G", 0xD60014, 512, 0x20, 1, 0x20, [⟨31, 0, .rc, 0x0⟩]⟩,
  ⟨"TM_POL_CNT_Y", 0xD60018, 512, 0x20, 1, 0x20, [⟨31, 0, .rc, 0x0⟩]⟩,
  ⟨"TM_POL_CNT_R", 0xD6001C, 512, 0x20, 1, 0x20, [⟨31, 0, .rc, 0x0⟩]⟩,
  ⟨"TM_CLS_CTRL", 0xD70000, 512, 0x40, 1, 0x40, [⟨31, 31, .rw, 0x0⟩, ⟨30, 29, .rw, 0x0⟩, ⟨28, 28, .rw, 0x0⟩, ⟨27, 27, .rw, 0x0⟩, ⟨26, 24, .rw, 0x0⟩, ⟨23, 18, .rw, 0x0⟩, ⟨17, 17, .rw, 0x0⟩, ⟨16, 8, .rw, 0x0⟩, ⟨5, 0, .rw, 0x3F⟩]⟩,
  ⟨"TM_CLS_KEY", 0xD70004, 512, 0x40, 1, 0x40, [⟨31, 16, .rw, 0x0⟩, ⟨11, 0, .rw, 0x0⟩]⟩,
  ⟨"TM_CLS_DST", 0xD70010, 512, 0x40, 4, 0x4, [⟨31, 0, .rw, 0x0⟩]⟩]

/-- Registers of the traffic manager block, part 4. -/
def RegTable.tm4 : List RegDesc := [
  ⟨"TM_CLS_SRC", 0xD70020, 512, 0x40, 4, 0x4, [⟨31, 0, .rw, 0x0⟩]⟩,
  ⟨"TM_FLOW_CTRL", 0xD80000, 16, 0x80, 1, 0x80, [⟨31, 31, .rw, 0x0⟩, ⟨30, 30, .rw, 0x0⟩, ⟨29, 29, .rw, 0x0⟩, ⟨28, 28, .rw, 0x0⟩, ⟨27, 22, .rw, 0x0⟩, ⟨21, 16, .rw, 0x0⟩, ⟨15, 10, .rw, 0x0⟩, ⟨9, 0, .rw, 0x0⟩]⟩,
  ⟨"TM_FLOW_A_MAC_LO", 0xD80004, 16, 0x80, 1, 0x80, [⟨31, 0, .rw, 0x0⟩]⟩,
  ⟨"TM_FLOW_A_MAC_HI", 0xD80008, 16, 0x80, 1, 0x80, [⟨15, 0, .rw, 0x0⟩]⟩,
  ⟨"TM_FLOW_A_VLAN", 0xD8000C, 16, 0x80, 1, 0x80, [⟨15, 13, .rw, 0x0⟩, ⟨11, 0, .rw, 0x0⟩]⟩,
  ⟨"TM_FLOW_A_DST_IP0", 0xD80010, 16, 0x80, 1, 0x80, [⟨31, 0, .rw, 0x0⟩]⟩,
  ⟨"TM_FLOW_A_DST_IP1", 0xD80014, 16, 0x80, 1, 0x80, [⟨31, 0, .rw, 0x0⟩]⟩,
  ⟨"TM_FLOW_A_DST_IP2", 0xD80018, 16, 0x80, 1, 0x80, [⟨31, 0, .rw, 0x0⟩]⟩,
  ⟨"TM_FLOW_A_DST_IP3", 0xD8001C, 16, 0x80, 1, 0x80, [⟨31, 0, .rw, 0x0⟩]⟩,
  ⟨"TM_FLOW_A_PORT", 0xD80020, 16, 0x80, 1, 0x80, [⟨31, 16, .rw, 0x0⟩, ⟨15, 0, .rw, 0x0⟩]⟩,
  ⟨"TM_FLOW_B_MAC_LO", 0xD80028, 16, 0x80, 1, 0x80, [⟨31, 0, .rw, 0x0⟩]⟩,
  ⟨"TM_FLOW_B_MAC_HI", 0xD8002C, 16, 0x80, 1, 0x80, [⟨15, 0, .rw, 0x0⟩]⟩]

/-- Registers of the traffic manager block, part 5. -/
def RegTable.tm5 : List RegDesc := [
  ⟨"TM_FLOW_B_VLAN", 0xD80030, 16, 0x80, 1, 0x80, [⟨15, 13, .rw, 0x0⟩, ⟨11, 0, .rw, 0x0⟩]⟩,
  ⟨"TM_FLOW_B_DST_IP0", 0xD80034, 16, 0x80, 1, 0x80, [⟨31, 0, .rw, 0x0⟩]⟩,
  ⟨"TM_FLOW_B_DST_IP1", 0xD80038, 16, 0x80, 1, 0x80, [⟨31, 0, .rw, 0x0⟩]⟩,
  ⟨"TM_FLOW_B_DST_IP2", 0xD8003C, 16, 0x80, 1, 0x80, [⟨31, 0, .rw, 0x0⟩]⟩,
  ⟨"TM_FLOW_B_DST_IP3", 0xD80040, 16, 0x80, 1, 0x80, [⟨31, 0, .rw, 0x0⟩]⟩,
  ⟨"TM_FLOW_B_PORT", 0xD80044, 16, 0x80, 1, 0x80, [⟨31, 16, .rw, 0x0⟩, ⟨15, 0, .rw, 0x0⟩]⟩,
  ⟨"TM_FLOW_RTP", 0xD80050, 16, 0x80, 1, 0x80, [⟨30, 24, .rw, 0x21⟩, ⟨15, 0, .rw, 0x0⟩]⟩,
  ⟨"TM_FLOW_SSRC", 0xD80054, 16, 0x80, 1, 0x80, [⟨31, 0, .rw, 0x0⟩]⟩,
  ⟨"TM_FLOW_PID", 0xD80058, 16, 0x80, 1, 0x80, [⟨28, 16, .rw, 0x100⟩, ⟨12, 0, .rw, 0x101⟩]⟩,
  ⟨"TM_FLOW_APID", 0xD8005C, 16, 0x80, 1, 0x80, [⟨28, 16, .rw, 0x0⟩, ⟨12, 0, .rw, 0x0⟩]⟩,
  ⟨"TM_FLOW_TS", 0xD80060, 16, 0x80, 1, 0x80, [⟨31, 16, .rw, 0x1⟩, ⟨15, 0, .rw, 0x0⟩]⟩]

/-- Registers of the traffic manager block. -/
def RegTable.tm : List RegDesc := RegTable.tm1 ++ RegTable.tm2 ++ RegTable.tm3 ++ RegTable.tm4 ++ RegTable.tm5

/-- Registers of the MACs block. -/
def RegTable.mac : List RegDesc := [
  ⟨"MAC_CTRL", 0xE00000, 42, 0x4000, 1, 0x4000, [⟨31, 31, .rw, 0x0⟩, ⟨30, 29, .rw, 0x0⟩, ⟨28, 27, .rw, 0x0⟩, ⟨26, 26, .rw, 0x0⟩, ⟨25, 25, .rw, 0x0⟩, ⟨24, 24, .rw, 0x0⟩]⟩,
  ⟨"MAC_STS", 0xE00004, 42, 0x4000, 1, 0x4000, [⟨31, 31, .ro, 0x0⟩, ⟨30, 30, .ro, 0x0⟩, ⟨23, 16, .ro, 0x0⟩]⟩,
  ⟨"MAC_SA_LO", 0xE00008, 42, 0x4000, 1, 0x4000, [⟨31, 0, .rw, 0x0⟩]⟩,
  ⟨"MAC_SA_HI", 0xE0000C, 42, 0x4000, 1, 0x4000, [⟨15, 0, .rw, 0x0⟩]⟩,
  ⟨"MAC_IP4", 0xE00010, 42, 0x4000, 1, 0x4000, [⟨31, 0, .rw, 0x0⟩]⟩,
  ⟨"MAC_IP6", 0xE00014, 42, 0x4000, 3, 0x4, [⟨31, 0, .rw, 0x0⟩]⟩,
  ⟨"MAC_CNT_TX", 0xE00020, 42, 0x4000, 1, 0x4000, [⟨31, 0, .rc, 0x0⟩]⟩,
  ⟨"MAC_CNT_RX", 0xE00024, 42, 0x4000, 1, 0x4000, [⟨31, 0, .rc, 0x0⟩]⟩,
  ⟨"MAC_CNT_ERR", 0xE00028, 42, 0x4000, 1, 0x4000, [⟨31, 0, .rc, 0x0⟩]⟩,
  ⟨"MAC_CNT_DROP", 0xE0002C, 42, 0x4000, 1, 0x4000, [⟨31, 0, .rc, 0x0⟩]⟩,
  ⟨"MAC_CNT_PAUSE", 0xE00030, 42, 0x4000, 1, 0x4000, [⟨31, 0, .rc, 0x0⟩]⟩,
  ⟨"MAC_SEC_CFG", 0xE00040, 42, 0x4000, 1, 0x4000, [⟨31, 31, .lv, 0x0⟩, ⟨30, 29, .lv, 0x0⟩, ⟨28, 27, .lv, 0x0⟩, ⟨15, 0, .lv, 0x40⟩]⟩]

/-- Registers of the lanes block. -/
def RegTable.lane : List RegDesc := [
  ⟨"LANE_CTRL", 0xF00000, 58, 0x1000, 1, 0x1000, [⟨3, 2, .rw, 0x0⟩, ⟨1, 1, .rw, 0x0⟩, ⟨0, 0, .rw, 0x0⟩]⟩,
  ⟨"LANE_RX", 0xF00004, 58, 0x1000, 1, 0x1000, [⟨5, 5, .lv, 0x1⟩, ⟨4, 0, .lv, 0x10⟩]⟩,
  ⟨"LANE_TX", 0xF00008, 58, 0x1000, 1, 0x1000, [⟨23, 18, .lv, 0x30⟩, ⟨12, 8, .lv, 0x4⟩, ⟨3, 0, .lv, 0x0⟩]⟩,
  ⟨"LANE_PRBS", 0xF0000C, 58, 0x1000, 1, 0x1000, [⟨31, 31, .lv, 0x0⟩, ⟨30, 30, .lv, 0x0⟩, ⟨29, 29, .lv, 0x0⟩, ⟨28, 26, .lv, 0x0⟩, ⟨25, 25, .w1s, 0x0⟩, ⟨24, 24, .w1s, 0x0⟩, ⟨23, 23, .w1s, 0x0⟩]⟩,
  ⟨"LANE_STS", 0xF00010, 58, 0x1000, 1, 0x1000, [⟨31, 31, .ro, 0x0⟩, ⟨30, 30, .ro, 0x0⟩, ⟨29, 29, .w1c, 0x0⟩, ⟨28, 28, .w1c, 0x0⟩, ⟨20, 16, .ro, 0x0⟩, ⟨15, 0, .ro, 0x0⟩]⟩,
  ⟨"LANE_SNAP_ERR_LO", 0xF00018, 58, 0x1000, 1, 0x1000, [⟨31, 0, .ro, 0x0⟩]⟩,
  ⟨"LANE_SNAP_ERR_HI", 0xF0001C, 58, 0x1000, 1, 0x1000, [⟨15, 0, .ro, 0x0⟩]⟩,
  ⟨"LANE_SNAP_BITS_LO", 0xF00020, 58, 0x1000, 1, 0x1000, [⟨31, 0, .ro, 0x0⟩]⟩,
  ⟨"LANE_SNAP_BITS_HI", 0xF00024, 58, 0x1000, 1, 0x1000, [⟨15, 0, .ro, 0x0⟩]⟩,
  ⟨"LANE_REF_STS", 0xF80000, 1, 0x4, 1, 0x4, [⟨17, 16, .ro, 0x0⟩, ⟨14, 8, .w1c, 0x0⟩, ⟨6, 0, .ro, 0x0⟩]⟩,
  ⟨"LANE_REF_PPM", 0xF80004, 7, 0x4, 1, 0x4, [⟨15, 0, .ro, 0x0⟩]⟩,
  ⟨"LANE_EVT", 0xF80040, 1, 0x4, 1, 0x4, [⟨31, 31, .lv, 0x0⟩, ⟨29, 24, .lv, 0x0⟩, ⟨23, 15, .lv, 0x0⟩]⟩]

/-- Registers of the time block, part 1. -/
def RegTable.time1 : List RegDesc := [
  ⟨"TIME.COMMIT", 0x1000000, 1, 0x4, 1, 0x4, [⟨31, 24, .wo, 0x0⟩, ⟨15, 0, .wo, 0x0⟩]⟩,
  ⟨"TIME.COMMIT_SEL", 0x1000004, 1, 0x4, 1, 0x4, [⟨15, 0, .lv, 0x0⟩]⟩,
  ⟨"TIME.COMMIT_STS", 0x1000008, 1, 0x4, 1, 0x4, [⟨31, 31, .ro, 0x0⟩, ⟨30, 30, .w1c, 0x0⟩, ⟨23, 16, .ro, 0x0⟩, ⟨15, 0, .ro, 0x0⟩]⟩,
  ⟨"TIME_EVT", 0x1000010, 1, 0x4, 1, 0x4, [⟨31, 31, .lv, 0x0⟩, ⟨29, 24, .lv, 0x0⟩, ⟨23, 15, .lv, 0x0⟩]⟩,
  ⟨"TIME_RING", 0x1000014, 1, 0x4, 1, 0x4, [⟨25, 4, .lv, 0x0⟩]⟩,
  ⟨"TIME_RING_CTL", 0x1000018, 1, 0x4, 1, 0x4, [⟨31, 16, .ro, 0x0⟩, ⟨15, 0, .lv, 0x0⟩]⟩,
  ⟨"TIME_RX_RING", 0x1000020, 1, 0x4, 1, 0x4, [⟨25, 4, .lv, 0x0⟩]⟩,
  ⟨"TIME_RX_RING_CTL", 0x1000024, 1, 0x4, 1, 0x4, [⟨31, 16, .ro, 0x0⟩, ⟨15, 0, .lv, 0x0⟩]⟩,
  ⟨"SYS_CTR_CFG", 0x1000030, 1, 0x4, 1, 0x4, [⟨31, 31, .lv, 0x0⟩, ⟨2, 0, .lv, 0x0⟩]⟩,
  ⟨"SYS_CTR_LO", 0x1000034, 1, 0x4, 1, 0x4, [⟨31, 0, .ro, 0x0⟩]⟩,
  ⟨"SYS_CTR_HI", 0x1000038, 1, 0x4, 1, 0x4, [⟨31, 0, .ro, 0x0⟩]⟩,
  ⟨"SYS_CTR_RATE", 0x100003C, 1, 0x4, 1, 0x4, [⟨31, 0, .ro, 0x0⟩]⟩]

/-- Registers of the time block, part 2. -/
def RegTable.time2 : List RegDesc := [
  ⟨"PPS_IN_CFG", 0x1000040, 1, 0x4, 1, 0x4, [⟨31, 31, .lv, 0x0⟩, ⟨2, 0, .lv, 0x0⟩]⟩,
  ⟨"PPS_IN_S", 0x1000044, 1, 0x4, 1, 0x4, [⟨31, 0, .ro, 0x0⟩]⟩,
  ⟨"PPS_IN_NS", 0x1000048, 1, 0x4, 1, 0x4, [⟨29, 0, .ro, 0x0⟩]⟩,
  ⟨"PPS_IN_FRAC", 0x100004C, 1, 0x4, 1, 0x4, [⟨15, 0, .ro, 0x0⟩]⟩,
  ⟨"PPS_OUT_CFG", 0x1000050, 1, 0x4, 1, 0x4, [⟨31, 31, .lv, 0x0⟩, ⟨30, 28, .lv, 0x0⟩, ⟨15, 0, .lv, 0x0⟩]⟩,
  ⟨"PPS_OUT_PHASE", 0x1000054, 1, 0x4, 1, 0x4, [⟨31, 0, .lv, 0x0⟩]⟩,
  ⟨"TIME_ECHO_TBL", 0x1000060, 1, 0x4, 1, 0x4, [⟨25, 5, .lv, 0x0⟩]⟩,
  ⟨"TIME_ECHO_CNT", 0x1000064, 1, 0x4, 1, 0x4, [⟨31, 16, .rc, 0x0⟩, ⟨15, 0, .rc, 0x0⟩]⟩,
  ⟨"TIME_ALLOW", 0x1000100, 4, 0x4, 1, 0x4, [⟨31, 0, .lv, 0x0⟩]⟩,
  ⟨"TB_CTRL", 0x1001000, 8, 0x100, 1, 0x100, [⟨31, 31, .sh, 0x0⟩, ⟨30, 29, .sh, 0x0⟩, ⟨28, 28, .sh, 0x0⟩, ⟨27, 27, .sh, 0x0⟩]⟩,
  ⟨"TB_KP", 0x1001004, 8, 0x100, 1, 0x100, [⟨31, 0, .sh, 0x40000⟩]⟩,
  ⟨"TB_KI", 0x1001008, 8, 0x100, 1, 0x100, [⟨31, 0, .sh, 0x6666⟩]⟩]

/-- Registers of the time block, part 3. -/
def RegTable.time3 : List RegDesc := [
  ⟨"TB_LIMIT", 0x100100C, 8, 0x100, 1, 0x100, [⟨31, 16, .sh, 0x3E8⟩, ⟨9, 0, .sh, 0xC8⟩]⟩,
  ⟨"TB_SET_S_LO", 0x1001010, 8, 0x100, 1, 0x100, [⟨31, 0, .sh, 0x0⟩]⟩,
  ⟨"TB_SET_S_HI", 0x1001014, 8, 0x100, 1, 0x100, [⟨15, 0, .sh, 0x0⟩]⟩,
  ⟨"TB_SET_NS", 0x1001018, 8, 0x100, 1, 0x100, [⟨29, 0, .sh, 0x0⟩]⟩,
  ⟨"TB_UTC", 0x100101C, 8, 0x100, 1, 0x100, [⟨15, 0, .sh, 0x25⟩]⟩,
  ⟨"TB_ID", 0x1001048, 8, 0x100, 2, 0x4, [⟨31, 0, .sh, 0x0⟩]⟩,
  ⟨"TB_SNAP", 0x1001020, 8, 0x100, 1, 0x100, [⟨0, 0, .wo, 0x0⟩]⟩,
  ⟨"TB_NOW_S_LO", 0x1001024, 8, 0x100, 1, 0x100, [⟨31, 0, .ro, 0x0⟩]⟩,
  ⟨"TB_NOW_S_HI", 0x1001028, 8, 0x100, 1, 0x100, [⟨15, 0, .ro, 0x0⟩]⟩,
  ⟨"TB_NOW_NS", 0x100102C, 8, 0x100, 1, 0x100, [⟨29, 0, .ro, 0x0⟩]⟩,
  ⟨"TB_NOW_FRAC", 0x1001030, 8, 0x100, 1, 0x100, [⟨15, 0, .ro, 0x0⟩]⟩,
  ⟨"TB_SNAP_CTR_LO", 0x1001034, 8, 0x100, 1, 0x100, [⟨31, 0, .ro, 0x0⟩]⟩]

/-- Registers of the time block, part 4. -/
def RegTable.time4 : List RegDesc := [
  ⟨"TB_SNAP_CTR_HI", 0x1001038, 8, 0x100, 1, 0x100, [⟨31, 0, .ro, 0x0⟩]⟩,
  ⟨"TB_RATE", 0x100103C, 8, 0x100, 1, 0x100, [⟨31, 0, .ro, 0x0⟩]⟩,
  ⟨"TB_OFF", 0x1001040, 8, 0x100, 1, 0x100, [⟨31, 0, .ro, 0x0⟩]⟩,
  ⟨"TB_STS", 0x1001044, 8, 0x100, 1, 0x100, [⟨31, 29, .ro, 0x0⟩, ⟨15, 8, .rc, 0x0⟩, ⟨7, 0, .rc, 0x0⟩]⟩,
  ⟨"TIME_PORT_CFG", 0x1008000, 42, 0x40, 1, 0x40, [⟨31, 30, .sh, 0x0⟩, ⟨29, 28, .sh, 0x0⟩, ⟨27, 25, .sh, 0x0⟩, ⟨24, 23, .sh, 0x0⟩, ⟨15, 8, .sh, 0x0⟩]⟩,
  ⟨"TIME_PORT_INTV", 0x1008004, 42, 0x40, 1, 0x40, [⟨23, 16, .sh, 0xFD⟩, ⟨15, 8, .sh, 0xFD⟩, ⟨7, 0, .sh, 0x0⟩]⟩,
  ⟨"TIME_PORT_ASYM_RX", 0x1008008, 42, 0x40, 1, 0x40, [⟨31, 0, .lv, 0x0⟩]⟩,
  ⟨"TIME_PORT_ASYM_TX", 0x100800C, 42, 0x40, 1, 0x40, [⟨31, 0, .lv, 0x0⟩]⟩,
  ⟨"TIME_PORT_QUAL", 0x1008010, 42, 0x40, 1, 0x40, [⟨0, 0, .lv, 0x0⟩]⟩,
  ⟨"TIME_PORT_MPD", 0x1008014, 42, 0x40, 1, 0x40, [⟨31, 0, .ro, 0x0⟩]⟩]

/-- Registers of the time block. -/
def RegTable.time : List RegDesc := RegTable.time1 ++ RegTable.time2 ++ RegTable.time3 ++ RegTable.time4

/-- Registers of the audio block, part 1. -/
def RegTable.aud1 : List RegDesc := [
  ⟨"AUD.COMMIT", 0x1100000, 1, 0x4, 1, 0x4, [⟨31, 24, .wo, 0x0⟩, ⟨15, 0, .wo, 0x0⟩]⟩,
  ⟨"AUD.COMMIT_SEL", 0x1100004, 1, 0x4, 1, 0x4, [⟨15, 0, .lv, 0x0⟩]⟩,
  ⟨"AUD.COMMIT_STS", 0x1100008, 1, 0x4, 1, 0x4, [⟨31, 31, .ro, 0x0⟩, ⟨30, 30, .w1c, 0x0⟩, ⟨23, 16, .ro, 0x0⟩, ⟨15, 0, .ro, 0x0⟩]⟩,
  ⟨"AUD_EVT", 0x1100010, 1, 0x4, 1, 0x4, [⟨31, 31, .lv, 0x0⟩, ⟨29, 24, .lv, 0x0⟩, ⟨23, 15, .lv, 0x0⟩]⟩,
  ⟨"AUD_RING", 0x1100014, 1, 0x4, 1, 0x4, [⟨25, 4, .lv, 0x0⟩]⟩,
  ⟨"AUD_RING_CTL", 0x1100018, 1, 0x4, 1, 0x4, [⟨31, 16, .ro, 0x0⟩, ⟨15, 0, .lv, 0x0⟩]⟩,
  ⟨"AUD_SP_CFG", 0x1101000, 16, 0x40, 1, 0x40, [⟨31, 31, .sh, 0x0⟩, ⟨30, 30, .sh, 0x0⟩, ⟨29, 28, .sh, 0x0⟩, ⟨27, 27, .sh, 0x0⟩, ⟨26, 26, .sh, 0x0⟩, ⟨25, 22, .sh, 0x4⟩, ⟨21, 17, .sh, 0x2⟩, ⟨16, 15, .sh, 0x1⟩]⟩,
  ⟨"AUD_SP_STS", 0x1101004, 16, 0x40, 1, 0x40, [⟨31, 31, .ro, 0x0⟩, ⟨30, 30, .ro, 0x0⟩]⟩,
  ⟨"AUD_SP_CNT", 0x1101008, 16, 0x40, 1, 0x40, [⟨31, 0, .rc, 0x0⟩]⟩,
  ⟨"AUD_AR_CFG", 0x1101400, 4, 0x80, 1, 0x80, [⟨31, 31, .sh, 0x0⟩, ⟨30, 30, .sh, 0x0⟩]⟩,
  ⟨"AUD_AR_STS", 0x1101404, 4, 0x80, 1, 0x80, [⟨31, 31, .ro, 0x0⟩, ⟨30, 30, .ro, 0x0⟩, ⟨3, 0, .ro, 0xF⟩]⟩,
  ⟨"AUD_AR_CNT", 0x1101408, 4, 0x80, 1, 0x80, [⟨31, 16, .rc, 0x0⟩, ⟨15, 0, .rc, 0x0⟩]⟩]

/-- Registers of the audio block, part 2. -/
def RegTable.aud2 : List RegDesc := [
  ⟨"AUD_AR_SEQ", 0x110140C, 4, 0x80, 1, 0x80, [⟨31, 0, .ro, 0x0⟩]⟩,
  ⟨"AUD_AR_CS0", 0x1101410, 4, 0x80, 6, 0x4, [⟨31, 0, .ro, 0x0⟩]⟩,
  ⟨"AUD_AR_U0", 0x1101440, 4, 0x80, 6, 0x4, [⟨31, 0, .ro, 0x0⟩]⟩,
  ⟨"AUD_AT_CS0", 0x1101610, 4, 0x80, 6, 0x4, [⟨31, 0, .sh, 0x0⟩]⟩,
  ⟨"AUD_AR_CS1", 0x1101428, 4, 0x80, 6, 0x4, [⟨31, 0, .ro, 0x0⟩]⟩,
  ⟨"AUD_AR_U1", 0x1101458, 4, 0x80, 6, 0x4, [⟨31, 0, .ro, 0x0⟩]⟩,
  ⟨"AUD_AT_CS1", 0x1101628, 4, 0x80, 6, 0x4, [⟨31, 0, .sh, 0x0⟩]⟩,
  ⟨"AUD_AT_CFG", 0x1101600, 4, 0x80, 1, 0x80, [⟨31, 31, .sh, 0x0⟩, ⟨30, 30, .sh, 0x0⟩, ⟨29, 28, .sh, 0x0⟩]⟩,
  ⟨"AUD_PDM_CFG", 0x1101800, 8, 0x10, 1, 0x10, [⟨31, 31, .sh, 0x0⟩, ⟨30, 30, .sh, 0x1⟩, ⟨29, 24, .sh, 0x0⟩]⟩,
  ⟨"AUD_GRP_CFG", 0x1102000, 16, 0x40, 1, 0x40, [⟨31, 31, .sh, 0x0⟩, ⟨30, 28, .sh, 0x0⟩, ⟨27, 22, .sh, 0x0⟩, ⟨21, 20, .sh, 0x0⟩, ⟨19, 15, .sh, 0x0⟩, ⟨14, 10, .sh, 0x0⟩, ⟨9, 4, .sh, 0x0⟩]⟩,
  ⟨"AUD_GRP_OUT", 0x1102004, 16, 0x40, 1, 0x40, [⟨31, 31, .sh, 0x0⟩, ⟨30, 30, .sh, 0x0⟩, ⟨29, 27, .sh, 0x0⟩, ⟨26, 23, .sh, 0x0⟩, ⟨22, 19, .sh, 0x4⟩, ⟨18, 15, .sh, 0x8⟩]⟩,
  ⟨"AUD_GRP_RING", 0x1102008, 16, 0x40, 1, 0x40, [⟨25, 4, .sh, 0x0⟩]⟩]

/-- Registers of the audio block, part 3. -/
def RegTable.aud3 : List RegDesc := [
  ⟨"AUD_GRP_RING_CTL", 0x110200C, 16, 0x40, 1, 0x40, [⟨5, 0, .sh, 0x0⟩]⟩,
  ⟨"AUD_GRP_STS", 0x1102010, 16, 0x40, 1, 0x40, [⟨31, 31, .ro, 0x0⟩, ⟨30, 30, .ro, 0x0⟩, ⟨29, 29, .ro, 0x0⟩, ⟨7, 0, .ro, 0x0⟩]⟩,
  ⟨"AUD_GRP_RATIO", 0x1102014, 16, 0x40, 1, 0x40, [⟨31, 0, .ro, 0x0⟩]⟩,
  ⟨"AUD_GRP_CNT", 0x1102018, 16, 0x40, 1, 0x40, [⟨31, 16, .rc, 0x0⟩, ⟨15, 0, .rc, 0x0⟩]⟩,
  ⟨"AUD_OUT_CFG", 0x1103000, 16, 0x40, 1, 0x40, [⟨31, 31, .sh, 0x0⟩, ⟨30, 28, .sh, 0x0⟩, ⟨27, 24, .sh, 0x0⟩, ⟨23, 19, .sh, 0x0⟩, ⟨18, 14, .sh, 0x0⟩, ⟨13, 4, .sh, 0x0⟩]⟩,
  ⟨"AUD_OUT_NET", 0x1103004, 16, 0x40, 1, 0x40, [⟨31, 31, .sh, 0x1⟩, ⟨30, 30, .sh, 0x0⟩, ⟨29, 23, .sh, 0x61⟩, ⟨16, 11, .sh, 0x0⟩]⟩,
  ⟨"AUD_OUT_DELAY", 0x110302C, 16, 0x40, 1, 0x40, [⟨31, 0, .sh, 0x0⟩]⟩,
  ⟨"AUD_OUT_SSRC", 0x1103030, 16, 0x40, 1, 0x40, [⟨31, 0, .sh, 0x0⟩]⟩,
  ⟨"AUD_OUT_MAC_LO", 0x1103008, 16, 0x40, 1, 0x40, [⟨31, 0, .sh, 0x0⟩]⟩,
  ⟨"AUD_OUT_MAC_HI", 0x110300C, 16, 0x40, 1, 0x40, [⟨15, 0, .sh, 0x0⟩]⟩,
  ⟨"AUD_OUT_VLAN", 0x1103010, 16, 0x40, 1, 0x40, [⟨15, 13, .sh, 0x0⟩, ⟨11, 0, .sh, 0x0⟩]⟩,
  ⟨"AUD_OUT_DST_IP0", 0x1103014, 16, 0x40, 1, 0x40, [⟨31, 0, .sh, 0x0⟩]⟩]

/-- Registers of the audio block, part 4. -/
def RegTable.aud4 : List RegDesc := [
  ⟨"AUD_OUT_DST_IP1", 0x1103018, 16, 0x40, 1, 0x40, [⟨31, 0, .sh, 0x0⟩]⟩,
  ⟨"AUD_OUT_DST_IP2", 0x110301C, 16, 0x40, 1, 0x40, [⟨31, 0, .sh, 0x0⟩]⟩,
  ⟨"AUD_OUT_DST_IP3", 0x1103020, 16, 0x40, 1, 0x40, [⟨31, 0, .sh, 0x0⟩]⟩,
  ⟨"AUD_OUT_PORT", 0x1103024, 16, 0x40, 1, 0x40, [⟨31, 16, .sh, 0x0⟩, ⟨15, 0, .sh, 0x0⟩]⟩]

/-- Registers of the audio block. -/
def RegTable.aud : List RegDesc := RegTable.aud1 ++ RegTable.aud2 ++ RegTable.aud3 ++ RegTable.aud4

/-- Registers of the check-value units block. -/
def RegTable.cvu : List RegDesc := [
  ⟨"CVU_CTRL", 0x1200000, 32, 0x1000, 1, 0x1000, [⟨0, 0, .lv, 0x1⟩]⟩,
  ⟨"CVU_STS", 0x1200004, 32, 0x1000, 1, 0x1000, [⟨31, 31, .ro, 0x0⟩, ⟨30, 30, .w1c, 0x0⟩, ⟨29, 29, .w1c, 0x0⟩, ⟨13, 8, .ro, 0x0⟩, ⟨7, 0, .ro, 0x0⟩]⟩,
  ⟨"CVU_EVT", 0x1200018, 32, 0x1000, 1, 0x1000, [⟨31, 31, .lv, 0x0⟩, ⟨29, 24, .lv, 0x0⟩, ⟨23, 15, .lv, 0x0⟩]⟩,
  ⟨"CVU_RING", 0x1200020, 32, 0x1000, 1, 0x1000, [⟨25, 4, .lv, 0x0⟩]⟩,
  ⟨"CVU_RING_CTL", 0x1200024, 32, 0x1000, 1, 0x1000, [⟨31, 16, .ro, 0x0⟩, ⟨15, 0, .lv, 0x0⟩]⟩,
  ⟨"CVU_RUN", 0x1200008, 32, 0x1000, 2, 0x4, [⟨31, 0, .rw, 0x0⟩]⟩,
  ⟨"CVU_SEQ", 0x1200010, 32, 0x1000, 2, 0x4, [⟨31, 0, .rw, 0x0⟩]⟩]

/-- Registers of the memory controllers and matrix block. -/
def RegTable.mem : List RegDesc := [
  ⟨"MEM_DV_ADDR_LO", 0x1300100, 1, 0x4, 1, 0x4, [⟨31, 0, .ro, 0x0⟩]⟩,
  ⟨"MEM_DV_ADDR_HI", 0x1300104, 1, 0x4, 1, 0x4, [⟨15, 0, .ro, 0x0⟩]⟩,
  ⟨"MEM_DV_INFO", 0x1300108, 1, 0x4, 1, 0x4, [⟨31, 31, .w1c, 0x0⟩, ⟨30, 30, .ro, 0x0⟩, ⟨23, 16, .ro, 0x0⟩, ⟨15, 8, .ro, 0x0⟩, ⟨7, 0, .ro, 0x0⟩]⟩,
  ⟨"MEM_DV_COUNT", 0x130010C, 1, 0x4, 1, 0x4, [⟨31, 0, .rc, 0x0⟩]⟩,
  ⟨"MEM_EVT", 0x1300110, 1, 0x4, 1, 0x4, [⟨31, 31, .lv, 0x0⟩, ⟨29, 24, .lv, 0x0⟩, ⟨23, 15, .lv, 0x0⟩]⟩,
  ⟨"HBM_CFG", 0x1300200, 1, 0x4, 1, 0x4, [⟨4, 0, .lv, 0xB⟩]⟩,
  ⟨"HBM_PC_STS", 0x1300400, 64, 0x4, 1, 0x4, [⟨31, 31, .ro, 0x0⟩, ⟨30, 30, .ro, 0x0⟩, ⟨15, 0, .ro, 0x0⟩]⟩,
  ⟨"HBM_PC_ERR", 0x1300500, 64, 0x4, 1, 0x4, [⟨31, 16, .rc, 0x0⟩, ⟨15, 0, .rc, 0x0⟩]⟩,
  ⟨"MEM_DOM_SS", 0x1310000, 1024, 0x4, 1, 0x4, [⟨23, 16, .rw, 0x0⟩, ⟨4, 4, .ro, 0x0⟩, ⟨3, 3, .rw, 0x0⟩, ⟨2, 2, .rw, 0x0⟩, ⟨1, 1, .rw, 0x0⟩, ⟨0, 0, .rw, 0x0⟩]⟩,
  ⟨"MEM_DOM_HBM", 0x1320000, 24576, 0x4, 1, 0x4, [⟨23, 16, .rw, 0x0⟩, ⟨4, 4, .ro, 0x0⟩, ⟨3, 3, .rw, 0x0⟩, ⟨2, 2, .rw, 0x0⟩, ⟨1, 1, .rw, 0x0⟩, ⟨0, 0, .rw, 0x0⟩]⟩]

/-- Registers of the sensors and pace monitors block. -/
def RegTable.sns : List RegDesc := [
  ⟨"SNS_TEMP", 0x1400000, 64, 0x4, 1, 0x4, [⟨31, 31, .ro, 0x0⟩, ⟨15, 0, .ro, 0x0⟩]⟩,
  ⟨"SNS_VMON", 0x1400100, 9, 0x4, 1, 0x4, [⟨15, 0, .ro, 0x0⟩]⟩,
  ⟨"SNS_PACE", 0x1400400, 128, 0x4, 1, 0x4, [⟨31, 31, .ro, 0x0⟩, ⟨15, 0, .ro, 0x0⟩]⟩,
  ⟨"SNS_THERM", 0x1400810, 1, 0x4, 1, 0x4, [⟨31, 16, .ro, 0x690⟩, ⟨15, 0, .ro, 0x5F0⟩]⟩,
  ⟨"AVS_CFG", 0x1400800, 1, 0x4, 1, 0x4, [⟨31, 16, .ro, 0x384⟩, ⟨15, 0, .ro, 0x226⟩]⟩,
  ⟨"AVS_STS", 0x1400804, 1, 0x4, 1, 0x4, [⟨31, 31, .ro, 0x0⟩, ⟨30, 30, .ro, 0x0⟩, ⟨29, 29, .ro, 0x0⟩, ⟨15, 0, .ro, 0x0⟩]⟩,
  ⟨"AVS_THR", 0x140080C, 1, 0x4, 1, 0x4, [⟨15, 8, .ro, 0x23⟩, ⟨7, 0, .ro, 0xF⟩]⟩,
  ⟨"LADDER_STS", 0x1400808, 1, 0x4, 1, 0x4, [⟨23, 8, .ro, 0x0⟩, ⟨4, 4, .ro, 0x0⟩, ⟨3, 0, .ro, 0x0⟩]⟩]

/-- The descriptors of the block that holds unit offset `off` (R7), or none outside every block. -/
def RegTable.block? (off : Nat) : Option (List RegDesc) :=
  if 0x0 ≤ off ∧ off < 0x10000 then some RegTable.sys
  else if 0x10000 ≤ off ∧ off < 0x20000 then some RegTable.cls
  else if 0x20000 ≤ off ∧ off < 0x30000 then some RegTable.mbx
  else if 0x30000 ≤ off ∧ off < 0x40000 then some RegTable.hif
  else if 0x400000 ≤ off ∧ off < 0x800000 then some RegTable.gath
  else if 0x800000 ≤ off ∧ off < 0x900000 then some RegTable.couchPipe
  else if 0x900000 ≤ off ∧ off < 0xA00000 then some RegTable.couch
  else if 0xA00000 ≤ off ∧ off < 0xB00000 then some RegTable.press
  else if 0xB00000 ≤ off ∧ off < 0xB10000 then some RegTable.imp
  else if 0xB10000 ≤ off ∧ off < 0xB30000 then some RegTable.wch
  else if 0xC00000 ≤ off ∧ off < 0xD00000 then some RegTable.ing
  else if 0xD00000 ≤ off ∧ off < 0xE00000 then some RegTable.tm
  else if 0xE00000 ≤ off ∧ off < 0xEA8000 then some RegTable.mac
  else if 0xF00000 ≤ off ∧ off < 0x1000000 then some RegTable.lane
  else if 0x1000000 ≤ off ∧ off < 0x1100000 then some RegTable.time
  else if 0x1100000 ≤ off ∧ off < 0x1200000 then some RegTable.aud
  else if 0x1200000 ≤ off ∧ off < 0x1220000 then some RegTable.cvu
  else if 0x1300000 ≤ off ∧ off < 0x1400000 then some RegTable.mem
  else if 0x1400000 ≤ off ∧ off < 0x1410000 then some RegTable.sns
  else none

/-- The descriptor of the register at unit offset `off`, if it names one. -/
def RegTable.lookup (off : Nat) : Option RegDesc :=
  match RegTable.block? off with
  | none => none
  | some ds => ds.find? (fun d => d.covers off)

/-- The word a list of fields resets to. -/
def RegField.resetOf : List RegField → Nat
  | [] => 0
  | f :: fs => f.reset * 2 ^ f.lsb + RegField.resetOf fs

/-- The word every register reads right after reset. Two arrays reset by index: EVC_ROUTE[384 + n] and EVC_ROUTE[400 + n]
select engine n (R115), and words 0, 2 and 4 of every safety calibration set hold the identity (R319). -/
def resetWord (off : Nat) : Word :=
  match RegTable.lookup off with
  | none => 0
  | some d =>
    if d.base = 0x401400 then
      let src := (off - d.base) % d.s1 / 4
      if 384 ≤ src ∧ src < 416 then BitVec.ofNat 32 (2 ^ ((src - 384) % 16)) else 0
    else if d.base = 0xB08000 then
      let w := (off - d.base) % d.s1 / 4
      if w = 0 ∨ w = 2 ∨ w = 4 then 0x4000 else 0
    else BitVec.ofNat 32 (RegField.resetOf d.fields)

end Sys2Proof.Machine
end

