-- ==== Sys2Proof/Machine/Map.lean ====
section
/-! DEFINITION. Sparse maps in one canonical form: a list of (key, value) pairs with strictly rising keys and no
entry equal to what an unlisted key reads as. Memories, register files and arrays of unit records are all held so. -/

namespace Sys2Proof.Machine

/-- A sparse map over natural-number keys. What an unlisted key reads as is a function the reader supplies. -/
abbrev SMap (α : Type) := List (Nat × α)

/-- The listed value of key `k`, if any. -/
def SMap.find? {α : Type} : SMap α → Nat → Option α
  | [], _ => none
  | (j, v) :: m, k => if k = j then some v else SMap.find? m k

/-- What key `k` reads as, `d` giving the value of an unlisted key. -/
def SMap.get {α : Type} (d : Nat → α) (m : SMap α) (k : Nat) : α := (SMap.find? m k).getD (d k)

/-- List `v` at `k`, whatever an unlisted key reads as. -/
def SMap.put {α : Type} : SMap α → Nat → α → SMap α
  | [], k, v => [(k, v)]
  | (j, w) :: m, k, v =>
    if k = j then (k, v) :: m else if k < j then (k, v) :: (j, w) :: m else (j, w) :: SMap.put m k v

/-- Drop the entry at `k`. -/
def SMap.erase {α : Type} (m : SMap α) (k : Nat) : SMap α := m.filter (fun p => decide (p.1 ≠ k))

/-- Write `v` at `k`, keeping the canonical form: writing the unlisted value removes the entry. -/
def SMap.set {α : Type} [DecidableEq α] (d : Nat → α) (m : SMap α) (k : Nat) (v : α) : SMap α :=
  if v = d k then SMap.erase m k else SMap.put m k v

/-- Keys strictly rise, all above `lo` when `lo` is given. -/
def SMap.sorted {α : Type} : SMap α → Bool
  | [] => true
  | [_] => true
  | (j, _) :: (k, w) :: m => decide (j < k) && SMap.sorted ((k, w) :: m)

/-- The canonical form: strictly rising keys and no entry that an unlisted key would read as. -/
def SMap.wf {α : Type} [DecidableEq α] (d : Nat → α) (m : SMap α) : Bool :=
  SMap.sorted m && m.all (fun p => decide (p.2 ≠ d p.1))

/-- Drop every entry whose key satisfies `p` (those keys then read as unlisted). -/
def SMap.dropKeys {α : Type} (p : Nat → Bool) (m : SMap α) : SMap α := m.filter (fun e => !p e.1)

/-- Write a list of consecutive values from key `k` on. -/
def SMap.setList {α : Type} [DecidableEq α] (d : Nat → α) (m : SMap α) (k : Nat) : List α → SMap α
  | [] => m
  | v :: vs => SMap.setList d (SMap.set d m k v) (k + 1) vs

/-- Read `n` consecutive values from key `k` on. -/
def SMap.getList {α : Type} (d : Nat → α) (m : SMap α) (k n : Nat) : List α :=
  (List.range n).map (fun i => SMap.get d m (k + i))

end Sys2Proof.Machine
end

