-- ==== Sys2Proof/Machine/State.lean ====
section
/-! DEFINITION. The state of the CW1024-H48 as the spec gives it: every register (live or active copy, and the shadow copy
of SH fields), every memory, and the state each unit holds beside its registers, with the queue of waiting commands.
Arrays of unit records are sparse maps in the canonical form of `SMap`; an unlisted record is the unit right after reset. -/

namespace Sys2Proof.Machine

/-! ### Engines (chapter 2) -/

/-- What a far transfer does (R67). -/
inductive FarKind where
  | fld | fst | ifill
deriving DecidableEq, Repr

/-- A far transfer or overlay fill in flight: its far and local byte ranges, the pc that issued it, and its place in the
context's issue order (R76). For a fill, `loc` is the page. -/
structure FarOp where
  kind : FarKind
  far : Nat
  loc : Nat
  len : Nat
  pc : Nat
  order : Nat
deriving DecidableEq, Repr

/-- What a token slot holds: nothing, an operation in flight, or an error not yet reported (R73). -/
inductive SlotSt where
  | idle
  | busy (op : FarOp)
  | err (cause : Nat) (op : FarOp)
deriving DecidableEq, Repr

/-- One of the 16 token slots of a context: its generation and contents (R73). -/
structure TokSlot where
  gen : BitVec 4
  st : SlotSt
deriving DecidableEq, Repr

/-- An EWAIT in progress: its rd, the counter value its timeout expires at (none: no timeout), the bytes the
instruction covers, and whether a source has been presented to the sleeping engine (R88, R116). -/
structure Sleep where
  rd : Nat
  deadline : Option Nat
  size : Nat
  woken : Bool
deriving DecidableEq, Repr

/-- A register context of an engine (R52). `cancel` is the flag MFS reads and clears, `cancelled` whether it was ever set for the occupant
(R53, R87). `fill` names what its unlisted registers read as: 0 at reset, a free value after each
unpark (log entries 13 and 19). -/
structure Ctx where
  occ : Bool
  g : SMap Word
  v : SMap (BitVec 256)
  p : BitVec 8
  fb : SMap (BitVec 48)
  pc : BitVec 13
  tsk : BitVec 16
  cancel : Bool
  cancelled : Bool
  ctrHi : Word
  tok : SMap TokSlot
  sleep : Option Sleep
  fill : Nat
deriving DecidableEq, Repr

/-- What an overlay page holds: nothing, a fill in progress, or code (R60). -/
inductive PageSt where
  | empty | filling | valid
deriving DecidableEq, Repr

/-- One quire engine beside its control registers: two contexts, the interrupt mask and its value when the urgent context
was entered, the overlay pages, local data memory, the instruction buffer, the far issue counter, and what its unlisted local bytes
read as (`fill`, as for a context). -/
structure Eng where
  norm : Ctx
  urg : Ctx
  mask : Bool
  maskSaved : Bool
  page : SMap PageSt
  ram : SMap Byte
  ibuf : SMap Byte
  issue : Nat
  fill : Nat
deriving DecidableEq, Repr

/-! ### Task scheduler and event controller (chapter 3) -/

/-- A task in settle, or an id in the cancel memory, with the counter value it was stamped with (R102, R103). -/
structure Stamped where
  id : Nat
  at_ : Nat
deriving DecidableEq, Repr

/-- A task that has become eligible: its id and what the TSU read from its descriptor (R99, R100). -/
structure Task where
  id : Nat
  prio : Nat
  urgent : Bool
  pc : Nat
  g1 : Word
  g2 : Word
  g3 : Word
  g4 : Word
  cpl : Word
deriving DecidableEq, Repr

/-- A running slot: the task, the engine and the context it occupies. -/
structure Running where
  task : Task
  e : Nat
  urgent : Bool
deriving DecidableEq, Repr

/-- A source presented in interrupt mode: the engine chosen and whether it has woken or taken the interrupt (R116). -/
structure Shown where
  src : Nat
  e : Nat
  taken : Bool
deriving DecidableEq, Repr

/-- A stranded source, the counter value it became stranded at, and whether its host event was raised (R121). -/
structure Strand where
  src : Nat
  at_ : Nat
  raised : Bool
deriving DecidableEq, Repr

/-- The TSU and EVC of one gathering beside their registers; `modAt` is when each moderation group last presented a source (R118). -/
structure Gath where
  settle : List Stamped
  ready : List Task
  running : List Running
  cancelMem : List Stamped
  ptr : Nat
  evPtr : Nat
  shown : List Shown
  strand : List Strand
  modAt : SMap (Option Nat)
deriving DecidableEq, Repr

/-- A descriptor held in a place of a unit queue (R79): its 32 bytes, whether it has started, and what a started
descriptor that waits has kept. -/
structure QDesc where
  bytes : List Byte
  started : Bool
  note : Nat
deriving DecidableEq, Repr

/-! ### Commits (chapter 1) -/

/-- An armed commit group: its link tag (0: none), whether its link was found to mix commit points, the counter and the eight time bases
when it was armed (R21, R578). -/
structure Arm where
  u : CommitUnit
  grp : Nat
  link : Nat
  mixed : Bool
  at_ : Nat
  tbs : List Nat
deriving DecidableEq, Repr

/-- What COMMIT_STS shows for one group: the reason of its latest commit point and its accepted count (R29). -/
structure CommitSts where
  reason : Nat
  accepted : Nat
deriving DecidableEq, Repr

/-! ### Memory (chapter 4) -/

/-- A written byte of HBM and the key it was encrypted under: the domain tag and that tag's key generation (R172, R173). -/
structure HbmByte where
  tag : Nat
  gen : Nat
  val : Byte
deriving DecidableEq, Repr

/-- An HBM pseudo-channel controller: open rows, hit runs, rotating pointer, queued reads (bank, row), buffered writes (bank, row, sector),
whether the write buffer drains, rows activated since reset, queued targeted refreshes, the instant retraining is due at and the latest
such instant taken (R163-R168). What a buffered write holds stands in the stack's bytes already (log entry 154). -/
structure HbmCtl where
  openRow : SMap (Option Nat)
  hitRun : SMap Nat
  ptr : Nat
  reads : List (Nat × Nat)
  writes : List (Nat × Nat × Nat)
  draining : Bool
  acts : Nat
  nref : List (Nat × Nat)
  refreshes : Nat
  due : Option Nat
  dueLast : Option Nat
deriving DecidableEq, Repr

/-! ### Ingest (chapter 5) -/

/-- A session's set (R191-R196). -/
structure SessCfg where
  en : Bool
  kind : Nat
  merge : Bool
  legA : Nat
  legB : Nat
  auto : Bool
  dom : Nat
  fcEvt : Bool
  target : Nat
  w : Nat
  h : Nat
  rate : Nat
  sampling : Nat
  depth : Nat
  col : Nat
  tcs : Nat
  bpm : Bool
  links : Nat
  base : Nat
  line : Nat
  slots : Nat
  skew : Nat
  timeout : Nat
deriving DecidableEq, Repr

/-- A frame slot of a ring: the set the frame began with (R202), the frame count it holds, the packets written (sequence number and the raster bytes they cover), its
complete lines and tokened leaf rows, whether it is whole, damaged or format-changed, its timestamp, the counter at its first
packet and at its completion, its age among the slots, its raster (R204, R205), and the sequence number of its last packet once that is
known (kind 0x2). -/
structure Slot where
  cfg : SessCfg
  frame : Nat
  pk : List (Nat × Nat × Nat)
  lines : List Nat
  rows : List Nat
  whole : Bool
  damaged : Bool
  changed : Bool
  ts : Word
  start : Nat
  doneAt : Nat
  order : Nat
  w : Nat
  h : Nat
  ending : Option Word
deriving DecidableEq, Repr

/-- A token posted to the couch: the source's slot, frame count, whether it completes the frame, the leaf rows it covers,
timestamp, the counter at the frame's first packet, flags, and the counter when it was posted (R205). -/
structure Token where
  slot : Nat
  frame : Nat
  complete : Bool
  rows : Nat
  ts : Word
  start : Nat
  posted : Nat
  damaged : Bool
  changed : Bool
  width : Nat
  height : Nat
deriving DecidableEq, Repr

/-- A running CLIP_FEED of a session (R213): its index table, entries, the entry to feed next, units handed over since `start`, and the
frame periods by which start was late. -/
structure ClipFeed where
  index : Nat
  loop : Bool
  first : Nat
  count : Nat
  pos : Nat
  start : Nat
  fed : Nat
  late : Nat
deriving DecidableEq, Repr

/-- A receive session beside its registers: the slot being written (none: no frame in progress, or one that is skipped), its frames (a key
from 16 on is a frame still in progress in a ring that a commit has replaced, R202), the tokens posted, the timestamp in progress, the
highest and the lowest sequence number accounted for, the missing ones between them with the counter when a later one arrived, the
latest arrival, the frame order counter, an adopted raster and whether its first frame is marked; for compressed kinds the packets that wait for an
earlier one (none: a lost one) and the latest taken, the access unit being gathered with its timestamp, the counter at its first packet and whether a packet of it is
lost, and where the byte ring stands; the TS PIDs in use (PMT, video, ST 302M), the section being gathered of each PID, the PES being
gathered of each ST 302M stream, the running clip. -/
structure Sess where
  slot : Option Nat
  slots : SMap Slot
  tokens : List Token
  lastTs : Option Word
  top : Option Word
  low : Word
  missing : List (Word × Nat)
  lastArrival : Nat
  order : Nat
  adopt : Option (Nat × Nat)
  changedNext : Bool
  held : List (Word × Option RtpPacket)
  taken : Option Word
  au : List Byte
  auTs : Word
  auStart : Nat
  broken : Bool
  params : List Byte
  auAt : Nat
  pmtPid : Option Nat
  videoPid : Option Nat
  audioPids : List Nat
  sections : SMap (List Byte)
  pes : SMap (List Byte)
  clip : Option ClipFeed
deriving DecidableEq, Repr

/-- An uncompressed output beside its registers: RTP sequence number, the frame being sent or sent last, whether a frame has been begun, what waits
to fill the next packet (row, offset, bytes), the instant of the sheet's time base at which the frame's row 0 was sent, and whether every row of it
has been sent. -/
structure OutSt where
  seq : Nat
  frame : Nat
  again : Bool
  buf : List (Nat × Nat × List Byte)
  began : Nat
  whole : Bool
deriving DecidableEq, Repr

/-! ### Couch (chapter 6) -/

/-- A sheet's set (R224-R226). -/
structure SheetCfg where
  en : Bool
  prec : Bool
  tb : Nat
  enc : Nat
  rate : Nat
  col : Nat
  w : Nat
  h : Nat
  base : Nat
  pitch : Nat
  peak : Nat
  white : Nat
  bg : List Nat
  offset : Nat
deriving DecidableEq, Repr

/-- How a source's pixels are stored. -/
inductive PixFmt where
  /-- ST 2110-20 pgroups: sampling code, bits, colorimetry, transfer. -/
  | pgroup (sampling depth col tcs : Nat)
  /-- A buffer format of R238. -/
  | buffer (bfmt : Nat)
  /-- R, G, B as 16-bit little-endian words: transfer 1 with 12-bit codes, or another transfer with 16-bit codes. -/
  | rgb16 (tcs : Nat)
deriving DecidableEq, Repr

/-- A frame a layer reads: far address of line 0, bytes from line to line, raster, format, domain tag. -/
structure SrcFrame where
  base : Nat
  pitch : Nat
  w : Nat
  h : Nat
  fmt : PixFmt
  tag : Nat
deriving DecidableEq, Repr

/-- A layer's choice for the picture in progress: the complete frame it composes from (slot, frame count; none: contributes nothing),
the frame kept for a SPLIT, whether it composes from the current frame, the taps of each band (none listed: not composed), whether a
SPLIT was taken, whether a read failure removed it from the rest of the picture or from every picture until a commit, the buffer in
use, the posts waiting (buffer, queue), the raster of the chosen frame, and where the chosen frame and the one kept lie, as their source's set
stood at the choice (R221). -/
structure LayerSt where
  use : Option (Nat × Nat)
  fallback : Option (Nat × Nat)
  current : Bool
  taps : SMap (Nat × Nat)
  split : Bool
  gone : Bool
  domainOff : Bool
  buffer : Option Nat
  posts : List (Nat × Nat)
  rasterW : Nat
  rasterH : Nat
  useAt : Option SrcFrame
  fallbackAt : Option SrcFrame
deriving DecidableEq, Repr

/-- A sheet's picture in progress: its number, whether one has begun, the slices each band has composed, the slices imposition has taken
(sheet 0), whether ladder step 5 lifts the Precision profile of the picture (R32), the counter at its boundary and at the boundary before, the
latest grid instant that is past for the sheet and the counter at its boundary (none: it had none), the sets of the picture and of the one before. -/
structure SheetSt where
  picture : Nat
  begun : Bool
  composed : SMap Nat
  imposed : Nat
  coarse : Bool
  start : Nat
  prevStart : Nat
  seen : Nat
  seenAt : Option Nat
  set : SheetCfg
  prevSet : SheetCfg
deriving DecidableEq, Repr

/-- A countermark region in the picture in progress: the leaves emitted so far (by canvas leaf index), whether its check is done, and whether
the fallback is in force for the picture (R256-R258, R316). -/
structure CmSt where
  leaves : SMap (List Byte)
  checked : Bool
  inForce : Bool
deriving DecidableEq, Repr

/-! ### Imposition, receivers, channels (chapter 8) -/

/-- A folio row formed by imposition and handed to the press: its leaf row y, the slice it was formed in, picture, presentation time (seconds,
nanoseconds, and in 2⁻¹⁶ ns of the sheet's base) and send deadline; the tile, its leaves' samples (R, G, B words of the whole row in raster
order), each leaf's flags (static, RAW, safety region, whether it is substituted or unmapped), version, whether the profile is Precision and ladder
step 5 lifts it, the ladder step of the slice, the control half of the folio's entry for this picture (R285), and the pipe it is dealt to (R279). -/
structure FolioRow where
  y : Nat
  slice : Nat
  picture : Nat
  ptS : Nat
  ptNs : Nat
  due : Nat
  deadline : Int
  w : Nat
  h : Nat
  samples : List Nat
  static : List Bool
  raw : List Bool
  region : List Nat
  forced : List Bool
  ver : Nat
  prec : Bool
  coarse : Bool
  step : Nat
  entry : List Byte
  pipe : Nat
deriving DecidableEq, Repr

/-- A coded segment waiting for the network: its bytes and the header fields of R326. -/
structure Segment where
  rx : Nat
  version : Nat
  key : Bool
  safety : Bool
  picture : Nat
  ptS : Nat
  ptNs : Nat
  row : Nat
  deadline : Int
  sent : Nat
  bytes : List Byte
deriving DecidableEq, Repr

/-- A countermark value kept for echo comparison: picture, row, region, CRC, when presented, and whether its echo came. -/
structure KeptCrc where
  picture : Nat
  row : Nat
  region : Nat
  crc : Nat
  due : Nat
  echoed : Bool
deriving DecidableEq, Repr

/-- What a picture's statistics record gathers (R292), with the tail-mode state of R293. -/
structure PicRec where
  bits : Nat
  normUnits : Nat
  normBits : Nat
  nSkip : Nat
  nIntra : Nat
  sad : Nat
  spent : Nat
  left : Nat
  tail : Bool
  skipping : Bool
  capTail : Bool
  tailSkip : Bool
deriving DecidableEq, Repr

/-- The picture of a folio in progress at the press: its number, whether it is open, the entry's budget and QP, what R285 and R296-R299 decided
for it (trusted entry, all-intra key, band of a refresh, whether that band must be repeated, slot pinned, slots released), its depth,
whether its version limited it, YCoCg, Precision coding, the rows coded, whether it used a missing or marked reference, the vectors
of the leaf row above, its record; the control half read for it (R285), and whether it repeats its previous picture (R267). -/
structure PicSt where
  number : Nat
  isOpen : Bool
  entry : List Byte
  repeats : Bool
  budget : Nat
  qp : Nat
  trusted : Bool
  key : Bool
  keepLt : Bool
  refresh : Option (Nat × Nat)
  dirty : Bool
  pin : Nat
  unpin : Nat
  depth : Nat
  limited : Bool
  ycocg : Bool
  precision : Bool
  profile : Bool
  rows : List Nat
  concealed : Bool
  above : List (Option (Int × Int))
  step : Nat
  stats : PicRec
deriving DecidableEq, Repr

/-- One receiver's folio: join state, upstream sequence numbers accepted in an epoch, TIME_ECHO times, and the press's state for it: pending
key, rows waiting, picture, the refresh in progress, reference store (short-term plane in use, whether it holds a picture, depth and
concealed mark of each plane, valid long-term slots, tile size), countermark values kept. -/
structure RxSt where
  joinVersions : Nat
  joinCaps : Nat
  lastJoin : Option Nat
  lastStatus : Nat
  fromPicture : Nat
  prevVer : Nat
  seqEpoch : Nat
  seqSeen : List Word
  echoTimes : List Nat
  t3 : SMap (Nat × Nat)
  keyPending : Bool
  keyKeep : Bool
  keyTime : Nat
  ltValid : Nat
  entry : List Byte
  entryPic : Option Nat
  rows : List FolioRow
  formedPic : Option Nat
  pic : PicSt
  lastPic : Nat
  refresh : Option (Nat × Nat)
  wasTrusted : Bool
  stPlane : Nat
  stValid : Bool
  depths : SMap Nat
  marks : SMap Bool
  tileW : Nat
  tileH : Nat
  kept : List KeptCrc
deriving DecidableEq, Repr

/-- A wall channel beside its registers: the epoch recorded at its latest key change, the previous key id, when it was replaced and its key, whether sequence 0xFFFF_FFFF has been used in the epoch, the segments waiting to be split into packets. -/
structure ChSt where
  keyEpoch : Option Nat
  prevKey : Option (Nat × Nat × List Byte)
  wrapped : Bool
  segs : List Segment
deriving DecidableEq, Repr

/-! ### Press contexts (chapter 7) -/

/-- An HEVC portion waiting for a pipe (R281): its context, whether it decodes, the picture, its index, its deadline in counts. -/
structure Portion where
  ctx : Nat
  decode : Bool
  picture : Nat
  index : Nat
  deadline : Nat
deriving DecidableEq, Repr

/-- A trunk segment being gathered from packets by a FOLIO_DEC context (R303, R342): the parent's folio, the header values of R342, the end
its last packet gives, the ranges received. -/
structure TrunkSeg where
  f : Nat
  version : Nat
  picture : Nat
  row : Nat
  ptS : Nat
  ptNs : Nat
  last : Option Nat
  got : List (Nat × List Byte)
deriving DecidableEq, Repr

/-- A folio of a FOLIO_DEC context, by its place in the inbound map (R337, R370-R378): the epoch adopted and the sequence numbers seen in it;
tile and coded depth of its planes, the picture started and whether it is open, its picture fields, the rows decoded (and whether leaf by leaf
free of references), the rows whose segment was damaged, the samples decoded so far by row, whether its picture number did not follow, the
mark so far, whether a row above the band predicted from a marked plane, whether the latest closed picture was marked, the short-term plane with
its depth and mark, each long-term plane's depth, mark and the picture it was stored at, the refresh count. -/
structure DecFolio where
  ver : Nat
  keyId : Nat
  upSeq : Nat
  epoch : Option Nat
  seen : List Nat
  w : Nat
  h : Nat
  depth : Nat
  picture : Option Nat
  isOpen : Bool
  fields : Nat
  rows : List (Nat × Bool)
  lost : List Nat
  cur : SMap (List Nat)
  gap : Bool
  mark : Bool
  aboveMarked : Bool
  wasMarked : Bool
  short : Option (List Nat × Nat × Bool)
  lt : SMap (Option (Nat × Bool × Nat))
  nextBand : Option Nat
deriving DecidableEq, Repr

/-- A picture a FOLIO_DEC context assembles: its number, the counter at its first segment, whether a folio's part is marked, whether its
frame-complete token is posted, leaf rows posted. -/
structure DecPic where
  picture : Nat
  start : Nat
  ptS : Nat
  ptNs : Nat
  marked : Bool
  posted : Bool
  rows : List Nat
deriving DecidableEq, Repr

/-- An access unit handed over to HEVC_DEC (R212): the counter at hand-over and at its first packet, its timestamp, the parameter sets in force for it,
its bytes (empty: the unit is lost, R304). -/
structure CodedAu where
  at_ : Nat
  start : Nat
  ts : Word
  params : List Byte
  bytes : List Byte
deriving DecidableEq, Repr

/-- A picture HEVC_DEC has decoded (R304, R305): its order count, raster, mark, and its samples as 10-bit 4:2:2 codes in pgroup order. -/
structure HevcPic where
  poc : Int
  w : Nat
  h : Nat
  marked : Bool
  samples : List Nat
deriving DecidableEq, Repr

/-- An access unit HEVC_DEC is decoding (R302-R305): its bytes with the parameter sets in force and its order count, its hand-over, the ring slot (none:
none was free), its reference planes in the order it names them, the portions not yet done, the line each portion begins with and the last ends before,
whether they are CTU rows of a wavefront, whether the picture is marked concealed. -/
structure DecAu where
  bytes : List Byte
  params : List Byte
  poc : Int
  at_ : Nat
  slot : Option Nat
  refs : List (List Nat)
  left : List Nat
  bounds : List Nat
  wavefront : Bool
  marked : Bool
deriving DecidableEq, Repr

/-- A coding context beside its registers: key state (HEVC_ENC), picture, refresh, the long-term picture, portions waiting, the portions
coded of a picture (picture, index, bytes), the picture's record; the access units handed over;
position in the output ring; slices whose end event is due; trunk input; the decode side (of HEVC_DEC: the order count of
the latest picture, the one at which a refresh of the stream ends, the pictures held as references, the latest picture decoded); packets and
segments counted as lost. -/
structure CtxSt where
  keyPending : Bool
  keyKeep : Bool
  keyTime : Nat
  begun : Bool
  picture : Nat
  key : Bool
  irapLeft : Nat
  refresh : Option (Nat × Nat)
  dirty : Bool
  ltValid : Bool
  pin : Bool
  unpin : Bool
  qp : Nat
  budget : Nat
  mismatch : Bool
  coded : List (Nat × Nat × List Byte)
  stats : PicRec
  aus : List CodedAu
  outPos : Nat
  ended : List (Nat × Nat)
  segs : List TrunkSeg
  folios : SMap DecFolio
  pics : List DecPic
  tokens : List Token
  dec : Option DecAu
  poc : Int
  recoverAt : Option Int
  dpb : List HevcPic
  recent : Option HevcPic
  marked : Bool
  lost : Nat
deriving DecidableEq, Repr

/-- A KEY or PIN descriptor accepted by a context's arbiter and not yet complete (R278): its queue, tag position, and the
folios it has still to reach. -/
structure KeyReq where
  ctx : Nat
  queue : Nat
  pin : Bool
  slot : Nat
  unpin : Bool
  keep : Bool
  left : List Nat
  bytes : List Byte
deriving DecidableEq, Repr

/-! ### Network (chapter 10) -/

/-- How a packet is addressed (R321, R388): 0 UDP over IPv4, 1 UDP over IPv6, 2 raw Ethernet, 3 a whole frame as it stands; the VLAN tag
control word, if any. -/
structure Addr where
  mode : Nat
  mac : Nat
  etype : Nat
  vlan : Option Nat
  dst : List Word
  dport : Nat
  sport : Nat
deriving DecidableEq, Repr

/-- A packet in a subscriber node: its queue, the ports and addressing of its copies, its payload, and, for a Folio packet not yet
numbered, its channel (the payload is then the header and the data to protect); its send deadline, if it has one; the FRAME_SEND descriptor
that completes when it leaves the node (R413). -/
structure Pkt where
  queue : Nat
  dests : List (Nat × Addr)
  payload : List Byte
  folio : Option Nat
  deadline : Option Int
  desc : Option (List Byte) := none
deriving DecidableEq, Repr

/-- A token-bucket shaper's state: tokens in 2⁻¹⁶ byte, and the CFG, RATE and BURST words in force until the next refill while a
newly accepted set waits for it (R404-R406). -/
structure ShSt where
  tokens : Int
  old : Option (List Word)
  refills : Nat
deriving DecidableEq, Repr

/-- What a frame of the time unit needs at its timestamp point (R447, R449). -/
inductive PtpSent where
  | sync | syncTwo | delayReq | pdelayReq | pdelayResp | pdelayRespTwo | general
deriving DecidableEq, Repr

/-- The frame's part in timestamping: none, a TIME_ECHO reply (folio, id), or a PTP message with its kind, the receipt time it answers, its
addressing and its bytes. -/
inductive Stamp where
  | none
  | echo (f id : Nat)
  | ptp (kind : PtpSent) (t : Int) (a : Addr) (msg : List Byte)
deriving DecidableEq, Repr

/-- A frame in a port FIFO: its service class, subscriber node (1024: the time unit), wall channel, send deadline, bytes and timestamping. -/
structure Fifo where
  cls : Nat
  node : Nat
  ch : Option Nat
  deadline : Option Int
  bytes : List Byte
  stamp : Stamp := Stamp.none
deriving DecidableEq, Repr

/-- One MACsec SA: whether it holds a key, its key identity, next packet number. -/
structure SaSt where
  keyed : Bool
  key : List Byte
  pn : Nat
deriving DecidableEq, Repr

/-- A port's FIFOs, deficit round robin (a deficit by class and node, the node whose turn it is by class), MACsec (SAs, the highest packet number
received under each, whether sending has stopped, the CAK and its name) and gate list: the cycle last seen, an accepted list's start, and the list that runs
on until then. -/
structure PortSt where
  fifo : List Fifo
  deficit : SMap Nat
  rr : SMap Nat
  txSa : SMap SaSt
  rxSa : SMap SaSt
  rxTop : SMap Nat
  saStopped : Bool
  cak : List Byte
  ckn : List Byte
  gateCycle : Nat
  gateNew : Option Nat
  gateOld : List (Nat × Nat)
  gateOldCycle : Nat
  gateOldBase : Nat
  gateOldTb : Nat
deriving DecidableEq, Repr

/-- A policer's two buckets, in 2⁻¹⁶ byte (R396). -/
structure PolSt where
  tc : Nat
  te : Nat
  refills : Nat
deriving DecidableEq, Repr

/-- A programme flow: RTP sequence number, continuity counters (video, PAT, PMT, the two ST 302M streams), the access units waiting (picture number and
bytes), and TS packets sent beyond the multiplex rate. -/
structure FlowSt where
  seq : Nat
  ccVideo : Nat
  ccPat : Nat
  ccPmt : Nat
  ccAudio : SMap Nat
  aus : List (Nat × List Byte)
  excess : Nat
deriving DecidableEq, Repr

/-! ### Lanes, time, audio (chapters 11-13) -/

/-- A lane beside its registers: its PRBS counts (R431), its elastic buffer's fill (R420), the generator's register, and the
checker's: its register, how many bits of it are seeded, how many bits have come without error, and which of the latest 1,024
received while locked were wrong, the newest first (R429, R431). Bit k of a register is the bit k + 1 places back. -/
structure LaneSt where
  errors : Nat
  bits : Nat
  ebuf : Nat
  gen : BitVec 31
  chk : BitVec 31
  seeded : Nat
  run : Nat
  wrong : List Bool
deriving DecidableEq, Repr

/-- A time base: its time in 2⁻¹⁶ ns since the PTP epoch, the remainder of rate steps, the servo's integral and rate in
2⁻³² ppb, consecutive small samples, and the counter at its latest sample (R437, R443, R444). -/
structure TbSt where
  time : Nat
  frac : Int
  i : Int
  r : Int
  good : Nat
  lastSample : Nat
deriving DecidableEq, Repr

/-- A PTP port's exchange state (R447): the sourcePortIdentity accepted since qualified was set; a two-step Sync waiting for its Follow_Up (source,
sequenceId, receipt time, correction); the latest Sync's origin and receipt times; the request in progress (sequenceId, egress time once it has
left); a two-step Pdelay_Resp waiting for its Follow_Up (receipt of the request at the peer, receipt here, correction); meanPathDelay; the last
peer exchange (egress at the peer, receipt here) and the neighbour rate ratio as a fraction; the next sequenceIds of Sync and of requests. Times
in 2⁻¹⁶ ns. -/
structure TpSt where
  master : Option (BitVec 80)
  sync : Option (BitVec 80 × Nat × Int × Int)
  meas : Option (Int × Int)
  req : Option (Nat × Option Int)
  peer : Option (Int × Int × Int)
  mpd : Int
  last : Option (Int × Int)
  nrr : Int × Int
  syncSeq : Nat
  reqSeq : Nat
  syncAt : Option Nat
  reqAt : Option Nat
deriving DecidableEq, Repr

/-- A serial audio port (0-15), an AES3 receiver (16-19) or the PDM inputs (24): consecutive good frame syncs, the counter at the latest, the latest
PDM words of each microphone, newest first, frames of an AES3 receiver since a burst preamble, and whether a V bit has been 1 in its
block. -/
structure SpSt where
  good : Nat
  lastAt : Nat
  quiet : Nat
  anyV : Bool
  bits : SMap (List Word)
deriving DecidableEq, Repr

/-- An ASRC group beside its registers (R471-R480): input frames waiting; frames consumed, newest first; position between input frames in 2⁻²⁸; whether
it waits for 64 frames; the block being formed (none: none) with the counter at its start and its frames, newest first; the last block written; ρ in
use; frames received; the counter at the first frame of the latest input and output blocks, newest first; consecutive output blocks with fill
near 64; a mute change due; whether the block in progress ramps; the pairs muted as non-audio and their quiet frames; a fade-in due; a frame
inserted or dropped since the block began; whether the source is lost; the counter at the latest frame. -/
structure GrpSt where
  fifo : List (Nat × List Word)
  hist : List (List Word)
  pos : Nat
  filling : Bool
  blk : Option Nat
  stamp : Nat
  acc : List (List Word)
  written : Option Nat
  used : Nat
  inCount : Nat
  inStamps : List Nat
  outStamps : List Nat
  goodBlocks : Nat
  muteNext : Option Bool
  ramp : Bool
  nonaudio : List Nat
  coded : List Nat
  quiet : SMap Nat
  fade : Bool
  inserted : Bool
  dropped : Bool
  lost : Bool
  lastFrameAt : Nat
deriving DecidableEq, Repr

/-- An audio output: next block to send, RTP sequence number, frames waiting for a packet and the number of the first, the channel status in use
(A then B), and for embedding the slips due (true: dropped), frames still to skip and the latest frames sent, newest first. -/
structure AoSt where
  blk : Nat
  seq : Nat
  buf : List (List Word)
  first : Nat
  cs : List Byte
  slips : List Bool
  skip : Nat
  sent : List (List Word)
deriving DecidableEq, Repr

/-! ### Clasp (chapter 14) -/

/-- A wall key slot: what it holds, the channel it is assigned to and the key id, inbound or outbound. -/
structure WallSlot where
  key : List Byte
  channel : Nat
  keyId : Nat
  inbound : Bool
deriving DecidableEq, Repr

/-- Clasp: fuses, enrolment, key store, key book state, alarms, marked regions, image hashes, trigger messages waiting in the order they were
accepted (by channel), a reply waiting for its channel (R493-R502). -/
structure Clasp where
  alive : Bool
  fusedClaimed : Bool
  gen : Nat
  minClasp : Nat
  minSpine : Nat
  raisesClasp : Nat
  raisesSpine : Nat
  owner : Option (List Byte)
  safety : Option (List Byte)
  tenants : SMap (List Byte)
  lastSeq : SMap Nat
  seeds : SMap (List Byte)
  wall : SMap (Option WallSlot)
  content : SMap (List Byte)
  hbmKeyGen : SMap Nat
  bookLoaded : Bool
  debugScope : Nat
  alarms : List (List Byte)
  alarmNo : Nat
  noticeDue : List Nat
  regions : List (Nat × Nat)
  vendorGranules : List Nat
  spineHash : List Byte
  claspHash : List Byte
  spineVersion : Nat
  spineLen : Nat
  trig : List Nat
  owed : Option (Nat × Word × Word)
deriving DecidableEq, Repr

/-! ### Host interface and system (chapters 15 and 16) -/

/-- A completion or event entry: its queue and its 16 bytes but for the phase bit, which is set when it is written. -/
structure Entry where
  cq : Nat
  bytes : List Byte
deriving DecidableEq, Repr

/-- A PF0 vector: its count, the counter at its first counted request, its timer expired during sleep, its PBA bit. -/
structure Vec where
  count : Nat
  since : Nat
  pba : Bool
deriving DecidableEq, Repr

/-- The host interface beside its registers: held entries, event details and counts, vectors, power state, the command (queue, id)
in execution when the Spine stopped. -/
structure Hif where
  held : List Entry
  evtDetail : SMap Word
  evtCount : SMap Nat
  evtTime : SMap Nat
  vec : SMap Vec
  msixMask : SMap Bool
  d3Pf0 : Bool
  d3Pf1 : Bool
  linkDown : Bool
  turnedOff : Bool
  pmeStatus : Bool
  pmeEn : Bool
  l2 : Bool
  running : Option (Nat × Nat)
  turn : Nat
  sqSince : SMap Nat
deriving DecidableEq, Repr

/-- Boot, twin, flash, pins (chapter 16) and the management plane's own values (R528-R530, R33): `bootDir` is the boot directory in use,
`bootErr` what failed of the first one tried (R537). -/
structure Sys where
  inReset : Bool
  spineUp : Bool
  spineTick : Nat
  programStarted : Bool
  flash : SMap (Option Byte)
  gpioDir : Word
  gpioOut : Word
  bootDir : List Byte
  bootErr : Nat
  inReleasedAt : Nat
  claimedAt : Nat
  afterCollision : Bool
  backoff : Bool
  backoffUntil : Nat
  keepAt : Nat
  keepSet : Bool
  mismatchTicks : Nat
  busTicks : Nat
  upHold : Nat
  hot : SMap Nat
  ladderSlices : Nat
  slackOkSince : Nat
  slackLow : Bool
  ladderUpAt : Nat
  ctrHi : SMap Word
  refSysLostAt : Option Nat
  refLost : SMap Nat
  ppsHigh : Bool
  ppsAt : Nat
  prpSeq : Nat
  prpDup : List (Nat × Nat)
  prpLast : Option Nat
  spineRx : List (Nat × List Byte)
  polledAt : Nat
deriving DecidableEq, Repr

/-- What leaves the device: frames on ports, SDI and audio samples, PCIe writes and messages, AVSBus and SMBus
requests, pins. -/
inductive Output where
  | frame (port : Nat) (bytes : List Byte)
  | sdi (lane : Nat) (row : Nat) (bytes : List Byte)
  | sound (kind : Nat) (target : Nat) (bytes : List Byte)
  | embed (out : Nat) (picture : Nat) (bytes : List Byte)
  | hostWrite (addr : Nat) (bytes : List Byte)
  | msix (pf1 : Bool) (vec : Nat)
  | pme | pmeToAck | pcieWake
  | avs (mv : Nat)
  | smbus (addr : Nat) (bytes : List Byte)
  | gpio (dir : Word) (value : Word)
  | pps (level : Bool)
  | twinOut (asserted : Bool)
  | prbs (lane : Nat) (bits : List Bool)
  | upstream (folio : Nat) (packet : List Byte)
deriving DecidableEq, Repr

/-- How the latest bus access of a command ended, and the word it read (R145, R155, R133). -/
inductive Resp where
  | none | ok (v : Word) | busError | domain | stall
deriving DecidableEq, Repr

/-- The whole machine. `free` is the model's own counter behind free values (log entry 3). -/
structure State where
  pending : List Instr
  reg : SMap Word
  shd : SMap Word
  resp : Resp
  ss : SMap Byte
  hbm : SMap (Option HbmByte)
  hbmGen : Nat
  ssErr : SMap Nat
  hbmErr : SMap Nat
  hbmc : SMap HbmCtl
  armed : List Arm
  cst : SMap CommitSts
  eng : SMap Eng
  gath : SMap Gath
  queues : SMap (List QDesc)
  mbxTouched : SMap Bool
  sess : SMap Sess
  out : SMap OutSt
  sheet : SMap SheetSt
  layer : SMap LayerSt
  cm : SMap CmSt
  table : SMap (BitVec 64)
  staged : SMap (Option (BitVec 64))
  calAct : SMap (List Byte)
  calShd : SMap (List Byte)
  rx : SMap RxSt
  ch : SMap ChSt
  ctx : SMap CtxSt
  portions : SMap (List Portion)
  keyReqs : List KeyReq
  node : SMap (List Pkt)
  sh : SMap ShSt
  port : SMap PortSt
  pol : SMap PolSt
  flow : SMap FlowSt
  lane : SMap LaneSt
  sysctr : DWord
  ctrFrac : Int
  tb : SMap TbSt
  tp : SMap TpSt
  sp : SMap SpSt
  grp : SMap GrpSt
  ao : SMap AoSt
  clasp : Clasp
  hif : Hif
  sys : Sys
  outbox : List Output
  free : Nat
deriving DecidableEq, Repr

/-- No command of the model ends in a fault (log entry 5): the type is closed and empty. -/
inductive Fault where
deriving DecidableEq, Repr

/-- Why a command has no meaning. -/
inductive Refusal where
  /-- Raised by an arm of `exec` for a command that has no meaning yet. Safe: nothing is claimed of it. -/
  | notModelled (mnemonic : String)
deriving DecidableEq, Repr

/-! ### The machine right after reset -/

/-- A token slot right after reset (log entry 13). -/
def TokSlot.reset : TokSlot := ⟨0, .idle⟩

/-- A register context right after reset: empty, every register 0 and every token free (log entry 13). -/
def Ctx.reset : Ctx :=
  { occ := false, g := [], v := [], p := 1, fb := [], pc := 0, tsk := 0, cancel := false, cancelled := false, ctrHi := 0, tok := [],
    sleep := none, fill := 0 }

/-- An engine right after reset: both contexts empty, mask clear, every page empty (R60). -/
def Eng.reset : Eng :=
  { norm := Ctx.reset, urg := Ctx.reset, mask := false, maskSaved := false, page := [], ram := [], ibuf := [], issue := 0,
    fill := 0 }

/-- A gathering's TSU and EVC right after reset. -/
def Gath.reset : Gath :=
  { settle := [], ready := [], running := [], cancelMem := [], ptr := 0, evPtr := 0, shown := [], strand := [],
    modAt := [] }

/-- A commit group no commit point has reached. -/
def CommitSts.reset : CommitSts := ⟨0, 0⟩

/-- A pseudo-channel controller right after reset. -/
def HbmCtl.reset : HbmCtl :=
  { openRow := [], hitRun := [], ptr := 0, reads := [], writes := [], draining := false, acts := 0, nref := [], refreshes := 0,
    due := none, dueLast := none }

/-- The set of a slot no frame has claimed. -/
def SessCfg.reset : SessCfg :=
  { en := false, kind := 0, merge := false, legA := 0, legB := 0, auto := false, dom := 0, fcEvt := false, target := 0, w := 0, h := 0, rate := 0,
    sampling := 0, depth := 0, col := 0, tcs := 0, bpm := false, links := 0, base := 0, line := 0, slots := 0, skew := 0, timeout := 0 }

/-- An empty frame slot. -/
def Slot.reset : Slot :=
  { cfg := SessCfg.reset, frame := 0, pk := [], lines := [], rows := [], whole := false, damaged := false, changed := false, ts := 0, start := 0,
    doneAt := 0, order := 0, w := 0, h := 0, ending := none }

/-- A receive session right after reset. -/
def Sess.reset : Sess :=
  { slot := none, slots := [], tokens := [], lastTs := none, top := none, low := 0, missing := [], lastArrival := 0,
    order := 0, adopt := none, changedNext := false, held := [], taken := none, au := [], auTs := 0, auStart := 0, broken := false, params := [],
    auAt := 0, pmtPid := none, videoPid := none, audioPids := [], sections := [], pes := [], clip := none }

/-- An output right after reset. -/
def OutSt.reset : OutSt := ⟨0, 0, false, [], 0, true⟩

/-- A layer no frame boundary has reached. -/
def LayerSt.reset : LayerSt :=
  { use := none, fallback := none, current := false, taps := [], split := false, gone := false, domainOff := false,
    buffer := none, posts := [], rasterW := 0, rasterH := 0, useAt := none, fallbackAt := none }

/-- The set of a sheet that has begun no picture. -/
def SheetCfg.reset : SheetCfg :=
  { en := false, prec := false, tb := 0, enc := 0, rate := 0, col := 0, w := 0, h := 0, base := 0, pitch := 0, peak := 0, white := 0, bg := [],
    offset := 0 }

/-- A sheet that has begun no picture. -/
def SheetSt.reset : SheetSt :=
  { picture := 0, begun := false, composed := [], imposed := 0, coarse := false, start := 0, prevStart := 0, seen := 0, seenAt := none,
    set := SheetCfg.reset, prevSet := SheetCfg.reset }

/-- A countermark region right after reset. -/
def CmSt.reset : CmSt := ⟨[], false, false⟩

/-- An empty record. -/
def PicRec.reset : PicRec := ⟨0, 0, 0, 0, 0, 0, 0, 0, false, false, false, false⟩

/-- No picture coded. -/
def PicSt.reset : PicSt :=
  { number := 0, isOpen := false, entry := [], repeats := false, budget := 0, qp := 0, trusted := true, key := false, keepLt := false, refresh := none, dirty := false,
    pin := 0, unpin := 0, depth := 0, limited := false, ycocg := false, precision := false, profile := false, rows := [], concealed := false,
    above := [], step := 0, stats := PicRec.reset }

/-- A receiver's folio right after reset. -/
def RxSt.reset : RxSt :=
  { joinVersions := 0, joinCaps := 0, lastJoin := none, lastStatus := 0, fromPicture := 0, prevVer := 0, seqEpoch := 0, seqSeen := [],
    echoTimes := [], t3 := [], keyPending := false, keyKeep := false, keyTime := 0, ltValid := 0, entry := [], entryPic := none,
    rows := [], formedPic := none, pic := PicSt.reset, lastPic := 0, refresh := none, wasTrusted := true, stPlane := 0, stValid := false,
    depths := [], marks := [], tileW := 0, tileH := 0, kept := [] }

/-- A wall channel right after reset. -/
def ChSt.reset : ChSt := ⟨none, none, false, []⟩

/-- A folio no segment of which has been decoded. -/
def DecFolio.reset : DecFolio :=
  { ver := 0, keyId := 0, upSeq := 0, epoch := none, seen := [], w := 0, h := 0, depth := 0, picture := none, isOpen := false, fields := 0, rows := [], lost := [], cur := [],
    gap := false, mark := false, aboveMarked := false, wasMarked := false, short := none, lt := [], nextBand := none }

/-- A coding context right after reset. -/
def CtxSt.reset : CtxSt :=
  { keyPending := false, keyKeep := false, keyTime := 0, begun := false, picture := 0, key := false, irapLeft := 0, refresh := none,
    dirty := false, ltValid := false, pin := false, unpin := false, qp := 0, budget := 0, mismatch := false, coded := [],
    stats := PicRec.reset, aus := [], outPos := 0, ended := [], segs := [], folios := [], pics := [], tokens := [], dec := none,
    poc := 0, recoverAt := none, dpb := [], recent := none, marked := false, lost := 0 }

/-- A shaper right after reset: an empty bucket. -/
def ShSt.reset : ShSt := ⟨0, none, 0⟩

/-- An SA without a key. -/
def SaSt.reset : SaSt := ⟨false, [], 1⟩

/-- A port right after reset. -/
def PortSt.reset : PortSt :=
  { fifo := [], deficit := [], rr := [], txSa := [], rxSa := [], rxTop := [], saStopped := false, cak := [], ckn := [], gateCycle := 0, gateNew := none, gateOld := [], gateOldCycle := 0, gateOldBase := 0, gateOldTb := 0 }

/-- A policer right after reset. -/
def PolSt.reset : PolSt := ⟨0, 0, 0⟩

/-- A programme flow right after reset. -/
def FlowSt.reset : FlowSt := ⟨0, 0, 0, 0, [], [], 0⟩

/-- A lane's PRBS counts right after reset. -/
def LaneSt.reset : LaneSt := ⟨0, 0, 0, 0, 0, 0, 0, []⟩

/-- A time base right after reset: the PTP epoch, no rate adjustment. -/
def TbSt.reset : TbSt := ⟨0, 0, 0, 0, 0, 0⟩

/-- A PTP port right after reset. -/
def TpSt.reset : TpSt := ⟨none, none, none, none, none, 0, none, (1, 1), 0, 0, none, none⟩

/-- An audio port right after reset. -/
def SpSt.reset : SpSt := ⟨0, 0, 0, false, []⟩

/-- An ASRC group right after reset. -/
def GrpSt.reset : GrpSt :=
  { fifo := [], hist := [], pos := 0, filling := true, blk := none, stamp := 0, acc := [], written := none, used := 0, inCount := 0, inStamps := [],
    outStamps := [], goodBlocks := 0, muteNext := none, ramp := false, nonaudio := [], coded := [], quiet := [], fade := false, inserted := false,
    dropped := false, lost := false, lastFrameAt := 0 }

/-- An audio output right after reset. -/
def AoSt.reset : AoSt := ⟨0, 0, [], 0, [], [], 0, []⟩

/-- Clasp right after reset on a device whose fuses are unburned (log entry 14). -/
def Clasp.reset : Clasp :=
  { alive := true, fusedClaimed := false, gen := 0, minClasp := 0, minSpine := 0, raisesClasp := 0, raisesSpine := 0,
    owner := none, safety := none, tenants := [], lastSeq := [], seeds := [], wall := [], content := [],
    hbmKeyGen := [], bookLoaded := false, debugScope := 0, alarms := [], alarmNo := 0, noticeDue := [], regions := [],
    vendorGranules := [], spineHash := [], claspHash := [],
    spineVersion := 0, spineLen := 0, trig := [], owed := none }

/-- A vector right after reset. -/
def Vec.reset : Vec := ⟨0, 0, false⟩

/-- The host interface right after reset: both functions in D0, the link up, nothing held. -/
def Hif.reset : Hif :=
  { held := [], evtDetail := [], evtCount := [], evtTime := [], vec := [], msixMask := [], d3Pf0 := false,
    d3Pf1 := false, linkDown := false, turnedOff := false, pmeStatus := false, pmeEn := false, l2 := false,
    running := none, turn := 63, sqSince := [] }

/-- Boot, twin and pins right after reset: in device reset (SYS_BOOT.step 0x0), the claim released. -/
def Sys.reset : Sys :=
  { inReset := true, spineUp := false, spineTick := 0,
    programStarted := false, flash := [], gpioDir := 0, gpioOut := 0, bootDir := [],
    bootErr := 0, inReleasedAt := 0, claimedAt := 0, afterCollision := false, backoff := false,
    backoffUntil := 0, keepAt := 0, keepSet := false,
    mismatchTicks := 0, busTicks := 0, upHold := 0, hot := [], ladderSlices := 16,
    slackOkSince := 0, slackLow := false, ladderUpAt := 0, ctrHi := [], refSysLostAt := none, refLost := [], ppsHigh := false, ppsAt := 0,
    prpSeq := 0, prpDup := [], prpLast := none, spineRx := [], polledAt := 0 }

/-- The machine right after reset: no command waits, every register at its reset value (the maps list nothing and unlisted
registers read their reset words), every memory empty, every unit as above. -/
def State.reset : State :=
  { pending := [], reg := [], shd := [], resp := .none, ss := [], hbm := [], hbmGen := 0, ssErr := [], hbmErr := [],
    hbmc := [], armed := [], cst := [], eng := [], gath := [], queues := [], mbxTouched := [], sess := [], out := [],
    sheet := [], layer := [], cm := [], table := [], staged := [], calAct := [], calShd := [], rx := [], ch := [],
    ctx := [], portions := [], keyReqs := [], node := [], sh := [], port := [], pol := [], flow := [], lane := [], sysctr := 0,
    ctrFrac := 0, tb := [], tp := [], sp := [], grp := [], ao := [], clasp := Clasp.reset, hif := Hif.reset,
    sys := Sys.reset, outbox := [], free := 0 }

end Sys2Proof.Machine
end

