-- ==== Sys2Proof/Machine/Ops.lean ====
section
/-! DEFINITION. The named operations the commands share: registers and their fields, free values, event sources, host
events with their entries and vectors, memory behind the domain check, completions and commit arming. -/

namespace Sys2Proof.Machine

/-! ### Registers (R4-R6) -/

/-- The live (or active) copy of the register at unit offset `off`. -/
def State.rd (s : State) (off : Nat) : Word := SMap.get resetWord s.reg off
/-- Store the live (or active) copy. -/
def State.wr (s : State) (off : Nat) (v : Word) : State := { s with reg := SMap.set resetWord s.reg off v }
/-- The shadow copy of an SH register (R5). -/
def State.rdSh (s : State) (off : Nat) : Word := SMap.get resetWord s.shd off
/-- Store the shadow copy. -/
def State.wrSh (s : State) (off : Nat) (v : Word) : State := { s with shd := SMap.set resetWord s.shd off v }
/-- Field hi..lo of the live copy. -/
def State.getF (s : State) (off hi lo : Nat) : Nat := fld (s.rd off) hi lo
/-- Bit b of the live copy. -/
def State.flag (s : State) (off b : Nat) : Bool := bit (s.rd off) b
/-- Replace field hi..lo of the live copy. -/
def State.setF (s : State) (off hi lo v : Nat) : State := s.wr off (putFld (s.rd off) hi lo v)
/-- Set or clear bit b of the live copy. -/
def State.setB (s : State) (off b : Nat) (v : Bool) : State := s.setF off b b (b2n v)
/-- Add n to a counter field, stopping at its largest value (the "saturates at" counters). -/
def State.addSat (s : State) (off hi lo n : Nat) : State :=
  s.setF off hi lo (Nat.min (s.getF off hi lo + n) (2 ^ (hi + 1 - lo) - 1))
/-- Add n to a counter field that wraps. -/
def State.addWrap (s : State) (off hi lo n : Nat) : State := s.setF off hi lo (s.getF off hi lo + n)
/-- The system counter as a number. -/
def State.now (s : State) : Nat := s.sysctr.toNat
/-- The next free value and the counter moved past it (log entry 3). -/
def State.fresh (s : State) : Nat := Config.freeNat s.free
/-- Move past the current free value. -/
def State.bumpFree (s : State) : State := { s with free := s.free + 1 }
/-- Send something out of the device. -/
def State.emit (s : State) (o : Output) : State := { s with outbox := o :: s.outbox }

/-! ### Event sources (R110, R111) -/

/-- May source `src` of gathering `g` ever be set (R110)? -/
def evcSettable (g src : Nat) : Bool :=
  decide (src < 512) && !(decide (419 ≤ src) && decide (src ≤ 431)) && (decide (src ≠ 418) || decide (g = 0))

/-- Set event source `src` of gathering `g` pending (R111): setting one already pending changes nothing. -/
def State.evcSet (s : State) (g src : Nat) : State :=
  if evcSettable g src then s.setB (Reg.evcPend g (src / 32)) (src % 32) true else s

/-- Is the source pending? -/
def State.evcPending (s : State) (g src : Nat) : Bool := s.flag (Reg.evcPend g (src / 32)) (src % 32)
/-- Is the source enabled (R114)? -/
def State.evcEnabled (s : State) (g src : Nat) : Bool := s.flag (Reg.evcEn g (src / 32)) (src % 32)

/-- Raise a unit's event: the layout of MEM_EVT (R159) is that of every unit event register. Units set sources 0-383. -/
def State.raiseEvt (s : State) (off : Nat) : State :=
  if s.flag off 31 && decide (s.getF off 23 15 < 384) then s.evcSet (s.getF off 29 24) (s.getF off 23 15) else s

/-! ### Host entries, vectors and events (R511-R519) -/

/-- Does the device hold what it would write for PF0 (R519, R520)? -/
def Hif.holding (h : Hif) : Bool := h.d3Pf0 || h.linkDown || h.turnedOff || h.l2

/-- The PF0 vector record. -/
def Hif.vecAt (h : Hif) (v : Nat) : Vec := SMap.get (fun _ => Vec.reset) h.vec v

/-- Is a vector masked? PCIe resets the mask bit of a vector to 1 (log entry 15); PF1's vectors are keyed from 128. -/
def Hif.masked (h : Hif) (v : Nat) : Bool := SMap.get (fun k => decide (k < 128)) h.msixMask v

/-- Fire PF0 vector v: count and timer reset; a masked vector sets its PBA bit instead of sending (R516). -/
def State.fireVec (s : State) (v : Nat) : State :=
  { s with
    hif := { s.hif with vec := SMap.set (fun _ => Vec.reset) s.hif.vec v ⟨0, 0, (s.hif.vecAt v).pba || s.hif.masked v⟩ }
    outbox := if s.hif.masked v then s.outbox else Output.msix false v :: s.outbox }

/-- Count one request of PF0 vector v, and fire it when R516 says (timer 0 with no count fires at once). -/
def State.requestVec (s : State) (v : Nat) : State :=
  let r := s.hif.vecAt v
  let r' : Vec := ⟨r.count + 1, if r.count = 0 then s.now else r.since, r.pba⟩
  let s' := { s with hif := { s.hif with vec := SMap.set (fun _ => Vec.reset) s.hif.vec v r' } }
  let cnt := s.getF (Reg.hifMod v) 7 0
  let tmr := s.getF (Reg.hifMod v) 31 16
  if v ≥ 120 then s
  else if s.hif.holding then s'
  else if s.flag Reg.hifIdleHint 0 || (decide (cnt ≠ 0) && decide (cnt ≤ r'.count)) || decide (tmr = 0) then s'.fireVec v
  else s'

/-- Entries a queue holds that the host has not read. -/
def State.cqUnread (s : State) (c : Nat) : Nat :=
  let n := s.getF (Reg.hifCqCfg c) 12 0
  if n = 0 then 0 else (s.getF (Reg.hifCqSts c) 11 0 + n - s.getF (Reg.hifCqHead c) 11 0 % n) % n

/-- Can completion queue c take an entry now: enabled and not full (R508)? -/
def State.cqReady (s : State) (c : Nat) : Bool :=
  s.flag (Reg.hifCqCfg c) 31 && decide (s.cqUnread c + 1 < s.getF (Reg.hifCqCfg c) 12 0)

/-- Write one entry to its queue: the phase bit, the tail and its wrap (R509), then the queue's vector. -/
def State.writeEntry (s : State) (e : Entry) : State :=
  let c := e.cq
  let n := s.getF (Reg.hifCqCfg c) 12 0
  let tail := s.getF (Reg.hifCqSts c) 11 0
  let phase := s.getF (Reg.hifCqSts c) 12 12
  let base := (s.rd (Reg.hifCqBaseHi c)).toNat * 2 ^ 32 + s.getF (Reg.hifCqBaseLo c) 31 12 * 2 ^ 12
  let b11 : Byte := BitVec.ofNat 8 (byteAt e.bytes 11 / 2 * 2 + phase)
  let next := if tail + 1 < n then tail + 1 else 0
  let s1 := s.emit (.hostWrite (base + 16 * tail) (e.bytes.set 11 b11))
  let s2 := (s1.setF (Reg.hifCqSts c) 11 0 next).setF (Reg.hifCqSts c) 12 12 (if next = 0 then 1 - phase else phase)
  s2.requestVec (s2.getF (Reg.hifCqCfg c) 19 13)

/-- The first entry held in D3hot sets PME_Status and, with PME_En set, sends PM_PME, or PCIE_WAKE_N in L2 (R519 item 4). -/
def State.pmeOnHold (s : State) : State :=
  if s.hif.d3Pf0 && !s.hif.pmeStatus && !s.hif.linkDown then
    { s with
      hif := { s.hif with pmeStatus := true }
      outbox := if !s.hif.pmeEn then s.outbox else if s.hif.l2 then Output.pcieWake :: s.outbox else Output.pme :: s.outbox }
  else s

/-- Write an entry, or hold it when its queue is full, an earlier entry of the queue is held, or R519 or R520 holds (R512). A held
entry's vector keeps its count for the entries that request it while the function sleeps (R519 item 3). -/
def State.putEntry (s : State) (e : Entry) : State :=
  if s.hif.holding || s.hif.held.any (fun h => h.cq == e.cq) || !s.cqReady e.cq then
    ({ s with hif := { s.hif with held := s.hif.held ++ [e] } }).pmeOnHold
  else s.writeEntry e

/-- Write the held entries that can be written, each queue's in order (R512). `stuck` holds the queues an entry stayed for. -/
def State.drainList (s : State) (stuck : List Nat) : List Entry → State
  | [] => s
  | e :: es =>
    if stuck.contains e.cq || !s.cqReady e.cq then
      State.drainList { s with hif := { s.hif with held := s.hif.held ++ [e] } } (e.cq :: stuck) es
    else State.drainList (s.writeEntry e) stuck es

/-- Try to write every held entry. -/
def State.drainHeld (s : State) : State :=
  if s.hif.holding then s
  else State.drainList { s with hif := { s.hif with held := [] } } [] s.hif.held

/-- Entries the holding buffer takes (R512). -/
def holdingCap : Nat := 16384

/-- Place pending event code e, if it is enabled and there is room (R513). -/
def State.placeEvent (s : State) (e : Nat) : State :=
  if s.flag Reg.hifEvtCfg 31 && s.flag Reg.hifEvtMask e && s.flag Reg.hifEvtPend e
      && decide (s.hif.held.length < holdingCap) then
    let det := (SMap.get (fun _ => (0 : Word)) s.hif.evtDetail e).toNat
    let cnt := Nat.min (SMap.get (fun _ => 0) s.hif.evtCount e) 0xFFFF
    let tim := SMap.get (fun _ => 0) s.hif.evtTime e % 2 ^ 32
    let bytes := leBytes 4 det ++ leBytes 2 cnt ++ [0xFF, 0xFF] ++ leBytes 2 e ++ [0, 2] ++ leBytes 4 tim
    let s' := s.setB Reg.hifEvtPend e false
    ({ s' with hif := { s'.hif with evtCount := SMap.set (fun _ => 0) s'.hif.evtCount e 0 } }).putEntry
      ⟨s.getF Reg.hifEvtCfg 5 0, bytes⟩
  else s

/-- Place every pending code in ascending order (R513). -/
def State.placeEvents (s : State) : State := (List.range 32).foldl State.placeEvent s

/-- A host management event occurs: pending bit, latest detail, one more occurrence (R513). -/
def State.hostEvent (s : State) (code detail : Nat) : State :=
  let s' := s.setB Reg.hifEvtPend code true
  ({ s' with hif := { s'.hif with
      evtDetail := SMap.set (fun _ => (0 : Word)) s'.hif.evtDetail code (BitVec.ofNat 32 detail)
      evtCount := SMap.set (fun _ => 0) s'.hif.evtCount code (SMap.get (fun _ => 0) s'.hif.evtCount code + 1)
      evtTime := SMap.set (fun _ => 0) s'.hif.evtTime code s'.now } }).placeEvents

/-! ### Domains (R150-R159) -/

/-- Who makes a matrix transaction: its domain tag and initiator port (R151, R158). -/
structure Tx where
  tag : Nat
  port : Nat
deriving DecidableEq, Repr

/-- The transactions of a bus initiator. -/
def Tx.ofIni : Ini → Tx
  | .engine q => ⟨0x01, q.g.val⟩
  | .spine => ⟨0x00, 0xC0⟩
  | .clasp t => ⟨t.toNat, 0xC1⟩
  | .host0 => ⟨0x03, 0xC2⟩
  | .host1 => ⟨0x03, 0xC3⟩

/-- Ingest, couch, imposition and press ports: the pixel units of R154. -/
def pixelPort (p : Nat) : Bool := (decide (0x40 ≤ p) && decide (p ≤ 0x60)) || (decide (0x70 ≤ p) && decide (p ≤ 0x7F))

/-- The check of R154: tag, port and direction against one domain map entry. -/
def domAllowed (t : Tx) (wr : Bool) (e : Word) : Bool :=
  let et := fld e 23 16
  if t.tag = 1 then (if wr then bit e 1 else bit e 0)
  else if t.tag = 3 ∧ t.tag ≠ et then (if wr then bit e 3 else bit e 2)
  else if t.tag ≠ et then false
  else !(decide (t.tag = 2) && pixelPort t.port && bit e 0)

/-- The regions of R141. -/
inductive Region where
  | zero | ss | regs | win | table | hbm | none
deriving DecidableEq, Repr

/-- The region that wholly holds `len` bytes from `a`; none when no single one does (R142). -/
def regionOf (a len : Nat) : Region :=
  let e := a + len
  if e ≤ 0x80000 then .zero
  else if 0x10000000 ≤ a ∧ e ≤ 0x14000000 then .ss
  else if 0x20000000 ≤ a ∧ e ≤ 0x30000000 then .regs
  else if 0x30000000 ≤ a ∧ e ≤ 0x34000000 then .win
  else if 0x40000000 ≤ a ∧ e ≤ 0x40480000 then .table
  else if 0x1000000000 ≤ a ∧ e ≤ 0x1C00000000 then .hbm
  else .none

/-- Offset of the Sheet store within its region, and of HBM. -/
def ssBase : Nat := 0x10000000
/-- First far address of HBM. -/
def hbmBase : Nat := 0x1000000000

/-- The memory event of R159: the event source of MEM_EVT, and host event 0x03 with its kind and detail (R514). -/
def State.memEvent (s : State) (kind detail : Nat) : State :=
  (s.raiseEvt Reg.memEvt).hostEvent 0x03 (kind * 2 ^ 24 + detail)

/-- Log a domain violation (R158): the first while valid is 0; every one counts and raises the memory event. -/
def State.violation (s : State) (t : Tx) (wr : Bool) (addr target : Nat) : State :=
  let s1 :=
    if s.flag Reg.memDvInfo 31 then s
    else
      ((s.wr Reg.memDvAddrLo (BitVec.ofNat 32 addr)).wr Reg.memDvAddrHi (BitVec.ofNat 32 (addr / 2 ^ 32 % 2 ^ 16))).wr
        Reg.memDvInfo (BitVec.ofNat 32 (2 ^ 31 + b2n wr * 2 ^ 30 + t.tag * 2 ^ 16 + target * 2 ^ 8 + t.port))
  (s1.addSat Reg.memDvCount 31 0 1).memEvent 1 t.port

/-! ### Memory (chapter 4) -/

/-- How a memory transaction ends. -/
inductive MemAcc where
  | ok | range | domain | error | stall
deriving DecidableEq, Repr

/-- Sheet store byte at offset o: 0 where nothing has been written (log entry 16). -/
def State.ssByte (s : State) (o : Nat) : Byte := SMap.get (fun _ => 0) s.ss o

/-- Key generation of a domain tag: how often its HBM key has been drawn anew (R173). -/
def State.keyGen (s : State) (tag : Nat) : Nat := SMap.get (fun _ => 0) s.clasp.hbmKeyGen tag

/-- Domain map entry of the granule at HBM offset o. -/
def State.hbmDom (s : State) (o : Nat) : Word := s.rd (Reg.memDomHbm (o / 0x200000))
/-- Domain map entry of the granule at Sheet store offset o. -/
def State.ssDom (s : State) (o : Nat) : Word := s.rd (Reg.memDomSs (o / 0x10000))

/-- HBM byte at offset o, decrypted with the key of the granule's present domain: noise where it was never written under
that key (R156, R172, R173). -/
def State.hbmByte (s : State) (o : Nat) : Byte :=
  let tag := fld (s.hbmDom o) 23 16
  match SMap.get (fun _ => (none : Option HbmByte)) s.hbm o with
  | some b => if b.tag = tag ∧ b.gen = s.keyGen tag then b.val else Config.hbmNoise s.hbmGen o
  | none => Config.hbmNoise s.hbmGen o

/-- The pseudo-channel of HBM offset o (R162). -/
def hbmPc (o : Nat) : Nat := Nat.xor (bitsN o 13 8) (bitsN o 19 14)
/-- The controller's local address of HBM offset o (R162). -/
def hbmLocal (o : Nat) : Nat := o / 2 ^ 14 * 2 ^ 8 + o % 2 ^ 8
/-- Bank group and bank of a local address as one number 0-15, and its row (R162). -/
def hbmBank (l : Nat) : Nat := bitsN l 9 8 * 4 + bitsN l 11 10
/-- Row of a local address. -/
def hbmRow (l : Nat) : Nat := bitsN l 29 15

/-- Open row of a bank. -/
def HbmCtl.row (c : HbmCtl) (b : Nat) : Option Nat := SMap.get (fun _ => none) c.openRow b

/-- Rows of a bank: 768 MiB behind a pseudo-channel, 32 KiB a row over all banks (R162). -/
def hbmRows : Nat := 24576

/-- Open row r of bank b of pseudo-channel p: an activation whose draw falls, with probability 2⁻ᵏ, queues a targeted refresh of the rows
adjacent to it (R166; log entry 73). -/
def HbmCtl.activate (c : HbmCtl) (p k b r : Nat) : HbmCtl :=
  if c.row b = some r then c
  else
    let near := (if 0 < r then [(b, r - 1)] else []) ++ (if r + 1 < hbmRows then [(b, r + 1)] else [])
    { c with
      openRow := SMap.set (fun _ => none) c.openRow b (some r)
      acts := c.acts + 1
      nref := if Config.hbmDraw p c.acts % 2 ^ k = 0 then c.nref ++ near else c.nref }

/-- Issue the oldest buffered write. -/
def HbmCtl.issueWrite (c : HbmCtl) (p k : Nat) : HbmCtl :=
  match c.writes with
  | [] => c
  | (b, r, _) :: ws => { (c.activate p k b r) with writes := ws }

/-- Issue the oldest read of bank b. -/
def HbmCtl.issueRead (c : HbmCtl) (p k b : Nat) : HbmCtl :=
  match c.reads.find? (fun e => e.1 == b) with
  | some e => { (c.activate p k b e.2) with reads := c.reads.erase e }
  | none => c

/-- Buffer the write of a sector (R163): a full buffer of 64 entries issues its oldest write first. -/
def HbmCtl.pushWrite (c : HbmCtl) (p k b r sec : Nat) : HbmCtl :=
  let c1 := if 64 ≤ c.writes.length then c.issueWrite p k else c
  { c1 with writes := c1.writes ++ [(b, r, sec)] }

/-- Queue the read of a sector (R163, R164): a sector held in the write buffer is served from there when the read covers all of it, and
else waits until its writes have issued; a bank queue of 16 entries issues its oldest read first. -/
def HbmCtl.pushRead (c : HbmCtl) (p k b r sec : Nat) (covered : Bool) : HbmCtl :=
  let held := c.writes.any (fun w => w.2.2 == sec)
  if held && covered then c
  else
    let n := if held then c.writes.length - (c.writes.reverse.findIdx (fun w => w.2.2 == sec)) else 0
    let c1 := (List.range n).foldl (fun c _ => c.issueWrite p k) c
    let c2 := if 16 ≤ (c1.reads.filter (fun e => e.1 == b)).length then c1.issueRead p k b else c1
    { c2 with reads := c2.reads ++ [(b, r)] }

/-- Queue one 32-byte sector access at its controller (R163, R164). -/
def State.hbmQueue (s : State) (wr covered : Bool) (o : Nat) : State :=
  let p := hbmPc o
  let c := SMap.get (fun _ => HbmCtl.reset) s.hbmc p
  let k := s.getF Reg.hbmCfg 4 0
  let b := hbmBank (hbmLocal o)
  let r := hbmRow (hbmLocal o)
  let c' := if wr then c.pushWrite p k b r (o / 32) else c.pushRead p k b r (o / 32) covered
  { s with hbmc := SMap.set (fun _ => HbmCtl.reset) s.hbmc p c' }

/-- The blocks of size b that bytes a .. a+n-1 touch. -/
def blocks (b a n : Nat) : List Nat := if n = 0 then [] else (List.range ((a + n - 1) / b - a / b + 1)).map (· + a / b)

/-- The first granule of the range whose entry refuses t: its entry. -/
def State.refusal (s : State) (t : Tx) (wr hbm : Bool) (o n : Nat) : Option Word :=
  ((blocks (if hbm then 0x200000 else 0x10000) o n).map
    (fun i => s.rd (if hbm then Reg.memDomHbm i else Reg.memDomSs i))).find? (fun e => !domAllowed t wr e)

/-- Is a Sheet store granule of the range being zeroed (R156)? -/
def State.scrubbing (s : State) (o n : Nat) : Bool :=
  (blocks 0x10000 o n).any (fun i => s.flag (Reg.memDomSs i) 4)

/-- Error class of a Sheet store word or an HBM sector: 0 none, 1 corrected, 2 uncorrectable (R161, R170). -/
def errAt (m : SMap Nat) (i : Nat) : Nat := SMap.get (fun _ => 0) m i

/-- Write bytes from key k on, but for the keys `skip` names. -/
def writeBytes {α : Type} [DecidableEq α] (d : Nat → α) (skip : Nat → Bool) (m : SMap α) (k : Nat) : List α → SMap α
  | [] => m
  | v :: vs => writeBytes d skip (if skip k then m else SMap.set d m k v) (k + 1) vs

/-- Is word (or sector) i of size b wholly inside o .. o+n-1? -/
def whole (b o n i : Nat) : Bool := decide (o ≤ i * b) && decide (i * b + b ≤ o + n)

/-- Drop the error marks of the Sheet store words that an access of o .. o+n-1 leaves right: a single-bit error is corrected and written
back, and a write of a whole word covers what it held (R161). -/
def State.ssMend (s : State) (wr : Bool) (o n : Nat) : SMap Nat :=
  s.ssErr.filter (fun p => !(decide (o / 8 ≤ p.1) && decide (p.1 * 8 < o + n) && (p.2 == 1 || (wr && whole 8 o n p.1))))

/-- Read Sheet store bytes after the domain check (R160, R161). -/
def State.ssRead (s : State) (t : Tx) (a o n : Nat) : State × MemAcc × List Byte :=
  match s.refusal t false false o n with
  | some e => (s.violation t false a (fld e 23 16), .domain, [])
  | none =>
    let s1 := { s with ssErr := s.ssMend false o n }
    if (blocks 8 o n).any (fun w => errAt s.ssErr w == 2) then (s1.memEvent 2 t.port, .error, [])
    else (s1, .ok, (List.range n).map (fun i => s.ssByte (o + i)))

/-- Write Sheet store bytes after the domain check: a word holding a double-bit error that the write covers only in part is
left as it was and the writer gets an error response (R161). -/
def State.ssWrite (s : State) (t : Tx) (a o : Nat) (bs : List Byte) : State × MemAcc :=
  let n := bs.length
  match s.refusal t true false o n with
  | some e => (s.violation t true a (fld e 23 16), .domain)
  | none =>
    let bad := fun i => errAt s.ssErr (i / 8) == 2 && !whole 8 o n (i / 8)
    let s' := { s with
      ss := writeBytes (fun _ => 0) bad s.ss o bs
      ssErr := s.ssMend true o n }
    if (List.range n).any (fun i => bad (o + i)) then (s'.memEvent 2 t.port, .error) else (s', .ok)

/-- Count corrected and uncorrected sectors of an HBM access (R170). -/
def State.hbmCount (s : State) (i : Nat) : State :=
  let p := hbmPc (i * 32)
  match errAt s.hbmErr i with
  | 1 => s.addSat (Reg.hbmPcErr p) 15 0 1
  | 2 => s.addSat (Reg.hbmPcErr p) 31 16 1
  | _ => s

/-- Read HBM bytes after the domain check (R163-R171). -/
def State.hbmRead (s : State) (t : Tx) (a o n : Nat) : State × MemAcc × List Byte :=
  match s.refusal t false true o n with
  | some e => (s.violation t false a (fld e 23 16), .domain, [])
  | none =>
    let secs := blocks 32 o n
    let s1 := secs.foldl (fun s i => (s.hbmQueue false (whole 32 o n i) (i * 32)).hbmCount i) s
    if secs.any (fun i => errAt s.hbmErr i == 2) then (s1.memEvent 2 (hbmPc o), .error, [])
    else (s1, .ok, (List.range n).map (fun i => s.hbmByte (o + i)))

/-- Write HBM bytes after the domain check. A partial sector is merged, so the rest of it is kept only where it was readable under the
present key (R164, R172); a merge that meets an uncorrectable error leaves the sector as it was (R171). -/
def State.hbmWrite (s : State) (t : Tx) (a o : Nat) (bs : List Byte) : State × MemAcc :=
  let n := bs.length
  match s.refusal t true true o n with
  | some e => (s.violation t true a (fld e 23 16), .domain)
  | none =>
    let secs := blocks 32 o n
    let bad := fun i => errAt s.hbmErr (i / 32) == 2 && !whole 32 o n (i / 32)
    let enc := bs.zipIdx.map (fun (b, i) =>
      let tag := fld (s.hbmDom (o + i)) 23 16
      (some ⟨tag, s.keyGen tag, b⟩ : Option HbmByte))
    let stale := fun k =>
      decide (o / 32 ≤ k / 32) && decide (k / 32 * 32 < o + n) && !bad k &&
        (match SMap.get (fun _ => (none : Option HbmByte)) s.hbm k with
          | some b => !(decide (b.tag = fld (s.hbmDom k) 23 16) && decide (b.gen = s.keyGen (fld (s.hbmDom k) 23 16)))
          | none => false)
    let s1 := secs.foldl (fun s i => (if whole 32 o n i then s else s.hbmCount i).hbmQueue true true (i * 32)) s
    let s2 := { s1 with
      hbm := writeBytes (fun _ => none) bad (SMap.dropKeys stale s.hbm) o enc
      hbmErr := SMap.dropKeys (fun i => whole 32 o n i) s.hbmErr }
    if (List.range n).any (fun i => bad (o + i)) then (s2.memEvent 2 (hbmPc o), .error) else (s2, .ok)

/-- Do Clasp and the Spine always see the boot ROM at address zero, and everyone before remap (R146, R147)? -/
def State.romAtZero (s : State) (t : Tx) : Bool :=
  !s.flag Reg.sysMap 0 || decide (t.port = 0xC0) || decide (t.port = 0xC1)

/-- Must a transaction wait: a Sheet store granule it touches is being zeroed (R156), or a pseudo-channel it touches retrains (R168)? -/
def State.memWaits (s : State) (t : Tx) (a n : Nat) : Bool :=
  match regionOf a n with
  | .zero => !s.romAtZero t && s.scrubbing a n
  | .ss => s.scrubbing (a - ssBase) n
  | .hbm => (blocks 256 (a - hbmBase) n).any (fun i => s.flag (Reg.hbmPcSts (hbmPc (i * 256))) 30)
  | _ => false

/-! ### What else a transaction may reach (R158) -/

/-- Is unit offset `off` in lo .. hi - 1? -/
def inRange (off lo hi : Nat) : Bool := decide (lo ≤ off) && decide (off < hi)

/-- The layer a couch register belongs to (R231). -/
def layerOf (off : Nat) : Option Nat :=
  if inRange off 0x901000 0x902000 then some ((off - 0x901000) / 0x40)
  else if inRange off 0x902000 0x903000 then some ((off - 0x902000) / 0x40)
  else none

/-- Is a write of v to `off` one that only the safety tag may make (R239, R259, R260, R319)? -/
def State.safetyOnly (s : State) (off : Nat) (v : Word) : Bool :=
  (match layerOf off with
    | some l =>
      decide (s.getF (Reg.couchLayerCtrl l) 15 8 = 2) || decide (fld (s.rdSh (Reg.couchLayerCtrl l)) 15 8 = 2)
        || (decide (off = Reg.couchLayerCtrl l) && decide (fld v 15 8 = 2))
    | none => false)
    || (inRange off 0x904040 0x904400 && decide (off % 0x40 ≤ 0x24))
    || decide (off = Reg.impEcho)
    || (inRange off 0xB00110 0xB00200 && decide (off % 0x10 < 0xC))
    || inRange off 0xB08000 0xB08800

/-- The domain that owns a register, as a logged violation names it (R158). -/
def State.regOwner (s : State) (off : Nat) (v : Word) : Nat :=
  if off < 0x40000 ∨ inRange off 0x1300000 0x1410000 then 0
  else if s.safetyOnly off v then 2 else 1

/-- Safety region of an entry. -/
def entRegion (e : BitVec 64) : Nat := bitsN e.toNat 47 44

/-- What entry i reads as: its staged value, or the active one (R308). -/
def State.tableEntry (s : State) (i : Nat) : BitVec 64 :=
  match SMap.get (fun _ => (none : Option (BitVec 64))) s.staged i with
  | some e => e
  | none => SMap.get (fun _ => (0 : BitVec 64)) s.table i

/-- Is entry i in a safety region now, active or staged (R144; log entry 37)? -/
def State.entrySafety (s : State) (i : Nat) : Bool :=
  entRegion (s.tableEntry i) != 0 || entRegion (SMap.get (fun _ => (0 : BitVec 64)) s.table i) != 0

/-- The domain that owns what a transaction reached outside memory, as a logged violation names it (R158). -/
def State.reachedTag (s : State) (a n : Nat) : Nat :=
  match regionOf a n with
  | .regs => s.regOwner (a - 0x20000000) 0
  | .table =>
    if (List.range (ceilDiv (a % 8 + n) 8)).any (fun k => s.entrySafety ((a - 0x40000000) / 8 + k)) then 2 else 1
  | _ => 1

/-- Read memory: the address-zero window, the Sheet store or HBM. Any other region is refused to a unit (R141). A unit's transaction that must
wait (`memWaits`) is served with what it meets when the wait has ended (log entry 155). -/
def State.memRead (s : State) (t : Tx) (a n : Nat) : State × MemAcc × List Byte :=
  if n = 0 then (s, .ok, [])
  else match regionOf a n with
    | .zero => if s.romAtZero t then (s, .ok, (List.range n).map (fun i => Config.bootRom (a + i))) else s.ssRead t a a n
    | .ss => s.ssRead t a (a - ssBase) n
    | .hbm => s.hbmRead t a (a - hbmBase) n
    | .none => (s, .range, [])
    | _ => (s.violation t false a (s.reachedTag a n), .domain, [])

/-- Write memory. The boot ROM takes no write and answers with an error response (log entry 17). -/
def State.memWrite (s : State) (t : Tx) (a : Nat) (bs : List Byte) : State × MemAcc :=
  if bs.length = 0 then (s, .ok)
  else match regionOf a bs.length with
    | .zero => if s.romAtZero t then (s, .error) else s.ssWrite t a a bs
    | .ss => s.ssWrite t a (a - ssBase) bs
    | .hbm => s.hbmWrite t a (a - hbmBase) bs
    | .none => (s, .range)
    | _ => (s.violation t true a (s.reachedTag a bs.length), .domain)

/-- n free bytes (log entry 36). -/
def State.freeBytes (s : State) (n : Nat) : List Byte := (List.range n).map (fun i => BitVec.ofNat 8 (Config.freeNat (s.free + i)))

/-- Read memory where the spec does not state what a unit does with a read that fails: free bytes stand for it (log entry 36). -/
def State.readFree (s : State) (t : Tx) (a n : Nat) : State × List Byte :=
  let r := s.memRead t a n
  if r.2.1 = .ok then (r.1, r.2.2) else ({ r.1 with free := r.1.free + n }, r.1.freeBytes n)

/-- The 16-bit little-endian words of a byte string. -/
def leWords : List Byte → List Nat
  | a :: b :: bs => (a.toNat + 256 * b.toNat) :: leWords bs
  | _ => []

/-! ### Unit queues and completions (R79-R83) -/

/-- Descriptors a queue holds. -/
def State.queueOf (s : State) (q : Nat) : List QDesc := SMap.get (fun _ => []) s.queues q
/-- Replace a queue's descriptors. -/
def State.setQueue (s : State) (q : Nat) (ds : List QDesc) : State :=
  { s with queues := SMap.set (fun _ => []) s.queues q ds }

/-- The matrix port of a unit queue's unit (R158). -/
def queuePort (q : Nat) : Nat :=
  if q < 0x10 then 0x40 + q
  else if q < 0x20 then 0x50 + (q - 0x10)
  else if q = 0x20 then 0x60
  else if q < 0x40 then 0x70 + (q - 0x30)
  else if q = 0x40 then 0x80
  else if q = 0x50 then 0x81
  else if q = 0x60 then 0x82
  else 0x90 + (q - 0x80)

/-- A queue's completion ring registers: base and control. -/
def queueRing (q : Nat) : Nat × Nat :=
  if q < 0x10 then (Reg.couchPipeRing q, Reg.couchPipeRingCtl q)
  else if q < 0x20 then (Reg.pressPipeRing (q - 0x10), Reg.pressPipeRingCtl (q - 0x10))
  else if q = 0x20 then (Reg.impRing, Reg.impRingCtl)
  else if q < 0x40 then (Reg.ingRing (q - 0x30), Reg.ingRingCtl (q - 0x30))
  else if q = 0x40 then (Reg.tmRing, Reg.tmRingCtl)
  else if q = 0x50 then (Reg.timeRing, Reg.timeRingCtl)
  else if q = 0x60 then (Reg.audRing, Reg.audRingCtl)
  else (Reg.cvuRing (q - 0x80), Reg.cvuRingCtl (q - 0x80))

/-- Write one entry of `size` bytes to a ring in the Sheet store and advance its write index (R186). -/
def State.ringWrite (s : State) (t : Tx) (ring ctl size : Nat) (bs : List Byte) : State :=
  let n := s.getF ctl 15 0
  let wr := s.getF ctl 31 16
  if n = 0 then s
  else ((s.memWrite t (ssBase + s.getF ring 25 4 * 16 + size * wr) bs).1).setF ctl 31 16 ((wr + 1) % n)

/-- A descriptor's kind, and its completion and event flags (R80). -/
def QDesc.kind (d : QDesc) : Nat := leAt d.bytes 0 4 / 2 ^ 20 % 256
/-- Does a descriptor ask for a completion record? -/
def QDesc.cpl (d : QDesc) : Bool := decide (leAt d.bytes 0 4 / 2 ^ 19 % 2 = 1)
/-- Does a descriptor ask for a completion event? -/
def QDesc.evt (d : QDesc) : Bool := decide (leAt d.bytes 0 4 / 2 ^ 18 % 2 = 1)

/-- Complete a descriptor (R83): the record, then the event. With no result the spec states, the record's unit result is a free
value (log entry 26). -/
def State.complete (s : State) (q : Nat) (bytes : List Byte) (status : Nat) (result : Option Nat) : State :=
  let d : QDesc := ⟨bytes, true, 0⟩
  let rcd := leBytes 2 (leAt bytes 0 2) ++ [BitVec.ofNat 8 status, 0] ++ leBytes 4 (result.getD s.fresh) ++ leBytes 8 s.now
  let s0 := if result.isSome then s else s.bumpFree
  let s1 := if d.cpl then s0.ringWrite ⟨1, queuePort q⟩ (queueRing q).1 (queueRing q).2 16 rcd else s0
  if d.evt then s1.evcSet (bitsN (leAt bytes 4 4) 29 24) (bitsN (leAt bytes 4 4) 23 15) else s1

/-- Complete the descriptor at position i of queue q and free its place. -/
def State.completeAt (s : State) (q i status : Nat) (result : Option Nat) : State :=
  match (s.queueOf q)[i]? with
  | none => s
  | some d => (s.setQueue q ((s.queueOf q).eraseIdx i)).complete q d.bytes status result

/-- Position and contents of the first descriptor of queue q that has not started. -/
def State.firstWaiting (s : State) (q : Nat) : Option (Nat × QDesc) :=
  ((s.queueOf q).zipIdx.find? (fun p => !p.1.started)).map (fun p => (p.2, p.1))

/-- Mark the descriptor at position i started, with a note. -/
def State.startAt (s : State) (q i note : Nat) : State :=
  s.setQueue q ((s.queueOf q).modify i (fun d => { d with started := true, note := note }))

/-! ### Arming commits (R19-R21, R27, R85) -/

/-- FOLD's unit number of a unit, and the unit of a number. -/
def unitNum : CommitUnit → Nat
  | .couch => 0 | .press => 1 | .imp => 2 | .ing => 3 | .tm => 4 | .time => 5 | .aud => 6
/-- The unit a FOLD list entry names. -/
def unitOfNum : Nat → Option CommitUnit
  | 0 => some .couch | 1 => some .press | 2 => some .imp | 3 => some .ing | 4 => some .tm | 5 => some .time
  | 6 => some .aud | _ => none

/-- A unit's control block (R19). -/
def unitBase : CommitUnit → Nat
  | .couch => 0x900000 | .press => 0xA00000 | .imp => 0xB00000 | .ing => 0xC00000 | .tm => 0xD00000
  | .time => 0x1000000 | .aud => 0x1100000

/-- The key of a unit's group in the commit status map. -/
def cstKey (u : CommitUnit) (grp : Nat) : Nat := unitNum u * 0x10000 + grp

/-- Is the group inside the unit's range (R19, and R465 for audio)? -/
def groupInRange (u : CommitUnit) (g : Nat) : Bool :=
  match u with
  | .couch => decide (g < 4)
  | .press => decide (g < 64)
  | .imp => decide (g ≤ 512)
  | .ing => decide (g < 64)
  | .tm => decide (g < 0x550) || (decide (0x8000 ≤ g) && decide (g < 0x802A))
  | .time => decide (g < 8)
  | .aud => decide (g < 0x40)

/-- The group's arming, if it is armed. -/
def State.armOf (s : State) (u : CommitUnit) (g : Nat) : Option Arm := s.armed.find? (fun a => a.u = u ∧ a.grp = g)

/-- The times of the eight time bases, in 2⁻¹⁶ ns. -/
def State.tbTimes (s : State) : List Nat := (List.range 8).map (fun t => (SMap.get (fun _ => TbSt.reset) s.tb t).time)

/-- Arm a group under a link tag: a group already armed is left as it is (R21). -/
def State.arm (s : State) (u : CommitUnit) (g link : Nat) : State :=
  if (s.armOf u g).isSome then s else { s with armed := s.armed ++ [⟨u, g, link, false, s.now, s.tbTimes⟩] }

/-- What COMMIT_STS shows of a group. -/
def State.cstOf (s : State) (u : CommitUnit) (g : Nat) : CommitSts := SMap.get (fun _ => CommitSts.reset) s.cst (cstKey u g)

end Sys2Proof.Machine
end

