-- ==== Sys2Proof/Machine/Tsu.lean ====
section
/-! DEFINITION. Task scheduler and event controller (chapter 3, R94-R125), and the operations on engine contexts they share
with the engines: dispatch, the end of a task, faults, presentation, parking. -/

namespace Sys2Proof.Machine

/-! ### Access to gatherings and engines -/

/-- The TSU and EVC record of gathering g. -/
def State.gathAt (s : State) (g : Nat) : Gath := SMap.get (fun _ => Gath.reset) s.gath g
/-- Store it. -/
def State.setGath (s : State) (g : Nat) (x : Gath) : State := { s with gath := SMap.set (fun _ => Gath.reset) s.gath g x }
/-- The record of engine e of gathering g. -/
def State.engAt (s : State) (g e : Nat) : Eng := SMap.get (fun _ => Eng.reset) s.eng (16 * g + e)
/-- Store it. -/
def State.setEng (s : State) (g e : Nat) (x : Eng) : State :=
  { s with eng := SMap.set (fun _ => Eng.reset) s.eng (16 * g + e) x }
/-- A context of an engine. -/
def Eng.ctx (x : Eng) (urgent : Bool) : Ctx := if urgent then x.urg else x.norm
/-- Replace a context of an engine. -/
def Eng.setCtx (x : Eng) (urgent : Bool) (c : Ctx) : Eng :=
  { x with norm := if urgent then x.norm else c, urg := if urgent then c else x.urg }
/-- Is the engine's current context the urgent one (R55)? -/
def Eng.cur (x : Eng) : Bool := x.urg.occ
/-- Is engine e of gathering g enabled (R45)? -/
def State.enabled (s : State) (g e : Nat) : Bool := s.flag (Reg.qeCtrl g e) 0
/-- Is gathering g parked (R124)? -/
def State.parked (s : State) (g : Nat) : Bool := s.flag (Reg.gathPwr g) 1

/-- General register k of a context: g0 reads 0. -/
def Ctx.gr (c : Ctx) (k : Nat) : Word :=
  if k = 0 then 0 else SMap.get (fun j => if c.fill = 0 then 0 else Config.gNoise c.fill j) c.g k
/-- Write general register k: a write to g0 is discarded. -/
def Ctx.setG (c : Ctx) (k : Nat) (v : Word) : Ctx :=
  { c with g := if k = 0 then c.g else SMap.set (fun j => if c.fill = 0 then 0 else Config.gNoise c.fill j) c.g k v }
/-- Vector register k of a context. -/
def Ctx.vr (c : Ctx) (k : Nat) : BitVec 256 := SMap.get (fun j => if c.fill = 0 then 0 else Config.vNoise c.fill j) c.v k
/-- Write vector register k. -/
def Ctx.setV (c : Ctx) (k : Nat) (v : BitVec 256) : Ctx :=
  { c with v := SMap.set (fun j => if c.fill = 0 then 0 else Config.vNoise c.fill j) c.v k v }
/-- Predicate k: p0 is always true. -/
def Ctx.pred (c : Ctx) (k : Nat) : Bool := decide (k = 0) || c.p.getLsbD k
/-- Write predicate k: a write to p0 is discarded. -/
def Ctx.setP (c : Ctx) (k : Nat) (b : Bool) : Ctx :=
  { c with p := if k = 0 then c.p else (c.p &&& ~~~(BitVec.ofNat 8 (2 ^ k))) ||| BitVec.ofNat 8 (b2n b * 2 ^ k) }
/-- Far base k of a context. -/
def Ctx.fbr (c : Ctx) (k : Nat) : BitVec 48 := SMap.get (fun j => if c.fill = 0 then 0 else Config.fbNoise c.fill j) c.fb k
/-- Write far base k. -/
def Ctx.setFb (c : Ctx) (k : Nat) (v : BitVec 48) : Ctx :=
  { c with fb := SMap.set (fun j => if c.fill = 0 then 0 else Config.fbNoise c.fill j) c.fb k v }
/-- Token slot i of a context. -/
def Ctx.slot (c : Ctx) (i : Nat) : TokSlot := SMap.get (fun _ => TokSlot.reset) c.tok i
/-- Store token slot i. -/
def Ctx.setSlot (c : Ctx) (i : Nat) (t : TokSlot) : Ctx := { c with tok := SMap.set (fun _ => TokSlot.reset) c.tok i t }
/-- Local data byte a of an engine. -/
def Eng.byte (x : Eng) (a : Nat) : Byte := SMap.get (fun j => if x.fill = 0 then 0 else Config.ramNoise x.fill j) x.ram a
/-- n local data bytes from a. -/
def Eng.bytes (x : Eng) (a n : Nat) : List Byte := (List.range n).map (fun i => x.byte (a + i))
/-- Write local data bytes from a. -/
def Eng.setBytes (x : Eng) (a : Nat) (bs : List Byte) : Eng :=
  { x with ram := SMap.setList (fun j => if x.fill = 0 then 0 else Config.ramNoise x.fill j) x.ram a bs }

/-! ### Task descriptors and completion (R98-R100, R106) -/

/-- Is task `id` of gathering g bound (R98)? -/
def State.bound (s : State) (g id : Nat) : Bool := decide (id < s.getF (Reg.tsuDescCount g) 15 0)
/-- Far address of its descriptor. -/
def State.descAddr (s : State) (g id : Nat) : Nat := ssBase + s.getF (Reg.tsuDescBase g) 25 5 * 32 + 32 * id
/-- The TSU's transactions: the owner tag at its gathering's switch (log entry 20). -/
def tsuTx (g : Nat) : Tx := ⟨1, g⟩

/-- The completion event named by descriptor bytes 20-23 (R99). -/
def State.taskEvent (s : State) (cpl : Nat) : State :=
  if bitsN cpl 31 31 = 1 then s.evcSet (bitsN cpl 29 24) (bitsN cpl 23 15) else s

/-- A task ends (R106): result, status and run count are written to its descriptor, then its completion event is set. `cpl` is
bytes 20-23 as the TSU read them, or none where it has not read them yet. DESIGN CHOICE (log entry 70): where the descriptor cannot be read
nothing is written, a write that fails is lost, and the completion event is set all the same; unread bytes 20-23 name no event. -/
def State.completeTask (s : State) (g id result status : Nat) (cpl : Option Word) : State :=
  let a := s.descAddr g id
  let (s1, ok, old) := s.memRead (tsuTx g) (a + 20) 12
  let w := match cpl with
    | some c => c.toNat
    | none => if ok = .ok then leAt old 0 4 else 0
  let s2 := if ok = .ok then
      (s1.memWrite (tsuTx g) (a + 24) (leBytes 4 (result * 2 ^ 30 + status % 2 ^ 16) ++ leBytes 4 (leAt old 8 4 + 1))).1
    else s1
  s2.taskEvent w

/-! ### Dispatch (R104, R56) -/

/-- The prio of the task in engine e's normal context, if a TSU task is there. -/
def Gath.normPrio (x : Gath) (e : Nat) : Option Nat :=
  (x.running.find? (fun r => r.e == e && !r.urgent)).map (fun r => r.task.prio)

/-- Is the engine free: enabled, both contexts empty (R104)? -/
def State.engFree (s : State) (g e : Nat) : Bool :=
  s.enabled g e && !(s.engAt g e).norm.occ && !(s.engAt g e).urg.occ

/-- The 16 engines from a rotating pointer on. -/
def rotFrom (ptr : Nat) : List Nat := (List.range 16).map (fun i => (ptr + i) % 16)

/-- Load a context on dispatch (R56): pc, g1-g4 and tsk; every other register keeps its value. -/
def Ctx.load (c : Ctx) (t : Task) : Ctx :=
  { ((((c.setG 1 t.g1).setG 2 t.g2).setG 3 t.g3).setG 4 t.g4) with
    occ := true, pc := BitVec.ofNat 13 t.pc, tsk := BitVec.ofNat 16 t.id, cancel := false, cancelled := false, sleep := none }

/-- Dispatch task t to a context of engine e. -/
def State.dispatchTo (s : State) (g e : Nat) (urgent : Bool) (t : Task) : State :=
  let x := s.gathAt g
  let n := s.engAt g e
  let s1 := s.setGath g { x with
    ready := x.ready.filter (fun r => r.id != t.id)
    running := x.running ++ [⟨t, e, urgent⟩]
    ptr := (e + 1) % 16 }
  s1.setEng g e { n.setCtx urgent ((n.ctx urgent).load t) with maskSaved := if urgent then n.mask else n.maskSaved }

/-- The ready task of highest priority, the first of its list. -/
def Gath.headTask (x : Gath) : Option Task :=
  ((List.range 8).reverse.findSome? (fun p => x.ready.find? (fun t => t.prio == p)))

/-- Dispatch ready tasks to free engines, by priority (first loop of R104). -/
def State.dispatchFree (g : Nat) : Nat → State → State
  | 0, s => s
  | n + 1, s =>
    match (s.gathAt g).headTask, (rotFrom (s.gathAt g).ptr).find? (fun e => s.engFree g e) with
    | some t, some e => State.dispatchFree g n (s.dispatchTo g e false t)
    | _, _ => s

/-- The engine an urgent task of priority p pre-empts: urgent context unoccupied, normal task of lowest prio below p, first from the
pointer among equals. An engine whose enable is 0 takes nothing (R45). -/
def State.preemptee (s : State) (g p : Nat) : Option Nat :=
  let x := s.gathAt g
  (List.range p).findSome? (fun k =>
    (rotFrom x.ptr).find? (fun e => s.enabled g e && !(s.engAt g e).urg.occ && x.normPrio e == some k))

/-- Pre-empt for urgent ready tasks (second loop of R104). -/
def State.preempt (g : Nat) : List Task → State → State
  | [], s => s
  | t :: ts, s =>
    match s.preemptee g t.prio with
    | some e => State.preempt g ts (s.dispatchTo g e true t)
    | none => State.preempt g ts s

/-- DISPATCH (R104), made whenever a task becomes ready or an engine's contexts or enable change. -/
def State.dispatchLoops (s : State) (g : Nat) : State :=
  let s1 := State.dispatchFree g 16 s
  let urg := (List.range 8).reverse.flatMap (fun p => (s1.gathAt g).ready.filter (fun t => t.urgent && t.prio == p))
  State.preempt g urg s1

/-! ### The end of a context's occupant (R55, R90, R92) -/

/-- Free a context: an urgent occupant gives the mask back (R55). DESIGN CHOICE (log entry 158): the cancel flag is the context's and does
not follow a task that yields to its next dispatch. -/
def State.freeCtx (s : State) (g e : Nat) (urgent : Bool) : State :=
  let x := s.engAt g e
  let c := x.ctx urgent
  s.setEng g e { x.setCtx urgent { c with occ := false, sleep := none, cancel := false, cancelled := false } with
    mask := if urgent then x.maskSaved else x.mask }

/-- Take the running slot of a context out of the gathering. -/
def State.dropRunning (s : State) (g e : Nat) (urgent : Bool) : State :=
  let x := s.gathAt g
  s.setGath g { x with running := x.running.filter (fun r => !(r.e == e && r.urgent == urgent)) }

/-- The TSU task in a context, if one is there (not an interrupt handler and not the start context). -/
def State.taskOf (s : State) (g e : Nat) (urgent : Bool) : Option Task :=
  ((s.gathAt g).running.find? (fun r => r.e == e && r.urgent == urgent)).map (fun r => r.task)

/-! ### TREADY and TCANCEL at the arbiter (R86, R98, R101-R103) -/

/-- Cancel memory entries still held (R103). -/
def State.cancels (s : State) (g : Nat) : List Stamped :=
  (s.gathAt g).cancelMem.filter (fun c => decide (s.now < c.at_ + 1000))

/-- Is the task in settle, ready or running? -/
def Gath.holds (x : Gath) (id : Nat) : Bool :=
  x.settle.any (fun t => t.id == id) || x.ready.any (fun t => t.id == id) || x.running.any (fun r => r.task.id == id)

/-- Ready-list entries in use: settle and ready together (R101). -/
def Gath.occupied (x : Gath) : Nat := x.settle.length + x.ready.length

/-- An operation names an unbound id (R98, R110). -/
def State.countUnbound (s : State) (g : Nat) : State := (s.addSat (Reg.tsuUnbound g) 31 0 1).evcSet g 417

/-- TREADY of a task: the state and the code of R86. DESIGN CHOICE (log entry 68): a remembered cancel and a task already held come before the
full ready list. -/
def State.tready (s : State) (g id : Nat) : State × Nat :=
  let x := s.gathAt g
  if s.parked g then (s, 4)
  else if !s.bound g id then (s.countUnbound g, 1)
  else if (s.cancels g).any (fun c => c.id == id) then
    ((s.setGath g { x with cancelMem := x.cancelMem.filter (fun c => c.id != id) }).completeTask g id 2 0 none, 2)
  else if x.holds id then (s, 3)
  else if 224 ≤ x.occupied then ((s.addSat (Reg.tsuRefused g) 31 0 1).evcSet g 416, 1)
  else (s.setGath g { x with settle := x.settle ++ [⟨id, s.now⟩] }, 0)

/-! ### Presentation (R115-R121) -/

/-- Route fields of a source (R115). -/
def State.routeMode (s : State) (g src : Nat) : Nat := s.getF (Reg.evcRoute g src) 31 30
/-- The target field of a route. -/
def State.routeTarget (s : State) (g src : Nat) : Nat := s.getF (Reg.evcRoute g src) 15 0
/-- Is the source routed in interrupt mode to engine e? -/
def State.routedTo (s : State) (g src e : Nat) : Bool :=
  decide (s.routeMode g src = 0) && Nat.testBit (s.routeTarget g src) e
/-- Is some source routed to engine e pending and enabled (R88)? -/
def State.wakeable (s : State) (g e : Nat) : Bool :=
  (List.range 512).any (fun src => s.evcPending g src && s.evcEnabled g src && s.routedTo g src e)

/-- Is the engine asleep in EWAIT, able to wake (R88)? -/
def State.asleep (s : State) (g e : Nat) : Bool :=
  let x := s.engAt g e
  s.enabled g e && (x.ctx x.cur).occ && (x.ctx x.cur).sleep.isSome

/-- Is the engine in EWAIT and not about to wake (R116)? -/
def State.inEwait (s : State) (g e : Nat) : Bool :=
  let x := s.engAt g e
  s.asleep g e && !((x.ctx x.cur).sleep.any (fun sl => sl.woken))

/-- Can the engine take an interrupt (R54)? -/
def State.canInterrupt (s : State) (g e : Nat) : Bool :=
  s.enabled g e && !(s.engAt g e).mask && !(s.engAt g e).urg.occ

/-- Is the source undeliverable as R121 says, task mode's ABSENT apart? -/
def State.undeliverable (s : State) (g src : Nat) : Bool :=
  s.parked g || decide (2 ≤ s.routeMode g src) ||
    (decide (s.routeMode g src = 0) &&
      !(List.range 16).any (fun e => Nat.testBit (s.routeTarget g src) e && s.enabled g e))

/-- Is the target idle, so that moderation is bypassed (R118)? -/
def State.targetIdle (s : State) (g src : Nat) : Bool :=
  (List.range 16).any (fun e =>
    let x := s.engAt g e
    if s.routeMode g src = 0 then Nat.testBit (s.routeTarget g src) e && (s.asleep g e || (!x.norm.occ && !x.urg.occ))
    else !x.norm.occ)

/-- Is the source moderated, and the end of its group's hold-off? -/
def State.modGroup (s : State) (g src : Nat) : Option Nat :=
  if s.flag (Reg.evcRoute g src) 28 then some (s.getF (Reg.evcRoute g src) 27 24) else none

/-- Is moderation group k in its hold-off, as EVC_MOD now gives it (R118, R119)? -/
def State.holding (s : State) (g k : Nat) : Bool :=
  match SMap.get (fun _ => none) (s.gathAt g).modAt k with
  | some t => decide (s.now < t + 100 * s.getF (Reg.evcMod g k) 15 0)
  | none => false

/-- Is the source held by its moderation group (R118)? -/
def State.moderated (s : State) (g src : Nat) : Bool :=
  match s.modGroup g src with
  | some k => s.holding g k && !s.targetIdle g src
  | none => false

/-- The latest presentation of group k. -/
def State.setModAt (s : State) (g k : Nat) (t : Option Nat) : State :=
  let x := s.gathAt g
  s.setGath g { x with modAt := SMap.set (fun _ => none) x.modAt k t }

/-- Restart the hold-off of a source's group when it has been presented (R118). -/
def State.restartHoldoff (s : State) (g src : Nat) : State :=
  match s.modGroup g src with
  | some k => s.setModAt g k (some s.now)
  | none => s

/-- Is the source stranded at this moment: pending, enabled and undeliverable (R121)? -/
def State.isStranded (s : State) (g src : Nat) : Bool := s.evcPending g src && s.evcEnabled g src && s.undeliverable g src

/-- Sources of gathering g with a pending bit set, in order. -/
def State.pendingSrcs (s : State) (g : Nat) : List Nat :=
  (List.range 16).flatMap (fun w =>
    if s.rd (Reg.evcPend g w) = 0 then []
    else (List.range 32).filterMap (fun b => if s.flag (Reg.evcPend g w) b then some (32 * w + b) else none))

/-- The sources stranded at this moment (R123). -/
def State.stranded (s : State) (g : Nat) : List Nat := (s.pendingSrcs g).filter (s.isStranded g)

/-- A source becomes stranded (R121): it is counted once, and a timeout of 0 raises the host event at once. What it was presented to is
forgotten, so that it is presented when it becomes deliverable. -/
def State.strandSrc (s : State) (g src : Nat) : State :=
  let x := s.gathAt g
  if x.strand.any (fun t => t.src == src) then s
  else
    let now := decide (s.getF (Reg.evcStrandTo g) 15 0 = 0)
    let s1 := (s.setGath g { x with
      strand := x.strand ++ [⟨src, s.now, now⟩], shown := x.shown.filter (fun t => t.src != src) }).addSat (Reg.evcStranded g) 15 0 1
    if now then s1.hostEvent 0x02 (g * 2 ^ 16 + src) else s1

/-- A source leaves the stranded count. -/
def State.unstrand (s : State) (g src : Nat) : State :=
  let x := s.gathAt g
  s.setGath g { x with strand := x.strand.filter (fun t => t.src != src) }

/-- Clear pending bits of word w of gathering g; a cleared source may be presented afresh when it is set again (R111, R116). -/
def State.evcClear (s : State) (g w : Nat) (bits : Word) : State :=
  let s1 := s.wr (Reg.evcPend g w) (s.rd (Reg.evcPend g w) &&& ~~~bits)
  let x := s1.gathAt g
  let gone := fun src => decide (src / 32 = w) && bit bits (src % 32)
  s1.setGath g { x with
    shown := x.shown.filter (fun t => !gone t.src)
    strand := x.strand.filter (fun t => !gone t.src) }

/-- Clear one source. -/
def State.evcClear1 (s : State) (g src : Nat) : State :=
  s.evcClear g (src / 32) (BitVec.ofNat 32 (2 ^ (src % 32)))

/-- The engine an interrupt-mode source is presented to (R116): one in EWAIT first, then one able to take the interrupt. -/
def State.presentee (s : State) (g src : Nat) : Option Nat :=
  let es := (rotFrom (s.gathAt g).evPtr).filter (fun e => Nat.testBit (s.routeTarget g src) e)
  (es.find? (fun e => s.inEwait g e)).or (es.find? (fun e => s.canInterrupt g e))

/-- A sleeping engine to which a source is presented will wake (R88, R116). -/
def Eng.wakeUp (x : Eng) : Eng :=
  let c := x.ctx x.cur
  x.setCtx x.cur { c with sleep := c.sleep.map (fun sl => { sl with woken := true }) }

/-- Present a source (R116-R118, R121): nothing unless it is pending and enabled; a stranded one is counted, one that is held or already
presented waits. DESIGN CHOICE (log entry 159): the EVC's pointer moves past the engine an interrupt-mode source is presented to. -/
def State.present (s : State) (g src : Nat) : State :=
  if !(s.evcPending g src && s.evcEnabled g src) then s.unstrand g src
  else if s.undeliverable g src then s.strandSrc g src
  else if s.moderated g src || (s.gathAt g).shown.any (fun t => t.src == src) then s.unstrand g src
  else if s.routeMode g src = 0 then
    let s1 := s.unstrand g src
    match s1.presentee g src with
    | none => s1
    | some e =>
      let x := s1.gathAt g
      let s2 := s1.setGath g { x with shown := x.shown ++ [⟨src, e, false⟩], evPtr := (e + 1) % 16 }
      (if s.inEwait g e then s2.setEng g e (s2.engAt g e).wakeUp else s2).restartHoldoff g src
  else
    let unb := !s.bound g (s.routeTarget g src)
    let (s1, code) := (s.unstrand g src).tready g (s.routeTarget g src)
    let s2 := s1.restartHoldoff g src
    if code = 0 ∨ code = 2 ∨ unb then s2.evcClear1 g src else s2

/-- Present every source of a list. -/
def State.presentAll (s : State) (g : Nat) (srcs : List Nat) : State := srcs.foldl (fun s src => s.present g src) s

/-- Look again at every source that is pending or was stranded, when what decides its delivery has changed (R121): those now stranded are
counted, the others leave the count and are presented. -/
def State.represent (s : State) (g : Nat) : State := s.presentAll g ((s.gathAt g).strand.map (·.src) ++ s.stranded g)

/-- Would a TREADY of the target of a waiting task-mode source be taken now (R117)? -/
def State.readyable (s : State) (g src : Nat) : Bool :=
  let x := s.gathAt g
  let id := s.routeTarget g src
  s.evcEnabled g src && decide (s.routeMode g src = 1) && s.bound g id &&
    ((s.cancels g).any (fun c => c.id == id) || (!x.holds id && decide (x.occupied < 224)))

/-- Present again the task-mode sources that waited for their task to return to idle or for a free entry (R117). -/
def State.retryTasks (s : State) (g : Nat) : State :=
  (s.pendingSrcs g).foldl (fun s src => if s.readyable g src then s.present g src else s) s

/-- DISPATCH (R104), made whenever a task becomes ready or an engine's contexts or enable change; what it frees lets waiting task-mode
sources be presented (R117). -/
def State.dispatch (s : State) (g : Nat) : State :=
  if s.parked g then s else (s.dispatchLoops g).retryTasks g

/-! ### The end of a context's occupant, and TCANCEL (R55, R86, R90, R92) -/

/-- The occupant of a context ends with a result: its task completes, the context is freed, and the TSU dispatches. -/
def State.endCtx (s : State) (g e : Nat) (urgent : Bool) (result status : Nat) : State :=
  let s1 := (s.dropRunning g e urgent).freeCtx g e urgent
  let s2 := match s.taskOf g e urgent with
    | some t => s1.completeTask g t.id result status (some t.cpl)
    | none => s1
  s2.dispatch g

/-- A fault of a context (R92): recorded unless valid is set, which sets lost; the fault event; the task ends FAULTED. -/
def State.fault (s : State) (g e : Nat) (urgent : Bool) (cause pc issue addr : Nat) : State :=
  let c := (s.engAt g e).ctx urgent
  let s1 :=
    if s.flag (Reg.qeFault g e) 31 then s.setB (Reg.qeFault g e) 30 true
    else
      (((s.wr (Reg.qeFault g e)
          (BitVec.ofNat 32 (2 ^ 31 + b2n urgent * 2 ^ 29 + c.tsk.toNat * 2 ^ 8 + cause))).wr
        (Reg.qeFaultPc g e) (BitVec.ofNat 32 (issue * 2 ^ 16 + pc))).wr
        (Reg.qeFaultAddrLo g e) (BitVec.ofNat 32 addr)).wr
        (Reg.qeFaultAddrHi g e) (BitVec.ofNat 32 (addr / 2 ^ 32 % 2 ^ 16))
  (s1.evcSet g (384 + e)).endCtx g e urgent 3 cause

/-- TCANCEL of a task: the state and the code of R86. -/
def State.tcancel (s : State) (g id : Nat) : State × Nat :=
  let x := s.gathAt g
  if s.parked g then (s, 4)
  else if !s.bound g id then (s.countUnbound g, 3)
  else if x.settle.any (fun t => t.id == id) then
    (((s.setGath g { x with settle := x.settle.filter (fun t => t.id != id) }).completeTask g id 2 0 none).retryTasks g, 0)
  else match x.ready.find? (fun t => t.id == id), x.running.find? (fun r => r.task.id == id) with
    | some t, _ =>
      (((s.setGath g { x with ready := x.ready.filter (fun t => t.id != id) }).completeTask g id 2 0 (some t.cpl)).retryTasks g, 0)
    | none, some r =>
      let n := s.engAt g r.e
      ((s.setEng g r.e (n.setCtx r.urgent { n.ctx r.urgent with cancel := true, cancelled := true })).evcSet g (400 + r.e), 2)
    | none, none =>
      if (s.cancels g).any (fun c => c.id == id) then
        (s.setGath g { x with
          cancelMem := x.cancelMem.map (fun c => if c.id = id then ⟨id, s.now⟩ else c) }, 1)
      else if 32 ≤ (s.cancels g).length then (s, 3)
      else (s.setGath g { x with
        cancelMem := x.cancelMem.filter (fun c => decide (s.now < c.at_ + 1000)) ++ [⟨id, s.now⟩] }, 1)

/-! ### Commands -/

/-- SETTLE_EXPIRY: the first task of settle whose 1,000 counts have passed reads its descriptor and becomes ready (R100, R102). -/
def State.settleExpiry (s : State) (g id : Nat) : State :=
  let x := s.gathAt g
  match x.settle with
  | [] => s
  | t :: rest =>
    if t.id ≠ id ∨ s.now < t.at_ + 1000 then s
    else
      let (s1, acc, d) := s.memRead (tsuTx g) (s.descAddr g id) 24
      match acc with
      | .ok =>
        let w0 := leAt d 0 4
        let w5 := leAt d 20 4
        let s2 := s1.setGath g { s1.gathAt g with settle := rest }
        if bitsN w0 31 17 ≠ 0 ∨ bitsN w0 1 0 ≠ 0 ∨ bitsN w5 30 30 ≠ 0 ∨ bitsN w5 14 0 ≠ 0 then
          (s2.completeTask g id 3 1 (some (BitVec.ofNat 32 w5))).retryTasks g
        else
          let k : Task :=
            { id := id, prio := bitsN w0 15 13, urgent := decide (bitsN w0 16 16 = 1), pc := bitsN w0 12 0,
              g1 := BitVec.ofNat 32 (leAt d 4 4), g2 := BitVec.ofNat 32 (leAt d 8 4),
              g3 := BitVec.ofNat 32 (leAt d 12 4), g4 := BitVec.ofNat 32 (leAt d 16 4), cpl := BitVec.ofNat 32 w5 }
          let y := s2.gathAt g
          (s2.setGath g { y with ready := y.ready ++ [k] }).dispatch g
      | .domain => ((s1.setGath g { s1.gathAt g with settle := rest }).completeTask g id 3 7 (some 0)).retryTasks g
      | _ => ((s1.setGath g { s1.gathAt g with settle := rest }).completeTask g id 3 8 (some 0)).retryTasks g

/-- CANCEL_MEMORY_EXPIRY: an entry whose 1,000 counts have passed is freed (R103). -/
def State.cancelExpiry (s : State) (g id : Nat) : State :=
  let x := s.gathAt g
  s.setGath g { x with cancelMem := x.cancelMem.filter (fun c => !(c.id == id && decide (c.at_ + 1000 ≤ s.now))) }

/-- The sources of a moderation group. -/
def State.groupSources (s : State) (g k : Nat) : List Nat :=
  (List.range 512).filter (fun src => s.modGroup g src == some k)

/-- MODERATION_HOLDOFF_EXPIRY: the pending sources of the group are presented together, and the hold-off restarts when any was (R118). -/
def State.holdoffExpiry (s : State) (g k : Nat) : State :=
  if s.holding g k then s
  else
    let r := (s.groupSources g k).foldl (fun (p : State × Bool) src =>
      let t := (p.1.setModAt g k none).present g src
      (t, p.2 || (SMap.get (fun _ => none) (t.gathAt g).modAt k).isSome)) (s, false)
    if r.2 then r.1.setModAt g k (some s.now) else r.1

/-- The bits EVC_TAKE[w] of gathering g gives engine e: pending, enabled and routed to it in interrupt mode (R113). -/
def State.takeBits (s : State) (g w e : Nat) : Word :=
  BitVec.ofNat 32 ((List.range 32).foldl (fun n b =>
    let src := 32 * w + b
    n + b2n (s.evcPending g src && s.evcEnabled g src && s.routedTo g src e) * 2 ^ b) 0)

/-- A read of EVC_TAKE[w] of gathering g: an engine of the gathering takes its bits, anyone else reads 0 (R113). -/
def State.evcTake (s : State) (ini : Ini) (g w : Nat) : State × Word :=
  match ini with
  | .engine q => if q.g.val = g then (s.evcClear g w (s.takeBits g w q.e.val), s.takeBits g w q.e.val) else (s, 0)
  | _ => (s, 0)

/-- A write of EVC_ROUTE: the source is presented again under its new route (R120). -/
def State.evcRouteWrite (s : State) (g src : Nat) (v : Word) : State :=
  let s1 := s.wr (Reg.evcRoute g src) (v &&& 0xDF00FFFF)
  let x := s1.gathAt g
  (s1.setGath g { x with shown := x.shown.filter (fun t => t.src != src) }).present g src

/-- STRAND_TIMEOUT: a source still stranded after the timeout raises its host event once (R121). -/
def State.strandTimeout (s : State) (g src : Nat) : State :=
  let x := s.gathAt g
  match x.strand.find? (fun t => t.src == src) with
  | some t =>
    if t.raised || decide (s.now < t.at_ + 1000 * s.getF (Reg.evcStrandTo g) 15 0) then s
    else
      (s.setGath g { x with
        strand := x.strand.map (fun u => if u.src = src then { u with raised := true } else u) }).hostEvent
          0x02 (g * 2 ^ 16 + src)
  | none => s

/-- A write of TSU_DESC_BASE or TSU_DESC_COUNT (R97). -/
def State.tsuDescWrite (s : State) (g : Nat) (count : Bool) (v : Word) : State :=
  let x := s.gathAt g
  if x.settle.isEmpty && x.ready.isEmpty && x.running.isEmpty then
    if count then s.wr (Reg.tsuDescCount g) (v &&& 0xFFFF) else s.wr (Reg.tsuDescBase g) (v &&& 0x3FFFFE0)
  else s.setB (Reg.tsuSts g) 23 true

/-- Write an engine's enable (R45, R88): when it returns to 1 a sleeping EWAIT tests its wake condition at once; while it is 0 nothing wakes
the engine. -/
def State.enableWrite (s : State) (g e : Nat) (v : Word) : State :=
  let x := s.engAt g e
  let u := x.cur
  let c := x.ctx u
  let s1 := (s.wr (Reg.qeCtrl g e) (v &&& 1)).setEng g e (x.setCtx u { c with sleep := c.sleep.map (fun sl => { sl with woken := false }) })
  let s2 :=
    if bit v 0 then
      match c.sleep with
      | some sl =>
        if c.occ && s.wakeable g e then
          s1.setEng g e (x.setCtx u { (c.setG sl.rd 0) with sleep := none, pc := c.pc + BitVec.ofNat 13 sl.size })
        else if c.occ && (match sl.deadline with | some d => decide (d ≤ s.now) | none => false) then
          s1.setEng g e (x.setCtx u { (c.setG sl.rd 1) with sleep := none, pc := c.pc + BitVec.ofNat 13 sl.size })
        else s1
      | none => s1
    else s1
  (if bit v 0 then s2.dispatch g else s2).represent g

/-- An engine after an unpark (R125): registers and local memory free, pages empty, nothing in flight (log entry 19). -/
def Eng.unparked (n : Nat) : Eng :=
  let c : Ctx := { Ctx.reset with fill := n, p := Config.pNoise n ||| 1 }
  { Eng.reset with norm := c, urg := c, fill := n }

/-- May the gathering park now: every engine held, no task (R125)? -/
def State.mayPark (s : State) (g : Nat) : Bool :=
  let x := s.gathAt g
  (List.range 16).all (fun e => !s.enabled g e) && x.settle.isEmpty && x.ready.isEmpty && x.running.isEmpty

/-- GATHERING_PARK: a requested park happens when it may (R125). -/
def State.gatheringPark (s : State) (g : Nat) : State :=
  if s.flag (Reg.gathPwr g) 0 && !s.parked g && s.mayPark g then (s.setB (Reg.gathPwr g) 1 true).represent g else s

end Sys2Proof.Machine
end

