-- ==== Sys2Proof/Machine/Mailbox.lean ====
section
/-! DEFINITION. Mailboxes and doorbells (R126-R140, R577), and the unpark that resets a gathering's mailbox end (R125, R135). -/

namespace Sys2Proof.Machine

/-- A mailbox endpoint (R126): its code and, at a gathering end, the gathering. -/
structure MbxEnd where
  code : Nat
  gath : Nat
deriving DecidableEq, Repr

/-- The endpoint a bus initiator is. -/
def MbxEnd.ofIni : Ini → MbxEnd
  | .host0 => ⟨0, 0⟩
  | .host1 => ⟨1, 0⟩
  | .spine => ⟨2, 0⟩
  | .clasp _ => ⟨3, 0⟩
  | .engine q => ⟨4, q.g.val⟩

/-- The sender end of channel n; the gathering counts at a gathering end only. -/
def State.mbxSender (s : State) (n : Nat) : MbxEnd :=
  let c := s.getF (Reg.mbxCfg n) 31 28
  ⟨c, if c = 4 then s.getF (Reg.mbxCfg n) 23 18 else 0⟩
/-- The receiver end of channel n. -/
def State.mbxReceiver (s : State) (n : Nat) : MbxEnd :=
  let c := s.getF (Reg.mbxCfg n) 27 24
  ⟨c, if c = 4 then s.getF (Reg.mbxCfg n) 23 18 else 0⟩

/-- Is channel n in use (R127)? -/
def State.mbxUsed (s : State) (n : Nat) : Bool := s.flag (Reg.mbxCfg n) 0

/-- Is a message waiting in channel n? -/
def State.mbxFull (s : State) (n : Nat) : Bool := s.flag (Reg.mbxSts n) 31

/-- Request one of PF1's fixed, unmoderated vectors (R518): held with its count while PF1 sleeps (R519). -/
def State.requestPf1 (s : State) (v : Nat) : State :=
  if s.hif.d3Pf1 || s.hif.linkDown || s.hif.turnedOff || s.hif.l2 then
    let r := s.hif.vecAt (128 + v)
    { s with hif := { s.hif with vec := SMap.set (fun _ => Vec.reset) s.hif.vec (128 + v) { r with count := r.count + 1 } } }
  else s.emit (.msix true v)

/-- What a notice tells its end. -/
inductive Notice where
  | receive | space | aborted | overrun
deriving DecidableEq, Repr

/-- Send a notice of channel n to an end (R131, R518): an event source at a gathering, a vector at the host; the Spine and Clasp take
it as an internal event. -/
def State.notify (s : State) (n : Nat) (dst : MbxEnd) (k : Notice) : State :=
  if dst.code = 4 then s.evcSet dst.gath (s.getF (Reg.mbxCfg n) 17 9)
  else if dst.code = 0 ∧ n < 32 then
    if s.flag (Reg.hifMbxVec n) 31 then s.requestVec (s.getF (Reg.hifMbxVec n) 6 0) else s
  else if dst.code = 1 then
    if n = 33 then s.requestPf1 0
    else if n = 32 ∧ k = .space then s.requestPf1 1
    else if n = 36 then s.requestPf1 2
    else s
  else s

/-- A host access to channel n was discarded: overrun, and the host event (R133, R134, R514). -/
def State.mbxOverrun (s : State) (n : Nat) : State :=
  let s1 := (s.setB (Reg.mbxSts n) 30 true).hostEvent 0x08 n
  if n < 32 then s1.notify n ⟨0, 0⟩ .overrun else s1

/-- Answer a bus access. -/
def State.answer (s : State) (r : Resp) : State := { s with resp := r }

/-- Is the writer one of the two host functions? -/
def Ini.isHost : Ini → Bool
  | .host0 => true
  | .host1 => true
  | _ => false

/-- Is a secure channel closed to this initiator (R134)? -/
def mbxBarred (ini : Ini) (n : Nat) : Bool :=
  decide (32 ≤ n) && (match ini with | .host0 => true | .engine _ => true | _ => false)

/-- An access R134 refuses: an engine meets DOMAIN, a host access is logged as overrun on the channel. -/
def State.mbxBar (s : State) (ini : Ini) (n off : Nat) (wr : Bool) : State :=
  match ini with
  | .engine _ => (s.violation (Tx.ofIni ini) wr (0x20000000 + off) 0).answer .domain
  | _ => (s.mbxOverrun n).answer (if wr then .domain else .ok 0)

/-- A write R133 refuses: a bus error on chip, discarded with overrun from the host. -/
def State.mbxRefuse (s : State) (ini : Ini) (n : Nat) : State :=
  if Ini.isHost ini then (s.mbxOverrun n).answer .domain else s.answer .busError

/-- May `ini` write the message of channel n now (R131, R133)? A channel not in use has no sender (R127; log entry 160). -/
def State.mbxMaySend (s : State) (ini : Ini) (n : Nat) : Bool :=
  s.mbxUsed n && decide (MbxEnd.ofIni ini = s.mbxSender n) && !s.mbxFull n

/-- Write data word k of channel n. -/
def State.mbxDataWrite (s : State) (ini : Ini) (n k : Nat) (v : Word) : State :=
  if mbxBarred ini n then s.mbxBar ini n (Reg.mbxData n k) true
  else if s.mbxMaySend ini n then
    let s1 := s.wr (Reg.mbxData n k) v
    ({ s1 with mbxTouched := SMap.set (fun _ => false) s1.mbxTouched n true }).answer (.ok 0)
  else s.mbxRefuse ini n

/-- Set full, count the message and notify the receiver (R129-R131). Clasp takes its trigger messages in the order they come (R493). -/
def State.mbxPost (s : State) (n : Nat) : State :=
  let s1 := ((s.setB (Reg.mbxSts n) 31 true).addWrap (Reg.mbxSts n) 15 0 1).notify n (s.mbxReceiver n) .receive
  if n = 32 ∨ n = 34 then { s1 with clasp := { s1.clasp with trig := s1.clasp.trig ++ [n] } } else s1

/-- Write MBX_SEND of channel n. -/
def State.mbxSendWrite (s : State) (ini : Ini) (n : Nat) (v : Word) : State :=
  if mbxBarred ini n then s.mbxBar ini n (Reg.mbxSend n) true
  else if s.mbxMaySend ini n then (if bit v 0 then s.mbxPost n else s).answer (.ok 0)
  else s.mbxRefuse ini n

/-- Clasp sends the oldest alarm notice that is due, when channel 36 is enabled and empty (R501). The spec does not state the notice's words:
free values (log entry 35). -/
def State.sendNotice (s : State) : State :=
  match s.clasp.noticeDue with
  | [] => s
  | _ :: rest =>
    if s.mbxFull 36 || !s.mbxUsed 36 then s
    else
      State.mbxPost { s with
        clasp := { s.clasp with noticeDue := rest }
        reg := (List.range 16).foldl
          (fun m k => SMap.set resetWord m (Reg.mbxData 36 k) (BitVec.ofNat 32 (Config.freeNat (s.free + k)))) s.reg
        free := s.free + 16 } 36

/-- Clasp sends the reply it owes, once the reply channel is empty (R493): words 0 and 1, the rest 0. -/
def State.sendOwed (s : State) : State :=
  match s.clasp.owed with
  | none => s
  | some (n, w0, w1) =>
    if s.mbxFull n || !s.mbxUsed n then s
    else
      State.mbxPost { s with
        clasp := { s.clasp with owed := none }
        reg := (List.range 16).foldl
          (fun m k => SMap.set resetWord m (Reg.mbxData n k) (if k = 0 then w0 else if k = 1 then w1 else 0)) s.reg } n

/-- The receiver has read word 15: full clears and the sender gets a space notice (R131), on which Clasp sends a notice that waited. -/
def State.mbxDrain (s : State) (n : Nat) : State :=
  let s1 := s.setB (Reg.mbxSts n) 31 false
  let s2 := ({ s1 with mbxTouched := SMap.set (fun _ => false) s1.mbxTouched n false }).notify n (s.mbxSender n) .space
  if n = 36 then s2.sendNotice else if n = 33 ∨ n = 35 then s2.sendOwed else s2

/-- Clasp appends an alarm record (R501): the cause and, for echo causes, channel and receiver; the picture, V, E and M. A full queue only
counts the alarm as lost. -/
def State.claspAlarm (s : State) (region cause ch rx n v e m : Nat) : State :=
  let lost := s.getF Reg.clsAlarm 15 0
  if !s.clasp.alive then s
  else if 256 ≤ s.clasp.alarms.length then s.addSat Reg.clsAlarm 15 0 1
  else
    let no := s.clasp.alarmNo + 1
    let rec_ := leBytes 4 no ++ [BitVec.ofNat 8 region, BitVec.ofNat 8 cause] ++ leBytes 2 ch ++ leBytes 2 rx ++ leBytes 4 n
      ++ leBytes 4 v ++ leBytes 4 e ++ leBytes 4 m ++ leBytes 8 s.now ++ leBytes 4 lost ++ List.replicate 26 0
    let s1 := { s with clasp := { s.clasp with
      alarms := s.clasp.alarms ++ [rec_], alarmNo := no, noticeDue := s.clasp.noticeDue ++ [no] } }
    (s1.setF Reg.clsAlarm 31 16 (s.clasp.alarms.length + 1)).sendNotice

/-- Read data word k of channel n: the receiver's read of word 15 drains a full channel. -/
def State.mbxDataRead (s : State) (ini : Ini) (n k : Nat) : State :=
  if mbxBarred ini n then s.mbxBar ini n (Reg.mbxData n k) false
  else
    (if k = 15 ∧ s.mbxUsed n ∧ s.mbxFull n ∧ MbxEnd.ofIni ini = s.mbxReceiver n then s.mbxDrain n else s).answer
      (.ok (s.rd (Reg.mbxData n k)))

/-- Is a configuration word one R126 and R127 allow for channel n? -/
def mbxCfgOk (n : Nat) (v : Word) : Bool :=
  let ok := fun e => if n < 32 then decide (e = 0) || decide (e = 2) || decide (e = 4) else decide (1 ≤ e) && decide (e ≤ 3)
  let a := fld v 31 28
  let b := fld v 27 24
  ok a && ok b && !(decide (a = 4) && decide (b = 4)) &&
    (!(decide (a = 4) || decide (b = 4)) || (decide (432 ≤ fld v 17 9) && decide (fld v 17 9 ≤ 447)))

/-- May `ini` configure channel n (R126)? -/
def mbxConfigurer (ini : Ini) (n : Nat) : Bool :=
  match ini with
  | .spine => decide (n < 32)
  | .clasp _ => decide (32 ≤ n)
  | _ => false

/-- Write MBX_CFG[n]: taken or discarded (R126). -/
def State.mbxCfgWrite (s : State) (ini : Ini) (n : Nat) (v : Word) : State :=
  (if mbxConfigurer ini n && (!bit v 0 || mbxCfgOk n v) then s.wr (Reg.mbxCfg n) (v &&& 0xFFFFFE01) else s).answer (.ok 0)

/-- A doorbell register write refused under R577. -/
def State.bellRefuse (s : State) (ini : Ini) (off : Nat) : State :=
  (s.violation (Tx.ofIni ini) true (0x20000000 + off) 0).answer .domain

/-- Ring doorbell d from the host (R136): the routed event source, when the doorbell is delivered. -/
def State.ringIn (s : State) (d : Nat) : State :=
  if s.flag (Reg.mbxDbiRoute d) 31 then s.evcSet (s.getF (Reg.mbxDbiRoute d) 29 24) (s.getF (Reg.mbxDbiRoute d) 23 15) else s

/-- Write MBX_DBI[i] (R136, R577). -/
def State.dbiWrite (s : State) (ini : Ini) (i : Nat) (v : Word) : State :=
  if ini = .host0 then
    ((List.range 32).foldl (fun s b => if bit v b then s.ringIn (32 * i + b) else s) s).answer (.ok 0)
  else s.bellRefuse ini (Reg.mbxDbi i)

/-- Set device-to-host doorbell d: one that is set already sets nothing new (R138, R140). -/
def State.ringOut (s : State) (i b : Nat) : State :=
  if s.flag (Reg.mbxDbo i) b then s
  else
    let s1 := s.setB (Reg.mbxDbo i) b true
    if s1.flag (Reg.hifDboVec (32 * i + b)) 31 then s1.requestVec (s1.getF (Reg.hifDboVec (32 * i + b)) 6 0) else s1

/-- Write MBX_DBO_SET[i] (R138, R577). -/
def State.dboSetWrite (s : State) (ini : Ini) (i : Nat) (v : Word) : State :=
  match ini with
  | .engine _ | .spine =>
    ((List.range 32).foldl (fun s b => if bit v b then s.ringOut i b else s) s).answer (.ok 0)
  | _ => s.bellRefuse ini (Reg.mbxDboSet i)

/-- Write MBX_DBO[i] (R139, R577): each 1 clears. -/
def State.dboWrite (s : State) (ini : Ini) (i : Nat) (v : Word) : State :=
  if ini = .host0 then (s.wr (Reg.mbxDbo i) (s.rd (Reg.mbxDbo i) &&& ~~~v)).answer (.ok 0)
  else s.bellRefuse ini (Reg.mbxDbo i)

/-- Write MBX_DBI_ROUTE[d] (R137, R577): a source outside 432-447 is not taken with en set (log entry 21). -/
def State.dbiRouteWrite (s : State) (ini : Ini) (d : Nat) (v : Word) : State :=
  if ini = .spine then
    (if !bit v 31 || (decide (432 ≤ fld v 23 15) && decide (fld v 23 15 ≤ 447))
      then s.wr (Reg.mbxDbiRoute d) (v &&& 0xBFFF8000) else s).answer (.ok 0)
  else s.bellRefuse ini (Reg.mbxDbiRoute d)

/-- Clear the 16 data words of channel n. -/
def State.mbxWipe (s : State) (n : Nat) : State :=
  { s with
    reg := (List.range 16).foldl (fun m k => SMap.set resetWord m (Reg.mbxData n k) 0) s.reg
    mbxTouched := SMap.set (fun _ => false) s.mbxTouched n false }

/-- MBX_ENDPOINT_RESET for one channel (R135): a sender's reset clears a message begun and not sent. -/
def State.mbxResetOne (dst : MbxEnd) (s : State) (n : Nat) : State :=
  let touched := SMap.get (fun _ => false) s.mbxTouched n
  let held := s.mbxFull n || touched
  if s.mbxReceiver n = dst then
    let s1 := (s.setB (Reg.mbxSts n) 31 false).mbxWipe n
    if held then (s1.setB (Reg.mbxSts n) 29 true).notify n (s.mbxSender n) .aborted else s1
  else if s.mbxSender n = dst ∧ !s.mbxFull n ∧ touched then s.mbxWipe n
  else s

/-- MBX_ENDPOINT_RESET (R135): every channel of which the endpoint is the receiver or the sender. -/
def State.mbxReset (s : State) (dst : MbxEnd) : State := (List.range 48).foldl (State.mbxResetOne dst) s

/-- Write GATH_PWR (R124, R125): park is requested, or an unpark returns the engines reset and resets the gathering's mailbox end. -/
def State.gathPwrWrite (s : State) (g : Nat) (v : Word) : State :=
  if bit v 0 then s.setB (Reg.gathPwr g) 0 true
  else if s.parked g then
    let s1 := { s with
      free := s.free + 1
      eng := (List.range 16).foldl
        (fun m e => SMap.set (fun _ => Eng.reset) m (16 * g + e) (Eng.unparked (s.free + 1))) s.eng
      reg := SMap.dropKeys (fun k => decide (Reg.qeCtrl g 0 ≤ k) && decide (k < Reg.qeCtrl g 0 + 0x1000)) s.reg }
    (((s1.setF (Reg.gathPwr g) 1 0 0).mbxReset ⟨4, g⟩).represent g)
  else s.setB (Reg.gathPwr g) 0 false

end Sys2Proof.Machine
end

