-- ==== Sys2Proof/Machine/Gate.lean ====
section
/-! DEFINITION. Who may reach which register: the per-block column of R141, with R125, R145, R147, R153, R239, R259, R260,
R319, R489's windows, R505, R535 and R546. Mailbox and doorbell registers make their own checks (Mailbox.lean). -/

namespace Sys2Proof.Machine

/-- May the host's PF0 make this access (R505), given what boot has reached (R535)? -/
def State.hostMay (s : State) (off : Nat) (wr : Bool) : Bool :=
  (!wr && (inRange off 0 0x10000 || inRange off 0x10000 0x10100)) ||
    (decide (s.getF Reg.sysBoot 31 28 = 5) &&
      (inRange off 0x20000 0x40000 || (!wr && inRange off 0x1400000 0x1410000)))

/-- Is the access to a Clasp window one the CLS rules allow? -/
def clsMay (ini : Ini) (off : Nat) (wr : Bool) : Bool :=
  let o := off - 0x10000
  if o < 0x100 then !wr
  else if inRange o 0x4000 0x5000 then (match ini with | .host1 => wr | .clasp _ => !wr | _ => false)
  else if inRange o 0x5000 0x6000 then (match ini with | .host1 => !wr | .clasp _ => wr | _ => false)
  else if inRange o 0x6000 0x7000 then (match ini with | .spine => wr | .clasp _ => !wr | _ => false)
  else if inRange o 0x7000 0x8000 then (match ini with | .spine => !wr | .clasp _ => wr | _ => false)
  else true

/-- Is `off` an engine control register of a parked gathering (R125)? -/
def State.parkedReg (s : State) (off : Nat) : Bool :=
  inRange off 0x400000 0x800000 && decide (0x8000 ≤ off % 0x10000) && decide (off % 0x10000 < 0x9000)
    && s.parked ((off - 0x400000) / 0x10000)

/-- Is the initiator the Spine? -/
def Ini.isSpine (i : Ini) : Bool := match i with | .spine => true | _ => false
/-- Is the initiator an engine or the Spine? -/
def Ini.isEngineOrSpine (i : Ini) : Bool := match i with | .spine => true | .engine _ => true | _ => false
/-- Is the initiator Clasp? -/
def Ini.isClasp (i : Ini) : Bool := match i with | .clasp _ => true | _ => false

/-- A register the Spine never writes (R10, R18): one of a data-plane unit, engine control before the wall program starts excepted (R45). A
command that says it did has no effect and meets an error response (log entry 151). -/
def State.spineNever (s : State) (off : Nat) : Bool :=
  inRange off 0x400000 0x1400000 &&
    !(inRange off 0x400000 0x800000 && decide (0x8000 ≤ off % 0x10000) && !s.sys.programStarted)

/-- How a register access is met before the register itself acts. -/
def State.regGate (s : State) (ini : Ini) (off : Nat) (wr : Bool) (v : Word) : MemAcc :=
  if (RegTable.block? off).isNone then .error
  else
    let hostOk := match ini with
      | .host0 => s.hostMay off wr
      | .host1 => inRange off 0x10000 0x20000 || inRange off 0x21000 0x21800
      | _ => true
    if !hostOk then .domain
    else if inRange off 0x10000 0x20000 && !clsMay ini off wr then .domain
    else if s.parkedReg off then .error
    else if !wr then .ok
    else if off = Reg.sysMap ∧ !Ini.isSpine ini then .domain
    else if inRange off 0x80 0x90 && !Ini.isEngineOrSpine ini then .domain
    else if (inRange off 0x1310000 0x1311000 || inRange off 0x1320000 0x1338000) && !Ini.isClasp ini then .domain
    else if Ini.isSpine ini && s.spineNever off then .range
    else if s.safetyOnly off v && decide ((Tx.ofIni ini).tag ≠ 2) then .domain
    else .ok

/-- Make a register access if the gate lets it through, and answer as the initiator meets it (R155). -/
def State.gated (s : State) (ini : Ini) (off : Nat) (wr : Bool) (v : Word) (act : State → State) : State :=
  match s.regGate ini off wr v with
  | .ok => act s
  | .domain => (s.violation (Tx.ofIni ini) wr (0x20000000 + off) (s.regOwner off v)).answer .domain
  | _ => s.answer .busError

/-- A gated write that is then answered. -/
def State.gatedWrite (s : State) (ini : Ini) (off : Nat) (v : Word) (act : State → State) : State :=
  s.gated ini off true v (fun s => (act s).answer (.ok 0))

end Sys2Proof.Machine
end

