-- ==== Sys2Proof/Machine/Sets.lean ====
section
/-! DEFINITION. Commit groups as sets of registers (R19, R20, R231): which shadow fields a group holds, what a latch makes active, and
the frame rates and configurations the units read from a set. -/

namespace Sys2Proof.Machine

/-! ### Groups and latching -/

/-- Is `off` inside an array of n blocks of `step` bytes from `base`? The index, if so. -/
def blockOf (base step n off : Nat) : Option Nat :=
  if base ≤ off ∧ off < base + step * n then some ((off - base) / step) else none

/-- Does shadow register `off` belong to group g of unit u (R19, R224-R274, R309, R321, R403, R408, R439, R448, R465)? Layer and PTP
port registers follow their shadow sheet and tb fields. -/
def State.inGroup (s : State) (u : CommitUnit) (g off : Nat) : Bool :=
  match u with
  | .couch =>
    blockOf 0x900100 0x40 4 off == some g
    || (match blockOf 0x901000 0x40 64 off with
        | some l => fld (s.rdSh (Reg.couchLayerCtrl l)) 30 29 == g | none => false)
    || (match blockOf 0x902000 0x40 64 off with
        | some l => fld (s.rdSh (Reg.couchLayerCtrl l)) 30 29 == g | none => false)
    || (g == 0 && (blockOf 0x904040 0x40 15 off).isSome)
  | .press => blockOf 0xA01000 0x80 64 off == some g
  | .imp => if g = 0 then decide (0xB00000 ≤ off) && decide (off < 0xB10000) else blockOf 0xB10000 0x100 512 off == some (g - 1)
  | .ing => blockOf 0xC01000 0x40 64 off == some g
  | .tm =>
    if g < 0x400 then blockOf 0xD10000 0x20 1024 off == some g
    else if g < 0x550 then blockOf 0xD20000 0x20 336 off == some (g - 0x400)
    else blockOf 0xD30000 0x1000 42 off == some (g - 0x8000)
  | .time =>
    blockOf 0x1001000 0x100 8 off == some g
    || (match blockOf 0x1008000 0x40 42 off with
        | some m => fld (s.rdSh (Reg.timePortCfg m)) 27 25 == g | none => false)
  | .aud =>
    if g < 0x10 then blockOf 0x1101000 0x40 16 off == some g
    else if g < 0x14 then blockOf 0x1101400 0x80 4 off == some (g - 0x10) && decide (off % 0x100 % 0x80 < 4)
    else if g < 0x18 then blockOf 0x1101600 0x80 4 off == some (g - 0x14)
    else if g < 0x20 then blockOf 0x1101800 0x10 8 off == some (g - 0x18)
    else if g < 0x30 then blockOf 0x1102000 0x40 16 off == some (g - 0x20)
    else blockOf 0x1103000 0x40 16 off == some (g - 0x30)

/-- The bits of a field. -/
def RegField.mask (f : RegField) : Nat := (2 ^ (f.msb + 1 - f.lsb) - 1) * 2 ^ f.lsb

/-- The bits of a register whose access type satisfies `p`. -/
def accMask (off : Nat) (p : Acc → Bool) : Word :=
  match RegTable.lookup off with
  | none => 0
  | some d => BitVec.ofNat 32 (((d.fields.filter (fun f => p f.acc)).map RegField.mask).sum)

/-- The SH bits of a register. -/
def shMask (off : Nat) : Word := accMask off (fun a => a == .sh)

/-- A write applied by access type alone (R5, R6): RW and LV fields take the value, W1C fields clear and W1S fields set where it has a 1, SH
fields take it in the shadow; RO, RC and WO fields and reserved bits keep what they hold. -/
def State.plainWrite (s : State) (off : Nat) (v : Word) : State :=
  let st := accMask off (fun a => a == .rw || a == .lv)
  let c := accMask off (fun a => a == .w1c)
  let o := accMask off (fun a => a == .w1s)
  let h := shMask off
  let s1 := s.wr off ((((s.rd off &&& ~~~st) ||| (v &&& st)) &&& ~~~(v &&& c)) ||| (v &&& o))
  if h = 0 then s1 else s1.wrSh off ((s.rdSh off &&& ~~~h) ||| (v &&& h))

/-- The word a latch makes active: shadow values of SH fields, every other field as it is. -/
def State.latched (s : State) (off : Nat) : Word :=
  (s.rd off &&& ~~~(shMask off)) ||| (s.rdSh off &&& shMask off)

/-- What a check reads: the latched word where the register's group is among those latching, the active word elsewhere (R22, R24). -/
def State.viewOf (s : State) (gs : List (CommitUnit × Nat)) (off : Nat) : Word :=
  if gs.any (fun g => s.inGroup g.1 g.2 off) then s.latched off else s.rd off

/-- Make the latched set of the groups active in one step (R20). Registers neither map lists already agree. -/
def State.latchGroups (s : State) (gs : List (CommitUnit × Nat)) : State :=
  let keys := ((s.shd.map Prod.fst) ++ (s.reg.map Prod.fst)).filter (fun off => gs.any (fun g => s.inGroup g.1 g.2 off))
  { s with reg := keys.foldl (fun m off => SMap.set resetWord m off (s.latched off)) s.reg }

/-! ### Rates -/

/-- Frame rate of a rate code as num ÷ den (R193, R455); code 0xD and above is reserved. -/
def rateNum (code : Nat) : Nat :=
  match code with
  | 0 => 24000 | 1 => 24 | 2 => 25 | 3 => 30000 | 4 => 30 | 5 => 48000 | 6 => 48 | 7 => 50 | 8 => 60000 | 9 => 60 | 10 => 100
  | 11 => 120000 | 12 => 120 | _ => 0
/-- The denominator. -/
def rateDen (code : Nat) : Nat := if code = 0 ∨ code = 3 ∨ code = 5 ∨ code = 8 ∨ code = 11 then 1001 else 1
/-- The rate × 1001, a whole number. -/
def rate1001 (code : Nat) : Nat := rateNum code * 1001 / rateDen code
/-- Is the rate code reserved? -/
def rateBad (code : Nat) : Bool := decide (12 < code)

/-- Is the tag an owner, safety or tenant tag (R150)? -/
def ownTag (d : Nat) : Bool := decide (d = 1) || decide (d = 2) || (decide (0x40 ≤ d) && decide (d ≤ 0x7F))

/-! ### Sheets and layers as a set holds them -/

/-- Three 10-bit codes of a fill word. -/
def fillCodes (w : Word) : List Nat := [fld w 29 20, fld w 19 10, fld w 9 0]

/-- Read sheet k's set. -/
def sheetCfg (v : Nat → Word) (k : Nat) : SheetCfg :=
  let c := v (Reg.couchSheetCtrl k)
  let z := v (Reg.couchSheetSize k)
  let hi := v (Reg.couchSheetBufHi k)
  { en := bit c 31, prec := bit c 30, tb := fld c 29 27, enc := fld c 26 24, rate := fld c 23 20, col := fld c 19 18,
    w := fld z 30 16, h := fld z 13 0,
    base := fld hi 15 0 * 2 ^ 32 + fld (v (Reg.couchSheetBufLo k)) 31 8 * 256, pitch := fld hi 31 16,
    peak := fld (v (Reg.couchSheetLum k)) 31 16, white := fld (v (Reg.couchSheetLum k)) 15 0,
    bg := fillCodes (v (Reg.couchSheetBg k)), offset := (v (Reg.couchSheetOffset k)).toNat }

/-- Bytes from a sheet's slot 0 to its slot 1 (R223). -/
def SheetCfg.slotBytes (c : SheetCfg) : Nat := roundUp (c.pitch * 32 * c.h) 256

/-- A layer's set (R232-R236). -/
structure LayerCfg where
  slot : Nat
  en : Bool
  sheet : Nat
  order : Nat
  blend : Nat
  asrc : Nat
  trans : Bool
  fit : Bool
  dom : Nat
  kind : Nat
  idx : Nat
  bfmt : Nat
  cx : Nat
  cy : Nat
  cw : Nat
  ch : Nat
  dx : Int
  dy : Int
  dw : Nat
  dh : Nat
  alpha : Nat
  th : Nat
  tv : Nat
  fill : List Nat
  base : Nat
  pitch : Nat
  bw : Nat
  bh : Nat
deriving DecidableEq, Repr

/-- Read layer l's set. -/
def layerCfg (v : Nat → Word) (l : Nat) : LayerCfg :=
  let c := v (Reg.couchLayerCtrl l)
  let r := v (Reg.couchLayerSrc l)
  let cxy := v (Reg.couchLayerCropXy l)
  let cwh := v (Reg.couchLayerCropWh l)
  let dxy := v (Reg.couchLayerDstXy l)
  let dwh := v (Reg.couchLayerDstWh l)
  let m := v (Reg.couchLayerMix l)
  let hi := v (Reg.couchLayerBufHi l)
  let z := v (Reg.couchLayerBufSize l)
  { slot := l, en := bit c 31, sheet := fld c 30 29, order := fld c 28 23, blend := fld c 22 21, asrc := fld c 20 19,
    trans := bit c 18, fit := bit c 17, dom := fld c 15 8, kind := fld r 31 29, idx := fld r 21 16, bfmt := fld r 3 0,
    cx := fld cxy 15 0, cy := fld cxy 31 16, cw := fld cwh 15 0, ch := fld cwh 31 16,
    dx := signed 16 (fld dxy 15 0), dy := signed 16 (fld dxy 31 16), dw := fld dwh 15 0, dh := fld dwh 31 16,
    alpha := fld m 31 16, th := fld m 7 4, tv := fld m 3 0, fill := fillCodes (v (Reg.couchLayerFill l)),
    base := fld hi 15 0 * 2 ^ 32 + fld (v (Reg.couchLayerBufLo l)) 31 8 * 256, pitch := fld hi 31 16,
    bw := fld z 30 16, bh := fld z 13 0 }

/-- Line memory of layer l in band b, in bytes (R245). -/
def allocOf (v : Nat → Word) (l b : Nat) : Nat := fld (v (Reg.couchLayerAlloc l b)) 10 0 * 256

/-- Bytes per pixel of a buffer format (R238). -/
def pixelBytes (f : Nat) : Nat := if f = 2 then 8 else if f = 3 then 6 else 4
/-- Does a source carry alpha (R238)? -/
def carriesAlpha (kind f : Nat) : Bool := kind == 2 && (f == 0 || f == 1 || f == 2 || f == 4)
/-- Bytes from a layer's first buffer to its second (R236). -/
def LayerCfg.bufBytes (c : LayerCfg) : Nat := roundUp (c.pitch * 32 * c.bh) 256

/-- Width of a band (R229). -/
def bandWidth (k w : Nat) : Nat := if k = 0 then ceilDiv w 256 * 16 else ceilDiv w 32 * 2
/-- First column of band b, and the column after its last (R229). -/
def bandLo (k w b : Nat) : Nat := min (b * bandWidth k w) w
/-- The column after band b's last. -/
def bandHi (k w b : Nat) : Nat := min ((b + 1) * bandWidth k w) w

/-- The layer's destination columns clipped to lo..hi. -/
def LayerCfg.cols (c : LayerCfg) (lo hi : Nat) : Nat :=
  (min (c.dx + c.dw) (hi : Int) - max c.dx (lo : Int)).toNat

/-- Those columns of a layer on a sheet of h lines: none when its destination, clipped to the sheet, has no line (R246). -/
def LayerCfg.bandCols (c : LayerCfg) (h lo hi : Nat) : Nat :=
  if min (c.dy + c.dh) (h : Int) ≤ max c.dy 0 then 0 else c.cols lo hi

/-- The clipped destination rectangle of a layer on a sheet of w × h: x0, x1, y0, y1 (empty when x0 ≥ x1 or y0 ≥ y1). -/
def LayerCfg.rect (c : LayerCfg) (w h : Nat) : Nat × Nat × Nat × Nat :=
  ((max c.dx 0).toNat, (min (c.dx + c.dw) (w : Int)).toNat, (max c.dy 0).toNat, (min (c.dy + c.dh) (h : Int)).toNat)

/-- Does the layer contribute to leaf (lx, ly) of a sheet of w × h (R230)? -/
def LayerCfg.touches (c : LayerCfg) (w h lx ly : Nat) : Bool :=
  let r := c.rect w h
  c.en && decide (r.1 < r.2.1) && decide (r.2.2.1 < r.2.2.2)
    && decide (r.1 / 16 ≤ lx) && decide (lx ≤ (r.2.1 - 1) / 16)
    && decide (r.2.2.1 / 16 ≤ ly) && decide (ly ≤ (r.2.2.2 - 1) / 16)

/-- Scaler line memory of a layer of crop cw × ch, over d destination columns, with taps h × t (R246). -/
def LayerCfg.need (c : LayerCfg) (cw ch d h t : Nat) : Nat :=
  if d = 0 then 0
  else min cw (ceilDiv (d * cw) c.dw + h) * (ceilDiv (t * ch) c.dh + 1) * 6

/-! ### Press contexts as a set holds them -/

/-- A coding context's set (R269-R274). -/
structure CtxCfg where
  en : Bool
  kind : Nat
  src : Nat
  hprof : Nat
  tier : Bool
  dom : Nat
  depth : Nat
  rate : Nat
  split : Bool
  mask : Nat
  w : Nat
  h : Nat
  qp : Nat
  budget : Nat
  tailRsv : Nat
  skipRsv : Nat
  skipThr : Nat
  rawThr : Nat
  keyFit : Bool
  irap : Bool
  auto : Bool
  stRefs : Nat
  ctu : Nat
  refreshN : Nat
  period : Nat
  outBase : Nat
  outSize : Nat
  outSlots : Nat
  refBase : Nat
  refSize : Nat
  statDepth : Nat
  statBase : Nat
  table : Nat
  fill : List Nat
  kbps : Nat
deriving DecidableEq, Repr

/-- Read context c's set. -/
def ctxCfg (v : Nat → Word) (c : Nat) : CtxCfg :=
  let t := v (Reg.pressCtxCtrl c)
  let p := v (Reg.pressCtxPipes c)
  let z := v (Reg.pressCtxSize c)
  let sr := v (Reg.pressCtxSearch c)
  let k := v (Reg.pressCtxKey c)
  let oh := v (Reg.pressCtxOutHi c)
  let rh := v (Reg.pressCtxRefHi c)
  { en := bit t 31, kind := fld t 30 28, src := fld t 27 22, hprof := fld t 21 20, tier := bit t 19, dom := fld t 15 8,
    depth := fld t 7 4, rate := fld t 3 0, split := bit p 17, mask := fld p 15 0, w := fld z 30 16, h := fld z 13 0,
    qp := fld (v (Reg.pressCtxQp c)) 5 0, budget := (v (Reg.pressCtxBudget c)).toNat,
    tailRsv := fld (v (Reg.pressCtxRsv c)) 31 16, skipRsv := fld (v (Reg.pressCtxRsv c)) 15 0,
    skipThr := fld sr 31 24, rawThr := fld sr 23 16, keyFit := bit k 31, irap := bit k 30, auto := bit k 29,
    stRefs := fld k 27 26, ctu := if bit k 25 then 32 else 64, refreshN := fld k 23 16, period := fld k 15 0,
    outBase := fld oh 15 0 * 2 ^ 32 + fld (v (Reg.pressCtxOutLo c)) 31 8 * 256, outSize := fld oh 31 20,
    outSlots := fld oh 19 16, refBase := fld rh 15 0 * 2 ^ 32 + fld (v (Reg.pressCtxRefLo c)) 31 8 * 256,
    refSize := fld rh 31 20, statDepth := fld (v (Reg.pressCtxStats c)) 31 29,
    statBase := fld (v (Reg.pressCtxStats c)) 25 5 * 32, table := fld (v (Reg.pressCtxTable c)) 25 5 * 32,
    fill := fillCodes (v (Reg.pressCtxFill c)), kbps := fld (v (Reg.pressCtxBrate c)) 19 0 }

/-- Pipes in a mask. -/
def pipesOf (mask : Nat) : List Nat := (List.range 16).filter (fun b => mask.testBit b)

/-- Bytes of one output slot of a FOLIO_DEC context (R303). -/
def CtxCfg.slotBytes (c : CtxCfg) : Nat := roundUp (c.w * 6 * c.h) 256

/-! ### Sessions as a set holds them -/


/-- Read session i's set. -/
def sessCfg (v : Nat → Word) (i : Nat) : SessCfg :=
  let c := v (Reg.ingSessCfg i)
  let z := v (Reg.ingSessSize i)
  let f := v (Reg.ingSessFmt i)
  let p := v (Reg.ingSessPitch i)
  let t := v (Reg.ingSessTime i)
  { en := bit c 31, kind := fld c 30 28, merge := bit c 27, legA := fld c 26 22, legB := fld c 21 17, auto := bit c 16,
    dom := fld c 15 8, fcEvt := bit c 7, target := fld c 5 0, w := fld z 30 16, h := fld z 13 0, rate := fld f 19 16,
    sampling := fld f 15 12, depth := fld f 11 8, col := fld f 7 6, tcs := fld f 5 4, bpm := bit f 3, links := fld f 2 1,
    base := fld (v (Reg.ingSessBufHi i)) 15 0 * 2 ^ 32 + fld (v (Reg.ingSessBufLo i)) 31 8 * 256,
    line := fld p 31 16, slots := fld p 3 0, skew := fld t 31 16, timeout := fld t 15 0 }

/-- Bits of a sample depth code (R193). -/
def depthBits (d : Nat) : Nat := if d = 0 then 8 else if d = 1 then 10 else if d = 2 then 12 else 16
/-- Slot pitch (R204 preamble): for kind 0x2 one line. -/
def SessCfg.slotPitch (c : SessCfg) : Nat := if c.kind = 2 then c.line * 32 else roundUp (c.h * c.line * 32) 256
/-- Bytes of one stored line: pgroups of the format, or 4:2:2 10-bit for SDI and decoded pictures (Buffers and tokens). -/
def SessCfg.rowBytes (c : SessCfg) (w : Nat) : Nat :=
  if c.kind = 0 then ceilDiv (w * (if c.sampling = 0 then 2 else 3) * depthBits c.depth) 8 else ceilDiv (w * 5) 2

/-- Trunk lane codes T0-T7. -/
def trunkCode (l : Nat) : Bool := decide (l < 8)
/-- SDI lane codes S0-S7. -/
def sdiCode (l : Nat) : Bool := decide (0x10 ≤ l) && decide (l ≤ 0x17)

/-- The lanes an SDI flow on lane code l occupies. -/
def sdiLanes (l links : Nat) : List Nat := if links = 2 then [l, l + 1, l + 2, l + 3] else [l]

/-- The raster and rate of an SDI format (R188; the rasters are SMPTE's, log entry 28). -/
def sdiFormat (w h rate links : Nat) : Bool :=
  if links = 2 then w == 7680 && h == 4320 && decide (rate ≤ 9)
  else
    (w == 1280 && h == 720 && decide (rate ≤ 9)) || ((w == 1920 || w == 2048) && h == 1080 && decide (rate ≤ 9))
    || ((w == 3840 || w == 4096) && h == 2160 && decide (rate ≤ 9))

end Sys2Proof.Machine
end

