-- ==== Sys2Proof/Machine/Agree.lean ====
section
/-! DEFINITION. The checks of a latched set: nonzero fields and agreement rules of every unit (R22, R26 and each chapter's rules).
A check answers a reason code of R26; 0 is accepted. -/

namespace Sys2Proof.Machine

/-- The first failing check of a list of (fails, reason), or 0. -/
def firstReason : List (Bool × Nat) → Nat
  | [] => 0
  | (b, r) :: cs => if b then r else firstReason cs

/-! ### Couch -/

/-- A layer's nonzero fields (R234-R236). -/
def LayerCfg.zeroField (c : LayerCfg) : Bool :=
  c.dw == 0 || c.dh == 0 || c.th == 0 || c.tv == 0
  || (!c.fit && c.kind != 4 && (c.cw == 0 || c.ch == 0))
  || (c.kind == 2 && (c.pitch == 0 || c.bw == 0 || c.bh == 0))

/-- Does `n` bytes from `a` lie within HBM? -/
def inHbm (a n : Nat) : Bool := decide (hbmBase ≤ a) && decide (a + n ≤ 0x1C00000000)

/-- A layer's agreement rules (R237); `act` is its active control word and `z` sheet 0's set. -/
def LayerCfg.disagrees (c : LayerCfg) (act : Word) (sh z : SheetCfg) : Bool :=
  c.blend == 3 || decide (4 < c.kind) || (c.kind == 2 && decide (4 < c.bfmt))
  || decide (8 < c.th) || decide (8 < c.tv)
  || (decide (c.dom = 4) != (c.kind == 1 || c.kind == 3))
  || !(ownTag c.dom || c.dom == 4)
  || (c.kind == 3 && (c.sheet == 0 || sh.tb != z.tb || sh.rate != z.rate))
  || (decide (2 ≤ c.asrc) && !carriesAlpha c.kind c.bfmt)
  || (c.kind == 2 &&
      ((!c.fit && (decide (c.bw < c.cx + c.cw) || decide (c.bh < c.cy + c.ch)))
        || !inHbm c.base (c.bufBytes + c.pitch * 32 * c.bh)
        || decide (c.pitch * 32 < c.bw * pixelBytes c.bfmt)))
  || (bit act 31 && fld act 30 29 != c.sheet)

/-- A sheet's limits and agreement rules (R223, R228, R442); `run` tells whether its time base's en is 1. -/
def SheetCfg.disagrees (c : SheetCfg) (k : Nat) (run : Bool) : Bool :=
  decide (4 < c.enc) || decide (1 < c.col) || rateBad c.rate
  || (if k = 0 then
        c.w % 16 != 0 || c.h % 16 != 0 || decide (16384 < c.w) || decide (9216 < c.h) || decide (1 < c.enc)
        || c.col != 1 || (c.prec && c.enc != 0) || decide (c.pitch * 32 < c.w * 6)
      else
        c.w % 2 != 0 || decide (c.w < 32) || decide (7680 < c.w) || decide (c.h < 16) || decide (4320 < c.h)
        || decide (c.enc < 2) || decide (c.pitch * 32 < roundUp (ceilDiv (c.w * 5) 2) 32))
  || !inHbm c.base (c.slotBytes + c.pitch * 32 * c.h)
  || !run

/-- Raster of the newest token of a layer's source, if it has posted one (R246). -/
def State.sourceRaster (s : State) (v : Nat → Word) (c : LayerCfg) : Option (Nat × Nat) :=
  match c.kind with
  | 0 => ((SMap.get (fun _ => Sess.reset) s.sess c.idx).tokens.head?).map (fun t => (t.width, t.height))
  | 1 => ((SMap.get (fun _ => CtxSt.reset) s.ctx c.idx).tokens.head?).map (fun t => (t.width, t.height))
  | 3 => if (SMap.get (fun _ => SheetSt.reset) s.sheet 0).begun then some ((sheetCfg v 0).w, (sheetCfg v 0).h) else none
  | _ => none

/-- The crop a layer is checked with: its crop fields, or the whole raster with fit = 1; none: not checked yet. -/
def State.checkCrop (s : State) (v : Nat → Word) (c : LayerCfg) : Option (Nat × Nat) :=
  if c.kind = 4 then none
  else if c.fit then s.sourceRaster v c
  else some (c.cw, c.ch)

/-- Line-memory check of one layer (R246). -/
def State.lineShort (s : State) (v : Nat → Word) (c : LayerCfg) (sh : SheetCfg) : Bool :=
  match s.checkCrop v c with
  | none => false
  | some (cw, ch) =>
    (List.range 16).any (fun b =>
      decide (allocOf v c.slot b < c.need cw ch (c.bandCols sh.h (bandLo c.sheet sh.w b) (bandHi c.sheet sh.w b)) c.th c.tv))

/-- The corner leaves at which the number of contributing layers of a leaf can rise: where some layer's destination begins. -/
def leafCorners (ls : List LayerCfg) (w h : Nat) (xs : List Nat) : List (Nat × Nat) :=
  let rs := ls.map (fun c => c.rect w h)
  let ax := xs ++ rs.map (fun r => r.1 / 16)
  let ay := 0 :: rs.map (fun r => r.2.2.1 / 16)
  ax.flatMap (fun x => ay.map (fun y => (x, y)))

/-- Most layers contributing to any leaf with lx in lo..hi-1 (R230). -/
def mostLayers (ls : List LayerCfg) (w h lo hi : Nat) : Nat :=
  ((leafCorners ls w h [lo]).filter (fun p => decide (lo ≤ p.1) && decide (p.1 < hi))).foldl
    (fun m p => max m ((ls.filter (fun c => c.touches w h p.1 p.2)).length)) 0

/-- All layers of a set. -/
def layersOf (v : Nat → Word) : List LayerCfg := (List.range 64).map (layerCfg v)

/-- The enabled layers of sheet k. -/
def layersOn (v : Nat → Word) (k : Nat) : List LayerCfg := (layersOf v).filter (fun c => c.en && c.sheet == k)

/-- A leaf of band b lies in columns lo..hi-1 of leaves. -/
def bandLeaves (k w b : Nat) : Nat × Nat := (bandLo k w b / 16, ceilDiv (bandHi k w b) 16)

/-- Pipe b's load from sheet k, × 2002 pixels/s (R230). -/
def sheetLoad (v : Nat → Word) (half : Bool) (k b : Nat) : Nat :=
  let c := sheetCfg v k
  if !c.en then 0
  else
    let bl := bandLeaves k c.w b
    let wt := if mostLayers (layersOn v k) c.w c.h bl.1 bl.2 ≤ 8 then 1 else 2
    (bandHi k c.w b - bandLo k c.w b) * c.h * rate1001 c.rate * wt * (if half then 1 else 2)

/-- Largest tile, in pixels, of an enabled receiver at 90° or 270° (R37). -/
def rotatedTile (v : Nat → Word) : Nat :=
  ((List.range 8192).map (fun f =>
    let w := v (Reg.wchRx (f / 16) (f % 16))
    if bit w 31 && bit w 28 then fld w 17 9 * fld w 8 0 * 256 else 0)).foldl max 0

/-- Is the presentation offset below the internal minimum (R37)? 20/17 ns a pixel is the coding time of a rotated tile. -/
def offsetShort (c : SheetCfg) (tile : Nat) : Bool :=
  let num := rateNum c.rate
  let den := rateDen c.rate
  if c.prec then decide (c.offset * num < den * 1000000000 + 10000 * num)
  else decide (c.offset * num * c.h * 17 < 40 * 1000000000 * den * 17 + 10000 * num * c.h * 17 + tile * 20 * num * c.h)

/-- Check of couch group k (R22, R222-R246, R259, R442). -/
def State.checkCouch (s : State) (v : Nat → Word) (k : Nat) : Nat :=
  let c := sheetCfg v k
  let mine := (layersOf v).filter (fun l => l.en && l.sheet == k && s.inGroup .couch k (Reg.couchLayerCtrl l.slot))
  let cms := if k = 0 then (List.range 15).map (fun r => v (Reg.couchCmCfg r)) else []
  let viewed := (layersOf v).any (fun l => l.en && l.kind == 3 && l.sheet != 0)
  let old := sheetCfg s.rd 0
  firstReason [
    ((c.en && (c.w == 0 || c.h == 0 || c.pitch == 0 || c.peak == 0 || c.white == 0)) || mine.any LayerCfg.zeroField
      || cms.any (fun m => bit m 31 && fld m 3 0 == 0), 1),
    ((c.en && c.disagrees k (bit (v (Reg.tbCtrl c.tb)) 31))
      || (k == 0 && c.en && viewed && (c.tb != old.tb || c.rate != old.rate))
      || cms.any (fun m => decide (8 < fld m 3 0))
      || mine.any (fun l => l.disagrees (s.rd (Reg.couchLayerCtrl l.slot)) c (sheetCfg v 0))
      || (c.en && decide (16 < mostLayers (layersOn v k) c.w c.h 0 (ceilDiv c.w 16))), 2),
    ((layersOn v k).any (fun l => s.lineShort v l c)
      || (List.range 16).any (fun b =>
            decide (0x600 * 256 < (((layersOf v).filter (fun l => l.en)).map (fun l => allocOf v l.slot b)).sum)), 3),
    ((k == 0 && c.en && decide (9060000000 * 1001 < c.w * c.h * rate1001 c.rate))
      || (List.range 16).any (fun b =>
            decide (800000000 * 2002 < ((List.range 4).map (fun j =>
              sheetLoad v (s.flag (Reg.couchSheetSts j) 30) j b)).sum)), 4),
    (c.en && offsetShort c (if k = 0 then rotatedTile v else 0), 5)]

/-! ### Press -/

/-- Twice the press units per pixel of a kind (R264, R266). -/
def kindUnits2 (kind : Nat) : Nat := if kind = 1 then 1 else if kind = 2 then 4 else 2

/-- The least common multiple of 1..16, so that a load over n pipes is whole. -/
def lcm16 : Nat := 720720

/-- A context's load on each of its pipes, × 2002 × 720720 (R266). -/
def CtxCfg.load (c : CtxCfg) : Nat := c.w * c.h * rate1001 c.rate * kindUnits2 c.kind * (lcm16 / max 1 (pipesOf c.mask).length)

/-- The load of pipe b, × 2002 × 720720 (R266). -/
def pipeLoad (v : Nat → Word) (b : Nat) : Nat :=
  let cs := ((List.range 64).map (ctxCfg v)).filter (fun c => c.en && c.mask.testBit b)
  (cs.map CtxCfg.load).sum
    + (if 2 ≤ cs.length then 3400 * (cs.map (fun c => rate1001 c.rate)).sum * 2 * lcm16 else 0)

/-- An ITU-T H.265 level: general_level_idc, largest luma picture size, largest luma sample rate, largest kb/s in Main and in High tier (none below
level 4) before the profile's factor (the standard's, log entry 29). -/
structure HevcLevel where
  idc : Nat
  size : Nat
  rate : Nat
  main : Nat
  high : Nat

/-- Every level, lowest first. -/
def hevcLevels : List HevcLevel :=
  [⟨30, 36864, 552960, 128, 0⟩, ⟨60, 122880, 3686400, 1500, 0⟩, ⟨63, 245760, 7372800, 3000, 0⟩, ⟨90, 552960, 16588800, 6000, 0⟩,
   ⟨93, 983040, 33177600, 10000, 0⟩, ⟨120, 2228224, 66846720, 12000, 30000⟩, ⟨123, 2228224, 133693440, 20000, 50000⟩,
   ⟨150, 8912896, 267386880, 25000, 100000⟩, ⟨153, 8912896, 534773760, 40000, 160000⟩, ⟨156, 8912896, 1069547520, 60000, 240000⟩,
   ⟨180, 35651584, 1069547520, 60000, 240000⟩, ⟨183, 35651584, 2139095040, 120000, 480000⟩, ⟨186, 35651584, 4278190080, 240000, 800000⟩]

/-- Does a context's raster, rate or, for HEVC_ENC, bit rate meet a level's limits? Neither side may exceed the root of 8 times the picture size. -/
def CtxCfg.fitsLevel (c : CtxCfg) (l : HevcLevel) : Bool :=
  let br := (if c.tier then l.high else l.main) * (if c.hprof = 2 then 1667 else 1000) / 1000
  decide (c.w * c.h ≤ l.size) && decide (c.w * c.w ≤ 8 * l.size) && decide (c.h * c.h ≤ 8 * l.size)
    && decide (c.w * c.h * rate1001 c.rate ≤ l.rate * 1001) && !(c.tier && l.high == 0) && (c.kind != 2 || decide (c.kbps ≤ br))

/-- general_level_idc: the lowest level the context meets (R300). -/
def CtxCfg.levelIdc (c : CtxCfg) : Nat := ((hevcLevels.find? c.fitsLevel).map HevcLevel.idc).getD 0

/-- Does a context exceed its kind's level limit: 6.2 to encode, 6.1 to decode (R276, R300, R302)? -/
def CtxCfg.levelOver (c : CtxCfg) : Bool :=
  (c.kind == 2 || c.kind == 3) && !hevcLevels.any (fun l => (c.kind == 2 || decide (l.idc ≤ 183)) && c.fitsLevel l)

/-- Bytes of a context's output region (R272, R303). -/
def CtxCfg.outBytes (c : CtxCfg) : Nat := if c.kind = 1 then (c.outSlots + 4) * c.slotBytes else c.outSize * 0x10000
/-- Bytes of its statistics ring (R292). -/
def CtxCfg.statBytes (c : CtxCfg) : Nat := if c.kind = 0 then 32 * 8192 * c.statDepth else if c.kind = 2 then 32 * c.statDepth else 0

/-- Does a region leave memory? -/
def outsideMemory (a n : Nat) : Bool := n != 0 && !(regionOf a n == .ss || regionOf a n == .hbm)

/-- The sheet a context codes (R269). -/
def CtxCfg.sheet (c : CtxCfg) : Nat := if c.kind = 2 then c.src else 0

/-- Does a context's set use a code its field reserves, in a field its kind uses (R269-R276)? depth is used by the folio kinds in the Latency
profile alone, hprof by the HEVC kinds, st_refs by HEVC_ENC. -/
def CtxCfg.reservedCode (c : CtxCfg) (prec : Bool) : Bool :=
  decide (3 < c.kind) || rateBad c.rate || (decide (2 ≤ c.kind) && c.hprof == 3) || (decide (c.kind ≤ 1) && !prec && decide (2 < c.depth))
    || (c.kind == 2 && c.stRefs == 3) || (c.kind == 1 && (c.outSlots == 1 || decide (8 < c.outSlots)))

/-- Check of press group c (R265-R276). The nonzero fields, R265, R266 and R267 bind a context that is enabled, the other rules every set (log
entry 30). -/
def State.checkPress (_s : State) (v : Nat → Word) (i : Nat) : Nat :=
  let c := ctxCfg v i
  let sh := sheetCfg v c.sheet
  let others := ((List.range 64).filter (fun j => j != i)).map (ctxCfg v)
  firstReason [
    (c.en && (c.mask == 0 || c.w == 0 || c.h == 0 || c.statDepth == 0
      || (c.kind == 2 && (c.kbps == 0 || c.stRefs == 0))
      || ((c.kind == 0 || c.kind == 2) && c.refreshN == 0)
      || (c.kind != 1 && c.outSize == 0) || (c.kind == 1 && c.outSlots == 0)
      || (c.kind != 1 && c.refSize == 0)), 1),
    (c.reservedCode sh.prec
      || (if c.kind = 3 then !ownTag c.dom else c.dom != 4)
      || c.refreshN == 1
      || (c.kind == 2 && (c.src == 0 || decide (3 < c.src) || !sh.en))
      || (c.kind == 2 && decide (c.hprof ≤ 1) && (c.w % 2 == 1 || c.h % 2 == 1))
      || outsideMemory c.outBase c.outBytes || outsideMemory (ssBase + c.statBase) c.statBytes
      || (c.kind != 1 && c.refSize != 0 && !inHbm c.refBase (c.refSize * 0x100000))
      || c.levelOver
      || (c.en && ((c.kind == 0 && others.any (fun d => d.en && d.kind == 0))
        || others.any (fun d => d.en && (decide (c.kind ≤ 1) || decide (d.kind ≤ 1)) && decide (Nat.land c.mask d.mask ≠ 0))
        || ((c.kind == 0 || c.kind == 2) && (c.w != sh.w || c.h != sh.h || c.rate != sh.rate)))), 2),
    ((List.range 16).any (fun b => decide (850000000 * 2002 * lcm16 < pipeLoad v b)), 4)]

/-! ### Imposition and wall channels -/

/-- A table entry's fields (R306). -/
def entRx (e : BitVec 64) : Nat := bitsN e.toNat 12 9
/-- Channel of an entry. -/
def entCh (e : BitVec 64) : Nat := bitsN e.toNat 8 0
/-- x of an entry. -/
def entX (e : BitVec 64) : Nat := bitsN e.toNat 20 13
/-- y of an entry. -/
def entY (e : BitVec 64) : Nat := bitsN e.toNat 28 21
/-- Orientation of an entry. -/
def entOrient (e : BitVec 64) : Nat := bitsN e.toNat 31 29
/-- Calibration set of an entry. -/
def entCal (e : BitVec 64) : Nat := bitsN e.toNat 43 32
/-- Is the entry valid? -/
def entValid (e : BitVec 64) : Bool := e.getLsbD 48

/-- An entry that breaks the group 0 agreement (R310). -/
def entBad (v : Nat → Word) (e : BitVec 64) : Bool :=
  bitsN e.toNat 63 51 != 0
  || (entValid e &&
      ((entRegion e == 0 && decide (4032 ≤ entCal e)) || (entRegion e != 0 && decide (entCal e < 4032))
        || entOrient e != fld (v (Reg.wchRx (entCh e) (entRx e))) 30 28))

/-- Is a reserved lane code named (R321)? -/
def laneReserved (l : Nat) : Bool := decide (0x27 < l)

/-- Check of an imposition group (R310, R319, R322, R324). -/
def State.checkImp (s : State) (v : Nat → Word) (g : Nat) : Nat :=
  if g = 0 then firstReason [
    (s.staged.any (fun p => match p.2 with | some e => entBad v e | none => false)
      || (List.range 64).any (fun i => v (Reg.impCal i 6) != 0 || v (Reg.impCal i 7) != 0)
      || (List.range 15).any (fun r => bit (v (Reg.impFbCfg r)) 31 &&
            !inHbm (fld (v (Reg.impFbHi r)) 15 0 * 2 ^ 32 + fld (v (Reg.impFbLo r)) 31 8 * 256) 1), 2)]
  else
    let n := g - 1
    let c := v (Reg.wchCtrl n)
    let mode := fld c 30 29
    let la := fld c 25 20
    let lb := fld c 19 14
    let rxs := (List.range 16).map (fun r => v (Reg.wchRx n r))
    firstReason [
      ((bit c 31 && (if mode = 2 then fld (v (Reg.wchMacHi n)) 31 16 == 0
          else decide (mode < 2) && fld (v (Reg.wchPort n)) 31 16 == 0))
        || rxs.any (fun r => bit r 31 && (fld r 27 26 == 0 || fld r 17 9 == 0 || fld r 8 0 == 0)), 1),
      (mode == 3 || laneReserved la || laneReserved lb
        || rxs.any (fun r => bit r 31 && (decide (256 < fld r 17 9) || decide (256 < fld r 8 0)))
        || (bit c 27 && (la == lb
              || (decide (la < 0x20) && decide (lb < 0x20) && (decide (15 < la) || decide (lb < 16)))
              || (decide (la < 0x20) != decide (lb < 0x20))))
        || (bit c 31 && (match SMap.get (fun _ => (none : Option WallSlot)) s.clasp.wall (fld (v (Reg.wchKey n)) 9 0) with
              | some w => w.inbound || w.channel != n
              | none => true)), 2)]

/-! ### Ingest -/

/-- Video payload rate × 1001, in bits per second (R189). -/
def SessCfg.payload (c : SessCfg) : Nat :=
  c.w * c.h * rate1001 c.rate * ((if c.sampling = 0 then 2 else 3) * depthBits c.depth)

/-- Lanes a session takes flows from. -/
def SessCfg.legs (c : SessCfg) : List Nat := if c.merge && c.legA != c.legB then [c.legA, c.legB] else [c.legA]

/-- Is a leg's code a reserved one (R191, R201)? It is whether or not the leg is used. -/
def legReserved (l : Nat) : Bool := !trunkCode l && !sdiCode l

/-- Does the session bring video over a trunk lane (R189)? -/
def SessCfg.streams (c : SessCfg) : Bool := c.en && (c.kind == 0 || c.kind == 4 || c.kind == 5)

/-- Largest payload of a trunk lane × 1001 (R189): its port's mode tells 25GBASE-R from 10GBASE-R. -/
def laneLimit (v : Nat → Word) (l : Nat) : Nat :=
  (if fld (v (Reg.macCtrl (32 + l))) 30 29 = 1 then 9000000000 else 22500000000) * 1001

/-- The lanes output o holds for SDI while enabled (R215). -/
def outLanes (v : Nat → Word) (o : Nat) : List Nat :=
  let c := v (Reg.ingOutCfg o)
  if bit c 31 && !bit c 30 then sdiLanes (fld c 25 16) (fld c 27 26) else []

/-- Check of session group i (R188, R189, R201, R212). The spec names no en condition here. -/
def State.checkIng (_s : State) (v : Nat → Word) (i : Nat) : Nat :=
  let c := sessCfg v i
  let ip := c.kind ≤ 2 ∨ c.kind = 4 ∨ c.kind = 5
  let raster := c.kind != 1 && c.kind != 2
  let lanes := (List.range 64).map (sessCfg v)
  firstReason [
    ((raster && (c.w == 0 || c.h == 0)) || (c.kind != 1 && (c.line == 0 || c.slots == 0)) || c.timeout == 0, 1),
    (c.kind == 7 || rateBad c.rate || decide (2 < c.sampling) || decide (3 < c.depth) || decide (1 < c.col)
      || c.links == 1 || c.links == 3 || decide (0x3E8 < c.skew)
      || (c.kind != 1 && (decide (c.slots < (if 4 ≤ c.kind then 3 else 2)) || decide (8 < c.slots)))
      || (c.kind == 0 && (decide (c.w < 16) || decide (16384 < c.w) || decide (c.h < 16) || decide (9216 < c.h)))
      || (c.kind == 3 && (c.sampling != 0 || c.depth != 1 || !sdiFormat c.w c.h c.rate c.links))
      || legReserved c.legA || legReserved c.legB
      || (decide ip && c.legs.any (fun l => !trunkCode l))
      || (c.kind == 3 && !sdiCode c.legA)
      || (c.merge && (c.kind == 3 || c.kind == 6))
      || (c.kind == 3 && c.links == 2 && ((c.legA != 0x10 && c.legA != 0x14)
            || (List.range 8).any (fun o => (sdiLanes c.legA 2).any (fun l => (outLanes v o).contains l))))
      || !ownTag c.dom
      || (c.kind == 0 && decide (c.line * 32 < c.w * ((if c.sampling = 0 then 2 else 3) * ceilDiv (depthBits c.depth) 8)))
      || (decide (3 ≤ c.kind) && decide (c.line * 32 < roundUp (ceilDiv (c.w * 5) 2) 32))
      || (c.kind != 1 && !inHbm c.base (c.slots * c.slotPitch)), 2),
    ((List.range 8).any (fun l => decide (laneLimit v l <
        ((lanes.filter (fun d => d.streams && d.legs.contains l)).map SessCfg.payload).sum)), 4)]

/-! ### Traffic manager -/

/-- Check of a traffic manager group (R403, R408); `late` tells that a strict list's base is too near (R410). -/
def State.checkTm (s : State) (v : Nat → Word) (g : Nat) (late : Bool) : Nat :=
  if g < 0x550 then
    let o := if g < 0x400 then Reg.tmSubCfg g else Reg.tmSvcCfg (g - 0x400)
    firstReason [
      (fld (v o) 23 16 == 0 || (bit (v o) 31 && fld (v (o + 8)) 23 0 == 0), 1),
      (decide (0x80 ≤ fld (v o) 7 0) && decide (fld (v o) 7 0 ≤ 0xDF), 2)]
  else
    let q := g - 0x8000
    let c := v (Reg.tmGateCtrl q)
    firstReason [
      (bit c 31 && (fld c 8 0 == 0 || v (Reg.tmGateCycle q) == 0), 1),
      (decide (256 < fld c 8 0) || decide (1000000000 ≤ fld (v (Reg.tmGateBaseNs q)) 29 0)
        || !bit (s.rd (Reg.tbCtrl (fld c 29 27))) 31 || (bit c 31 && bit c 30 && late), 2)]

/-! ### Time -/

/-- Is port m running (MAC_STS.running)? -/
def State.portRuns (s : State) (m : Nat) : Bool := s.flag (Reg.macSts m) 30

/-- Is a signed log₂ interval outside -7..+4 (R448)? -/
def intervalBad (b : Nat) : Bool := decide (signed 8 b < -7) || decide (4 < signed 8 b)

/-- A port register set that breaks R448 (R446 for profile and transport). -/
def State.portDisagrees (s : State) (v : Nat → Word) (m : Nat) : Bool :=
  let c := v (Reg.timePortCfg m)
  let i := v (Reg.timePortIntv m)
  let a := s.rd (Reg.timePortCfg m)
  let tr := fld c 24 23
  intervalBad (fld i 23 16) || intervalBad (fld i 15 8) || intervalBad (fld i 7 0)
  || tr == 3 || (fld c 29 28 == 2 && tr != 0) || (fld c 29 28 == 3 && tr == 0)
  || (fld c 31 30 != 0 && !s.portRuns m)
  || (fld c 27 25 != fld a 27 25 && fld a 31 30 != 0)

/-- Does an enabled sheet name time base t? -/
def sheetUses (v : Nat → Word) (t : Nat) : Bool := (List.range 4).any (fun k => (sheetCfg v k).en && (sheetCfg v k).tb == t)

/-- Check of time base group t (R439, R441). -/
def State.checkTime (s : State) (v : Nat → Word) (t : Nat) : Nat :=
  let c := v (Reg.tbCtrl t)
  let lim := v (Reg.tbLimit t)
  let slaves := (List.range 42).filter (fun m => fld (v (Reg.timePortCfg m)) 31 30 == 2 && fld (v (Reg.timePortCfg m)) 27 25 == t)
  let pps := s.rd Reg.ppsOutCfg
  let ctr := s.rd Reg.sysCtrCfg
  firstReason [
    (fld lim 9 0 == 0, 1),
    (decide (500 < fld lim 9 0) || decide (1000000000 ≤ fld (v (Reg.tbSetNs t)) 29 0)
      || (fld c 30 29 == 1 && decide (slaves.length ≠ 1))
      || (fld c 30 29 == 3 && s.getF Reg.ppsInCfg 2 0 != t)
      || (!bit c 31 && (sheetUses v t
            || (List.range 42).any (fun q => s.flag (Reg.tmGateSts q) 31 &&
                (let p := SMap.get (fun _ => PortSt.reset) s.port q
                 s.getF (Reg.tmGateCtrl q) 29 27 == t || (p.gateNew.isSome && p.gateOldTb == t)))
            || (bit pps 31 && fld pps 30 28 == t) || (bit ctr 31 && fld ctr 2 0 == t)))
      || (bit c 27 && !bit c 28 && sheetUses v t)
      || (List.range 42).any (fun m => s.inGroup .time t (Reg.timePortCfg m) && s.portDisagrees v m), 2)]

/-! ### Audio -/

/-- Rate of an audio rate code in Hz (Clocks). Codes 9 and above are reserved. -/
def audRate (code : Nat) : Nat :=
  match code with
  | 0 => 8000 | 1 => 16000 | 2 => 32000 | 3 => 44100 | 4 => 48000 | 5 => 88200 | 6 => 96000 | 7 => 176400 | 8 => 192000 | _ => 0
/-- Is the rate of the 44.1 kHz family? -/
def rate441 (code : Nat) : Bool := code == 3 || code == 5 || code == 7

/-- Source channels a group's source offers (R188, R466, R469, R472); for a session, as many as its kind carries. -/
def srcChannels (v : Nat → Word) (src idx : Nat) : Nat :=
  match src with
  | 0 => if idx < 16 ∧ bit (v (Reg.audSpCfg idx)) 30 = false then fld (v (Reg.audSpCfg idx)) 21 17 else 0
  | 1 => if idx < 4 then 2 else 0
  | 2 => 16 - 2 * idx
  | _ => if fld (v (Reg.ingSessCfg idx)) 30 28 = 5 then 8 else 16

/-- Largest Folio data length of a channel (R327). -/
def folioMax (mode : Nat) (jumbo : Bool) : Nat :=
  (if jumbo then 9000 else 1500) - (if mode = 0 then 76 else if mode = 1 then 96 else 48)

/-- Check of a serial port set (R466, R467). -/
def checkSp (c : Word) : Nat :=
  let rate := fld c 25 22
  firstReason [
    (bit c 31 && fld c 21 17 == 0, 1),
    (fld c 29 28 == 3 || decide (8 < rate) || fld c 16 15 == 3 || decide (16 < fld c 21 17)
      || (decide (fld c 29 28 < 2) && fld c 21 17 != 2)
      || decide (24576000 < fld c 21 17 * 32 * audRate rate)
      || (bit c 27 && (bit c 26 != rate441 rate)), 2)]

/-- Check of an ASRC group set (R473, R474). -/
def checkGrp (v : Nat → Word) (g : Nat) : Nat :=
  let c := v (Reg.audGrpCfg g)
  let o := v (Reg.audGrpOut g)
  let src := fld c 30 28
  let idx := fld c 27 22
  let count := fld c 14 10
  let fc := fld c 9 4
  let blocks := fld (v (Reg.audGrpRingCtl g)) 5 0
  let ses := v (Reg.ingSessCfg idx)
  let kind := fld ses 30 28
  let sp := v (Reg.audSpCfg (fld o 26 23))
  firstReason [
    (bit c 31 && (count == 0 || blocks == 0), 1),
    (decide (16 < count) || (blocks != 0 && decide (blocks < 4)) || decide (3 < src) || decide (8 < fld o 22 19)
      || decide (fld o 18 15 < 4) || decide (0xC < fld o 18 15)
      || decide (64 < fc + count)
      || ((List.range 16).any (fun j =>
            let d := v (Reg.audGrpCfg j)
            j != g && bit d 31 && count != 0 && decide (fc < fld d 9 4 + fld d 14 10) && decide (fld d 9 4 < fc + count)))
      || decide (srcChannels v src idx < fld c 19 15 + count)
      || (src == 3 && (!(kind == 1 || kind == 3 || kind == 5) || ((kind == 1 || kind == 3) && fld ses 5 0 != g)))
      || fld c 21 20 != (if src == 3 && kind == 5 then min 1 (fld c 21 20) else 0)
      || (bit o 31 && !(bit sp 31 && bit sp 30 && fld sp 25 22 == fld o 22 19))
      || (bit o 30 && !(src == 3 && kind == 1))
      || decide (0x4000000 < fld (v (Reg.audGrpRing g)) 25 4 * 16 + blocks * (16 + 256 * count)), 2)]

/-- Check of an audio output set (R481, R482). -/
def checkAo (v : Nat → Word) (o : Nat) : Nat :=
  let c := v (Reg.audOutCfg o)
  let n := v (Reg.audOutNet o)
  let count := fld c 18 14
  let tgt := fld c 13 4
  let go := v (Reg.audGrpOut (fld c 27 24))
  let free := !bit go 31
  let rate := fld go 22 19
  let tb := fld go 29 27
  let wc := v (Reg.wchCtrl tgt)
  let bad :=
    match fld c 30 28 with
    | 0 => decide (16 ≤ tgt) || decide (fld (v (Reg.audSpCfg tgt)) 21 17 < count) || free || fld go 26 23 != tgt
    | 1 => decide (4 ≤ tgt) || count != 2 || decide (rate < 2)
    | 2 => decide (16 < count) || (bit n 30 && decide (8 < count)) || !free || !(rate == 4 || rate == 6)
    | 3 => decide (8 ≤ tgt) || decide (16 < count) || !free || rate != 4
            || tb != (sheetCfg v (fld (v (Reg.ingOutCfg tgt)) 29 28)).tb
    | 4 => decide (32 ≤ tgt) || !(count == 2 || count == 4 || count == 6 || count == 8) || !free || rate != 4
            || tb != (sheetCfg v (ctxCfg v (fld (v (Reg.tmFlowCtrl (tgt / 2))) 15 10)).src).tb
    | 5 => decide (512 ≤ tgt) || decide (16 < count) || !free || rate != 4 || tb != (sheetCfg v 0).tb
            || decide (folioMax (fld wc 30 29) (bit wc 28) < count * 192 + 8)
    | _ => true
  firstReason [(bit c 31 && count == 0, 1), (bad, 2)]

/-- Check of an audio group (R465-R482). -/
def checkAud (v : Nat → Word) (g : Nat) : Nat :=
  if g < 0x10 then checkSp (v (Reg.audSpCfg g))
  else if g < 0x18 then 0
  else if g < 0x20 then (if 42 < fld (v (Reg.audPdmCfg (g - 0x18))) 29 24 then 2 else 0)
  else if g < 0x30 then checkGrp v (g - 0x20)
  else checkAo v (g - 0x30)

end Sys2Proof.Machine
end

