-- ==== Sys2Proof/Machine/TimeOps.lean ====
section
/-! DEFINITION. Time bases: their advance, the frame grid, presentation times, state changes, and what a step or load does
(R437-R445, R451, R454-R457). -/

namespace Sys2Proof.Machine

/-- Time base t's record. -/
def State.tbAt (s : State) (t : Nat) : TbSt := SMap.get (fun _ => TbSt.reset) s.tb t
/-- Store it. -/
def State.setTb (s : State) (t : Nat) (x : TbSt) : State := { s with tb := SMap.set (fun _ => TbSt.reset) s.tb t x }
/-- A time base's state code (R440). -/
def State.tbState (s : State) (t : Nat) : Nat := s.getF (Reg.tbSts t) 31 29
/-- Is a time base's active en 1? -/
def State.tbOn (s : State) (t : Nat) : Bool := s.flag (Reg.tbCtrl t) 31

/-- One second in 2⁻¹⁶ ns. -/
def secT : Nat := 1000000000 * 0x10000

/-- Change a time base's state: every change raises TIME_EVT and host event 0x05 (R444, R514). -/
def State.setTbState (s : State) (t st : Nat) : State :=
  if s.tbState t = st then s
  else (((s.setF (Reg.tbSts t) 31 29 st).raiseEvt Reg.timeEvt).hostEvent 0x05 (st * 256 + t))

/-- The time of base t in 2⁻¹⁶ ns. -/
def State.timeOf (s : State) (t : Nat) : Nat := (s.tbAt t).time

/-- One nanosecond of the time unit on a base: 1 + r ns, r in 2⁻³² ppb (R437). -/
def TbSt.advance (b : TbSt) : TbSt :=
  let d : Int := 1000000000 * 0x10000
  let acc := b.frac + b.r
  { b with time := (b.time + 0x10000 + acc / d).toNat, frac := acc % d }

/-- The rate of the system counter against nominal, in 2⁻³² ppb (R451): the named base's r, clamped to ±500 ppm, while that base is LOCKED or
in HOLDOVER and disc is set. -/
def State.ctrRate (s : State) : Int :=
  let t := s.getF Reg.sysCtrCfg 2 0
  let st := s.tbState t
  if s.flag Reg.sysCtrCfg 31 && (st == 3 || st == 4) then
    clampI (-(500000 * 2 ^ 32)) (500000 * 2 ^ 32) (s.tbAt t).r
  else 0

/-! ### Frame grid (R455, R456) -/

/-- frame_start(n) in 2⁻¹⁶ ns for a rate code. -/
def frameStart (rate n : Nat) : Nat := n * rateDen rate * secT / rateNum rate

/-- Number of the latest grid instant at or before time x. -/
def gridIndex (rate x : Nat) : Nat :=
  let n := x * rateNum rate / (rateDen rate * secT)
  if frameStart rate (n + 1) ≤ x then n + 1 else n

/-- Leaf rows of a slice (R30): 1 in the Latency profile, 4 in Precision. -/
def SheetCfg.sliceRows (c : SheetCfg) : Nat := if c.prec then 4 else 1
/-- Slices of a picture. -/
def SheetCfg.slices (c : SheetCfg) : Nat := ceilDiv c.h (16 * c.sliceRows)

/-- n canvas lines in 2⁻¹⁶ ns (T_line = den ÷ (num × height) s). -/
def SheetCfg.lines (c : SheetCfg) (n : Nat) : Nat := n * rateDen c.rate * secT / (rateNum c.rate * max 1 c.h)

/-- Presentation time of slice j of picture n in 2⁻¹⁶ ns (R36). -/
def SheetCfg.presents (c : SheetCfg) (n j : Nat) : Nat :=
  frameStart c.rate n + c.offset * 0x10000 + (if c.prec then 0 else c.lines (16 * j))

/-- One frame period in counts. -/
def periodNs (rate : Nat) : Nat := rateDen rate * 1000000000 / max 1 (rateNum rate)

/-- Seconds bits [31:0] and whole nanoseconds of a time (R456). -/
def ptSec (x : Nat) : Nat := x / secT % 2 ^ 32
/-- The nanoseconds, rounded down. -/
def ptNs (x : Nat) : Nat := x % secT / 0x10000

/-! ### Moves of a time base (R445) -/

/-- Folio f's record. -/
def State.rxAt (s : State) (f : Nat) : RxSt := SMap.get (fun _ => RxSt.reset) s.rx f
/-- Store it. -/
def State.setRx (s : State) (f : Nat) (x : RxSt) : State := { s with rx := SMap.set (fun _ => RxSt.reset) s.rx f x }

/-- The enabled FOLIO_ENC context (R265). -/
def State.folioCtx (s : State) : Option Nat := (List.range 64).find? (fun c => (ctxCfg s.rd c).en && (ctxCfg s.rd c).kind == 0)

/-- The port of the lowest pipe of a context's mask, which reads and writes the context's own tables (log entry 39). -/
def CtxCfg.port (z : CtxCfg) : Nat := 0x50 + (pipesOf z.mask).headD 0

/-- Write bytes 32-63 of folio f's entry (R284). -/
def State.showFolio (s : State) (c f : Nat) : State :=
  let z := ctxCfg s.rd c
  let x := s.rxAt f
  let bits := x.ltValid % 16 + b2n x.keyPending * 16 + b2n x.refresh.isSome * 32 + b2n (x.keyPending && x.keyKeep) * 64
  let left := match x.refresh with | some r => r.2 - r.1 | none => 0
  (s.memWrite ⟨1, z.port⟩ (ssBase + z.table + 64 * f + 32)
    (leBytes 4 x.lastPic ++ leBytes 1 bits ++ leBytes 1 left ++ [0, 0] ++ leBytes 8 x.keyTime ++ List.replicate 16 0)).1

/-- Request a key of folio f (R296): the key keeps the long-term slots only if every request merged into it does; the folio's entry shows it while
it waits (R284). -/
def State.requestKey (s : State) (keep : Bool) (f : Nat) : State :=
  let x := s.rxAt f
  let s1 := s.setRx f { x with keyPending := true, keyKeep := if x.keyPending then x.keyKeep && keep else keep }
  match s.folioCtx with
  | some c => s1.showFolio c f
  | none => s1

/-- Is receiver f of an enabled channel listed in the active sets? -/
def State.rxOn (s : State) (f : Nat) : Bool := s.flag (Reg.wchRx (f / 16) (f % 16)) 31
/-- The folios of the enabled receivers of channel n. -/
def State.rxOfChannel (s : State) (n : Nat) : List Nat := ((List.range 16).map (fun r => 16 * n + r)).filter s.rxOn
/-- Every folio: the enabled receivers of every channel. -/
def State.folios (s : State) : List Nat := (List.range 512).flatMap s.rxOfChannel

/-- Request a key of every folio of sheet 0. -/
def State.requestAllKeys (s : State) : State := s.folios.foldl (fun s f => s.requestKey false f) s

/-- Sheet k's record. -/
def State.sheetAt (s : State) (k : Nat) : SheetSt := SMap.get (fun _ => SheetSt.reset) s.sheet k
/-- Store it. -/
def State.setSheet (s : State) (k : Nat) (x : SheetSt) : State := { s with sheet := SMap.set (fun _ => SheetSt.reset) s.sheet k x }

/-- The set of picture p of sheet k: the picture in progress, or the one before it (R221). -/
def State.pictureSet (s : State) (k p : Nat) : SheetCfg :=
  let x := s.sheetAt k
  if !x.begun then sheetCfg s.rd k else if p % 2 ^ 32 = x.picture % 2 ^ 32 then x.set else x.prevSet

/-- What a move of base t does to sheet k: after a forward move the grid instants passed over are never used, and sheet 0's folios key; after a
backward one the sheet waits for the number after the last picture begun. -/
def State.sheetMoved (s : State) (t : Nat) (forward : Bool) (k : Nat) : State :=
  let c := sheetCfg s.rd k
  let x := s.sheetAt k
  if !c.en || c.tb != t then s
  else if forward then
    let s1 := s.setSheet k { x with seen := max x.seen (gridIndex c.rate (s.timeOf t)), seenAt := none }
    if k = 0 then s1.requestAllKeys else s1
  else s.setSheet k { x with seen := if x.begun then x.picture else x.seen, seenAt := none }

/-- Move time base t to a new time (a step or a load): one more in TB_STS.steps, and R445's consequences. -/
def State.moveTb (s : State) (t new : Nat) : State :=
  let b := s.tbAt t
  let s1 := (s.setTb t { b with time := new, frac := 0 }).addSat (Reg.tbSts t) 7 0 1
  (List.range 4).foldl (State.sheetMoved · t (decide (b.time < new)) ·) s1

/-- Is a step or load of base t allowed (R445)? -/
def State.stepAllowed (s : State) (t : Nat) : Bool := s.flag (Reg.tbCtrl t) 28 || !sheetUses s.rd t

/-- The load value of a base's set, in 2⁻¹⁶ ns (R439). -/
def State.tbSetValue (s : State) (t : Nat) : Nat :=
  (s.getF (Reg.tbSetSHi t) 15 0 * 2 ^ 32 + (s.rd (Reg.tbSetSLo t)).toNat) * secT + s.getF (Reg.tbSetNs t) 29 0 * 0x10000

/-- Counts of one second. -/
def secNs : Nat := 1000000000

/-- The state an enabled base takes while REF_SYS is lost: HOLDOVER, or FAILED once 1 s has passed (R454). -/
def State.lossState (s : State) : Option Nat :=
  match s.sys.refSysLostAt with
  | none => none
  | some t0 => some (if t0 + secNs ≤ s.now then 5 else 4)

/-- A time base's set has been accepted: load, then the state of R444. `was` is its control word before. -/
def State.activateTb (s : State) (t : Nat) (was : Word) : State :=
  let c := s.rd (Reg.tbCtrl t)
  if !bit c 31 then s.setTbState t 0
  else
    let s1 := if bit c 27 then s.moveTb t (s.tbSetValue t) else s
    let fresh := !bit was 31 || fld was 30 29 != fld c 30 29
    let s2 := if fresh then s1.setTb t { s1.tbAt t with good := 0, lastSample := s.now } else s1
    match s.lossState with
    | some st => s2.setTbState t st
    | none =>
      if fld c 30 29 = 0 then s2.setTbState t 1
      else if fresh then s2.setTbState t 2
      else s2

/-! ### The servo (R443, R444) -/

/-- A signed register word of n/2^k, saturated. -/
def satWord (i : Int) : Word := wordOfInt (clampI (-2147483648) 2147483647 i)

/-- An offset sample θ, in 2⁻¹⁶ ns, reaches base t's servo (R443) and its state follows R444; a run of good samples goes on through HOLDOVER
(log entry 150). -/
def State.servo (s : State) (t : Nat) (theta : Int) : State :=
  let b := s.tbAt t
  let step := s.getF (Reg.tbLimit t) 31 16
  let mx : Int := (s.getF (Reg.tbLimit t) 9 0 * 1000 * 2 ^ 32 : Nat)
  let kp : Int := ((s.rd (Reg.tbKp t)).toNat : Int)
  let ki : Int := ((s.rd (Reg.tbKi t)).toNat : Int)
  let big := step != 0 && decide ((step * 1000 * 0x10000 : Nat) < theta.natAbs)
  let good := if theta.natAbs ≤ 50 * 0x10000 then b.good + 1 else 0
  let i' := clampI (-mx) mx (b.i + ki * theta)
  let s0 := s.wr (Reg.tbOff t) (satWord (theta / 256))
  let s1 :=
    if big then
      if s.stepAllowed t then
        let s' := s0.moveTb t ((b.time : Int) - theta).toNat
        s'.setTb t { s'.tbAt t with i := 0, good := good, lastSample := s.now }
      else
        (s0.setTb t { b with r := if 0 < theta then -mx else mx, good := good, lastSample := s.now }).addSat (Reg.tbSts t) 15 8 1
    else s0.setTb t { b with i := i', r := clampI (-mx) mx (-(kp * theta + i')), good := good, lastSample := s.now }
  let s2 := s1.wr (Reg.tbRate t) (satWord ((s1.tbAt t).r / 2 ^ 24))
  match s.tbState t with
  | 2 => if 16 ≤ good then s2.setTbState t 3 else s2
  | 3 => if 1000 * 0x10000 < theta.natAbs then s2.setTbState t 2 else s2
  | 4 => s2.setTbState t 2
  | _ => s2

/-- May a sample from source `src` reach base t (R443, R450, R454)? -/
def State.takesSamples (s : State) (t src : Nat) : Bool :=
  s.tbOn t && s.getF (Reg.tbCtrl t) 30 29 == src && s.sys.refSysLostAt.isNone

end Sys2Proof.Machine
end

