-- ==== Sys2Proof/Machine/Net.lean ====
section
/-! DEFINITION. Packets, frames and the packet memory (R385-R388, R398-R405). -/

namespace Sys2Proof.Machine

/-- Subscriber node n's packets, oldest first. -/
def State.nodeAt (s : State) (n : Nat) : List Pkt := SMap.get (fun _ => []) s.node n
/-- Store them. -/
def State.setNode (s : State) (n : Nat) (ps : List Pkt) : State := { s with node := SMap.set (fun _ => []) s.node n ps }
/-- Port m's record. -/
def State.portAt (s : State) (m : Nat) : PortSt := SMap.get (fun _ => PortSt.reset) s.port m
/-- Store it. -/
def State.setPort (s : State) (m : Nat) (p : PortSt) : State := { s with port := SMap.set (fun _ => PortSt.reset) s.port m p }
/-- Shaper g's record: subscriber nodes 0-0x3FF, service node i at 0x400 + i. -/
def State.shAt (s : State) (g : Nat) : ShSt := SMap.get (fun _ => ShSt.reset) s.sh g
/-- Store it. -/
def State.setSh (s : State) (g : Nat) (x : ShSt) : State := { s with sh := SMap.set (fun _ => ShSt.reset) s.sh g x }

/-! ### Headers (R388) -/

/-- The 16-bit big-endian words of a byte string, an odd last byte padded with zero. -/
def words16 : List Byte → List Nat
  | [] => []
  | [a] => [a.toNat * 256]
  | a :: b :: bs => (a.toNat * 256 + b.toNat) :: words16 bs

/-- The Internet checksum of a byte string. -/
def inetSum (bs : List Byte) : Nat :=
  let fold := fun n => n % 0x10000 + n / 0x10000
  0xFFFF - fold (fold (fold (fold (words16 bs).sum)))

/-- A frame padded to 60 bytes, 64 with FCS. -/
def padFrame (bs : List Byte) : List Byte := padTo 60 bs

/-- The port's source MAC address (R385). -/
def State.portMac (s : State) (m : Nat) : Nat := s.getF (Reg.macSaHi m) 15 0 * 2 ^ 32 + (s.rd (Reg.macSaLo m)).toNat
/-- The port's IPv6 address. Word 3 shares its offset with MAC_CNT_TX: a write there sets the word, a read gives the counter (log entry 31). -/
def State.portIp6 (s : State) (m : Nat) : List Byte :=
  beBytes 4 (s.rd (Reg.macIp6 m 0)).toNat ++ beBytes 4 (s.rd (Reg.macIp6 m 1)).toNat
    ++ beBytes 4 (s.rd (Reg.macIp6 m 2)).toNat ++ beBytes 4 (s.rdSh (Reg.macCntTx m)).toNat
/-- The port's link-local IPv6 address by modified EUI-64 (R386). -/
def State.portLinkLocal (s : State) (m : Nat) : List Byte :=
  let mac := beBytes 6 (s.portMac m)
  [0xFE, 0x80, 0, 0, 0, 0, 0, 0, mac.getD 0 0 ^^^ 2, mac.getD 1 0, mac.getD 2 0, 0xFF, 0xFE, mac.getD 3 0, mac.getD 4 0,
    mac.getD 5 0]

/-- The Ethernet header: addresses, the 802.1Q tag when there is one, the EtherType. -/
def ethHeader (dst src : Nat) (vlan : Option Nat) (etype : Nat) : List Byte :=
  beBytes 6 dst ++ beBytes 6 src
    ++ (match vlan with | some tci => [0x81, 0x00] ++ beBytes 2 tci | none => []) ++ beBytes 2 etype

/-- A UDP header; over IPv4 the checksum is 0. -/
def udpHeader (sport dport len sum : Nat) : List Byte := beBytes 2 sport ++ beBytes 2 dport ++ beBytes 2 (8 + len) ++ beBytes 2 sum

/-- An IPv4 header (R388). -/
def ip4Header (dscp : Nat) (src dst : List Byte) (proto len : Nat) : List Byte :=
  let h := fun sum => [0x45, BitVec.ofNat 8 (dscp * 4)] ++ beBytes 2 (20 + len) ++ [0, 0, 0x40, 0, 64, BitVec.ofNat 8 proto]
    ++ beBytes 2 sum ++ src ++ dst
  h (inetSum (h 0))

/-- An IPv6 header (R388). -/
def ip6Header (dscp : Nat) (src dst : List Byte) (proto len : Nat) (hops : Nat) : List Byte :=
  beBytes 4 (6 * 2 ^ 28 + dscp * 4 * 2 ^ 20) ++ beBytes 2 len ++ [BitVec.ofNat 8 proto, BitVec.ofNat 8 hops] ++ src ++ dst

/-- The UDP checksum over IPv6, 0 sent as 0xFFFF. -/
def udp6Sum (src dst : List Byte) (udp : List Byte) : Nat :=
  let c := inetSum (src ++ dst ++ beBytes 4 udp.length ++ [0, 0, 0, 17] ++ udp)
  if c = 0 then 0xFFFF else c

/-- A whole frame of port m for a payload: source addresses the port's, DSCP the node's (R385, R388). Mode 3 payloads are whole frames. -/
def State.buildFrame (s : State) (m dscp : Nat) (a : Addr) (pay : List Byte) : List Byte :=
  let src := s.portMac m
  padFrame
    (match a.mode with
     | 0 =>
       ethHeader a.mac src a.vlan 0x0800
         ++ ip4Header dscp (beBytes 4 (s.rd (Reg.macIp4 m)).toNat) (beBytes 4 ((a.dst.getD 0 0).toNat)) 17 (8 + pay.length)
         ++ udpHeader a.sport a.dport pay.length 0 ++ pay
     | 1 =>
       let si := s.portIp6 m
       let di := (List.range 4).flatMap (fun k => beBytes 4 (a.dst.getD k 0).toNat)
       let sum := udp6Sum si di (udpHeader a.sport a.dport pay.length 0 ++ pay)
       ethHeader a.mac src a.vlan 0x86DD ++ ip6Header dscp si di 17 (8 + pay.length) 64
         ++ udpHeader a.sport a.dport pay.length sum ++ pay
     | 2 => ethHeader a.mac src a.vlan a.etype ++ pay
     | _ => pay)

/-- Length of the frame a payload makes, before MACsec. -/
def Addr.frameLen (a : Addr) (pay : Nat) : Nat :=
  max 60 ((match a.mode with | 0 => 42 | 1 => 62 | 2 => 14 | _ => 0) + (if a.mode < 3 && a.vlan.isSome then 4 else 0) + pay)

/-- Addressing words as WCH_MAC_LO to WCH_PORT lay them out (R321): MAC, VLAN, destination address and ports. `tag` tells whether
to tag; with none given, a nonzero vid does. -/
def addrAt (v : Nat → Word) (base mode : Nat) (tag : Option Bool) : Addr :=
  let vl := v (base + 8)
  { mode := mode, mac := fld (v (base + 4)) 15 0 * 2 ^ 32 + (v base).toNat, etype := fld (v (base + 4)) 31 16,
    vlan := if tag.getD (fld vl 11 0 != 0) then some (fld vl 15 13 * 0x2000 + fld vl 11 0) else none,
    dst := (List.range 4).map (fun k => v (base + 0xC + 4 * k)), dport := fld (v (base + 0x1C)) 31 16,
    sport := fld (v (base + 0x1C)) 15 0 }

/-- The port of a lane code (R381): W0-W31, T0-T7, M0-M1; other codes name none. -/
def laneToPort (l : Nat) : Option Nat := if l < 42 then some l else none

/-! ### Packet memory and nodes (R398-R400) -/

/-- Bytes a waiting packet takes. -/
def Pkt.size (p : Pkt) : Nat := p.payload.length + 64
/-- Memory units of 256 bytes. -/
def units256 (n : Nat) : Nat := ceilDiv n 256

/-- Packet memory in use, in 256-byte units: what waits in nodes and in port FIFOs. -/
def State.memUsed (s : State) : Nat :=
  ((s.node.map (fun n => (n.2.map (fun p => units256 p.size)).sum)).sum)
    + ((s.port.map (fun p => (p.2.fifo.map (fun f => units256 f.bytes.length)).sum)).sum)

/-- Show the memory in use (R414). -/
def State.showUsed (s : State) : State := s.setF Reg.tmSts 21 0 s.memUsed

/-- Is there room for a packet: in the 4 MiB memory, and in the node's 256 KiB (R400)? -/
def State.hasRoom (s : State) (n : Nat) (p : Pkt) : Bool :=
  decide (s.memUsed + units256 p.size ≤ 16384) && decide (((s.nodeAt n).map Pkt.size).sum < 262144)

/-- Put a packet in a subscriber node. -/
def State.enqueue (s : State) (n : Nat) (p : Pkt) : State := (s.setNode n (s.nodeAt n ++ [p])).showUsed

/-- Put packets in a node in order. -/
def State.enqueueAll (s : State) (n : Nat) (ps : List Pkt) : State := ps.foldl (fun s p => s.enqueue n p) s

/-- The Spine sends a frame on port m through subscriber node 1,023, queue 0 (R389, R395, R398), where there is room (log entry 174). -/
def State.spineSend (s : State) (m : Nat) (bs : List Byte) : State :=
  let p : Pkt := { queue := 0, dests := [(m, ⟨3, 0, 0, none, [], 0, 0⟩)], payload := padFrame bs, folio := none, deadline := none }
  if s.hasRoom 1023 p then s.enqueue 1023 p else s

/-- Is refill number `done` over: 1,000 counts a refill (R396, R404)? -/
def State.refillDue (s : State) (done : Nat) : Bool := decide (done < s.now / 1000)

/-- Put a frame in a port's FIFO. A port without link discards it and, for a wall packet, its channel counts it as dropped (R329, R400). -/
def State.toPort (s : State) (m : Nat) (f : Fifo) : State :=
  if s.flag (Reg.macSts m) 31 then
    (s.setPort m { s.portAt m with fifo := (s.portAt m).fifo ++ [f] }).showUsed
  else match f.ch with
    | some n => s.addSat (Reg.wchCnt n) 7 0 1
    | none => s

end Sys2Proof.Machine
end

