-- ==== Sys2Proof/Machine/Wall.lean ====
section
/-! DEFINITION. Wall channels and receivers: addressing, epochs and sequence numbers, control messages, version negotiation
(R321-R332). -/

namespace Sys2Proof.Machine

/-- Channel n's record. -/
def State.chAt (s : State) (n : Nat) : ChSt := SMap.get (fun _ => ChSt.reset) s.ch n
/-- Store it. -/
def State.setCh (s : State) (n : Nat) (x : ChSt) : State := { s with ch := SMap.set (fun _ => ChSt.reset) s.ch n x }

/-- Is the channel's active en 1? -/
def State.chOn (s : State) (n : Nat) : Bool := s.flag (Reg.wchCtrl n) 31
/-- Does the channel send: enabled and not exhausted? -/
def State.chSends (s : State) (n : Nat) : Bool := s.chOn n && !s.flag (Reg.wchSts n) 28
/-- Its addressing (R321). -/
def State.chAddr (s : State) (n : Nat) : Addr :=
  addrAt s.rd (Reg.wchMacLo n) (s.getF (Reg.wchCtrl n) 30 29) (some (s.flag (Reg.wchCtrl n) 26))
/-- The lanes its packets leave on: lane_a, and lane_b with b_en (R329). -/
def State.chLanes (s : State) (n : Nat) : List Nat :=
  s.getF (Reg.wchCtrl n) 25 20 :: (if s.flag (Reg.wchCtrl n) 27 then [s.getF (Reg.wchCtrl n) 19 14] else [])
/-- Copies of its packets. -/
def State.chDests (s : State) (n : Nat) : List (Nat × Addr) := (s.chLanes n).map (fun l => (l, s.chAddr n))
/-- Largest data length of its packets (R327). -/
def State.chMax (s : State) (n : Nat) : Nat := folioMax (s.getF (Reg.wchCtrl n) 30 29) (s.flag (Reg.wchCtrl n) 28)

/-- Sheet 0's current picture number (R227). -/
def State.curPicture (s : State) : Nat := (s.rd (Reg.couchSheetPic 0)).toNat
/-- The negotiated version of folio f (R322). -/
def State.rxVersion (s : State) (f : Nat) : Nat := s.getF (Reg.wchRxSts (f / 16) (f % 16)) 28 27
/-- State of a receiver. -/
def State.rxState (s : State) (f : Nat) : Nat := s.getF (Reg.wchRxSts (f / 16) (f % 16)) 31 29

/-- Change a receiver's state and version: a change of state raises IMP_EVT (R317). -/
def State.setRxState (s : State) (f st ver : Nat) : State :=
  let off := Reg.wchRxSts (f / 16) (f % 16)
  let s1 := (s.setF off 31 29 st).setF off 28 27 ver
  if s.rxState f = st then s1 else s1.raiseEvt Reg.impEvt

/-- Start a new epoch of channel n (R325): the next epoch with sequence 0 and a key of every enabled receiver, or, when it would equal the
epoch recorded at the latest key change, exhausted. A channel whose en is 0 starts none. -/
def State.newEpoch (s : State) (n : Nat) : State :=
  let e := (s.getF (Reg.wchEpoch n) 15 0 + 1) % 0x10000
  let c := s.chAt n
  if !s.chOn n then s
  else if c.keyEpoch = some e then
    (((s.setB (Reg.wchSts n) 28 true).setB (Reg.wchSts n) 31 false)).raiseEvt Reg.impEvt
  else
    let s1 := ((s.setF (Reg.wchEpoch n) 15 0 e).wr (Reg.wchSeq n) 0).setCh n { c with wrapped := false }
    (s1.rxOfChannel n).foldl (fun s f => s.requestKey false f) s1

/-- The next packet of channel n would carry sequence 0xFFFF_FFFF + 1: a new epoch starts, or the channel is exhausted and does not send it (R325). -/
def State.turnEpoch (s : State) (n : Nat) : State := if (s.chAt n).wrapped && !s.flag (Reg.wchSts n) 28 then s.newEpoch n else s

/-- The sequence number of the next packet, and the state after it is taken (R323). -/
def State.takeSeq (s : State) (n : Nat) : Nat × State :=
  let q := (s.rd (Reg.wchSeq n)).toNat
  (q, (s.wr (Reg.wchSeq n) (BitVec.ofNat 32 (q + 1))).setCh n { s.chAt n with wrapped := decide (q = 0xFFFFFFFF) })

/-- The Folio header (R326), with epoch and sequence left 0 until release. -/
structure FolioHdr where
  version : Nat
  flags : Nat
  channel : Nat
  receiver : Nat
  ptype : Nat
  picture : Nat
  ptS : Nat
  ptNs : Nat
  row : Nat
  offset : Nat
deriving DecidableEq, Repr

/-- Bytes of a Folio header. -/
def FolioHdr.bytes (h : FolioHdr) (hop keyId epoch len seq : Nat) : List Byte :=
  beBytes 1 h.version ++ beBytes 1 h.flags ++ beBytes 2 h.channel ++ beBytes 1 h.receiver ++ beBytes 1 h.ptype ++ beBytes 1 hop
    ++ beBytes 1 keyId ++ beBytes 2 epoch ++ beBytes 2 len ++ beBytes 4 seq ++ beBytes 4 h.picture ++ beBytes 4 h.ptS
    ++ beBytes 4 h.ptNs ++ beBytes 1 h.row ++ beBytes 3 h.offset

/-- The IV of a Folio packet (R328): downstream kind 0, upstream 0x10 + receiver. -/
def folioIv (channel kind epoch seq : Nat) : List Byte :=
  beBytes 2 channel ++ beBytes 1 kind ++ [0] ++ beBytes 2 epoch ++ beBytes 4 seq ++ [0, 0]

/-- The key in a wall slot, none when it holds none (R494). -/
def State.slotKey (s : State) (k : Nat) : List Byte :=
  match SMap.get (fun _ => (none : Option WallSlot)) s.clasp.wall k with
  | some w => w.key
  | none => []

/-- The key of the slot channel n names (R321). -/
def State.chKey (s : State) (n : Nat) : List Byte := s.slotKey (s.getF (Reg.wchKey n) 9 0)

/-- A Folio packet of channel n: header without epoch and sequence, and the data to protect (R326-R328). -/
def State.folioPkt (s : State) (n : Nat) (queue : Nat) (h : FolioHdr) (data : List Byte) (lanes : List Nat) (dl : Option Int) : Pkt :=
  { queue := queue, dests := lanes.map (fun l => (l, s.chAddr n)),
    payload := h.bytes (s.getF Reg.impHop 7 0) (s.getF (Reg.wchKey n) 31 24) 0 data.length 0 ++ data,
    folio := some n, deadline := dl }

/-- Number, stamp and protect a Folio payload at release (R328, R399): epoch, sequence, AES-256-GCM over the data with the header as
additional data. -/
def State.sealFolio (s : State) (n : Nat) (pay : List Byte) : List Byte × State :=
  let r := s.takeSeq n
  let ep := r.2.getF (Reg.wchEpoch n) 15 0
  let hd := (pay.take 7) ++ beBytes 1 (r.2.getF (Reg.wchKey n) 31 24) ++ beBytes 2 ep ++ (pay.drop 10).take 2
    ++ beBytes 4 r.1 ++ (pay.drop 16).take 16
  (hd ++ Config.gcmSeal (s.chKey n) (folioIv n 0 ep r.1) hd (pay.drop 32), r.2)

/-- Send a control message to receiver f on the channel's lanes (R330). -/
def State.sendControl (s : State) (f : Nat) (data : List Byte) : State :=
  let n := f / 16
  let h : FolioHdr := ⟨max 1 (s.rxVersion f), 0, n, f % 16, 2, s.curPicture, 0, 0, 0, 0⟩
  if s.chSends n then s.enqueue (s.getF (Reg.wchTm n) 9 0) (s.folioPkt n 0 h data (s.chLanes n) none) else s

/-- Has a leaf row of sheet 0's current picture been formed for folio f? -/
def State.rowFormed (s : State) (f : Nat) : Bool :=
  (s.rxAt f).formedPic == some s.curPicture

/-- The index of the highest set bit of a 3-bit number, plus 1. -/
def topVersion (n : Nat) : Nat := if n.testBit 2 then 3 else if n.testBit 1 then 2 else if n.testBit 0 then 1 else 0

/-- Decide folio f's version from its last JOIN and answer with ACCEPT (R332). -/
def State.negotiate (s : State) (f : Nat) : State :=
  let x := s.rxAt f
  let n := f / 16
  let maxVer := s.getF (Reg.wchRx n (f % 16)) 27 26
  let common := Nat.land (x.joinVersions % 8) (2 ^ maxVer - 1)
  let enc := s.getF (Reg.couchSheetCtrl 0) 26 24
  let able := x.joinCaps.testBit (if enc = 1 then 1 else 0)
  let v := if common = 0 || !able then 0 else topVersion common
  let st := if common = 0 then 2 else if !able then 3 else 1
  let from_ := if s.rowFormed f then (s.curPicture + 1) % 2 ^ 32 else s.curPicture
  let s1 := s.sendControl f ([0x81, BitVec.ofNat 8 v, if enc = 1 then 1 else 0, 0] ++ beBytes 4 from_)
  let s2 := s1.setRx f { s1.rxAt f with
    fromPicture := from_
    prevVer := if v = 0 then 0 else if s.rowFormed f then s.rxVersion f else v }
  let s3 := (s2.setRxState f st v).setF (Reg.wchRxSts n (f % 16)) 15 0 x.joinCaps
  if v = 0 then s3 else s3.requestKey false f

/-- The version rows of picture p are formed at (R332). -/
def State.versionFor (s : State) (f p : Nat) : Nat :=
  if p = (s.rxAt f).fromPicture ∨ (p + 2 ^ 32 - (s.rxAt f).fromPicture) % 2 ^ 32 < 2 ^ 31 then s.rxVersion f
  else (s.rxAt f).prevVer

/-- Repeat the decision for a receiver that has joined since it was enabled. -/
def State.renegotiate (s : State) (f : Nat) : State := if s.rxState f ≠ 0 then s.negotiate f else s

/-! ### Acceptance of a channel's set (R322, R325, R332) -/

/-- The registers whose change starts an epoch: mode, lanes and b_en, and the addressing registers. -/
def chMoved (old new : Nat → Word) (n : Nat) : Bool :=
  let m : Word := BitVec.ofNat 32 (0x60000000 + 0x08000000 + 0x03FFC000)
  (old (Reg.wchCtrl n) &&& m) != (new (Reg.wchCtrl n) &&& m)
    || (List.range 9).any (fun k => old (Reg.wchMacLo n + 4 * k) != new (Reg.wchMacLo n + 4 * k))

/-- A receiver after an accepted set: disabled, it is ABSENT with version 0; with another max_ver its decision is repeated. -/
def State.rxActivated (s : State) (old : Nat → Word) (f : Nat) : State :=
  let o := old (Reg.wchRx (f / 16) (f % 16))
  let c := s.rd (Reg.wchRx (f / 16) (f % 16))
  if !bit c 31 then
    if s.rxState f = 0 && s.rxVersion f == 0 then s
    else (s.setRx f { s.rxAt f with joinVersions := 0, joinCaps := 0 }).setRxState f 0 0
  else if bit o 31 && fld o 27 26 != fld c 27 26 then s.renegotiate f
  else s

/-- Channel n's set has been accepted; `old` is what was active before. -/
def State.activateCh (s : State) (old : Nat → Word) (n : Nat) : State :=
  let c := s.chAt n
  let keyed := old (Reg.wchKey n) != s.rd (Reg.wchKey n)
  let idChanged := fld (old (Reg.wchKey n)) 31 24 != s.getF (Reg.wchKey n) 31 24
  let was := bit (old (Reg.wchCtrl n)) 31
  let exh := s.flag (Reg.wchSts n) 28
  let s1 :=
    if keyed then
      (s.setCh n { c with
        keyEpoch := some (s.getF (Reg.wchEpoch n) 15 0)
        prevKey := if idChanged then some (fld (old (Reg.wchKey n)) 31 24, s.now, s.slotKey (fld (old (Reg.wchKey n)) 9 0)) else c.prevKey }).setB (Reg.wchSts n) 28 false
    else s
  let s2 :=
    if s.chOn n && (!was || chMoved old s.rd n || (keyed && exh)) then s1.newEpoch n else s1
  let s3 := s2.setB (Reg.wchSts n) 31 (s2.chSends n)
  ((List.range 16).map (fun r => 16 * n + r)).foldl (fun s f => s.rxActivated old f) s3

end Sys2Proof.Machine
end

