-- ==== Sys2Proof/Machine/Commit.lean ====
section
/-! DEFINITION. What an accepted set makes each unit do, commit points, links and refusals (R20-R29, R202, R203, R309, R410, R444,
R465, R578). -/

namespace Sys2Proof.Machine

/-! ### Acceptance in each unit -/

/-- Layer l's record. -/
def State.layerAt (s : State) (l : Nat) : LayerSt := SMap.get (fun _ => LayerSt.reset) s.layer l
/-- Store it. -/
def State.setLayer (s : State) (l : Nat) (x : LayerSt) : State := { s with layer := SMap.set (fun _ => LayerSt.reset) s.layer l x }

/-- Line memory allocated in each band under the active sets (R263). -/
def State.showUnits (s : State) : State :=
  (List.range 16).foldl (fun s b =>
    s.setF (Reg.couchPipeSts b) 10 0 ((((layersOf s.rd).filter (fun c => c.en)).map (fun c => allocOf s.rd c.slot b / 256)).sum)) s

/-- Couch group k accepted: layers of the group read again after a domain refusal (R250), and one that stops, or whose sheet does, shows no
taps (R261); a sheet that starts counts from the grid instant last passed (R578); sheet 0's en shows in IMP_STS.direct (R318) and a change of its encoding repeats the versions (R332). -/
def State.activateCouch (s : State) (old : Nat → Word) (k : Nat) : State :=
  let c := sheetCfg s.rd k
  let o := sheetCfg old k
  let mine := (List.range 64).filter (fun l => fld (s.rd (Reg.couchLayerCtrl l)) 30 29 == k)
  let s1 := (mine.foldl (fun s l =>
    let s' := s.setLayer l { s.layerAt l with domainOff := false, gone := false }
    if c.en && bit (s.rd (Reg.couchLayerCtrl l)) 31 then s' else s'.setF (Reg.couchLayerSts l) 7 0 0) s).showUnits
  let x := s1.sheetAt k
  let s2 :=
    if c.en && !o.en then
      s1.setSheet k { x with seen := gridIndex c.rate (s1.timeOf c.tb), seenAt := none, begun := false }
    else if !c.en then (s1.setSheet k { x with begun := false }).setB (Reg.couchSheetSts k) 31 false
    else s1
  let s3 := if k = 0 then s2.setB Reg.impSts 31 (!c.en) else s2
  if k = 0 && c.enc != o.enc then s3.folios.foldl State.renegotiate s3 else s3

/-- Coding context c's record. -/
def State.ctxAt (s : State) (c : Nat) : CtxSt := SMap.get (fun _ => CtxSt.reset) s.ctx c
/-- Store it. -/
def State.setCtxSt (s : State) (c : Nat) (x : CtxSt) : State := { s with ctx := SMap.set (fun _ => CtxSt.reset) s.ctx c x }

/-- Request a key of an HEVC_ENC context (R296). -/
def State.requestCtxKey (s : State) (keep : Bool) (c : Nat) : State :=
  let x := s.ctxAt c
  s.setCtxSt c { x with keyPending := true, keyKeep := if x.keyPending then x.keyKeep && keep else keep }

/-- Press group c accepted: running follows en; the start of a context requests its key (R273, R296). -/
def State.activatePress (s : State) (old : Nat → Word) (c : Nat) : State :=
  let x := ctxCfg s.rd c
  let was := bit (old (Reg.pressCtxCtrl c)) 31
  let s1 := s.setB (Reg.pressCtxSts c) 31 x.en
  if x.en && !was then
    if x.kind = 0 then s1.requestAllKeys
    else if x.kind = 2 then State.requestCtxKey (s1.setCtxSt c { CtxSt.reset with keyTime := (s.ctxAt c).keyTime }) false c
    else s1.setCtxSt c CtxSt.reset
  else s1

/-- Session i's record. -/
def State.sessAt (s : State) (i : Nat) : Sess := SMap.get (fun _ => Sess.reset) s.sess i
/-- Store it. -/
def State.setSess (s : State) (i : Nat) (x : Sess) : State := { s with sess := SMap.set (fun _ => Sess.reset) s.sess i x }
/-- A session's state code (R198). -/
def State.sessState (s : State) (i : Nat) : Nat := s.getF (Reg.ingSessSts i) 31 29
/-- Change it: every change sets the session event pending (R197). -/
def State.setSessState (s : State) (i st : Nat) : State :=
  if s.sessState i = st then s else (s.setF (Reg.ingSessSts i) 31 29 st).raiseEvt (Reg.ingSessEvt i)

/-- Do two session sets differ in width, height, format, base, line or slots (R203)? -/
def ringChanged (o c : SessCfg) : Bool :=
  o.w != c.w || o.h != c.h || o.base != c.base || o.line != c.line || o.slots != c.slots || o.sampling != c.sampling
    || o.depth != c.depth || o.col != c.col || o.tcs != c.tcs || o.bpm != c.bpm || o.rate != c.rate || o.links != c.links

/-- The frames still in progress when their ring is replaced, under keys from 16 on (R202). -/
def Sess.oldFrames (x : Sess) : SMap Slot := (x.slots.filter (fun p => !p.2.whole)).map (fun p => (p.1 + 16, p.2))

/-- What a session knows of its source's order, forgotten: the next packet starts a frame whatever its number and timestamp. -/
def Sess.unsourced (x : Sess) : Sess :=
  { x with lastTs := none, top := none, missing := [], held := [], taken := none, au := [], broken := false, sections := [], pes := [] }

/-- Session group i accepted (R198, R202, R203, R211). -/
def State.activateIng (s : State) (old : Nat → Word) (i : Nat) : State :=
  let c := sessCfg s.rd i
  let o := sessCfg old i
  let x := s.sessAt i
  let s1 :=
    if ringChanged o c then
      (s.setSess i { x with slots := x.oldFrames, tokens := [], adopt := none, slot := none }).setF (Reg.ingSessSts i) 24 21 0xF
    else s
  if !c.en then (s1.setSess i { (s1.sessAt i).unsourced with slot := none }).setSessState i 0
  else if !o.en || s.sessState i == 5 then
    (s1.setSess i { s1.sessAt i with lastArrival := s.now }).setSessState i 1
  else s1

/-- A gate list's entries as a view of its registers holds them: state and duration in ns of entries 0 to count - 1. -/
def gateEntries (v : Nat → Word) (q : Nat) : List (Nat × Nat) :=
  (List.range (fld (v (Reg.tmGateCtrl q)) 8 0)).map (fun i => (fld (v (Reg.tmGateEnt q i)) 31 24, fld (v (Reg.tmGateEnt q i)) 23 0))

/-- TM_GATE_START in ns. -/
def State.gateStarted (s : State) (q : Nat) : Nat :=
  (s.getF (Reg.tmGateStartSHi q) 15 0 * 2 ^ 32 + (s.rd (Reg.tmGateStartSLo q)).toNat) * 1000000000 + s.getF (Reg.tmGateStartNs q) 29 0

/-- Port q's record when a list is accepted: a running list that the registers still held is kept aside, to run on until the new start (R410). -/
def State.keepOldGate (s : State) (old : Nat → Word) (q : Nat) : PortSt :=
  let p := s.portAt q
  if s.flag (Reg.tmGateSts q) 31 && p.gateNew.isNone then
    { p with gateOld := gateEntries old q, gateOldCycle := (old (Reg.tmGateCycle q)).toNat, gateOldBase := s.gateStarted q,
             gateOldTb := fld (old (Reg.tmGateCtrl q)) 29 27 }
  else p

/-- Base of a gate list in ns, from a view of the registers. -/
def gateBase (v : Nat → Word) (q : Nat) : Nat :=
  (fld (v (Reg.tmGateBaseSHi q)) 15 0 * 2 ^ 32 + (v (Reg.tmGateBaseSLo q)).toNat) * 1000000000 + fld (v (Reg.tmGateBaseNs q)) 29 0

/-- The earliest start a latch now allows: 2 µs on, in whole ns of the list's time base (R410). -/
def State.gateEarliest (s : State) (tb : Nat) : Nat := ceilDiv (s.timeOf tb) 0x10000 + 2000

/-- Where an accepted list starts: its base, or base + N × cycle with the smallest N that leaves 2 µs (R410). -/
def gateStart (base cycle earliest : Nat) : Nat :=
  if earliest ≤ base then base else base + ceilDiv (earliest - base) cycle * cycle

/-- Gate group of port q accepted (R410). -/
def State.activateGate (s : State) (old : Nat → Word) (q : Nat) : State :=
  let c := s.rd (Reg.tmGateCtrl q)
  let p := s.keepOldGate old q
  if !bit c 31 then
    (s.setPort q { p with gateNew := none, gateOld := [], gateOldCycle := 0, gateOldBase := 0, gateOldTb := 0 }).setB (Reg.tmGateSts q) 31 false
  else
    let base := gateBase s.rd q
    let e := s.gateEarliest (fld c 29 27)
    let st := gateStart base (s.rd (Reg.tmGateCycle q)).toNat e
    let s1 := (((s.setPort q { p with gateNew := some st }).wr (Reg.tmGateStartSLo q) (BitVec.ofNat 32 (st / 1000000000))).wr
      (Reg.tmGateStartSHi q) (BitVec.ofNat 32 (st / 1000000000 / 2 ^ 32 % 2 ^ 16))).wr (Reg.tmGateStartNs q)
        (BitVec.ofNat 32 (st % 1000000000))
    if st = base then s1.setB (Reg.tmGateSts q) 30 false
    else (s1.setB (Reg.tmGateSts q) 30 true).raiseEvt Reg.tmEvt

/-- Traffic manager group accepted: a shaper keeps its old words until the next refill (R406). -/
def State.activateTm (s : State) (old : Nat → Word) (g : Nat) : State :=
  if g < 0x550 then
    let o := if g < 0x400 then Reg.tmSubCfg g else Reg.tmSvcCfg (g - 0x400)
    s.setSh g { s.shAt g with old := some [old o, old (o + 4), old (o + 8)] }
  else s.activateGate old (g - 0x8000)

/-- Audio group record. -/
def State.grpAt (s : State) (g : Nat) : GrpSt := SMap.get (fun _ => GrpSt.reset) s.grp g
/-- Store it. -/
def State.setGrp (s : State) (g : Nat) (x : GrpSt) : State := { s with grp := SMap.set (fun _ => GrpSt.reset) s.grp g x }

/-- Audio output o's record. -/
def State.aoAt (s : State) (o : Nat) : AoSt := SMap.get (fun _ => AoSt.reset) s.ao o
/-- Store it. -/
def State.setAo (s : State) (o : Nat) (x : AoSt) : State := { s with ao := SMap.set (fun _ => AoSt.reset) s.ao o x }

/-- Set or clear a lock or non-audio bit of an audio status register: a change raises AUD_EVT (R465). -/
def State.setAudBit (s : State) (off i : Nat) (on : Bool) : State :=
  if s.flag off i = on then s else (s.setB off i on).raiseEvt Reg.audEvt

/-- Audio group g accepted: a serial port's running bit and lock, an ASRC group's state (R466, R473, R476), an output's first RTP
sequence number, which the spec leaves open. -/
def State.activateAud (s : State) (old : Nat → Word) (g : Nat) : State :=
  if g < 0x10 then
    let c := s.rd (Reg.audSpCfg g)
    let s1 := s.setB (Reg.audSpSts g) 31 (bit c 31)
    if c = old (Reg.audSpCfg g) then s1
    else State.setAudBit { s1 with sp := SMap.set (fun _ => SpSt.reset) s1.sp g { SMap.get (fun _ => SpSt.reset) s1.sp g with good := 0 } }
      (Reg.audSpSts g) 30 false
  else if 0x10 ≤ g ∧ g < 0x14 then
    if s.flag (Reg.audArCfg (g - 0x10)) 31 then s
    else (s.setAudBit (Reg.audArSts (g - 0x10)) 31 false).setF (Reg.audArSts (g - 0x10)) 3 0 0xF
  else if 0x20 ≤ g ∧ g < 0x30 then
    let i := g - 0x20
    let on := s.flag (Reg.audGrpCfg i) 31
    let was := bit (old (Reg.audGrpCfg i)) 31
    if on && was then s
    else (((s.setGrp i { GrpSt.reset with muteNext := (s.grpAt i).muteNext }).setAudBit (Reg.audGrpSts i) 31 false).setF (Reg.audGrpSts i) 7 0 0).setAudBit
      (Reg.audGrpSts i) 30 false
  else if 0x30 ≤ g then
    let o := g - 0x30
    if s.flag (Reg.audOutCfg o) 31 && !bit (old (Reg.audOutCfg o)) 31 then
      (s.setAo o { AoSt.reset with blk := ((s.grpAt (s.getF (Reg.audOutCfg o) 27 24)).written.map (· + 1)).getD 0, seq := s.fresh % 0x10000 }).bumpFree
    else s
  else s

/-- Imposition group accepted: group 0 makes every staged entry active and every shadow calibration set (R309, R314). -/
def State.activateImp (s : State) (old : Nat → Word) (g : Nat) : State :=
  if g = 0 then
    let tab := s.staged.foldl (fun m p => match p.2 with | some e => SMap.set (fun _ => (0 : BitVec 64)) m p.1 e | none => m) s.table
    State.setF { s with table := tab, staged := [], calAct := s.calShd } Reg.impSts 14 0 0
  else s.activateCh old (g - 1)

/-- A group's set has become active. -/
def State.activate (s : State) (old : Nat → Word) (u : CommitUnit) (g : Nat) : State :=
  match u with
  | .couch => s.activateCouch old g
  | .press => s.activatePress old g
  | .imp => s.activateImp old g
  | .ing => s.activateIng old g
  | .tm => s.activateTm old g
  | .time => s.activateTb g (old (Reg.tbCtrl g))
  | .aud => s.activateAud old g

/-! ### Checks and results -/

/-- The reason a group's latched set gets (R22, R26); 0: accepted. -/
def State.checkOf (s : State) (v : Nat → Word) (u : CommitUnit) (g : Nat) : Nat :=
  match u with
  | .couch => s.checkCouch v g
  | .press => s.checkPress v g
  | .imp => s.checkImp v g
  | .ing => s.checkIng v g
  | .tm => s.checkTm v g (g ≥ 0x550 && decide (gateBase v (g - 0x8000) < s.gateEarliest (fld (v (Reg.tmGateCtrl (g - 0x8000))) 29 27)))
  | .time => s.checkTime v g
  | .aud => checkAud v g

/-- The unit's refusal event (R22, R27). Ingest has one per session; for a group that names no session it is that of a session the spec does
not name (log entry 79). -/
def State.refusalEvent (s : State) (u : CommitUnit) (g : Nat) : State :=
  match u with
  | .couch => s.raiseEvt Reg.couchEvt
  | .press => s.raiseEvt Reg.pressEvt
  | .imp => s.raiseEvt Reg.impEvt
  | .ing => s.raiseEvt (Reg.ingSessEvt (if g < 64 then g else Config.ingRefusalSession g % 64))
  | .tm => s.raiseEvt Reg.tmEvt
  | .time => s.raiseEvt Reg.timeEvt
  | .aud => s.raiseEvt Reg.audEvt

/-- Record a commit point's result for a group, its arming consumed (R20, R29): a refused one raises the refusal event; a list refused under
strict sets past (R410). -/
def State.report (s : State) (u : CommitUnit) (g reason : Nat) : State :=
  let c := s.cstOf u g
  let s1 := { s with
    armed := s.armed.filter (fun a => !decide (a.u = u ∧ a.grp = g))
    cst := SMap.set (fun _ => CommitSts.reset) s.cst (cstKey u g)
      ⟨reason, if reason = 0 then (c.accepted + 1) % 0x10000 else c.accepted⟩ }
  if reason = 0 then s1 else s1.refusalEvent u g

/-- A strict list refused for its base sets past (R410). -/
def State.markPast (s : State) (u : CommitUnit) (g reason : Nat) : State :=
  let q := g - 0x8000
  let v := s.viewOf [(u, g)]
  if u = .tm ∧ 0x8000 ≤ g ∧ reason = 2 ∧ bit (v (Reg.tmGateCtrl q)) 31 ∧ bit (v (Reg.tmGateCtrl q)) 30
      ∧ gateBase v q < s.gateEarliest (fld (v (Reg.tmGateCtrl q)) 29 27) then
    s.setB (Reg.tmGateSts q) 29 true
  else s

/-- The commit of groups that latch together: every check runs over the latched sets; if all pass all become active, else none does, and
each reports its own reason or LINK_PEER (R22, R24). -/
def State.commitTogether (s : State) (gs : List (CommitUnit × Nat)) : State :=
  let v := s.viewOf gs
  let rs := gs.map (fun g => (g, s.checkOf v g.1 g.2))
  if rs.all (fun r => r.2 == 0) then
    let s1 := s.latchGroups gs
    let s2 := rs.foldl (fun s r => s.report r.1.1 r.1.2 0) s1
    gs.foldl (fun t g => t.activate s.rd g.1 g.2) s2
  else
    rs.foldl (fun s r =>
      (s.markPast r.1.1 r.1.2 r.2).report r.1.1 r.1.2 (if r.2 = 0 then 6 else r.2)) s

/-- A group's commit point (R19, R25): the frame boundary of a sheet, or a time base, or one of its own. -/
def State.pointOf (s : State) (u : CommitUnit) (g : Nat) : Nat × Nat :=
  match u with
  | .couch => (0, g)
  | .imp => (0, 0)
  | .press =>
    let c := ctxCfg (s.viewOf [(u, g)]) g
    let c' := if c.en then c else ctxCfg s.rd g
    if c'.kind = 0 then (0, 0) else if c'.kind = 2 then (0, c'.src) else (2, g)
  | .time => (1, g)
  | .ing => (3, g)
  | .tm => (4, g)
  | .aud => (5, g)

/-- The groups armed under a link tag. -/
def State.linkGroups (s : State) (link : Nat) : List Arm := s.armed.filter (fun a => a.link == link)

/-- Do armed groups span more than one commit point, or were they found to (R25)? -/
def State.mixedPoints (s : State) (as : List Arm) : Bool :=
  as.any (fun a => a.mixed || as.any (fun b => decide (s.pointOf a.u a.grp ≠ s.pointOf b.u b.grp)))

/-- Does a link span more than one commit point (R25)? -/
def State.linkMixed (s : State) (link : Nat) : Bool := s.mixedPoints (s.linkGroups link)

/-- Group g of unit u reaches its commit point (R20-R25). -/
def State.commitPoint (s : State) (u : CommitUnit) (g : Nat) : State :=
  match s.armOf u g with
  | none => s
  | some a =>
    if a.link = 0 then s.commitTogether [(u, g)]
    else if s.linkMixed a.link then
      State.report { s with armed := s.armed.map (fun (b : Arm) => if b.link = a.link then { b with mixed := true } else b) } u g 7
    else s.commitTogether ((s.linkGroups a.link).map (fun b => (b.u, b.grp)))

/-- Several groups of one commit point. -/
def State.commitPoints (s : State) (gs : List (CommitUnit × Nat)) : State := gs.foldl (fun s g => s.commitPoint g.1 g.2) s

/-- Is the stream of a group's commit point idle, so that an unlinked commit takes effect within 2 µs of arming (R19, R202, R309, R410,
R465, R578)? -/
def State.groupIdle (s : State) (u : CommitUnit) (g : Nat) : Bool :=
  match u with
  | .couch => !s.flag (Reg.couchSheetCtrl g) 31
  | .press =>
    let c := ctxCfg s.rd g
    !c.en || ((c.kind == 0 || c.kind == 2) && !s.flag (Reg.couchSheetCtrl c.sheet) 31)
  | .imp => !s.flag (Reg.couchSheetCtrl 0) 31
  | .ing => s.sessState g == 0 || s.sessState g == 1 || s.sessState g == 3
  | .tm => decide (0x8000 ≤ g) && !s.flag (Reg.tmGateCtrl (g - 0x8000)) 31
  | .time => true
  | .aud =>
    if g < 0x10 then !s.flag (Reg.audSpCfg g) 31
    else if g < 0x14 then !s.flag (Reg.audArCfg (g - 0x10)) 31
    else if g < 0x18 then !s.flag (Reg.audAtCfg (g - 0x14)) 31
    else if g < 0x20 then !s.flag (Reg.audPdmCfg (g - 0x18)) 31
    else if g < 0x30 then !s.flag (Reg.audGrpCfg (g - 0x20)) 31
    else !s.flag (Reg.audOutCfg (g - 0x30)) 31

/-- Has 2 µs passed since every arming (R25, R578)? -/
def State.armedLong (s : State) (as : List Arm) : Bool := as.all (fun b => decide (b.at_ + 2000 ≤ s.now))

/-- The first instant of a rate's frame grid at or after time x, in 2⁻¹⁶ ns. -/
def gridFrom (rate x : Nat) : Nat :=
  let n := gridIndex rate x
  if frameStart rate n = x then x else frameStart rate (n + 1)

/-- Does a link's shared point fall now: at once on a time base (R19); for a sheet that is not composed, at the first instant of the grid of its
shadow tb and rate 2 µs or more after the last arming, or 2 µs after it when that base does not run (R578)? -/
def State.linkDue (s : State) (a : Arm) : Bool :=
  let p := s.pointOf a.u a.grp
  let as := s.linkGroups a.link
  p.1 == 1 || (p.1 == 0 && !s.flag (Reg.couchSheetCtrl p.2) 31 && s.armedLong as &&
    (let c := sheetCfg s.rdSh p.2
     if s.tbOn c.tb && !rateBad c.rate then
       decide (gridFrom c.rate ((as.map (fun b => b.tbs.getD c.tb 0)).foldl max 0 + 2000 * 0x10000) ≤ s.timeOf c.tb)
     else true))

/-! ### The commands -/

/-- COMMIT (R27): arm the group, or set COMMIT_STS.bad and raise the refusal event. -/
def State.commitWrite (s : State) (u : CommitUnit) (v : Word) : State :=
  if fld v 23 16 = 0 ∧ groupInRange u (fld v 15 0) then s.arm u (fld v 15 0) (fld v 31 24)
  else (s.setB (unitBase u + 8) 30 true).refusalEvent u (fld v 15 0)

/-- COMMIT. -/
def execCommit (ini : Ini) (u : CommitUnit) (v : Word) (s : State) : Host.Outcome State Fault Refusal :=
  .next (s.gatedWrite ini (unitBase u) v (fun s => s.commitWrite u v))

/-- LINK_TIMEOUT (R21, R25): the units of `silent` have not voted 2 µs after the link's commit point. The link is what was armed by then; a group
armed under the tag since has joined no link of theirs. Every group of the link is refused: LINK_TIMEOUT for a silent unit, else its own
reason, else LINK_PEER (log entry 78). -/
def State.linkTimeout (s : State) (link : Nat) (silent : List CommitUnit) : State :=
  let as := (s.linkGroups link).filter (fun a => decide (a.at_ + 2000 ≤ s.now))
  if link = 0 ∨ s.mixedPoints as ∨ as.all (fun a => !silent.contains a.u) then s
  else
    let v := s.viewOf (as.map (fun a => (a.u, a.grp)))
    let rs := as.map (fun a => (a, if silent.contains a.u then 8 else if s.checkOf v a.u a.grp = 0 then 6 else s.checkOf v a.u a.grp))
    rs.foldl (fun t r => (t.markPast r.1.u r.1.grp r.2).report r.1.u r.1.grp r.2) s

/-- LINK_TIMEOUT of unit u and of the units of `also`, silent at the same time. -/
def execLinkTimeout (link : Byte) (u : CommitUnit) (also : List CommitUnit) (s : State) : Host.Outcome State Fault Refusal :=
  .next (s.linkTimeout link.toNat (u :: also))

/-- IDLE_COMMIT (R578): a group whose stream does not run, alone or at its link's shared point. -/
def execIdleCommit (u : CommitUnit) (grp : BitVec 16) (s : State) : Host.Outcome State Fault Refusal :=
  .next (match s.armOf u grp.toNat with
    | none => s
    | some a =>
      if (a.link = 0 ∧ s.groupIdle u grp.toNat) ∨ (a.link ≠ 0 ∧ s.linkDue a) then s.commitPoint u grp.toNat else s)

end Sys2Proof.Machine
end

