-- ==== Sys2Proof/Machine/AudioOps.lean ====
section
/-! DEFINITION. The ASRC groups' frames: entering the FIFO, leaving it resampled (R471, R475-R478). -/

namespace Sys2Proof.Machine

/-- Does group g run under its active set? -/
def State.grpOn (s : State) (g : Nat) : Bool := s.flag (Reg.audGrpCfg g) 31

/-- Does pair k of a source's channels enter group g? -/
def State.grpHasPair (s : State) (g k : Nat) : Bool :=
  let lo := s.getF (Reg.audGrpCfg g) 19 15
  decide (lo < 2 * k + 2) && decide (2 * k < lo + s.getF (Reg.audGrpCfg g) 14 10)

/-- Channels of a source frame that a group takes: count from first_in. -/
def State.grpTake (s : State) (g : Nat) (frame : List Word) : List Word :=
  (List.range (s.getF (Reg.audGrpCfg g) 14 10)).map (fun i => frame.getD (s.getF (Reg.audGrpCfg g) 19 15 + i) 0)

/-- Set both channels of a muted non-audio pair of the source to 0 (R471). -/
def mutePairs (pairs : List Nat) (frame : List Word) : List Word :=
  frame.zipIdx.map (fun (w, i) => if pairs.contains (i / 2) then 0 else w)

/-! ### Output frames (R475-R478) -/

/-- Sample rate of group g's output clock in Hz. -/
def State.grpRate (s : State) (g : Nat) : Nat := audRate (s.getF (Reg.audGrpOut g) 22 19)
/-- Channels of group g. -/
def State.grpCount (s : State) (g : Nat) : Nat := s.getF (Reg.audGrpCfg g) 14 10
/-- Is group g locked? -/
def State.grpLocked (s : State) (g : Nat) : Bool := s.flag (Reg.audGrpSts g) 31

/-- One unit of ρ: 2⁻²⁸. -/
def rhoOne : Nat := 0x10000000

/-- Take n input frames: an empty FIFO has the last frame repeated; the record and the frames inserted. -/
def GrpSt.take (count : Nat) : Nat → GrpSt → GrpSt × Nat
  | 0, x => (x, 0)
  | n + 1, x =>
    match x.fifo with
    | f :: fs => GrpSt.take count n { x with fifo := fs, hist := (f.2 :: x.hist).take 128 }
    | [] =>
      let r := GrpSt.take count n { x with hist := (x.hist.headD (List.replicate count 0) :: x.hist).take 128, inserted := true }
      (r.1, r.2 + 1)

/-- The input frames an output frame takes, and the position between input frames then, in units of 2⁻²⁸: by the ρ in use, or, where input frames lie on
the group's time base (R476), up to the one `at_` says: input frame number and the part of a frame beyond it. A late start takes no more than
the FIFO holds. -/
def GrpSt.advance (x : GrpSt) (at_ : Option (Nat × Nat)) : Nat × Nat :=
  match at_, x.fifo with
  | some (n, part), f :: _ =>
    let ahead := (n + 1 + 2 ^ 32 - f.1 % 2 ^ 32) % 2 ^ 32
    (if ahead < 2 ^ 31 then min ahead x.fifo.length else 0, part)
  | _, _ => ((x.pos + x.used) / rhoOne, (x.pos + x.used) % rhoOne)

/-- One output frame of a group: zeros while it is unlocked, lost or still gathering 64 input frames (log entry 44), otherwise every channel resampled at
the ρ in use. -/
def GrpSt.outFrame (x : GrpSt) (locked : Bool) (count : Nat) (at_ : Option (Nat × Nat)) : GrpSt × Nat :=
  let zero : List Word := List.replicate count 0
  if x.lost || (x.filling && decide (x.fifo.length < 64)) then ({ x with acc := zero :: x.acc }, 0)
  else
    let p := x.advance at_
    let r := GrpSt.take count p.1 { x with filling := false, pos := p.2 }
    let f := if locked then (List.range count).map (fun c => Config.resample (r.1.hist.map (fun h => h.getD c 0)) x.used r.1.pos) else zero
    ({ r.1 with acc := f :: r.1.acc }, r.2)

/-- Input rate of a source synchronous with an output of fs Hz, from its ρ: of the two a kind 0x1 session may have, the nearer (R476). -/
def syncRate (fs rho : Nat) : Nat := if rho * fs < 72000 * rhoOne then 48000 else 96000

/-- Where the next output frame of a synchronous group takes its input (R476): input frame τ is taken at τ ÷ fs_in on the time base, and 64 input
frames later it leaves. -/
def State.grpInputAt (s : State) (g : Nat) : Option (Nat × Nat) :=
  let x := s.grpAt g
  match x.blk with
  | some b =>
    if s.flag (Reg.audGrpOut g) 30 then
      let fs := max 1 (s.grpRate g)
      let p := (64 * b + x.acc.length) * syncRate fs x.used
      some ((p / fs + 2 ^ 32 - 64) % 2 ^ 32, p % fs * rhoOne / fs)
    else none
  | none => none

/-- Group g produces one output frame of the block in progress. -/
def State.grpOut (s : State) (g : Nat) : State :=
  let x := s.grpAt g
  if x.blk.isNone || decide (64 ≤ x.acc.length) then s
  else
    let r := x.outFrame (s.grpLocked g) (s.grpCount g) (s.grpInputAt g)
    let s1 := (s.setGrp g r.1).setF (Reg.audGrpSts g) 7 0 r.1.fifo.length
    if r.2 = 0 then s1 else (s1.addSat (Reg.audGrpCnt g) 31 16 r.2).raiseEvt Reg.audEvt

/-- Produce n output frames. -/
def State.grpOuts (s : State) (g : Nat) : Nat → State
  | 0 => s
  | n + 1 => State.grpOuts (s.grpOut g) g n

/-- Output frame index that falls at or before now, for a group clocked by a time base (R475). -/
def State.grpIndex (s : State) (g : Nat) : Nat := s.timeOf (s.getF (Reg.audGrpOut g) 29 27) * s.grpRate g / secT

/-- Produce the output frames that have fallen due in the block in progress; a group clocked by a port is driven by its frame syncs. -/
def State.grpRun (s : State) (g : Nat) : State :=
  let x := s.grpAt g
  match x.blk with
  | some b => if s.flag (Reg.audGrpOut g) 31 then s else s.grpOuts g (min 64 (s.grpIndex g + 1 - 64 * b) - x.acc.length)
  | none => s

/-! ### Input frames (R471, R475, R477) -/

/-- The pairs of a frame that carry the burst preamble of IEC 61937. -/
def burstPairs (frame : List Word) : List Nat :=
  (List.range (frame.length / 2)).filter (fun k => fld (frame.getD (2 * k) 0) 31 16 == 0xF872 && fld (frame.getD (2 * k + 1) 0) 31 16 == 0x4E1F)

/-- Do group g's source pairs carry IEC 61937 data (R471): AES3, embedded and ST 302M audio? -/
def State.grpPairs (s : State) (g : Nat) : Bool :=
  let c := s.rd (Reg.audGrpCfg g)
  fld c 30 28 == 1 || (fld c 30 28 == 3 && (s.getF (Reg.ingSessCfg (fld c 27 22)) 30 28 == 3 || s.getF (Reg.ingSessCfg (fld c 27 22)) 30 28 == 5))

/-- Those of the source's pairs given that enter group g become non-audio: muted from now on, with the event on entry. -/
def State.nonaudioEntry (s : State) (g : Nat) (pairs : List Nat) : State :=
  let x := s.grpAt g
  let new := pairs.filter (fun k => !x.nonaudio.contains k && s.grpHasPair g k)
  if new.isEmpty then s
  else ((s.setGrp g { x with nonaudio := x.nonaudio ++ new }).setB (Reg.audGrpSts g) 30 true).raiseEvt Reg.audEvt

/-- The channel status of a source's pairs, as it now stands, says non-audio of those given (R471). -/
def State.statusPairs (s : State) (g : Nat) (pairs : List Nat) : State :=
  State.nonaudioEntry (s.setGrp g { s.grpAt g with coded := pairs }) g pairs

/-- One sample frame with its number enters group g: a full FIFO drops its oldest frame, counted and flagged (R475, R477); the outputs due before it are
produced first. -/
def State.grpPush (s : State) (g : Nat) (ts : Nat) (frame : List Word) : State :=
  if !s.grpOn g then s
  else
    let bursts := if s.grpPairs g then burstPairs frame else []
    let s0 := (s.grpRun g).nonaudioEntry g bursts
    let x := s0.grpAt g
    let full := decide (128 ≤ x.fifo.length)
    let x' := { x with
      fifo := (if full then x.fifo.drop 1 else x.fifo) ++ [(ts, s.grpTake g (mutePairs x.nonaudio frame))]
      inCount := x.inCount + 1
      inStamps := if x.inCount % 64 = 0 then (s.now :: x.inStamps).take 17 else x.inStamps
      quiet := x.nonaudio.foldl (fun m k => SMap.set (fun _ => 0) m k (if bursts.contains k then 0 else SMap.get (fun _ => 0) m k + 1)) x.quiet
      dropped := x.dropped || full
      lost := false
      lastFrameAt := s.now }
    let s1 := (s0.setGrp g x').setF (Reg.audGrpSts g) 7 0 x'.fifo.length
    if full then (s1.addSat (Reg.audGrpCnt g) 15 0 1).raiseEvt Reg.audEvt else s1

/-- Several frames in order, numbered from `ts` on. -/
def State.grpPushAll (s : State) (g ts : Nat) (frames : List (List Word)) : State :=
  frames.zipIdx.foldl (fun s f => s.grpPush g ((ts + f.2) % 2 ^ 32) f.1) s

/-- The groups that take their input from a source, stream `st` for a session (R473). -/
def State.grpsOf (s : State) (src idx : Nat) (st : Option Nat) : List Nat :=
  (List.range 16).filter (fun g => s.grpOn g && s.getF (Reg.audGrpCfg g) 30 28 == src && s.getF (Reg.audGrpCfg g) 27 22 == idx
    && (match st with | some k => s.getF (Reg.audGrpCfg g) 21 20 == k | none => true))

/-- Frames of a source reach every group that takes it, numbered from `ts` on where the source numbers them. -/
def State.feedGroups (s : State) (src idx : Nat) (st : Option Nat) (ts : Nat) (frames : List (List Word)) : State :=
  (s.grpsOf src idx st).foldl (fun s g => s.grpPushAll g ts frames) s

/-- The channel status of a source reaches every group that takes it. -/
def State.feedStatus (s : State) (src idx : Nat) (st : Option Nat) (pairs : List Nat) : State :=
  (s.grpsOf src idx st).foldl (fun s g => s.statusPairs g pairs) s

end Sys2Proof.Machine
end

