-- ==== Sys2Proof/Machine/Ingest.lean ====
section
/-! DEFINITION. Receive sessions: frames, tokens, merging, loss, SDI, compressed kinds and stored clips (R187-R214). -/

namespace Sys2Proof.Machine

/-! ### Frames and slots (R202-R205) -/

/-- The raster a session writes: the adopted one, or that of its set (R210). -/
def State.sessRaster (s : State) (i : Nat) : Nat × Nat :=
  (s.sessAt i).adopt.getD ((sessCfg s.rd i).w, (sessCfg s.rd i).h)

/-- Transactions of session i's engine for source buffers (R151, R158). -/
def SessCfg.tx (c : SessCfg) (i : Nat) : Tx := ⟨c.dom, 0x70 + i % 16⟩

/-- The same under the session's active set. -/
def State.sessTx (s : State) (i : Nat) : Tx := (sessCfg s.rd i).tx i

/-- The slots of session i that a sheet holds (R204): those its layers compose from or keep for a SPLIT. -/
def State.heldSlots (s : State) (i : Nat) : List Nat :=
  ((List.range 64).filter (fun l =>
      let c := layerCfg s.rd l
      c.en && c.kind == 0 && c.idx == i)).flatMap (fun l =>
    let x := s.layerAt l
    ((x.use.map Prod.fst).toList) ++ ((x.fallback.map Prod.fst).toList))

/-- Slot k of a ring. -/
def Sess.slotAt (x : Sess) (k : Nat) : Slot := SMap.get (fun _ => Slot.reset) x.slots k
/-- Store it. -/
def Sess.setSlot (x : Sess) (k : Nat) (v : Slot) : Sess := { x with slots := SMap.set (fun _ => Slot.reset) x.slots k v }

/-- The oldest slot no reader holds (R204); slot 0 of a compressed kind holds the coded stream (R212). -/
def State.freeSlot (s : State) (i : Nat) : Option Nat :=
  let c := sessCfg s.rd i
  let x := s.sessAt i
  let lo := if 4 ≤ c.kind then 1 else 0
  let held := s.heldSlots i
  ((List.range c.slots).filter (fun k => decide (lo ≤ k) && !held.contains k)).foldl
    (fun best k => match best with
      | none => some k
      | some b => if (x.slotAt k).order < (x.slotAt b).order then some k else some b) none

/-- Frames of a session still in progress. -/
def Sess.inProgress (x : Sess) : Nat := (x.slots.filter (fun p => !p.2.whole)).length

/-- Claim a slot for a new frame, or count the frame skipped (R203, R204). The frame keeps the set it begins with (R202), and the frame count it
will have once the frames before it complete. -/
def State.claimSlot (s : State) (i : Nat) (ts : Word) : State :=
  let x := s.sessAt i
  let r := s.sessRaster i
  match s.freeSlot i with
  | none => (s.setSess i { x with slot := none, lastTs := some ts }).addSat (Reg.ingSessCnt i) 7 0 1
  | some k =>
    let n := { x with slots := SMap.erase x.slots k }.inProgress
    let v : Slot := { Slot.reset with
      cfg := sessCfg s.rd i, frame := (s.getF (Reg.ingSessSts i) 10 0 + n + 1) % 0x800
      ts := ts, start := s.now, order := x.order + 1, w := r.1, h := r.2, changed := x.changedNext }
    let x' := { x with
      slots := SMap.set (fun _ => Slot.reset) x.slots k v, slot := some k, lastTs := some ts, order := x.order + 1, changedNext := false
      tokens := x.tokens.filter (fun t => t.slot != k) }
    ((s.setSess i x').setF (Reg.ingSessSts i) 28 25 k).setF (Reg.ingSessSts i) 20 11 0

/-- A source frame starts (R202): a pending commit takes effect, and the timestamp is the session's. -/
def State.sourceStart (s : State) (i : Nat) (ts : Word) : State :=
  let s1 := s.commitPoint .ing i
  s1.setSess i { s1.sessAt i with lastTs := some ts, slot := none }

/-- A source frame starts and a slot is chosen for it; a session in DOMAIN begins none (R211). -/
def State.startFrame (s : State) (i : Nat) (ts : Word) : State :=
  let s1 := s.sourceStart i ts
  if (sessCfg s1.rd i).en && s1.sessState i != 5 then (s1.claimSlot i ts).setSessState i 2 else s1

/-- Is k the key of a frame whose ring a commit has replaced (R202, R203)? Such a frame is written to its end and counted, and posts no tokens (log
entry 164). -/
def oldRing (k : Nat) : Bool := decide (16 ≤ k)

/-- Post a token for slot k: a leaf row, or the whole frame (R205). A session in DOMAIN posts none (R211). -/
def State.postToken (s : State) (i k : Nat) (complete : Bool) (row : Nat) : State :=
  let x := s.sessAt i
  let v := x.slotAt k
  let t : Token := ⟨k, v.frame, complete, row, v.ts, v.start, s.now, v.damaged, v.changed, v.w, v.h⟩
  if s.sessState i = 5 || oldRing k then s else s.setSess i { x with tokens := t :: x.tokens }

/-- The frame in slot k is complete (R205): counts, the complete slot, and the session event with fc_evt. -/
def State.completeFrame (s : State) (i k : Nat) : State :=
  let x := s.sessAt i
  let v := x.slotAt k
  if s.sessState i = 5 || v.whole then s
  else
    let n := (s.getF (Reg.ingSessSts i) 10 0 + 1) % 0x800
    let x' := if oldRing k then { x with slots := SMap.erase x.slots k } else x.setSlot k { v with whole := true, doneAt := s.now, frame := n }
    let s1 := s.setSess i { x' with slot := if x.slot = some k then none else x.slot }
    let s2 := s1.setF (Reg.ingSessSts i) 10 0 n
    let s3 := if v.damaged then s2.addSat (Reg.ingSessCnt i) 15 8 1 else s2
    if oldRing k then s3
    else
      let s4 := (s3.setF (Reg.ingSessSts i) 24 21 k).postToken i k true 0
      if v.cfg.fcEvt then s4.raiseEvt (Reg.ingSessEvt i) else s4

/-- Leaf rows of a raster of h lines. -/
def leafRows (h : Nat) : Nat := ceilDiv h 16

/-- Line l of slot k is complete and written: its row's token once the row is complete, the frame's once all are (R205). -/
def State.lineDone (s : State) (i k l : Nat) : State :=
  let x := s.sessAt i
  let v := x.slotAt k
  if v.lines.contains l || v.whole then s
  else
    let v' := { v with lines := l :: v.lines }
    let r := l / 16
    let rowDone := ((List.range 16).map (fun j => 16 * r + j)).all (fun j => decide (v.h ≤ j) || v'.lines.contains j)
    let v2 := if rowDone then { v' with rows := r :: v'.rows } else v'
    let s1 := s.setSess i (x.setSlot k v2)
    let s2 := if rowDone && s.sessState i != 5 then
        (if x.slot = some k then s1.setF (Reg.ingSessSts i) 20 11 v2.rows.length else s1).postToken i k false r
      else s1
    if decide (v.h ≤ v2.lines.length) then s2.completeFrame i k else s2

/-! ### Writing a frame (R205, R211) -/

/-- Bytes of a line as the session stores it. -/
def State.sessRow (s : State) (i k : Nat) : Nat := ((s.sessAt i).slotAt k).cfg.rowBytes ((s.sessAt i).slotAt k).w

/-- Far address of line l of slot k; a key of a replaced ring names its slot modulo 16. -/
def SessCfg.lineAddr (c : SessCfg) (k l : Nat) : Nat := c.base + k % 16 * c.slotPitch + l * c.line * 32

/-- Write bytes of session i into its buffers; a refused write puts the session into DOMAIN (R211). -/
def State.writeAt (s : State) (i : Nat) (t : Tx) (a : Nat) (bs : List Byte) : State :=
  let r := s.memWrite t a bs
  if r.2 = .domain then r.1.setSessState i 5 else r.1

/-- Write bytes into a slot's line, under the set its frame began with (R202). -/
def State.writeLine (s : State) (i k l off : Nat) (bs : List Byte) : State :=
  let c := ((s.sessAt i).slotAt k).cfg
  s.writeAt i (c.tx i) (c.lineAddr k l + off) bs

/-- Read n bytes back for concealment. -/
def State.readLine (s : State) (i k l off n : Nat) : State × List Byte :=
  let c := ((s.sessAt i).slotAt k).cfg
  let r := s.memRead (c.tx i) (c.lineAddr k l + off) n
  (r.1, if r.2.1 = .ok then r.2.2 else [])

/-- A number's top bytes: the n bytes that spell `bits` bits of v, most significant first. -/
def bitBytes (bits v : Nat) : List Byte := let n := ceilDiv bits 8; beBytes n (v * 2 ^ (8 * n - bits))

/-- One line of black in the session's format (R208): narrow-range Y'CbCr, or R'G'B' 0 (log entry 32). -/
def SessCfg.blackLine (c : SessCfg) (w : Nat) : List Byte :=
  let d := if c.kind = 0 then depthBits c.depth else 10
  let y := 16 * 2 ^ (d - 8)
  let z := 128 * 2 ^ (d - 8)
  let comps := if c.kind = 0 && c.sampling == 2 then List.replicate (3 * w) 0
    else if c.kind = 0 && c.sampling == 1 then (List.replicate w [z, y, z]).flatten
    else (List.replicate w [z, y]).flatten
  bitBytes (d * comps.length) (comps.foldl (fun a v => a * 2 ^ d + v) 0)

/-- Conceal columns lo..hi-1 of line l (R208): from the line above, line 0 from black. -/
def State.concealLine (s : State) (i k l lo hi : Nat) : State :=
  if hi ≤ lo then s
  else if l = 0 then
    let v := (s.sessAt i).slotAt k
    s.writeLine i k 0 lo (((v.cfg.blackLine v.w).drop lo).take (hi - lo))
  else
    let r := s.readLine i k (l - 1) lo (hi - lo)
    r.1.writeLine i k l lo r.2

/-- Conceal raster bytes a..b-1 of slot k, line by line from the top. -/
def State.concealSpan (s : State) (i k a b : Nat) : State :=
  let rb := max 1 (s.sessRow i k)
  (blocks rb a (b - a)).foldl (fun s l =>
    s.concealLine i k l (if l = a / rb then a % rb else 0) (if l = (b - 1) / rb then (b - 1) % rb + 1 else rb)) s

/-- Is a earlier than b on a 32-bit sequence circle? -/
def seqBefore (a b : Word) : Bool := decide (a ≠ b) && decide ((b - a).toNat < 2 ^ 31)

/-- Distance from a reference, for ordering sequence numbers around it. -/
def seqRank (ref a : Word) : Nat := (a - (ref - 0x80000000)).toNat

/-- The span of slot k that lost packet q leaves uncovered: from the end of the latest packet before it to the start of the earliest after
it, when no packet between them is still waited for (R208). -/
def Sess.lostSpan (x : Sess) (k bytes : Nat) (q : Word) : Option (Nat × Nat) :=
  let v := x.slotAt k
  let before := (v.pk.filter (fun p => decide (seqRank q (BitVec.ofNat 32 p.1) < seqRank q q))).foldl
    (fun (best : Option (Nat × Nat × Nat)) p => match best with
      | none => some p
      | some b => if seqRank q (BitVec.ofNat 32 b.1) < seqRank q (BitVec.ofNat 32 p.1) then some p else some b) none
  let after := (v.pk.filter (fun p => decide (seqRank q q < seqRank q (BitVec.ofNat 32 p.1)))).foldl
    (fun (best : Option (Nat × Nat × Nat)) p => match best with
      | none => some p
      | some b => if seqRank q (BitVec.ofNat 32 p.1) < seqRank q (BitVec.ofNat 32 b.1) then some p else some b) none
  let lo := (before.map (fun p => seqRank q (BitVec.ofNat 32 p.1))).getD 0
  let hi := (after.map (fun p => seqRank q (BitVec.ofNat 32 p.1))).getD (2 ^ 32)
  if v.pk.isEmpty || v.whole || x.missing.any (fun m => decide (lo < seqRank q m.1) && decide (seqRank q m.1 < hi)) then none
  else
    let a := (before.map (fun p => p.2.2)).getD 0
    let b := (after.map (fun p => p.2.1)).getD bytes
    if a < b then some (a, b) else none

/-- Conceal what packet q leaves uncovered in slot k. -/
def State.concealIn (s : State) (i k : Nat) (q : Word) : State :=
  let x := s.sessAt i
  let v := x.slotAt k
  match x.lostSpan k (s.sessRow i k * v.h) q with
  | none => s
  | some (a, b) =>
    let s1 := s.concealSpan i k a b
    s1.setSess i ((s1.sessAt i).setSlot k { v with pk := (q.toNat, a, b) :: v.pk, damaged := true })

/-- The frame in slot k of an ANC session ends with a known packet, and none of up to that one is missing (R205). -/
def Sess.ancWhole (x : Sess) (v : Slot) : Bool :=
  match v.ending with
  | none => false
  | some e => !v.whole && !x.missing.any (fun m => m.1 == e || seqBefore m.1 e)

/-- Complete every frame of an ANC session whose packets have all arrived or been declared lost. -/
def State.ancSettle (s : State) (i : Nat) : State :=
  let x := s.sessAt i
  ((x.slots.filter (fun p => x.ancWhole p.2)).map Prod.fst).foldl (fun s k => s.completeFrame i k) s

/-- Insert an entry in the order of its sequence number. -/
def heldInsert (e : Word × Option RtpPacket) : List (Word × Option RtpPacket) → List (Word × Option RtpPacket)
  | [] => [e]
  | h :: hs => if seqBefore e.1 h.1 then e :: h :: hs else h :: heldInsert e hs

/-- Packet q is declared lost (R206, R208): counted, concealed in the frames it may belong to, which an ANC session's can only flag damaged, and
noted in the order of a compressed stream. -/
def State.declareLost (s : State) (i : Nat) (q : Word) : State :=
  let x := s.sessAt i
  let c := sessCfg s.rd i
  let s1 := (s.setSess i { x with missing := x.missing.filter (fun m => m.1 != q) }).addSat (Reg.ingSessCnt i) 31 16 1
  let y := s1.sessAt i
  if c.kind = 0 then (x.slots.map Prod.fst).foldl (fun s k => s.concealIn i k q) s1
  else if c.kind = 2 then
    (s1.setSess i { y with slots := y.slots.map (fun p =>
      (p.1, if p.2.whole || p.2.ending.any (fun e => seqBefore e q) then p.2 else { p.2 with damaged := true })) }).ancSettle i
  else if c.kind = 4 ∨ c.kind = 5 then s1.setSess i { y with held := heldInsert (q, none) y.held }
  else s1

/-- Do the packets written into a slot cover raster bytes x..b-1? -/
def covers (pk : List (Nat × Nat × Nat)) (b : Nat) : Nat → Nat → Bool
  | 0, x => decide (b ≤ x)
  | f + 1, x => decide (b ≤ x) ||
      (let e := (pk.filter (fun p => decide (p.2.1 ≤ x))).foldl (fun m p => max m p.2.2) 0
       decide (x < e) && covers pk b f e)

/-- Is line l of slot k complete: every byte of it arrived or concealed? -/
def State.lineCovered (s : State) (i k l : Nat) : Bool :=
  let v := (s.sessAt i).slotAt k
  let rb := s.sessRow i k
  decide (l < v.h) && !v.whole && covers v.pk ((l + 1) * rb) (v.pk.length + 1) (l * rb)

/-- The line whose completion is reported: the newest frame in which it is covered and not yet reported. -/
def State.lineArrival (s : State) (i l : Nat) : State :=
  let x := s.sessAt i
  let ks := (x.slot.toList) ++ x.slots.map Prod.fst
  match ks.find? (fun k => s.lineCovered i k l && !(x.slotAt k).lines.contains l) with
  | none => s
  | some k => s.lineDone i k l

/-- LINE_ARRIVAL (R205). -/
def execLineArrival (i : Fin 64) (line : BitVec 14) (s : State) : Host.Outcome State Fault Refusal :=
  .next (s.lineArrival i.val line.toNat)

/-! ### RTP packets (R206-R210) -/

/-- Is packet q a first copy (R206): ahead of every number accounted for, waited for, or below all of them (log entry 85)? -/
def Sess.fresh (x : Sess) (q : Word) : Bool :=
  match x.top with
  | none => true
  | some t => seqBefore t q || seqBefore q x.low || x.missing.any (fun m => m.1 == q)

/-- Sequence numbers between the ones accounted for and q. -/
def Sess.gap (x : Sess) (q : Word) : List Word :=
  match x.top with
  | none => []
  | some t =>
    if seqBefore t q then (List.range ((q - t).toNat - 1)).map (fun j => t + 1 + BitVec.ofNat 32 j)
    else if seqBefore q x.low then (List.range ((x.low - q).toNat - 1)).map (fun j => q + 1 + BitVec.ofNat 32 j)
    else []

/-- The lowest number accounted for once q is taken; it never lies more than 2³⁰ below the highest. -/
def Sess.lowAfter (x : Sess) (q : Word) : Word :=
  match x.top with
  | none => q
  | some t =>
    if seqBefore t q then (if 2 ^ 30 < (q - x.low).toNat then q - 0x40000000 else x.low)
    else if seqBefore q x.low then q else x.low

/-- Take packet q: missing ones between it and the others are waited for with merge and a skew window, else returned as lost at once. -/
def State.takePacket (s : State) (i : Nat) (q : Word) : State × List Word :=
  let x := s.sessAt i
  let c := sessCfg s.rd i
  let g := x.gap q
  let wait := c.merge && c.skew != 0
  let top := match x.top with | none => q | some t => if seqBefore t q then q else t
  let x' := { x with
    top := some top, low := x.lowAfter q
    missing := x.missing.filter (fun m => m.1 != q) ++ (if wait then g.map (fun m => (m, s.now)) else []) }
  (s.setSess i x', if wait then [] else g)

/-- Does a run lie outside the raster, or carry the field bit (R210)? -/
def pieceOutside (w h rb : Nat) (p : RowPiece) : Bool := p.field || decide (h ≤ p.row) || decide (rb < p.offset + p.data.length) || decide (w = 0)

/-- Write an ST 2110-20 packet's runs into slot k and record what it covers. -/
def State.writePieces (s : State) (i k : Nat) (q : Word) (ps : List RowPiece) : State :=
  let s1 := ps.foldl (fun s p => s.writeLine i k p.row p.offset p.data) s
  let rb := s.sessRow i k
  let x := s1.sessAt i
  let v := x.slotAt k
  s1.setSess i (x.setSlot k { v with
    pk := (ps.map (fun p => (q.toNat, p.row * rb + p.offset, p.row * rb + p.offset + p.data.length))) ++ v.pk })

/-- The raster of the frame a marked packet ends (R199): its last line, and where its last run ends. -/
def State.showRaster (s : State) (i : Nat) (p : RtpPacket) : State :=
  let c := sessCfg s.rd i
  match p.pieces.getLast? with
  | some e =>
    if p.marker then
      s.wr (Reg.ingSessRx i) (BitVec.ofNat 32
        ((e.offset + e.data.length) * 8 / max 1 ((if c.sampling = 0 then 2 else 3) * depthBits c.depth) % 0x8000 * 0x10000
          + (e.row + 1) % 0x4000))
    else s
  | none => s

/-- The slot a timestamp is being written to. -/
def Sess.slotOf (x : Sess) (ts : Word) : Option Nat :=
  (List.find? (fun (p : Nat × Slot) => p.2.ts == ts && !p.2.whole) x.slots).map Prod.fst

/-- Is a timestamp newer than the frame in progress? -/
def Sess.newer (x : Sess) (ts : Word) : Bool := match x.lastTs with | none => true | some t => seqBefore t ts

/-- Give up the frame in progress: its slot is freed (R209, R210). -/
def State.abandon (s : State) (i : Nat) : State :=
  let x := s.sessAt i
  match x.slot with
  | none => s
  | some k => s.setSess i { x with slot := none, slots := SMap.erase x.slots k }

/-- Write an ST 2110-20 packet into the slot of its timestamp, if one is being written. -/
def State.writePacket (s : State) (i : Nat) (p : RtpPacket) : State :=
  match (s.sessAt i).slotOf p.ts with
  | none => s
  | some k => s.writePieces i k p.seq p.pieces

/-- Does a packet lie outside the raster of its frame: the one in progress for its timestamp, or the one the session writes next (R210)? -/
def State.packetOutside (s : State) (i : Nat) (p : RtpPacket) : Bool :=
  match (s.sessAt i).slotOf p.ts with
  | some k =>
    let v := (s.sessAt i).slotAt k
    p.pieces.any (pieceOutside v.w v.h (v.cfg.rowBytes v.w))
  | none =>
    let r := s.sessRaster i
    p.pieces.any (pieceOutside r.1 r.2 ((sessCfg s.rd i).rowBytes r.1))

/-- An ST 2110-20 packet (R206, R210). One outside the raster puts the session into MISMATCH, whether it starts a frame or not; a session
in DOMAIN leaves it only by a commit (R211). -/
def State.videoPacket (s : State) (i : Nat) (p : RtpPacket) : State :=
  let starts := (s.sessAt i).newer p.ts
  let t := (s.showRaster i p).takePacket i p.seq
  let s1 := if starts then t.1.sourceStart i p.ts else t.1
  let s2 :=
    if !(sessCfg s1.rd i).en then s1
    else if s1.packetOutside i p then (if s1.sessState i = 5 then s1 else (s1.abandon i).setSessState i 4)
    else if starts then
      (if s1.sessState i = 5 then s1 else ((s1.claimSlot i p.ts).setSessState i 2).writePacket i p)
    else if s1.sessState i = 4 then s1
    else s1.writePacket i p
  t.2.foldl (fun s q => s.declareLost i q) s2

/-- Note that the frames of an ANC session before the one packet q starts end with the packet before it. -/
def Sess.endBefore (x : Sess) (q : Word) : Sess :=
  { x with slots := x.slots.map (fun p => (p.1, if p.2.whole || p.2.ending.isSome then p.2 else { p.2 with ending := some (q - 1) })) }

/-- An ANC packet: written as received behind the frame's others. The frame is complete once its marked packet is known and none before it is
missing (kind 0x2, R205). -/
def State.ancPacket (s : State) (i : Nat) (p : RtpPacket) : State :=
  let starts := (s.sessAt i).newer p.ts
  let t := s.takePacket i p.seq
  let s1 := if starts then (t.1.setSess i ((t.1.sessAt i).endBefore p.seq)).startFrame i p.ts else t.1
  let s2 : State := match (s1.sessAt i).slotOf p.ts with
    | none => s1
    | some k =>
      let v : Slot := (s1.sessAt i).slotAt k
      let at_ : Nat := v.pk.foldl (fun (m : Nat) (q : Nat × Nat × Nat) => max m q.2.2) 0
      let bs := p.payload.take (v.cfg.slotPitch - at_)
      let s3 := s1.writeLine i k 0 at_ bs
      s3.setSess i ((s3.sessAt i).setSlot k { v with
        pk := (p.seq.toNat, at_, at_ + bs.length) :: v.pk, ending := if p.marker then some p.seq else v.ending })
  (t.2.foldl (fun (s : State) q => s.declareLost i q) s2).ancSettle i

/-- An audio packet: its sample frames enter the target group (R191). -/
def State.audioPacket (s : State) (i : Nat) (p : RtpPacket) : State :=
  let t := s.takePacket i p.seq
  let frames := p.pieces.map (fun e => (List.range (e.data.length / 4)).map (fun j => (BitVec.ofNat 32 (leAt e.data (4 * j) 4) : Word)))
  let s1 := (t.1.commitPoint .ing i)
  let s2 := if (sessCfg s1.rd i).en && s1.sessState i != 5 then s1.setSessState i 2 else s1
  t.2.foldl (fun s q => s.declareLost i q) (s2.feedGroups 3 i none p.ts.toNat frames)

/-! ### Compressed kinds (R212) -/

/-- A NAL unit with its start code, as the elementary stream holds it. -/
def withStart (nal : List Byte) : List Byte := [0, 0, 0, 1] ++ nal

/-- The NAL units of an RFC 7798 aggregation packet, each behind a 16-bit length; `f` bounds the walk. -/
def aggregated : Nat → List Byte → List Byte
  | 0, _ => []
  | f + 1, bs => if bs.length < 2 then [] else withStart ((bs.drop 2).take (beAt bs 0 2)) ++ aggregated f (bs.drop (2 + beAt bs 0 2))

/-- What an RFC 7798 payload adds to the stream: a NAL unit, an aggregation packet (48) or a fragment (49). -/
def hevcPayload (bs : List Byte) : List Byte :=
  let typ := byteAt bs 0 / 2 % 64
  if typ = 48 then aggregated bs.length (bs.drop 2)
  else if typ = 49 then
    let fu := byteAt bs 2
    let hd : List Byte := [BitVec.ofNat 8 (byteAt bs 0 / 128 * 128 + fu % 64 * 2 + byteAt bs 0 % 2), bs.getD 1 0]
    (if 128 ≤ fu then withStart hd else []) ++ bs.drop 3
  else withStart bs

/-- Hand access unit `au` to the press context of session i (R202, R212): the session's commit point, the raster of its sequence parameter set
(R199), the coded bytes into the byte ring of slot 0, and the unit to the context with the counter at hand-over. -/
def State.handOver (s : State) (i : Nat) (ts : Word) (start : Nat) (au : List Byte) : State :=
  let s1 := s.commitPoint .ing i
  let c := sessCfg s1.rd i
  if !c.en || s1.sessState i == 5 then s1
  else
    let x := s1.sessAt i
    let ring := max 1 c.slotPitch
    let a := x.auAt % ring
    let n := min au.length (ring - a)
    let s2 := (s1.writeAt i (c.tx i) (c.base + a) (au.take n)).writeAt i (c.tx i) c.base ((au.drop n).take ring)
    let sets := Config.hevcParams x.params au
    let s3 := ((s2.setSess i { s2.sessAt i with auAt := (x.auAt + au.length) % ring, lastArrival := s2.now, params := sets }).wr (Reg.ingSessRx i)
      (BitVec.ofNat 32 (Config.hevcWidth sets % 0x8000 * 0x10000 + Config.hevcHeight sets % 0x4000)))
    if s3.sessState i = 5 then s3
    else
      let cx := s3.ctxAt c.target
      (s3.setCtxSt c.target { cx with aus := cx.aus ++ [⟨s.now, start, ts, sets, au⟩] }).setSessState i 2

/-- The unit being gathered is lost: only complete units go to the press (R212), which learns that it has one to conceal (R304; log entry 165). -/
def State.loseUnit (s : State) (i : Nat) : State :=
  let c := sessCfg s.rd i
  let x := s.sessAt i
  let cx := s.ctxAt c.target
  if !c.en || s.sessState i == 5 then s
  else s.setCtxSt c.target { cx with aus := cx.aus ++ [⟨s.now, x.auStart, x.auTs, x.params, []⟩] }

/-- End the unit being gathered: hand it over, or lose it when a packet of it is lost. -/
def State.giveUnit (s : State) (i : Nat) : State :=
  let x := s.sessAt i
  let s1 := s.setSess i { x with au := [], broken := false }
  if x.au.isEmpty then s1
  else if x.broken then s1.loseUnit i
  else s1.handOver i x.auTs x.auStart x.au

/-- Add bytes to the unit being gathered; the first ones give it its timestamp and the counter at its first packet. -/
def State.gather (s : State) (i : Nat) (ts : Word) (bs : List Byte) : State :=
  let x := s.sessAt i
  s.setSess i { x with
    au := x.au ++ bs, auTs := if x.au.isEmpty then ts else x.auTs, auStart := if x.au.isEmpty then s.now else x.auStart }

/-- An RTP HEVC packet in its order: its marked packet, or a new timestamp, ends an access unit. A unit next to a lost packet is not complete (log
entry 165). -/
def State.hevcPacket (s : State) (i : Nat) (p : RtpPacket) : State :=
  let x := s.sessAt i
  let s1 :=
    if x.au.isEmpty || x.auTs == p.ts then s
    else if x.broken then (s.loseUnit i).setSess i { x with au := [] }
    else s.giveUnit i
  let s2 := s1.gather i p.ts (hevcPayload p.payload)
  if p.auEnd then s2.giveUnit i else s2

/-- The 188-byte packets of an MPEG-2 transport payload. -/
def tsPackets : Nat → List Byte → List (List Byte)
  | 0, _ => []
  | f + 1, bs => if bs.length < 188 then [] else bs.take 188 :: tsPackets f (bs.drop 188)

/-- Payload of a TS packet: after its header and adaptation field. -/
def tsPayload (bs : List Byte) : List Byte :=
  let afc := byteAt bs 3 / 16 % 4
  if afc % 2 = 0 then [] else bs.drop (4 + (if 2 ≤ afc then 1 + byteAt bs 4 else 0))

/-- PID of a TS packet. -/
def tsPid (bs : List Byte) : Nat := byteAt bs 1 % 32 * 256 + byteAt bs 2
/-- Does it start a section or PES packet? -/
def tsStart (bs : List Byte) : Bool := decide (64 ≤ byteAt bs 1 % 128)

/-- The PMT PID of the first programme of a PAT section. -/
def patPmt (sec : List Byte) : Option Nat :=
  ((List.range ((beAt sec 1 2 % 4096 - 9) / 4)).map (fun j => (beAt sec (8 + 4 * j) 2, beAt sec (10 + 4 * j) 2 % 8192))).findSome?
    (fun e => if e.1 = 0 then none else some e.2)

/-- Does a list of MPEG-2 descriptors hold the registration descriptor of ST 302M, format identifier BSSD? `f` bounds the walk. -/
def registers302 : Nat → List Byte → Bool
  | 0, _ => false
  | f + 1, bs => decide (2 ≤ bs.length)
      && ((byteAt bs 0 == 5 && decide (4 ≤ byteAt bs 1) && beAt bs 2 4 == 0x42535344) || registers302 f (bs.drop (2 + byteAt bs 1)))

/-- The streams of a PMT section: type, PID and whether it is ST 302M (stream_type 0x06 with that registration); `f` bounds the walk. -/
def pmtStreams : Nat → List Byte → List (Nat × Nat × Bool)
  | 0, _ => []
  | f + 1, bs => if bs.length < 5 then [] else
      let n := beAt bs 3 2 % 4096
      (byteAt bs 0, beAt bs 1 2 % 8192, byteAt bs 0 == 6 && registers302 n ((bs.drop 5).take n)) :: pmtStreams f (bs.drop (5 + n))

/-- The sections that bytes complete, and what is left of the next; 0xFF is stuffing. `f` bounds the walk. -/
def takeSections : Nat → List Byte → List (List Byte) × List Byte
  | 0, bs => ([], bs)
  | f + 1, bs =>
    let n := beAt bs 1 2 % 4096 + 3
    if bs.isEmpty || byteAt bs 0 = 0xFF then ([], [])
    else if bs.length < 3 ∨ bs.length < n then ([], bs)
    else
      let r := takeSections f (bs.drop n)
      (bs.take n :: r.1, r.2)

/-- The least of a list of PIDs. -/
def leastPid (l : List Nat) : Option Nat := l.foldl (fun b p => match b with | none => some p | some q => some (min p q)) none

/-- A PES packet's payload after its header. -/
def pesPayload (bs : List Byte) : List Byte := bs.drop (9 + byteAt bs 8)

/-- Add the payload of a TS packet that carries sections to its PID: the sections it completes. -/
def Sess.sectionPacket (x : Sess) (pid : Nat) (start : Bool) (pay : List Byte) : Sess × List (List Byte) :=
  let old := SMap.get (fun _ => ([] : List Byte)) x.sections pid
  let n := pay.length + old.length
  let p := byteAt pay 0
  let r :=
    if start then
      let a := if old.isEmpty then ([], []) else takeSections n (old ++ (pay.drop 1).take p)
      let b := takeSections n (pay.drop (1 + p))
      (a.1 ++ b.1, b.2)
    else if old.isEmpty then ([], []) else takeSections n (old ++ pay)
  ({ x with sections := SMap.set (fun _ => ([] : List Byte)) x.sections pid r.2 }, r.1)

/-- Take a section that applies now: a PAT names the PMT of its first programme, that PMT the streams taken (R212). -/
def Sess.section (x : Sess) (pid : Nat) (sec : List Byte) : Sess :=
  if byteAt sec 5 % 2 = 0 then x
  else if pid = 0 then
    (if byteAt sec 0 ≠ 0 then x
     else { x with pmtPid := if byteAt sec 6 = 0 ∨ x.pmtPid.isNone then patPmt sec else x.pmtPid })
  else if byteAt sec 0 ≠ 2 then x
  else
    let body := (sec.take (sec.length - 4)).drop (12 + beAt sec 10 2 % 4096)
    let es := pmtStreams body.length body
    let a0 := leastPid ((es.filter (fun e => e.2.2)).map (fun e => e.2.1))
    let a1 := leastPid ((es.filter (fun e => e.2.2 && some e.2.1 != a0)).map (fun e => e.2.1))
    { x with videoPid := leastPid ((es.filter (fun e => e.1 == 0x24)).map (fun e => e.2.1)), audioPids := a0.toList ++ a1.toList }

/-- Take one TS packet of session i (R212): PAT, PMT, the video stream of type 0x24 with the lowest PID (a new PES packet ends the access unit before),
up to two ST 302M streams. A scrambled packet is not supported (R188) and gives nothing. -/
def State.tsPacket (s : State) (i : Nat) (ts : Word) (bs : List Byte) : State :=
  let x := s.sessAt i
  let pid := tsPid bs
  let pay := tsPayload bs
  if byteAt bs 0 ≠ 0x47 || byteAt bs 3 / 64 != 0 then s
  else if pid = 0 ∨ some pid = x.pmtPid then
    let r := x.sectionPacket pid (tsStart bs) pay
    s.setSess i (r.2.foldl (fun x sec => x.section pid sec) r.1)
  else if some pid = x.videoPid then
    if tsStart bs then (s.giveUnit i).gather i ts (pesPayload pay)
    else s.gather i ts pay
  else if x.audioPids.contains pid then
    let k := (x.audioPids.zipIdx.find? (fun p => p.1 == pid)).elim 0 Prod.snd
    let old := SMap.get (fun _ => ([] : List Byte)) x.pes k
    if tsStart bs then
      ((s.setSess i { x with pes := SMap.set (fun _ => ([] : List Byte)) x.pes k (pesPayload pay) }).feedStatus 3 i (some k)
        (Config.st302Status old)).feedGroups 3 i (some k) 0 (Config.st302 old)
    else s.setSess i { x with pes := SMap.set (fun _ => ([] : List Byte)) x.pes k (old ++ pay) }
  else s

/-- A TS over RTP packet in its order. -/
def State.tsRtp (s : State) (i : Nat) (p : RtpPacket) : State :=
  let s1 := (tsPackets p.payload.length p.payload).foldl (fun s bs => s.tsPacket i p.ts bs) s
  if p.auEnd then s1.giveUnit i else s1

/-- A packet of a compressed stream is lost at its place in the order: the unit being gathered is not complete, nor is any section or ST 302M
packet. -/
def Sess.loseHere (x : Sess) : Sess := { x with broken := true, sections := [], pes := [] }

/-- Take the packets of a compressed stream that no missing one precedes, in the order of their sequence numbers. -/
def State.passOn (s : State) (i : Nat) : State :=
  let x := s.sessAt i
  let waits := fun (h : Word × Option RtpPacket) => x.missing.any (fun m => seqBefore m.1 h.1)
  let go := x.held.filter (fun h => !waits h)
  let s1 := s.setSess i { x with held := x.held.filter waits, taken := (go.getLast?.map Prod.fst).orElse (fun _ => x.taken) }
  go.foldl (fun s h => match h.2 with
    | none => s.setSess i (s.sessAt i).loseHere
    | some p => if (sessCfg s.rd i).kind = 4 then s.hevcPacket i p else s.tsRtp i p) s1

/-- A packet of a compressed stream: it waits for those missing before it. One that comes after its place in the order has passed adds nothing (log
entry 85). -/
def State.streamPacket (s : State) (i : Nat) (p : RtpPacket) : State :=
  let t := s.takePacket i p.seq
  let x := t.1.sessAt i
  let late := x.taken.any (fun q => seqBefore p.seq q)
  let s1 := if late then t.1 else t.1.setSess i { x with held := heldInsert (p.seq, some p) x.held }
  (t.2.foldl (fun s q => s.declareLost i q) s1).passOn i

/-- A packet of session i on one of its legs (R206): the first copy of a sequence number is kept. -/
def State.ingestPacket (s : State) (i : Nat) (legB : Bool) (p : RtpPacket) : State :=
  let c := sessCfg s.rd i
  if !c.en || (legB && !c.merge) then s
  else
    let s0 := s.setSess i { s.sessAt i with lastArrival := s.now }
    if !(s0.sessAt i).fresh p.seq then s0
    else match c.kind with
      | 0 => s0.videoPacket i p
      | 1 => s0.audioPacket i p
      | 2 => s0.ancPacket i p
      | 4 => s0.streamPacket i p
      | 5 => s0.streamPacket i p
      | _ => s0

/-- INGEST_PACKET (R206). -/
def execIngestPacket (i : Fin 64) (legB : Bool) (p : RtpPacket) (s : State) : Host.Outcome State Fault Refusal :=
  .next (s.ingestPacket i.val legB p)

/-- PACKET_LOSS_DECLARE: the skew window has passed since a later packet arrived (R206). -/
def execPacketLossDeclare (i : Fin 64) (seq : Word) (s : State) : Host.Outcome State Fault Refusal :=
  .next (match (s.sessAt i.val).missing.find? (fun m => m.1 == seq) with
    | some m => if m.2 + (sessCfg s.rd i.val).skew * 10000 ≤ s.now then (s.declareLost i.val seq).passOn i.val else s
    | none => s)

/-- A session loses its source (R209): LOST, the frame in progress abandoned, its slot freed. -/
def State.sessLost (s : State) (i : Nat) : State :=
  let s1 := s.abandon i
  let x := s1.sessAt i
  (s1.setSess i { x.unsourced with slots := x.slots.filter (fun p => p.2.whole) }).setSessState i 3

/-- SESSION_TIMEOUT: nothing has arrived on any leg for timeout (R209). -/
def execSessionTimeout (i : Fin 64) (s : State) : Host.Outcome State Fault Refusal :=
  .next (
    let c := sessCfg s.rd i.val
    let st := s.sessState i.val
    if c.en && (st == 1 || st == 2 || st == 4) && decide ((s.sessAt i.val).lastArrival + c.timeout * 100000 ≤ s.now)
    then s.sessLost i.val else s)

/-- SDI_LOCK_LOSS (R209). -/
def execSdiLockLoss (i : Fin 64) (s : State) : Host.Outcome State Fault Refusal :=
  .next (
    let c := sessCfg s.rd i.val
    let st := s.sessState i.val
    if c.en && c.kind == 3 && (st == 1 || st == 2 || st == 4) then s.sessLost i.val else s)

/-! ### SDI (R208, R210) -/

/-- Does raster (w, h) fit the session's line pitch and slot (R210)? -/
def SessCfg.fits (c : SessCfg) (w h : Nat) : Bool := decide (c.rowBytes w ≤ c.line * 32) && decide (h ≤ c.h)

/-- An SDI frame starts: pending commit, then the raster is taken, adopted or refused (R202, R210). -/
def State.sdiStart (s : State) (i : Nat) (l : SdiLine) : State :=
  let s1 := s.commitPoint .ing i
  let c := sessCfg s1.rd i
  let x := s1.sessAt i
  let w := l.width.toNat
  let h := l.height.toNat
  let n : Word := BitVec.ofNat 32 ((match x.lastTs with | some t => t.toNat + 1 | none => 0))
  if !c.en || s1.sessState i == 5 then s1
  else if w = c.w ∧ h = c.h ∧ l.payloadIdOk then
    ((s1.setSess i { x with adopt := none }).claimSlot i n).setSessState i 2
  else if c.auto && c.fits w h then
    if x.adopt = some (w, h) then (s1.claimSlot i n).setSessState i 2
    else
      let s2 := (s1.setSess i { x with adopt := some (w, h), changedNext := true }).raiseEvt (Reg.ingSessEvt i)
      (s2.claimSlot i n).setSessState i 2
  else (s1.abandon i).setSessState i 4

/-- An SDI line (R205, R208): written as received, counted when its CRC is wrong, and complete. -/
def State.sdiLine (s : State) (i : Nat) (l : SdiLine) : State :=
  let c := sessCfg s.rd i
  if !c.en || c.kind != 3 then s
  else
    let x := s.sessAt i
    let s0 := (((s.setSess i { x with lastArrival := s.now }).wr (Reg.ingSessRx i)
      (BitVec.ofNat 32 (l.width.toNat * 0x10000 + l.height.toNat))).feedStatus 3 i none l.nonPcm).feedGroups 3 i none 0 l.audio
    let s1 := if l.crcOk then s0 else s0.addSat (Reg.ingSessCnt i) 31 16 1
    let s2 := if l.line = 0 then s1.sdiStart i l else s1
    let r := s2.sessRaster i
    let differs := decide (r ≠ (l.width.toNat, l.height.toNat))
    if s2.sessState i != 2 then s2
    else if differs && !(sessCfg s2.rd i).auto then (s2.abandon i).setSessState i 4
    else match (s2.sessAt i).slot with
      | none => s2
      | some k =>
        if l.line < r.2 ∧ !differs then (s2.writeLine i k l.line 0 (l.data.take (s2.sessRow i k))).lineDone i k l.line
        else s2

/-- SDI_LINE. -/
def execSdiLine (i : Fin 64) (l : SdiLine) (s : State) : Host.Outcome State Fault Refusal := .next (s.sdiLine i.val l)

/-! ### Stored clips (R213, R214) -/

/-- Counts from a clip's start to its k-th unit: one frame period of the session's rate each. -/
def clipDue (rate k : Nat) : Nat := k * rateDen rate * secNs / max 1 (rateNum rate)

/-- A CLIP_FEED descriptor with a reserved field in use, an unaligned index, or a session this engine does not serve as a stored clip. -/
def State.clipBad (s : State) (e : Nat) (d : QDesc) : Bool :=
  let i := byteAt d.bytes 15
  byteAt d.bytes 14 / 2 != 0 || i / 64 != 0 || leAt d.bytes 8 6 % 16 != 0 || i % 16 != e
    || !(sessCfg s.rd (i % 64)).en || (sessCfg s.rd (i % 64)).kind != 6

/-- Position and descriptor of the feed of session i that runs in its engine's queue. -/
def State.feedOf (s : State) (i : Nat) : Option (Nat × QDesc) :=
  ((s.queueOf (0x30 + i % 16)).zipIdx.find? (fun p => p.1.started && p.1.kind == 1 && byteAt p.1.bytes 15 % 64 == i)).map
    (fun p => (p.2, p.1))

/-- The running feed of session i ends with a status (R214); its result is the frame periods by which start was late. -/
def State.endFeed (s : State) (i status : Nat) : State :=
  match (s.sessAt i).clip, s.feedOf i with
  | some c, some (pos, _) =>
    (s.setSess i { s.sessAt i with clip := none }).completeAt (0x30 + i % 16) pos status (if status = 0 then some c.late else none)
  | _, _ => s

/-- Start the first waiting CLIP_FEED of engine e's queue when no feed of the queue runs (R213, R214). -/
def State.clipFeed (s : State) (e : Nat) : State :=
  let q := 0x30 + e
  match s.firstWaiting q with
  | none => s
  | some (pos, d) =>
    if d.kind ≠ 1 ∨ (s.queueOf q).any (fun x => x.started) then s
    else if s.clipBad e d then s.completeAt q pos 1 none
    else if leAt d.bytes 20 4 = 0 then s.completeAt q pos 0 (some 0)
    else
      let i := byteAt d.bytes 15 % 64
      let start := leAt d.bytes 24 8
      let rate := (sessCfg s.rd i).rate
      let late := if start < s.now then (s.now - start) * rateNum rate / (max 1 (rateDen rate * secNs)) else 0
      let c : ClipFeed := ⟨leAt d.bytes 8 6, byteAt d.bytes 14 % 2 = 1, leAt d.bytes 16 4, leAt d.bytes 20 4, 0, max start s.now, 0, late⟩
      (s.startAt q pos 0).setSess i { s.sessAt i with clip := some c }

/-- CLIP_FEED. -/
def execClipFeed (e : Fin 16) (s : State) : Host.Outcome State Fault Refusal := .next (s.clipFeed e.val)

/-- How a failed read of a clip ends its feed. -/
def clipStatus (r : MemAcc) : Nat := if r = .domain then 2 else 3

/-- Hand a unit of a clip to the press. The spec gives a clip's frames no timestamp: a free value (log entry 166). -/
def State.clipGive (s : State) (i : Nat) (au : List Byte) : State := s.bumpFree.handOver i (Config.clipStamp s.free) s.now au

/-- CLIP_HANDOVER (R213): at a unit's instant its index entry and bytes are read with the session's tag and handed to the press. -/
def State.clipHandover (s : State) (i : Nat) : State :=
  match (s.sessAt i).clip with
  | none => s
  | some c =>
    if s.now < c.start + clipDue (sessCfg s.rd i).rate c.fed then s
    else
      let r := s.memRead (s.sessTx i) (c.index + 16 * (c.first + c.pos)) 16
      if r.2.1 ≠ .ok then r.1.endFeed i (clipStatus r.2.1)
      else
        let a := r.1.memRead (s.sessTx i) (leAt r.2.2 0 6) (leAt r.2.2 8 4)
        if a.2.1 ≠ .ok then a.1.endFeed i (clipStatus a.2.1)
        else
          let s1 := a.1.clipGive i a.2.2
          let last := decide (c.count ≤ c.pos + 1)
          let c' := { c with pos := if last then 0 else c.pos + 1, fed := c.fed + 1 }
          let s2 := s1.setSess i { s1.sessAt i with clip := some c' }
          if last && !c.loop then s2.endFeed i 0 else s2

/-- CLIP_HANDOVER. -/
def execClipHandover (i : Fin 64) (s : State) : Host.Outcome State Fault Refusal := .next (s.clipHandover i.val)

/-- STOP (R214): the first waiting descriptor of kind 0x02 ends the running feed of the session it names. -/
def State.stopFeed (s : State) (e : Nat) : State :=
  let q := 0x30 + e
  match s.firstWaiting q with
  | none => s
  | some (pos, d) =>
    if d.kind ≠ 2 then s
    else if !zeroBytes d.bytes 8 7 || byteAt d.bytes 15 / 64 != 0 || byteAt d.bytes 15 % 16 != e || !zeroBytes d.bytes 16 16 then
      s.completeAt q pos 1 none
    else (s.completeAt q pos 0 (some 0)).endFeed (byteAt d.bytes 15 % 64) 4

/-- STOP. -/
def execStop (e : Fin 16) (s : State) : Host.Outcome State Fault Refusal := .next (s.stopFeed e.val)

end Sys2Proof.Machine
end

