-- ==== Sys2Proof/Machine/IngOut.lean ====
section
/-! DEFINITION. Uncompressed outputs: enabling, sending a line, slips (R215-R220, R430, R435). -/

namespace Sys2Proof.Machine

/-- Output o's record. -/
def State.outAt (s : State) (o : Nat) : OutSt := SMap.get (fun _ => OutSt.reset) s.out o
/-- Store it. -/
def State.setOut (s : State) (o : Nat) (x : OutSt) : State := { s with out := SMap.set (fun _ => OutSt.reset) s.out o x }

/-- Register block index of SDI lane code l (R415). -/
def sdiIndex (l : Nat) : Nat := 42 + (l - 0x10)

/-- Is lane i's pattern generator on (R430)? -/
def State.genOn (s : State) (i : Nat) : Bool := s.flag (Reg.lanePrbs i) 31

/-- SDI lanes that enabled sessions hold (R191). -/
def State.sessLanes (s : State) : List Nat :=
  (List.range 64).flatMap (fun i =>
    let c := sessCfg s.rd i
    if c.en && c.kind == 3 then sdiLanes c.legA c.links else [])

/-- Lanes the copies of an ST 2110-20 output leave on (R218). -/
def State.outNetLanes (s : State) (o : Nat) : List Nat :=
  s.getF (Reg.ingOutLane o) 29 24 :: (if s.flag (Reg.ingOutLane o) 31 then [s.getF (Reg.ingOutLane o) 21 16] else [])

/-- Payload rate × 1001 of a programme sheet, 20 bits a pixel (R189). -/
def SheetCfg.payload (c : SheetCfg) : Nat := c.w * c.h * rate1001 c.rate * 20

/-- Payload × 1001 that enabled ST 2110-20 outputs other than o put on lane l. -/
def State.outLoad (s : State) (o l : Nat) : Nat :=
  ((List.range 8).map (fun j =>
    let c := s.rd (Reg.ingOutCfg j)
    if j ≠ o ∧ bit c 31 ∧ bit c 30 ∧ (s.outNetLanes j).contains l then (sheetCfg s.rd (fld c 29 28)).payload else 0)).sum

/-- Largest payload × 1001 of the port with lane code l (R189). -/
def State.portLimit (s : State) (l : Nat) : Nat :=
  (if s.getF (Reg.macCtrl l) 30 29 = 1 then 9000000000 else 22500000000) * 1001

/-- Is the port with lane code l a running wall or trunk port? -/
def State.wallTrunkRuns (s : State) (l : Nat) : Bool := decide (l < 40) && s.portRuns l

/-- The internal minimum of R37 for a sheet whose largest rotated tile has `tile` pixels, in 2⁻¹⁶ ns, rounded down: the tile's coding time of 20/17 ns
a pixel counts in the Latency profile. -/
def SheetCfg.minimum (c : SheetCfg) (tile : Nat) : Nat :=
  (if c.prec then frameStart c.rate 1 else c.lines 40 + tile * 20 * 0x10000 / 17) + 10000 * 0x10000

/-- Does a programme sheet's set give the format of R188: YCbCr-4:2:2 10-bit, SDR, PQ or HLG, in BT.709 or BT.2020 (R217)? A disabled sheet's set may
not. -/
def SheetCfg.programme (c : SheetCfg) : Bool := decide (2 ≤ c.enc) && decide (c.enc ≤ 4) && decide (c.col ≤ 1)

/-- The result of enabling output o with control word v (R217, R430, R435): a reason of R26. -/
def State.outCheck (s : State) (o : Nat) (v : Word) : Nat :=
  let k := fld v 29 28
  let c := sheetCfg s.rd k
  let p := fld v 25 16
  let sdi := !bit v 30
  let ls := if sdi then sdiLanes p (fld v 27 26) else s.outNetLanes o
  let la := s.rd (Reg.ingOutLane o)
  firstReason [
    (k == 0, 1),
    (!c.programme || (if sdi then
        fld v 27 26 == 1 || fld v 27 26 == 3 || !sdiCode p
        || (fld v 27 26 == 2 && p != 0x10 && p != 0x14)
        || ls.any (fun l => s.sessLanes.contains l
              || (List.range 8).any (fun j => j != o && (outLanes s.rd j).contains l) || s.genOn (sdiIndex l))
        || !sdiFormat c.w c.h c.rate (fld v 27 26)
        || (rateDen c.rate == 1001) != s.flag Reg.laneRefSts (if p < 0x14 then 16 else 17)
      else
        rateBad c.rate || decide (c.w < 16) || decide (16384 < c.w) || decide (c.h < 16) || decide (9216 < c.h)
        || ls.any (fun l => !s.wallTrunkRuns l)
        || (bit la 31 && fld la 29 24 == fld la 21 16)
        || s.getF (Reg.ingOutAPort o) 31 16 == 0 || (bit la 31 && s.getF (Reg.ingOutBPort o) 31 16 == 0)), 2),
    (!sdi && ls.any (fun l => decide (s.portLimit l < s.outLoad o l + c.payload)), 4),
    (decide (c.lines (fld v 13 0) < (sheetCfg s.rd 0).minimum (rotatedTile s.rd)), 5)]

/-- A write to ING_OUT_CFG[o] (R215, R217). -/
def State.outCfgWrite (s : State) (o : Nat) (v : Word) : State :=
  let off := Reg.ingOutCfg o
  if s.flag off 31 then s.setB off 31 (bit v 31)
  else
    let s1 := s.plainWrite off v
    if !bit v 31 then s1
    else
      let r := s1.outCheck o v
      let s2 := s1.setF (Reg.ingOutSts o) 31 24 r
      if r = 0 then (s2.setB (Reg.ingOutSts o) 23 true).setOut o { OutSt.reset with seq := s.getF (Reg.ingOutRtp o) 15 0 }
      else s2.setB off 31 false

/-- OUTPUT_ENABLE (R217). -/
def execOutputEnable (ini : Ini) (o : Fin 8) (v : Word) (s : State) : Host.Outcome State Fault Refusal :=
  .next (s.gatedWrite ini (Reg.ingOutCfg o) v (fun s => s.outCfgWrite o.val v))

/-! ### Sending a line (R218, R219) -/

/-- Has every band of sheet k composed slice j of its picture in progress? -/
def State.sliceComposed (s : State) (k j : Nat) : Bool :=
  let c := sheetCfg s.rd k
  (List.range 16).all (fun b => decide (bandHi k c.w b ≤ bandLo k c.w b)
    || decide (j < SMap.get (fun _ => 0) (s.sheetAt k).composed b))

/-- Picture of sheet k that row `row` of frame n is sent from, and whether that is late (R219): the frame's own picture once the row is
written, under ladder step 4 the picture sent a second time, otherwise the sheet's previous one. -/
def State.rowSource (s : State) (k n row : Nat) : Nat × Bool :=
  let c := sheetCfg s.rd k
  let p := (s.rd (Reg.couchSheetPic k)).toNat
  let half := s.flag (Reg.couchSheetSts k) 30
  let m := n % 2 ^ 32
  if p = m ∧ s.sliceComposed k (row / (16 * c.sliceRows)) then (m, false)
  else if p = (m + 1) % 2 ^ 32 then (m, false)
  else if half ∧ (p + 1) % 2 ^ 32 = m ∧ s.sliceComposed k (row / (16 * c.sliceRows)) then (p, false)
  else ((m + 2 ^ 32 - (if half then 2 else 1)) % 2 ^ 32, true)

/-- Far address of row `row` of picture p of a sheet (R223). -/
def SheetCfg.rowAddr (c : SheetCfg) (p row : Nat) : Nat := c.base + p % 2 * c.slotBytes + row * c.pitch * 32

/-- An RTP header: no padding, extension or contributing source. -/
def rtpHeader (marker : Bool) (pt seq ts : Nat) (ssrc : Word) : List Byte :=
  [0x80] ++ beBytes 1 (b2n marker * 128 + pt) ++ beBytes 2 seq ++ beBytes 4 ts ++ beBytes 4 ssrc.toNat

/-- ST 2110-20 payload of up to two runs: the extended sequence number, a header for each run, the samples. -/
def gpmPayload (seq : Nat) (runs : List (Nat × Nat × List Byte)) : List Byte :=
  beBytes 2 (seq / 0x10000)
    ++ (runs.zipIdx.flatMap (fun (r, i) => beBytes 2 r.2.2.length ++ beBytes 2 r.1
        ++ beBytes 2 ((if i + 1 < runs.length then 0x8000 else 0) + r.2.1 / 5 * 2)))
    ++ runs.flatMap (fun r => r.2.2)

/-- Bytes waiting in a partly filled packet. -/
def runsLength (runs : List (Nat × Nat × List Byte)) : Nat := (runs.map (fun r => r.2.2.length)).sum

/-- Cut a row into packets of at most `cap` bytes and two runs: the packets filled and what is left; `f` bounds the walk. -/
def cutRow (cap : Nat) : Nat → List (Nat × Nat × List Byte) → Nat → Nat → List Byte →
    List (List (Nat × Nat × List Byte)) × List (Nat × Nat × List Byte)
  | 0, buf, _, _, _ => ([], buf)
  | f + 1, buf, row, off, bs =>
    if bs.isEmpty then ([], buf)
    else
      let n := min bs.length (cap - runsLength buf)
      let buf' := buf ++ [(row, off, bs.take n)]
      if runsLength buf' = cap ∨ 2 ≤ buf'.length then
        let r := cutRow cap f [] row (off + n) (bs.drop n)
        (buf' :: r.1, r.2)
      else cutRow cap f buf' row (off + n) (bs.drop n)

/-- Copies of output o's packets. -/
def State.outDests (s : State) (o : Nat) : List (Nat × Addr) :=
  let la := s.rd (Reg.ingOutLane o)
  let mode := if bit la 30 then 1 else 0
  (fld la 29 24, addrAt s.rd (Reg.ingOutAMacLo o) mode none)
    :: (if bit la 31 then [(fld la 21 16, addrAt s.rd (Reg.ingOutBMacLo o) mode none)] else [])

/-- Would a node take these packets one after another (R400)? -/
def State.roomFor (s : State) (n : Nat) : List Pkt → Bool
  | [] => true
  | p :: ps => s.hasRoom n p && State.roomFor (s.enqueue n p) n ps

/-- Packets that one row of an ST 2110-20 output fills, and what waits for the next row. -/
def State.rowPackets (s : State) (o n row : Nat) (c : SheetCfg) (bs : List Byte) : List Pkt × List (Nat × Nat × List Byte) :=
  let x := s.outAt o
  let cap := if s.flag (Reg.macCtrl (s.getF (Reg.ingOutLane o) 29 24)) 26 then 8600 else 1200
  let cut := cutRow cap (2 * bs.length + 2) x.buf row 0 bs
  let last := decide (c.h ≤ row + 1)
  let runs := cut.1 ++ (if last && !cut.2.isEmpty then [cut.2] else [])
  let ts := n * rateDen c.rate * 90000 / max 1 (rateNum c.rate) % 2 ^ 32
  (runs.zipIdx.map (fun (r, i) =>
    let q := x.seq + i
    { queue := 2, dests := s.outDests o, folio := none, deadline := none,
      payload := rtpHeader (last && i + 1 == runs.length) (s.getF (Reg.ingOutRtp o) 30 24) (q % 0x10000) ts
          (s.rd (Reg.ingOutSsrc o)) ++ gpmPayload q r }), if last then [] else cut.2)

/-- Send one row of an ST 2110-20 output: the packets it fills enter the node; none when the node has no room, so that the source waits (R400). -/
def State.sendRow (s : State) (o n row : Nat) (c : SheetCfg) (bs : List Byte) : Option State :=
  let node := s.getF (Reg.ingOutCfg o) 25 16
  let r := s.rowPackets o n row c bs
  if s.roomFor node r.1 then
    let x := s.outAt o
    some ((s.enqueueAll node r.1).setOut o { x with seq := (x.seq + r.1.length) % 2 ^ 32, buf := r.2 })
  else none

/-- The frame an output sends next: for SDI the one after the last sent, otherwise the latest whose start plus delay has passed. -/
def State.outFrame (s : State) (o : Nat) : Nat :=
  let v := s.rd (Reg.ingOutCfg o)
  let c := sheetCfg s.rd (fld v 29 28)
  if !bit v 30 && (s.outAt o).again then (s.outAt o).frame + 1 else gridIndex c.rate (s.timeOf c.tb - c.lines (fld v 13 0))

/-- Does the reference SDI output o runs from hold (R220, R435)? -/
def State.outClocked (s : State) (o : Nat) : Bool :=
  let v := s.rd (Reg.ingOutCfg o)
  bit v 30 || s.flag Reg.laneRefSts (if fld v 25 16 < 0x14 then 3 else 4)

/-- A row of output o falls due (R219). Row 0 fixes the frame. A row for which the node has no room is sent later: nothing changes, and the
command comes again. The couch's pipe of the row's first column reads the sheet (log entry 90). -/
def State.outputLine (s : State) (o row : Nat) : State :=
  let v := s.rd (Reg.ingOutCfg o)
  let k := fld v 29 28
  let c := sheetCfg s.rd k
  let x := s.outAt o
  let n := if row ≠ 0 then x.frame else s.outFrame o
  if !s.flag (Reg.ingOutSts o) 23 || decide (c.h ≤ row) || !s.outClocked o then s
  else if row = 0 ∧ !bit v 31 then (s.setB (Reg.ingOutSts o) 23 false).setOut o { x with again := false, whole := true }
  else
    let src := s.rowSource k n row
    let whole := decide (c.h ≤ row + 1)
    let s1 := s.setOut o { x with frame := n, again := true, began := if row = 0 then s.timeOf c.tb else x.began, whole := whole }
    let r := s1.memRead ⟨4, 0x40⟩ ((s.pictureSet k src.1).rowAddr src.1 row) (ceilDiv (c.w * 5) 2)
    let s2 := if src.2 then r.1.addSat (Reg.ingOutSts o) 7 0 1 else r.1
    let sent := if bit v 30 then s2.sendRow o n row c r.2.2 else some (s2.emit (.sdi (sdiIndex (fld v 25 16)) row r.2.2))
    match sent with
    | none => s
    | some s3 =>
      if whole && !bit v 31 then (s3.setB (Reg.ingOutSts o) 23 false).setOut o { s3.outAt o with again := false }
      else s3

/-- OUTPUT_LINE_SEND (R219). -/
def execOutputLineSend (o : Fin 8) (row : BitVec 14) (s : State) : Host.Outcome State Fault Refusal :=
  .next (s.outputLine o.val row.toNat)

/-- The embedders of SDI output o learn of a slip (R484). -/
def State.slipAudio (s : State) (o : Nat) (dropped : Bool) : State :=
  ((List.range 16).filter (fun a => s.flag (Reg.audOutCfg a) 31 && s.getF (Reg.audOutCfg a) 30 28 == 3 && s.getF (Reg.audOutCfg a) 13 4 == o)).foldl
    (fun s a => s.setAo a { s.aoAt a with slips := (s.aoAt a).slips ++ [dropped] }) s

/-- How far the frame start of SDI output o has drifted from frame_start + delay, in 2⁻¹⁶ ns of the sheet's time base (R220). -/
def State.outDrift (s : State) (o : Nat) : Int :=
  let v := s.rd (Reg.ingOutCfg o)
  let c := sheetCfg s.rd (fld v 29 28)
  ((s.outAt o).began : Int) - (frameStart c.rate (s.outAt o).frame + c.lines (fld v 13 0) : Nat)

/-- Does output o slip: between two frames, drifted by more than half a frame, late to drop one or early to repeat one (R220)? -/
def State.slipDue (s : State) (o : Nat) (dropped : Bool) : Bool :=
  let c := sheetCfg s.rd (s.getF (Reg.ingOutCfg o) 29 28)
  let d := if dropped then s.outDrift o else - s.outDrift o
  s.flag (Reg.ingOutSts o) 23 && !s.flag (Reg.ingOutCfg o) 30 && (s.outAt o).again && (s.outAt o).whole
    && decide ((frameStart c.rate 1 : Int) < 2 * d)

/-- SDI_OUTPUT_SLIP (R220): one frame is repeated or dropped and counted. -/
def execSdiOutputSlip (o : Fin 8) (dropped : Bool) (s : State) : Host.Outcome State Fault Refusal :=
  .next (
    let x := s.outAt o.val
    if s.slipDue o.val dropped then
      ((s.addWrap (Reg.ingOutSts o.val) 15 8 1).setOut o.val
        { x with frame := if dropped then x.frame + 1 else x.frame - 1 }).slipAudio o.val dropped
    else s)

end Sys2Proof.Machine
end

