-- ==== Sys2Proof/Machine/Folio.lean ====
section
/-! DEFINITION. The bitstream of folio segments (R341-R354, R366, R380): bits, entropy contexts, headers, the syntax of leaves, and writer and
parser of both. -/

namespace Sys2Proof.Machine

/-! ### Bits (R341) -/

/-- The n low bits of v, most significant first. -/
def bitsOf : Nat → Nat → List Bool
  | 0, _ => []
  | n + 1, v => v.testBit n :: bitsOf n v

/-- The number a bit string spells, first bit most significant. -/
def ofBits (bs : List Bool) : Nat := bs.foldl (fun a b => 2 * a + b2n b) 0

/-- The next n bits as a number; none past the end (R347). -/
def readBits (n : Nat) (bs : List Bool) : Option (Nat × List Bool) :=
  if bs.length < n then none else some (ofBits (bs.take n), bs.drop n)

/-- Bits of a byte string. -/
def bytesToBits (bs : List Byte) : List Bool := bs.flatMap (fun b => bitsOf 8 b.toNat)

/-- Bytes of a bit string, the last padded with zero bits. -/
def bitsToBytes (n : Nat) (bs : List Bool) : List Byte :=
  (List.range n).map (fun i => BitVec.ofNat 8 (ofBits (((bs ++ List.replicate 8 false).drop (8 * i)).take 8)))

/-! ### Entropy contexts (R350-R353) -/

/-- A context: the running sum A and the count N. -/
abbrev RiceCtx := Nat × Nat

/-- The Rice parameter of a context (R351): the least k ≤ 24 with N << k ≥ A. -/
def riceK (c : RiceCtx) : Nat := ((List.range 24).find? (fun k => decide (c.1 ≤ c.2 * 2 ^ k))).getD 24

/-- A context after a value. -/
def riceNext (c : RiceCtx) (v : Nat) : RiceCtx := if c.2 + 1 = 64 then ((c.1 + v) / 2, 32) else (c.1 + v, c.2 + 1)

/-- Leading ones, at most `n`; the zero that ends a shorter run is consumed. -/
def ones : Nat → List Bool → Option (Nat × List Bool)
  | 0, bs => some (0, bs)
  | _ + 1, [] => none
  | n + 1, b :: bs => if b then (ones n bs).map (fun r => (r.1 + 1, r.2)) else some (0, bs)

/-- Leading zeros, fewer than `n`; the one that ends the run is consumed. -/
def zeros : Nat → List Bool → Option (Nat × List Bool)
  | 0, _ => none
  | _ + 1, [] => none
  | n + 1, b :: bs => if b then some (0, bs) else (zeros n bs).map (fun r => (r.1 + 1, r.2))

/-- Bits of value v with parameter k (R351). -/
def riceBits (k v : Nat) : List Bool :=
  if v / 2 ^ k < 20 then List.replicate (v / 2 ^ k) true ++ false :: bitsOf k v
  else
    let w := v - 20 * 2 ^ k + 1
    List.replicate 20 true ++ List.replicate (Nat.log2 w) false ++ true :: bitsOf (Nat.log2 w) w

/-- Decode one value with parameter k (R351); none is damage. -/
def riceRead (k : Nat) (bs : List Bool) : Option (Nat × List Bool) :=
  match ones 20 bs with
  | none => none
  | some (q, r) =>
    if q < 20 then (readBits k r).map (fun p => (q * 2 ^ k + p.1, p.2))
    else match zeros 33 r with
      | none => none
      | some (z, r') =>
        match readBits z r' with
        | none => none
        | some (e, r'') => let v := 20 * 2 ^ k + 2 ^ z - 1 + e; if 2 ^ 31 ≤ v then none else some (v, r'')

/-- signed(v) of R352. -/
def unfoldSign (v : Nat) : Int := if v % 2 = 0 then (v / 2 : Nat) else -((v + 1) / 2 : Nat)
/-- The value signed() maps to i. -/
def foldSign (i : Int) : Nat := if 0 ≤ i then 2 * i.toNat else 2 * (-i).toNat - 1

/-- Numbers of the contexts: LAST by block size (4, 8, 16), COEF by size and class, MVX, MVY, CLAMP_N, CLAMP_RUN, CLAMP_VAL. -/
def ctxLast (n : Nat) : Nat := if n = 4 then 0 else if n = 8 then 1 else 2
/-- COEF context of block size n and component c. -/
def ctxCoef (n c : Nat) : Nat := 3 + 2 * ctxLast n + (if c = 0 then 0 else 1)

/-- The contexts at the start of a segment of depth d (R350, R353). -/
def ctxInit (d : Nat) : List RiceCtx :=
  [(4, 1), (4, 1), (4, 1)] ++ List.replicate 6 (max 2 (if d < 5 then 0 else 2 ^ (d - 5)), 1) ++ List.replicate 5 (4, 1)

/-! ### Syntax of a leaf (R347) -/

/-- One component of the Precision clamp: each correction's run, and its signed size (never 0). -/
abbrev ClampSyn := List (Nat × Int)

/-- The residual syntax of a leaf: a new QP, how it is split (none: one 16 × 16 block; one flag a quadrant: four 4 × 4 blocks), the levels of
each block and component in scan order (none: cbf 0; the last level is not 0), the clamp. -/
structure ResSyn where
  qp : Option Nat
  split : Option (List Bool)
  blocks : List (List (Option (List Int)))
  clamp : Option (List ClampSyn)
deriving DecidableEq, Repr

/-- A leaf: its mode and fields. An INTER leaf holds its motion vector; fill values are R, G, B; RAW samples are in the order of R347. -/
inductive LeafSyn where
  | skip (ref : Nat)
  | inter (ref : Nat) (mv : Int × Int) (res : ResSyn)
  | intra (imode : Nat) (res : ResSyn)
  | fill (c : List Nat)
  | raw (samples : List Nat)
deriving DecidableEq, Repr

/-- Positions and sizes of the blocks of a split, in coding order. -/
def blockList (split : Option (List Bool)) : List (Nat × Nat × Nat) :=
  match split with
  | none => [(0, 0, 16)]
  | some fs =>
    (List.range 4).flatMap (fun q =>
      let u := q % 2 * 8
      let v := q / 2 * 8
      if fs.getD q false then [(u, v, 4), (u + 4, v, 4), (u, v + 4, 4), (u + 4, v + 4, 4)] else [(u, v, 8)])

/-- A segment's header (R344). -/
structure SegHdr where
  w : Nat
  h : Nat
  depthCode : Nat
  pq : Bool
  ycocg : Bool
  precision : Bool
  key : Bool
  keepLt : Bool
  refresh : Bool
  refreshN : Nat
  band : Nat
  pin : Nat
  unpin : Nat
  qp : Nat
  regions : Bool
deriving DecidableEq, Repr

/-- Coded depth. -/
def SegHdr.depth (h : SegHdr) : Nat := if h.depthCode = 0 then 8 else if h.depthCode = 1 then 10 else if h.depthCode = 2 then 12 else 16
/-- Canvas code width w of the header's encoding (R283, R369). -/
def SegHdr.width (h : SegHdr) : Nat := if h.pq then 12 else 16
/-- Depth code of a depth. -/
def depthCodeOf (d : Nat) : Nat := if d = 8 then 0 else if d = 10 then 1 else if d = 12 then 2 else 3

/-- The header as a 64-bit number. -/
def SegHdr.word (h : SegHdr) : Nat :=
  (h.w - 1) * 2 ^ 56 + (h.h - 1) * 2 ^ 48 + h.depthCode * 2 ^ 46 + b2n h.pq * 2 ^ 45 + b2n h.ycocg * 2 ^ 44 + b2n h.precision * 2 ^ 43
    + b2n h.key * 2 ^ 42 + b2n h.keepLt * 2 ^ 41 + b2n h.refresh * 2 ^ 40 + h.refreshN * 2 ^ 32 + h.band * 2 ^ 24 + h.pin * 2 ^ 21
    + h.unpin * 2 ^ 17 + h.qp * 2 ^ 11 + b2n h.regions * 2 ^ 10

/-- The header a 64-bit number spells; none when its reserved field is nonzero. -/
def SegHdr.ofWord (n : Nat) : Option SegHdr :=
  if bitsN n 9 0 ≠ 0 then none
  else some
    { w := bitsN n 63 56 + 1, h := bitsN n 55 48 + 1, depthCode := bitsN n 47 46, pq := n.testBit 45, ycocg := n.testBit 44,
      precision := n.testBit 43, key := n.testBit 42, keepLt := n.testBit 41, refresh := n.testBit 40, refreshN := bitsN n 39 32,
      band := bitsN n 31 24, pin := bitsN n 23 21, unpin := bitsN n 20 17, qp := bitsN n 16 11, regions := n.testBit 10 }

/-- Is a header damaged (R346), the limits of version v included (R380)? -/
def SegHdr.damaged (h : SegHdr) (v y : Nat) : Bool :=
  (h.key && h.refresh) || (h.refresh && (decide (h.refreshN < 2) || decide (h.refreshN ≤ h.band)))
    || (!h.refresh && (h.refreshN != 0 || h.band != 0)) || (h.precision && h.depthCode != 3) || decide (h.h ≤ y) || decide (4 < h.pin)
    || decide (v = 0) || decide (3 < v)
    || (decide (v = 1) && (decide (1 < h.depthCode) || h.ycocg || h.pin != 0 || h.unpin != 0))
    || (decide (v = 2) && (decide (2 < h.depthCode) || decide (2 < h.pin) || decide (3 < h.unpin)))
    || (decide (v ≤ 2) && (h.precision || h.regions))

/-- The picture fields of a header with W, H and d (R345). -/
def SegHdr.pictureFields (h : SegHdr) : SegHdr := { h with qp := 0, regions := false, ycocg := false, precision := false, pq := false }

/-- Width of a reference index (R348), and the highest index of a version. -/
def refWidth (v : Nat) : Nat := if v = 1 then 0 else v
/-- Highest reference index of version v. -/
def refTop (v : Nat) : Nat := if v = 1 then 0 else if v = 2 then 2 else 4

/-! ### Writing -/

/-- What entropy coding carries along a segment: the contexts, qp_cur, and the latest vector of each reference (R357). -/
structure CodeSt where
  ctx : List RiceCtx
  qp : Nat
  mvs : SMap (Int × Int)
deriving DecidableEq, Repr

/-- At a segment's start. -/
def CodeSt.init (d qp : Nat) : CodeSt := ⟨ctxInit d, qp, []⟩
/-- Context i. -/
def CodeSt.at (c : CodeSt) (i : Nat) : RiceCtx := c.ctx.getD i (4, 1)
/-- After value v in context i. -/
def CodeSt.next (c : CodeSt) (i v : Nat) : CodeSt := { c with ctx := c.ctx.set i (riceNext (c.at i) v) }
/-- The predicted vector of a reference. -/
def CodeSt.mvp (c : CodeSt) (r : Nat) : Int × Int := SMap.get (fun _ => ((0 : Int), (0 : Int))) c.mvs r
/-- After an INTER leaf. -/
def CodeSt.moved (c : CodeSt) (r : Nat) (mv : Int × Int) : CodeSt := { c with mvs := SMap.set (fun _ => ((0 : Int), (0 : Int))) c.mvs r mv }

/-- Bits written so far, and the coding state. -/
abbrev Wr := List Bool × CodeSt

/-- Append bits. -/
def Wr.put (w : Wr) (bs : List Bool) : Wr := (w.1 ++ bs, w.2)
/-- Append n bits of v. -/
def Wr.num (w : Wr) (n v : Nat) : Wr := w.put (bitsOf n v)
/-- Append value v in context i. -/
def Wr.rice (w : Wr) (i v : Nat) : Wr := (w.1 ++ riceBits (riceK (w.2.at i)) v, w.2.next i v)
/-- Append a sign and a magnitude less 1 in context i. -/
def Wr.sized (w : Wr) (i : Nat) (x : Int) : Wr := (w.num 1 (b2n (decide (x < 0)))).rice i (x.natAbs - 1)

/-- coefficients(b, c) of R347. -/
def Wr.coefs (w : Wr) (n c : Nat) (levels : List Int) : Wr :=
  let w1 := w.rice (ctxLast n) (levels.length - 1)
  (levels.dropLast.foldl (fun w l => w.rice (ctxCoef n c) (foldSign l)) w1).sized (ctxCoef n c) (levels.getLast?.getD 1)

/-- One block: cbf and the levels of each component. -/
def Wr.block (w : Wr) (n : Nat) (b : List (Option (List Int))) : Wr :=
  let cbf := (List.range 3).foldl (fun a c => 2 * a + b2n (b.getD c none).isSome) 0
  (List.range 3).foldl (fun w c => match b.getD c none with | some l => w.coefs n c l | none => w) (w.num 3 cbf)

/-- One component of the clamp (R366). -/
def Wr.clamp1 (w : Wr) (l : ClampSyn) : Wr :=
  l.foldl (fun w p => (w.rice 12 p.1).sized 13 p.2) (w.rice 11 l.length)

/-- residual(x) of R347 and the clamp of a Precision segment. -/
def Wr.residual (w : Wr) (precision : Bool) (r : ResSyn) : Wr :=
  let w1 := match r.qp with
    | none => w.num 1 0
    | some q => (fun (x : Wr) => (x.1, { x.2 with qp := q })) ((w.num 1 1).num 6 q)
  let w2 := match r.split with
    | none => w1.num 1 0
    | some fs => (List.range 4).foldl (fun w q => w.num 1 (b2n (fs.getD q false))) (w1.num 1 1)
  let w3 := (blockList r.split).zipIdx.foldl (fun w p => w.block p.1.2.2 (r.blocks.getD p.2 [])) w2
  if precision then
    match r.clamp with
    | none => w3.num 1 0
    | some l => (List.range 3).foldl (fun w c => w.clamp1 (l.getD c [])) (w3.num 1 1)
  else w3

/-- leaf(x) of R347. -/
def Wr.leaf (w : Wr) (h : SegHdr) (ver region : Nat) (l : LeafSyn) : Wr :=
  let w0 := if h.regions then w.num 4 region else w
  match l with
  | .skip r => (w0.num 3 0).num (refWidth ver) r
  | .inter r mv res =>
    let w1 := (w0.num 3 1).num (refWidth ver) r
    let p := w1.2.mvp r
    let w2 := (w1.rice 9 (foldSign (mv.1 - p.1))).rice 10 (foldSign (mv.2 - p.2))
    Wr.residual (w2.1, w2.2.moved r mv) h.precision res
  | .intra m res => ((w0.num 3 2).num 4 m).residual h.precision res
  | .fill c => (List.range 3).foldl (fun w i => w.num h.depth (c.getD i 0)) (w0.num 3 3)
  | .raw ss => ss.foldl (fun w v => w.num h.depth v) (w0.num 3 4)

/-! ### Parsing -/

/-- What a parse reads: the bits left and the coding state; none is damage. -/
abbrev Rd (α : Type) := StateT (List Bool × CodeSt) Option α

/-- read(n). -/
def rdNum (n : Nat) : Rd Nat := fun p => (readBits n p.1).map (fun r => (r.1, (r.2, p.2)))
/-- rice(i). -/
def rdRice (i : Nat) : Rd Nat := fun p => (riceRead (riceK (p.2.at i)) p.1).map (fun r => (r.1, (r.2, p.2.next i r.1)))
/-- Damage unless b. -/
def rdOk (b : Bool) : Rd Unit := fun p => if b then some ((), p) else none
/-- A sign and a magnitude less 1. -/
def rdSized (i : Nat) : Rd Int := do
  let s ← rdNum 1
  let m ← rdRice i
  pure (if s = 1 then -((m + 1 : Nat) : Int) else ((m + 1 : Nat) : Int))

/-- coefficients(b, c) (R347, R352). -/
def rdCoefs (n c : Nat) : Rd (List Int) := do
  let last ← rdRice (ctxLast n)
  rdOk (decide (last < n * n))
  let ls ← (List.range last).mapM (fun _ => do
    let v ← rdRice (ctxCoef n c)
    rdOk (decide ((unfoldSign v).natAbs < 2 ^ 24))
    pure (unfoldSign v))
  let m ← rdSized (ctxCoef n c)
  rdOk (decide (m.natAbs < 2 ^ 24))
  pure (ls ++ [m])

/-- One block. -/
def rdBlock (n : Nat) : Rd (List (Option (List Int))) := do
  let cbf ← rdNum 3
  (List.range 3).mapM (fun c => do
    if cbf.testBit (2 - c) then
      let l ← rdCoefs n c
      pure (some l)
    else pure none)

/-- One component of the clamp (R366). -/
def rdClamp1 : Rd ClampSyn := do
  let n ← rdRice 11
  rdOk (decide (n ≤ 256))
  let ps ← (List.range n).mapM (fun _ => do
    let r ← rdRice 12
    rdOk (decide (r ≤ 255))
    let m ← rdSized 13
    pure (r, m))
  rdOk (decide ((ps.map (fun p => p.1 + 1)).sum ≤ 256))
  pure ps

/-- residual(x). -/
def rdResidual (precision : Bool) : Rd ResSyn := do
  let q ← rdNum 1
  let qp ← if q = 1 then do
      let v ← rdNum 6
      modify (fun p => (p.1, { p.2 with qp := v }))
      pure (some v)
    else pure none
  let sp ← rdNum 1
  let split ← if sp = 0 then pure none else do
      let fs ← (List.range 4).mapM (fun _ => rdNum 1)
      pure (some (fs.map (fun f => decide (f = 1))))
  let blocks ← (blockList split).mapM (fun b => rdBlock b.2.2)
  let clamp ← if precision then do
      let f ← rdNum 1
      if f = 1 then do
        let l ← (List.range 3).mapM (fun _ => rdClamp1)
        pure (some l)
      else pure none
    else pure none
  pure ⟨qp, split, blocks, clamp⟩

/-- A reference index of version v (R348). -/
def rdRef (ver : Nat) : Rd Nat := do
  let r ← rdNum (refWidth ver)
  rdOk (decide (r ≤ refTop ver))
  pure r

/-- leaf(x): its region, its syntax and the QP its residual is scaled with. -/
def rdLeaf (h : SegHdr) (ver : Nat) : Rd (Nat × LeafSyn × Nat) := do
  let region ← if h.regions then rdNum 4 else pure 0
  let mode ← rdNum 3
  let l ← (if mode = 0 then do
      rdOk (!h.key)
      let r ← rdRef ver
      pure (LeafSyn.skip r)
    else if mode = 1 then do
      rdOk (!h.key && decide (2 ≤ ver))
      let r ← rdRef ver
      let dx ← rdRice 9
      let dy ← rdRice 10
      let c ← get
      let mv := ((c.2.mvp r).1 + unfoldSign dx, (c.2.mvp r).2 + unfoldSign dy)
      rdOk (decide (mv.1.natAbs ≤ 16384) && decide (mv.2.natAbs ≤ 16384))
      modify (fun p => (p.1, p.2.moved r mv))
      let res ← rdResidual h.precision
      pure (LeafSyn.inter r mv res)
    else if mode = 2 then do
      let m ← rdNum 4
      rdOk (decide (m ≤ 9))
      let res ← rdResidual h.precision
      pure (LeafSyn.intra m res)
    else if mode = 3 then do
      let c ← (List.range 3).mapM (fun _ => rdNum h.depth)
      pure (LeafSyn.fill c)
    else do
      rdOk (decide (mode = 4))
      let ss ← (List.range 768).mapM (fun _ => rdNum h.depth)
      pure (LeafSyn.raw ss))
  let c ← get
  pure (region, l, c.2.qp)

/-- segment() of R347: header and leaves; none when the segment of version v and row y is damaged. -/
def parseSegment (ver y : Nat) (bytes : List Byte) : Option (SegHdr × List (Nat × LeafSyn × Nat)) :=
  match readBits 64 (bytesToBits bytes) with
  | none => none
  | some (n, bits) =>
    match SegHdr.ofWord n with
    | none => none
    | some h =>
      if h.damaged ver y then none
      else match ((List.range h.w).mapM (fun _ => rdLeaf h ver)) (bits, CodeSt.init h.depth h.qp) with
        | none => none
        | some (ls, r) => if r.1.length < 8 ∧ r.1.all (fun b => !b) then some (h, ls) else none

end Sys2Proof.Machine
end

