-- ==== Sys2Proof/Machine/FolioRec.lean ====
section
/-! DEFINITION. Reconstruction of folio leaves (R355-R369, R372): prediction, residual, Precision clamp. A leaf's 768 samples are held in raster
order, R, G and B of each pixel together. -/

namespace Sys2Proof.Machine

/-- clip(0, 2^d - 1, i) as a sample. -/
def clipD (d : Nat) (i : Int) : Nat := (clampI 0 ((2 ^ d - 1 : Nat) : Int) i).toNat

/-- Position of component c of pixel (u, v) in a leaf. -/
def leafIdx (u v c : Nat) : Nat := (v * 16 + u) * 3 + c

/-- A sample stored at depth dr used at depth d (R372). -/
def redepth (dr d s : Nat) : Nat := if d < dr then min ((s + 2 ^ (dr - d - 1)) / 2 ^ (dr - d)) (2 ^ d - 1) else s * 2 ^ (d - dr)

/-- What a leaf's reconstruction sees: coded depth, YCoCg residuals, the references at that depth (index, X, Y, component), and the leaf's place
with the leaf to its left. -/
structure RecEnv where
  d : Nat
  ycocg : Bool
  ref : Nat → Int → Int → Nat → Nat
  x : Nat
  y : Nat
  prev : Option (List Nat)

/-! ### Inter prediction (R356, R357) -/

/-- The interpolation filter of a phase. -/
def interTap (f : Nat) : List Int :=
  if f = 0 then [0, 64, 0, 0] else if f = 1 then [-4, 54, 16, -2] else if f = 2 then [-4, 36, 36, -4] else [-2, 16, 54, -4]

/-- One sample predicted by a vector. -/
def interSample (e : RecEnv) (r : Nat) (mv : Int × Int) (u v c : Nat) : Nat :=
  let fx := interTap (mv.1 % 4).toNat
  let fy := interTap (mv.2 % 4).toNat
  let xx : Int := (16 * e.x + u : Nat) + mv.1 / 4
  let yy : Int := (16 * e.y + v : Nat) + mv.2 / 4
  let row := fun (y : Int) => ((fx.zipIdx).map (fun p => p.1 * (e.ref r (xx + p.2 - 1) y c : Int))).sum
  let v2 := ((fy.zipIdx).map (fun p => p.1 * row (yy + p.2 - 1))).sum
  clipD e.d ((v2 + 2048) / 4096)

/-- Every sample of a leaf. -/
def leafMap (f : Nat → Nat → Nat → Nat) : List Nat := (List.range 768).map (fun i => f (i / 3 % 16) (i / 48) (i % 3))

/-! ### Intra prediction (R358-R360) -/

/-- A neighbour of a block, if it is available: the leaf to the left, or an earlier block of this leaf. -/
def neighbour (prev : Option (List Nat)) (cur : List Nat) (blks : List (Nat × Nat × Nat)) (c : Nat) (u v : Int) : Option Nat :=
  if v < 0 ∨ 15 < v ∨ 15 < u then none
  else if u < 0 then prev.map (fun l => l.getD (leafIdx (16 + u).toNat v.toNat c) 0)
  else if blks.any (fun b => decide (b.1 ≤ u.toNat) && decide (u.toNat < b.1 + b.2.2) && decide (b.2.1 ≤ v.toNat)
      && decide (v.toNat < b.2.1 + b.2.2)) then
    some (cur.getD (leafIdx u.toNat v.toNat c) 0)
  else none

/-- Each unavailable entry takes the value before it. -/
def fillFrom : Nat → List (Option Nat) → List Nat
  | _, [] => []
  | p, none :: l => p :: fillFrom p l
  | _, some v :: l => v :: fillFrom v l

/-- Substitution of unavailable neighbours (R358). -/
def substitute (mid : Nat) (l : List (Option Nat)) : List Nat :=
  fillFrom ((l.findSome? id).getD mid) l

/-- Neighbour arrays of a block: left, corner, top. -/
structure Around where
  left : List Nat
  corner : Nat
  top : List Nat

/-- The neighbours of an N × N block at (bu, bv). -/
def around (e : RecEnv) (cur : List Nat) (blks : List (Nat × Nat × Nat)) (c bu bv n : Nat) : Around :=
  let g := neighbour e.prev cur blks c
  let l := (List.range (2 * n)).map (fun i => g ((bu : Int) - 1) ((bv : Int) + (2 * n - 1 - i : Nat)))
  let t := (List.range (2 * n)).map (fun i => g ((bu : Int) + i) ((bv : Int) - 1))
  let s := substitute (2 ^ (e.d - 1)) (l ++ g ((bu : Int) - 1) ((bv : Int) - 1) :: t)
  { left := (s.take (2 * n)).reverse, corner := s.getD (2 * n) 0, top := s.drop (2 * n + 1) }

/-- Angular prediction (R360) at (a, b) from main and side. -/
def angular (ang : Int) (corner : Nat) (main side : List Nat) (a b : Nat) : Nat :=
  let refa := fun (i : Int) =>
    if i = 0 then corner
    else if 0 < i then main.getD (i.toNat - 1) 0
    else side.getD (-1 + (i * (8192 / ang) + 128) / 256).toNat 0
  let p : Int := ((b + 1 : Nat) : Int) * ang
  let idx := p / 32
  let fr := (p % 32).toNat
  if fr = 0 then refa ((a : Int) + idx + 1)
  else ((32 - fr) * refa ((a : Int) + idx + 1) + fr * refa ((a : Int) + idx + 2) + 16) / 32

/-- The predictor of an intra mode (R359) at (u', v'). -/
def intraSample (n m : Nat) (r : Around) (u v : Nat) : Nat :=
  let lg := Nat.log2 n
  let ver := fun (ang : Int) => angular ang r.corner r.top r.left u v
  let hor := fun (ang : Int) => angular ang r.corner r.left r.top v u
  match m with
  | 0 => ((r.top.take n).sum + (r.left.take n).sum + n) / 2 ^ (lg + 1)
  | 1 => ((n - 1 - u) * r.left.getD v 0 + (u + 1) * r.top.getD n 0 + (n - 1 - v) * r.top.getD u 0 + (v + 1) * r.left.getD n 0 + n)
      / 2 ^ (lg + 1)
  | 2 => hor 0
  | 3 => ver 0
  | 4 => ver 16
  | 5 => ver 32
  | 6 => ver (-16)
  | 7 => ver (-32)
  | 8 => hor 16
  | _ => hor 32

/-! ### Residual (R354, R361-R364) -/

/-- The scan of an N × N block (R354): (horizontal, vertical) frequencies. -/
def scanOrder (n : Nat) : List (Nat × Nat) :=
  (List.range (2 * n - 1)).flatMap (fun s =>
    (List.range (min s (n - 1) + 1 - (s + 1 - n))).map (fun k => (s - (min s (n - 1) - k), min s (n - 1) - k)))

/-- V(m) of R361. -/
def cosTab (m : Nat) : Int := ([0, 90, 89, 87, 84, 80, 75, 70, 64, 57, 50, 43, 35, 26, 18, 9, 0] : List Int).getD m 0

/-- T_N[k][j] (R361). -/
def trans (n k j : Nat) : Int :=
  if k = 0 then 64
  else
    let m0 := (2 * j + 1) * k * (16 / n) % 64
    let m := if 32 < m0 then 64 - m0 else m0
    if m ≤ 16 then cosTab m else -cosTab (32 - m)

/-- w of R362. -/
def quantW (qp : Nat) : Int := ([40, 45, 51, 57, 64, 72] : List Int).getD (qp % 6) 0 * 2 ^ (qp / 6)

/-- Coefficients D[p][q] of a block at index p × N + q (R362). -/
def dequant (d n qp : Nat) (levels : List Int) : List Int :=
  let top : Int := 2 ^ (d + 2 + 8)
  let s := Nat.log2 n - 1
  let place := ((scanOrder n).take levels.length).zip levels
  (List.range (n * n)).map (fun i =>
    match place.find? (fun p => decide (p.1 = (i / n, i % n))) with
    | some p => clampI (-top) (top - 1) ((p.2 * quantW qp + 2 ^ (s - 1)) / 2 ^ s)
    | none => 0)

/-- The inverse transform (R363): res at index v' × N + u'. -/
def inverse (d n : Nat) (coef : List Int) : List Int :=
  let e := d + 2
  let g := (List.range (n * n)).map (fun i =>
    let t := ((List.range n).map (fun k => trans n k (i % n) * coef.getD (i / n * n + k) 0)).sum
    clampI (-(2 ^ (e + 8))) (2 ^ (e + 8) - 1) ((t + 64) / 128))
  (List.range (n * n)).map (fun i =>
    let t := ((List.range n).map (fun k => trans n k (i % n) * g.getD (k * n + i / n) 0)).sum
    clampI (-(2 ^ (e - 1))) (2 ^ (e - 1) - 1) ((t + 2048) / 4096))

/-- Residuals of R, G and B of a block (R363, R364), by component. -/
def blockResidual (d n qp : Nat) (ycocg : Bool) (b : List (Option (List Int))) : List (List Int) :=
  let r := (List.range 3).map (fun c =>
    match b.getD c none with
    | some l => inverse d n (dequant d n qp l)
    | none => List.replicate (n * n) 0)
  if !ycocg then r
  else
    let px := (List.range (n * n)).map (fun i =>
      let y := (r.getD 0 []).getD i 0
      let co := (r.getD 1 []).getD i 0
      let cg := (r.getD 2 []).getD i 0
      let t := y - cg / 2
      let bb := t - co / 2
      (bb + co, cg + t, bb))
    [px.map (·.1), px.map (·.2.1), px.map (·.2.2)]

/-- Replace a block's samples. -/
def putBlock (cur : List Nat) (bu bv n : Nat) (f : Nat → Nat → Nat → Nat) : List Nat :=
  cur.zipIdx.map (fun (s, i) =>
    let u := i / 3 % 16
    let v := i / 48
    if bu ≤ u ∧ u < bu + n ∧ bv ≤ v ∧ v < bv + n then f (u - bu) (v - bv) (i % 3) else s)

/-- Reconstruct the blocks of a leaf in order (R365, R368): the samples, and the prediction each block had. -/
def recBlocks (e : RecEnv) (qp : Nat) (mode : Option Nat) :
    List ((Nat × Nat × Nat) × List (Option (List Int))) → List (Nat × Nat × Nat) → List Nat → List Nat → List Nat × List Nat
  | [], _, cur, pred => (cur, pred)
  | (b, syn) :: rest, before, cur, pred =>
    let n := b.2.2
    let ar := (List.range 3).map (fun c => around e cur before c b.1 b.2.1 n)
    let p := fun u v c => match mode with
      | some m => intraSample n m (ar.getD c ⟨[], 0, []⟩) u v
      | none => pred.getD (leafIdx (b.1 + u) (b.2.1 + v) c) 0
    let res := blockResidual e.d n qp e.ycocg syn
    let pred' := putBlock pred b.1 b.2.1 n p
    let cur' := putBlock cur b.1 b.2.1 n (fun u v c => clipD e.d ((p u v c : Int) + (res.getD c []).getD (v * n + u) 0))
    recBlocks e qp mode rest (b :: before) cur' pred'

/-- Apply one component's corrections from position `pos` on (R366). -/
def applyClamp (c : Nat) : ClampSyn → Nat → List Nat → List Nat
  | [], _, cur => cur
  | (run, m) :: l, pos, cur =>
    let i := leafIdx ((pos + run) % 16) ((pos + run) / 16) c
    applyClamp c l (pos + run + 1) (cur.set i (clipD 16 ((cur.getD i 0 : Int) + 9 * m)))

/-- The clamp of a leaf. -/
def clampLeaf (k : Option (List ClampSyn)) (cur : List Nat) : List Nat :=
  match k with
  | none => cur
  | some l => (List.range 3).foldl (fun cur c => applyClamp c (l.getD c []) 0 cur) cur

/-- A leaf's samples and its prediction (R356-R368). `qp` is qp_cur. -/
def recLeaf (e : RecEnv) (qp : Nat) (l : LeafSyn) : List Nat × List Nat :=
  match l with
  | .skip r =>
    let p := leafMap (fun u v c => e.ref r (16 * e.x + u : Nat) (16 * e.y + v : Nat) c)
    (p, p)
  | .inter r mv res =>
    let p := leafMap (interSample e r mv)
    let q := recBlocks e qp none ((blockList res.split).zip (res.blocks ++ List.replicate 16 [])) [] p p
    (clampLeaf res.clamp q.1, q.2)
  | .intra m res =>
    let z := List.replicate 768 0
    let q := recBlocks e qp (some m) ((blockList res.split).zip (res.blocks ++ List.replicate 16 [])) [] z z
    (clampLeaf res.clamp q.1, q.2)
  | .fill c => let p := leafMap (fun _ _ i => c.getD i 0); (p, p)
  | .raw ss => (ss, ss)

/-- Sum of absolute differences. -/
def sadOf (a b : List Nat) : Nat := (List.zipWith (fun x y => ((x : Int) - y).natAbs) a b).sum

/-- The reference a leaf predicts from, if any. -/
def LeafSyn.refOf : LeafSyn → Option Nat
  | .skip r => some r
  | .inter r _ _ => some r
  | _ => none

/-- Component samples of a whole row of leaves, pixels in raster order. -/
def rowSamples (leaves : List (List Nat)) : List Nat :=
  (List.range 16).flatMap (fun v => leaves.flatMap (fun l => (l.drop (v * 48)).take 48))

/-- Leaf x of a row of leaves held in raster order, W leaves wide. -/
def leafOfRow (w : Nat) (samples : List Nat) (x : Nat) : List Nat :=
  (List.range 16).flatMap (fun v => (samples.drop ((v * w + x) * 48)).take 48)

end Sys2Proof.Machine
end

