-- ==== Sys2Proof/Machine/Encode.lean ====
section
/-! DEFINITION. How the press chooses what a segment holds (R283, R286-R289, R293, R297, R298): motion search, candidates, least J, the residual
clamp, tail mode. Which residual the press codes for a candidate the spec leaves open: it is drawn from a constant without a body (log
entry 10); everything computed from it is exact. -/

namespace Sys2Proof.Machine

/-- A reference as the press holds it at the segment's depth: index and samples in raster order, 16W pixels a line. -/
structure RefPlane where
  idx : Nat
  samples : List Nat

/-- What coding one segment reads. `refs` are the references prediction may choose from, `short` is the short-term reference (or its substitute,
R374) that SKIP in tail mode copies. -/
structure EncCfg where
  hdr : SegHdr
  ver : Nat
  y : Nat
  qp : Nat
  refs : List RefPlane
  short : List Nat
  shortOk : Bool
  tSkip : Nat
  tRaw : Nat
  rawThr : Nat
  step : Nat
  repeats : Bool
  intraOnly : Bool
  band : Option (Nat × Nat)
  budget : Nat
  tailRsv : Nat
  skipRsv : Nat
  mayTail : Bool
  draw : Nat

/-- One leaf to code: its samples at the coded depth, its flags; `forced` is a leaf substituted (R316) or without an entry (R307), coded FILL or RAW
and never predicted. -/
structure LeafIn where
  px : List Nat
  static : Bool
  raw : Bool
  region : Nat
  forced : Bool

/-- Samples of the reference with index r. -/
def EncCfg.plane (e : EncCfg) (r : Nat) : List Nat :=
  match e.refs.find? (fun p => p.idx == r) with
  | some p => p.samples
  | none => e.short

/-- ref_r(X, Y, c) of R355. -/
def planeAt (w h : Nat) (ss : List Nat) (xx yy : Int) (c : Nat) : Nat :=
  ss.getD (((clampI 0 ((16 * h - 1 : Nat) : Int) yy).toNat * (16 * w) + (clampI 0 ((16 * w - 1 : Nat) : Int) xx).toNat) * 3 + c) 0

/-- What reconstructing leaf x sees. -/
def EncCfg.env (e : EncCfg) (x : Nat) (prev : Option (List Nat)) : RecEnv :=
  { d := e.hdr.depth, ycocg := e.hdr.ycocg, ref := fun r => planeAt e.hdr.w e.hdr.h (e.plane r), x := x, y := e.y, prev := prev }

/-! ### Motion search (R287, R288) -/

/-- The first element of least cost. -/
def leastOf {α : Type} (cost : α → Nat) : List α → Option α
  | [] => none
  | a :: l =>
    match leastOf cost l with
    | none => some a
    | some b => if cost b < cost a then some b else some a

/-- Positions of a window of ±a × ±b about a vector, in raster order. -/
def window (a b : Nat) (v : Int × Int) : List (Int × Int) :=
  (List.range (2 * b + 1)).flatMap (fun j => (List.range (2 * a + 1)).map (fun i => (v.1 + i - a, v.2 + j - b)))

/-- The eight positions at distance d about a vector, in raster order. -/
def ring8 (d : Int) (v : Int × Int) : List (Int × Int) :=
  [(v.1 - d, v.2 - d), (v.1, v.2 - d), (v.1 + d, v.2 - d), (v.1 - d, v.2), (v.1 + d, v.2), (v.1 - d, v.2 + d), (v.1, v.2 + d),
    (v.1 + d, v.2 + d)]

/-- A plane's rounded mean over k × k blocks at reduced position (X, Y). -/
def meanAt (k w h : Nat) (ss : List Nat) (xx yy : Int) (c : Nat) : Nat :=
  (((List.range (k * k)).map (fun i => planeAt w h ss (xx * k + (i % k : Nat)) (yy * k + (i / k : Nat)) c)).sum + k * k / 2) / (k * k)

/-- A leaf's rounded mean over k × k blocks. -/
def leafMean (k : Nat) (px : List Nat) (u v c : Nat) : Nat :=
  (((List.range (k * k)).map (fun i => px.getD (leafIdx (k * u + i % k) (k * v + i / k) c) 0)).sum + k * k / 2) / (k * k)

/-- SAD of a leaf against a reduced plane at an integer displacement. -/
def reducedSad (k w h x y : Nat) (ss px : List Nat) (mv : Int × Int) : Nat :=
  let n := 16 / k
  ((List.range (n * n * 3)).map (fun i =>
    let c := i % 3
    let u := i / 3 % n
    let v := i / 3 / n
    ((leafMean k px u v c : Int) - meanAt k w h ss ((n * x + u : Nat) + mv.1) ((n * y + v : Nat) + mv.2) c).natAbs)).sum

/-- Does a displaced block of size n at (bx, by) lie inside w × h? -/
def blockInside (n bx by_ w h : Nat) (mv : Int × Int) : Bool :=
  decide (0 ≤ (bx : Int) + mv.1) && decide ((bx : Int) + mv.1 + n ≤ w) && decide (0 ≤ (by_ : Int) + mv.2)
    && decide ((by_ : Int) + mv.2 + n ≤ h)

/-- Does the reference block of a quarter-pel vector, with the taps that carry weight, lie inside (R288)? `rows` limits its lines (R298). -/
def mvInside (w rows x y : Nat) (mv : Int × Int) : Bool :=
  let ok := fun (p : Nat) (m : Int) (lim : Nat) =>
    let f := decide (m % 4 ≠ 0)
    decide (0 ≤ (16 * p : Nat) + m / 4 - (b2n f : Int)) && decide ((16 * p : Nat) + m / 4 + 15 + 2 * (b2n f : Int) < (lim : Int))
  ok x mv.1 (16 * w) && ok y mv.2 rows

/-- The best vector of a reference for a leaf, in quarter pels (R287); none when no position is allowed. -/
def EncCfg.search (e : EncCfg) (x : Nat) (px : List Nat) (r : RefPlane) (near : List (Int × Int)) : Option (Int × Int) :=
  let w := e.hdr.w
  let h := e.hdr.h
  let rows := match e.band with
    | some b => if e.y < b.1 then 16 * b.1 else 16 * h
    | none => 16 * h
  let env := e.env x none
  let full := fun (mv : Int × Int) => sadOf (leafMap (interSample env r.idx mv)) px
  let ok := mvInside w rows x e.y
  let level := fun (k : Nat) (vs : List (Int × Int)) =>
    leastOf (reducedSad k w h x e.y r.samples px)
      (vs.filter (blockInside (16 / k) (16 / k * x) (16 / k * e.y) (16 / k * w) (rows / k)))
  let start : Option (Int × Int) :=
    if r.idx = 0 then
      let q := level 4 ((0, 0) :: near.map (fun v => ((v.1 + 8) / 16, (v.2 + 8) / 16)) ++ window 128 64 (0, 0))
      match q with
      | none => none
      | some v =>
        if 2 ≤ e.step then some (4 * v.1, 4 * v.2)
        else
          let s : Int × Int := (2 * v.1, 2 * v.2)
          (level 2 (s :: window 8 8 s)).map (fun v => (2 * v.1, 2 * v.2))
    else some (0, 0)
  match start with
  | none => none
  | some s =>
    let n := if r.idx = 0 then 4 else 16
    let ints := ((s :: window n n s).map (fun v => ((4 * v.1, 4 * v.2) : Int × Int))).filter ok
    match leastOf full ints with
    | none => none
    | some b =>
      match leastOf full ((b :: ring8 2 b).filter ok) with
      | none => some b
      | some c => some ((leastOf full ((c :: ring8 1 c).filter ok)).getD c)

/-! ### Candidates and least J (R286) -/

/-- The residual syntax drawn for a candidate (log entry 10). -/
def drawRes (id cur want : Nat) : ResSyn :=
  let g := Config.leafChoice id
  let split := if g 0 % 2 = 1 then some ((List.range 4).map (fun q => decide (g (1 + q) % 2 = 1))) else none
  { qp := if cur = want then none else some want
    split := split
    blocks := (blockList split).zipIdx.map (fun (b, i) =>
      (List.range 3).map (fun c =>
        let j := 16 + (3 * i + c) * 1024
        let n := b.2.2
        if g j % 2 = 1 then
          some ((List.range (g (j + 1) % (n * n))).map (fun k => unfoldSign (g (j + 4 + k) % (2 ^ 25 - 1)))
            ++ [if g (j + 2) % 2 = 1 then -((g (j + 3) % (2 ^ 24 - 1) + 1 : Nat) : Int) else ((g (j + 3) % (2 ^ 24 - 1) + 1 : Nat) : Int)])
        else none))
    clamp := none }

/-- The clamp R289 and R366 ask for: the multiple of 9 nearest each error; none when every error is within 4. -/
def clampFor (src rec_ : List Nat) : Option (List ClampSyn) :=
  let comp := fun (c : Nat) =>
    let ms := (List.range 256).map (fun p => (p, ((src.getD (3 * p + c) 0 : Int) - rec_.getD (3 * p + c) 0 + 4) / 9))
    ((ms.filter (fun m => m.2 != 0)).foldl (fun (a : Int × ClampSyn) m => ((m.1 : Int), a.2 ++ [(((m.1 : Int) - a.1 - 1).toNat, m.2)]))
      (-1, [])).2
  let l := [comp 0, comp 1, comp 2]
  if l.all (fun c => c.isEmpty) then none else some l

/-- A leaf with its clamp, in a Precision segment. -/
def withClamp (env : RecEnv) (qp : Nat) (px : List Nat) (l : LeafSyn) : LeafSyn :=
  match l with
  | .inter r mv res => .inter r mv { res with clamp := clampFor px (recLeaf env qp l).1 }
  | .intra m res => .intra m { res with clamp := clampFor px (recLeaf env qp l).1 }
  | _ => l

/-- A candidate: its syntax, SAD and bits. -/
structure Cand where
  syn : LeafSyn
  sad : Nat
  bits : Nat

/-- A signed sixth power. -/
def sixth (i : Int) : Int := if 0 ≤ i then i ^ 6 else -(i ^ 6)

/-- J(a) < J(b), with J = SAD + λ × bits and λ = 2^((QP - 12) / 6), compared exactly through sixth powers. -/
def jLess (qp : Nat) (a b : Cand) : Bool :=
  decide (sixth ((a.sad : Int) - b.sad) * 2 ^ 12 < sixth ((b.bits : Int) - a.bits) * 2 ^ qp)

/-- A candidate of least J; among equals a draw decides. -/
def leastJ (qp draw : Nat) (cs : List Cand) : Option Cand :=
  let best := cs.filter (fun a => !cs.any (fun b => jLess qp b a))
  best[Config.leafChoice draw 0 % max 1 best.length]?

/-- Is every sample within 4 codes? -/
def within4 (a b : List Nat) : Bool := (List.zipWith (fun x y => decide (((x : Int) - y).natAbs ≤ 4)) a b).all id

/-- Are all samples of each component equal? -/
def isFlat (px : List Nat) : Bool := (List.range 768).all (fun i => px.getD i 0 == px.getD (i % 3) 0)

/-- A leaf as FILL. -/
def fillLeaf (px : List Nat) : LeafSyn := .fill [px.getD 0 0, px.getD 1 0, px.getD 2 0]
/-- The flat intra DC unit without residual of R293. -/
def flatIntra : LeafSyn := .intra 0 ⟨none, none, [[none, none, none]], none⟩

/-- Choose leaf x (R286, R289). `w` is what has been written, `prev` the leaf to the left, `near` the vectors of the left and upper leaves. -/
def EncCfg.choose (e : EncCfg) (w : Wr) (x : Nat) (prev : Option (List Nat)) (near : List (Int × Int)) (qp draw : Nat) (a : LeafIn) : LeafSyn :=
  let env := e.env x prev
  let p := e.hdr.precision
  let size := fun (l : LeafSyn) => (w.leaf e.hdr e.ver a.region l).1.length - w.1.length
  let cand := fun (l : LeafSyn) =>
    let l' := if p then withClamp env qp a.px l else l
    (⟨l', sadOf (recLeaf env qp l').2 a.px, size l'⟩ : Cand)
  let raw := LeafSyn.raw a.px
  let inBand := match e.band with | some b => decide (b.1 ≤ e.y) && decide (e.y < b.2) | none => false
  let intras := (List.range 10).map (fun m => cand (.intra m (drawRes (draw + m) w.2.qp qp)))
  let skipOk := fun (r : Nat) => !p || within4 (recLeaf env qp (.skip r)).1 a.px
  let pick := fun (b : Cand) =>
    if size raw < b.bits ∧ (p ∨ !(inBand || e.hdr.key || e.intraOnly)) then raw else b.syn
  if a.forced then (if isFlat a.px then fillLeaf a.px else raw)
  else if a.raw then raw
  else if isFlat a.px then fillLeaf a.px
  else if e.hdr.key || e.intraOnly || inBand then
    match leastJ qp (draw + 31) (intras ++ [⟨raw, 0, size raw⟩]) with
    | some b => pick b
    | none => raw
  else
    let early := a.static && e.shortOk && skipOk 0 &&
      (let sad := sadOf (recLeaf env qp (.skip 0)).2 a.px
       if 3 ≤ e.step then decide (e.rawThr = 0) || decide (sad ≤ 4 * e.tRaw) else decide (0 < e.tSkip) && decide (sad ≤ e.tSkip))
    if early then .skip 0
    else
      let skips := (e.refs.filter (fun r => skipOk r.idx)).map (fun r => cand (.skip r.idx))
      let inters := if e.ver < 2 then [] else e.refs.filterMap (fun r =>
        (e.search x a.px r near).map (fun mv => cand (.inter r.idx mv (drawRes (draw + 16 + r.idx) w.2.qp qp))))
      match leastJ qp (draw + 31) (skips ++ inters ++ intras) with
      | none => raw
      | some b => if 0 < e.tRaw ∧ e.tRaw < b.sad then raw else pick b

/-! ### Coding a row (R293) -/

/-- What coding a row carries from leaf to leaf: bits, samples and vectors of the leaves coded, and the picture's counts. -/
structure EncSt where
  wr : Wr
  leaves : List (List Nat)
  vecs : List (Option (Int × Int))
  refsUsed : List Nat
  dirty : Bool
  n : Nat
  sn : Nat
  left : Nat
  spent : Nat
  tail : Bool
  skipping : Bool
  capTail : Bool
  tailSkip : Bool
  normUnits : Nat
  normBits : Nat
  nSkip : Nat
  nIntra : Nat
  sad : Nat

/-- Write a leaf: its bits, samples and counts. -/
def EncSt.emit (t : EncSt) (e : EncCfg) (x qp : Nat) (a : LeafIn) (normal : Bool) (l : LeafSyn) : EncSt :=
  let w := t.wr.leaf e.hdr e.ver a.region l
  let size := w.1.length - t.wr.1.length
  let r := recLeaf (e.env x t.leaves.getLast?) qp l
  { t with
    wr := w
    leaves := t.leaves ++ [r.1]
    vecs := t.vecs ++ [match l with | .inter _ mv _ => some mv | _ => none]
    refsUsed := t.refsUsed ++ l.refOf.toList
    spent := t.spent + size
    left := t.left - 1
    normUnits := t.normUnits + b2n normal
    normBits := t.normBits + (if normal then size else 0)
    nSkip := t.nSkip + (match l with | .skip _ => 1 | .fill _ => 1 | _ => 0)
    nIntra := t.nIntra + (match l with | .intra _ _ => 1 | .raw _ => 1 | _ => 0)
    sad := t.sad + sadOf r.2 a.px }

/-- A leaf that is never predicted: FILL when each component is flat, else RAW (R307, R316). -/
def forcedLeaf (px : List Nat) : LeafSyn := if isFlat px then fillLeaf px else .raw px

/-- A leaf of a repeated picture (R267); one that is never predicted stays FILL or RAW. -/
def EncCfg.repeatLeaf (_e : EncCfg) (a : LeafIn) : LeafSyn := if a.forced then forcedLeaf a.px else .skip 0

/-- SKIP as tail mode codes it (R293); a leaf that is never predicted stays FILL or RAW (log entry 38). -/
def EncCfg.tailLeaf (e : EncCfg) (a : LeafIn) : LeafSyn :=
  if a.forced then forcedLeaf a.px
  else if e.hdr.key || e.intraOnly then flatIntra
  else .skip 0

/-- One unit of the loop of R293. -/
def EncSt.unit (e : EncCfg) (above : List (Option (Int × Int))) (t : EncSt) (p : LeafIn × Nat) : EncSt :=
  let a := p.1
  let x := p.2
  let draw := e.draw + 64 * x
  let inBand := match e.band with | some b => decide (b.1 ≤ e.y) && decide (e.y < b.2) | none => false
  let near := ((t.vecs.getLast?).getD none).toList ++ (above.getD x none).toList
  let tail := t.tail || (e.mayTail && decide ((e.budget : Int) - t.spent < (t.left * e.tailRsv : Nat)))
  let t1 := { t with tail := tail, capTail := t.capTail || tail }
  let skip := fun (t : EncSt) => ({ t with dirty := t.dirty || inBand }).emit e x t.wr.2.qp a false (e.tailLeaf a)
  if e.repeats then t.emit e x t.wr.2.qp a true (e.repeatLeaf a)
  else if t1.skipping then skip t1
  else if tail then
    let l := e.choose t1.wr x t1.leaves.getLast? near 63 draw a
    let t2 := t1.emit e x 63 a false l
    if (e.budget : Int) - ((t1.left - 1) * e.skipRsv : Nat) < t2.spent then
      skip { t1 with skipping := true, tailSkip := true }
    else t2
  else t1.emit e x e.qp a true (e.choose t1.wr x t1.leaves.getLast? near e.qp draw a)

/-- Code a row of leaves. -/
def EncCfg.row (e : EncCfg) (above : List (Option (Int × Int))) (ls : List LeafIn) (t : EncSt) : EncSt :=
  ls.zipIdx.foldl (fun t p => t.unit e above p) t

/-- A sample reduced from canvas width w to coded depth d (R283). -/
def reduceSample (w d s : Nat) : Nat := if d < w then min ((s + 2 ^ (w - d - 1)) / 2 ^ (w - d)) (2 ^ d - 1) else s

end Sys2Proof.Machine
end

