-- ==== Sys2Proof/Machine/Checkval.lean ====
section
/-! DEFINITION. Check-value units (R174-R185). -/

namespace Sys2Proof.Machine

/-- Width, polynomial, initial value, reflected, xorout of a polynomial code (R174). -/
structure Crc where
  width : Nat
  poly : Nat
  init : Nat
  reflected : Bool
  xorout : Nat
deriving DecidableEq, Repr

/-- The polynomials of R174. -/
def crcOf (code : Nat) : Crc :=
  if code = 0 then ⟨32, 0x04C11DB7, 0xFFFFFFFF, true, 0xFFFFFFFF⟩
  else if code = 1 then ⟨32, 0x1EDC6F41, 0xFFFFFFFF, true, 0xFFFFFFFF⟩
  else if code = 2 then ⟨16, 0x1021, 0xFFFF, false, 0x0000⟩
  else ⟨64, 0x42F0E1EBA9EA3693, 0, false, 0⟩

/-- The low w bits of n in reverse order. -/
def reflect : Nat → Nat → Nat
  | 0, _ => 0
  | w + 1, n => n % 2 * 2 ^ w + reflect w (n / 2)

/-- One bit of a reflected CRC. -/
def crcBitR (poly run : Nat) : Nat := if run % 2 = 1 then Nat.xor (run / 2) poly else run / 2
/-- One bit of an unreflected CRC of width w. -/
def crcBitF (w poly run : Nat) : Nat :=
  if 2 ^ (w - 1) ≤ run then Nat.xor (run * 2 % 2 ^ w) poly else run * 2 % 2 ^ w

/-- Apply f n times. -/
def iter {α : Type} (f : α → α) : Nat → α → α
  | 0, x => x
  | n + 1, x => iter f n (f x)

/-- Enter one byte into the running value. -/
def Crc.byte (c : Crc) (run : Nat) (b : Byte) : Nat :=
  if c.reflected then iter (crcBitR (reflect c.width c.poly)) 8 (Nat.xor run b.toNat)
  else iter (crcBitF c.width c.poly) 8 (Nat.xor run (b.toNat * 2 ^ (c.width - 8)))

/-- Enter bytes into the running value. -/
def Crc.run (c : Crc) (run : Nat) (bs : List Byte) : Nat := bs.foldl c.byte run

/-- The final value of a byte string from the initial value. -/
def Crc.final (c : Crc) (bs : List Byte) : Nat := Nat.xor (c.run c.init bs) c.xorout % 2 ^ c.width

/-- CRC-32C of a byte string (R174, code 0x1). -/
def crc32c (bs : List Byte) : Nat := (crcOf 1).final bs

/-- A COMPUTE descriptor's fields (R175). -/
structure CvDesc where
  addr : Nat
  length : Nat
  blk : Nat
  fold : Nat
  poly : Nat
  compare : Bool
  init : Bool
  expected : Nat
deriving DecidableEq, Repr

/-- Read a COMPUTE descriptor; none when a reserved field or code is in use (R175). -/
def CvDesc.parse (d : List Byte) : Option CvDesc :=
  let b20 := byteAt d 20
  let b21 := byteAt d 21
  if leAt d 14 2 ≠ 0 ∨ leAt d 22 2 ≠ 0 ∨ 4 ≤ b21 ∨ 0xC ≤ b20 / 16 ∨ b20 / 4 % 4 = 3 then none
  else some ⟨leAt d 8 6, leAt d 16 4, b20 / 16, b20 / 4 % 4, b20 % 4, decide (b21 / 2 % 2 = 1), decide (b21 % 2 = 1),
    leAt d 24 8⟩

/-- The blocks of R176: read and fold n blocks from a, `left` bytes to go. The result is the state, how the last read ended, and run and
seq. -/
def State.cvBlocks (t : Tx) (c : Crc) (fold size : Nat) :
    Nat → State → Nat → Nat → Nat → Nat → State × MemAcc × Nat × Nat
  | 0, s, _, _, run, seq => (s, .ok, run, seq)
  | n + 1, s, a, left, run, seq =>
    if left = 0 then (s, .ok, run, seq)
    else
      let k := Nat.min left size
      let run1 := if fold = 1 then c.run run (leBytes 8 a) else if fold = 2 then c.run run (leBytes 8 seq) else run
      let seq1 := if fold = 2 then (seq + 1) % 2 ^ 64 else seq
      let (s1, acc, bs) := s.memRead t a k
      match acc with
      | .ok => State.cvBlocks t c fold size n s1 (a + k) (left - k) (c.run run1 bs) seq1
      | _ => (s1, acc, run1, seq1)

/-- The 64-bit value two registers hold. -/
def State.pair (s : State) (lo hi : Nat) : Nat := (s.rd lo).toNat + (s.rd hi).toNat * 2 ^ 32
/-- Store a 64-bit value in two registers. -/
def State.setPair (s : State) (lo hi v : Nat) : State :=
  (s.wr lo (BitVec.ofNat 32 v)).wr hi (BitVec.ofNat 32 (v / 2 ^ 32))

/-- Unit u ends the descriptor at position i of its queue (R177, R178): last, then mismatch and its event, then the record. -/
def State.cvEnd (s : State) (u i status : Nat) (result : Option Nat) : State :=
  let s1 := s.setF (Reg.cvuSts u) 7 0 status
  let s2 := if status = 1 then (s1.setB (Reg.cvuSts u) 30 true).raiseEvt (Reg.cvuEvt u) else s1
  s2.completeAt (0x80 + u) i status result

/-- The result of a descriptor that ended DONE or MISMATCH: the comparison over the final value (R176, R177). -/
def CvDesc.judge (d : CvDesc) (run : Nat) : Nat × Nat :=
  let c := crcOf d.poly
  let final := Nat.xor run c.xorout % 2 ^ c.width
  (if d.compare ∧ final ≠ d.expected % 2 ^ c.width then 1 else 0, final)

/-- Process one COMPUTE descriptor (R176): nothing for length 0; run and seq restored when a read failed. A descriptor whose bytes must wait
(R156, R168) has started, so that the unit reads busy, and ends when COMPUTE is given again (R181). -/
def State.cvCompute (s : State) (u i : Nat) (d : CvDesc) : State :=
  let lo := Reg.cvuRun u 0
  let hi := Reg.cvuRun u 1
  let run0 := s.pair lo hi
  let seq0 := s.pair (Reg.cvuSeq u 0) (Reg.cvuSeq u 1)
  let c := crcOf d.poly
  if d.length = 0 then s.cvEnd u i (d.judge run0).1 (some (d.judge run0).2)
  else if s.memWaits ⟨1, 0x90 + u⟩ d.addr d.length then s.startAt (0x80 + u) i 0
  else
    let size := 2 ^ (5 + d.blk)
    let start := if d.init then c.init else run0 % 2 ^ c.width
    let (s1, acc, run, seq) := s.cvBlocks ⟨1, 0x90 + u⟩ c d.fold size (ceilDiv d.length size) d.addr d.length start seq0
    match acc with
    | .ok => ((s1.setPair lo hi run).setPair (Reg.cvuSeq u 0) (Reg.cvuSeq u 1) seq).cvEnd u i (d.judge run).1
        (some (d.judge run).2)
    | .domain => s1.cvEnd u i 2 (some (d.judge run0).2)
    | _ => s1.cvEnd u i 3 (some (d.judge run0).2)

/-- COMPUTE: the unit takes its next descriptor (R175-R178). -/
def execCompute (u : Fin 32) (s : State) : Host.Outcome State Fault Refusal :=
  .next (match (s.queueOf (0x80 + u.val)).head? with
    | some d =>
      if QDesc.kind d = 1 then
        match CvDesc.parse d.bytes with
        | some c => s.cvCompute u.val 0 c
        | none => s.cvEnd u.val 0 4 none
      else s
    | none => s)

/-- A write of CVU_RUN or CVU_SEQ (r = 0, 1 for RUN_LO, RUN_HI; 2, 3 for SEQ): taken while the unit is idle (R179). -/
def State.cvuRunWrite (s : State) (u r : Nat) (v : Word) : State :=
  if (s.queueOf (0x80 + u)).isEmpty then s.wr (if r < 2 then Reg.cvuRun u r else Reg.cvuSeq u (r - 2)) v
  else s.setB (Reg.cvuSts u) 29 true

/-- CVU_RUN_WRITE (R179). -/
def execCvuRunWrite (ini : Ini) (u : Fin 32) (r : Fin 4) (v : Word) (s : State) : Host.Outcome State Fault Refusal :=
  .next (s.gatedWrite ini (if r.val < 2 then Reg.cvuRun u r else Reg.cvuSeq u (r - 2)) v (fun s => s.cvuRunWrite u.val r.val v))

end Sys2Proof.Machine
end

