-- ==== Sys2Proof/Machine/Curves.lean ====
section
/-! DEFINITION. The transfer functions, matrices and windowed sinc that the couch's stages apply (R240, R242, R244), as fixed-point numbers of 64
fraction bits. The spec names the standards; their constants are the standards' (log entry 11). -/

namespace Sys2Proof.Machine

/-! ### Fixed point -/

/-- The number 1. -/
def fxOne : Nat := 18446744073709551616
/-- A product. -/
def fxMul (a b : Nat) : Nat := a * b / fxOne
/-- A quotient; 0 for a divisor of 0. -/
def fxDiv (a b : Nat) : Nat := a * fxOne / b
/-- ln 2. -/
def fxLn2 : Nat := 12786308645202655659
/-- π. -/
def fxPi : Nat := 57952155664616982739

/-- n terms of t/(2k+1) + t z²/(2k+3) + … -/
def atanhSum : Nat → Nat → Nat → Nat → Nat
  | 0, _, _, _ => 0
  | n + 1, z2, t, k => t / (2 * k + 1) + atanhSum n z2 (fxMul t z2) (k + 1)

/-- The natural logarithm of m from 1 to 2. -/
def fxLnMant (m : Nat) : Nat :=
  let z := fxDiv (m - fxOne) (m + fxOne)
  2 * atanhSum 24 (fxMul z z) z 0

/-- log₂ of x > 0. -/
def fxLog2 (x : Nat) : Int :=
  let k := Nat.log2 x
  ((k : Int) - 64) * fxOne + (fxDiv (fxLnMant (x * fxOne / 2 ^ k)) fxLn2 : Nat)

/-- n terms of t + t u/(k+1) + t u²/((k+1)(k+2)) + … -/
def expSum : Nat → Nat → Nat → Nat → Nat
  | 0, _, _, _ => 0
  | n + 1, u, t, k => t + expSum n u (fxMul t u / (k + 1)) (k + 1)

/-- 2 to the power y. -/
def fxExp2 (y : Int) : Nat :=
  let n := y / fxOne
  let m := expSum 24 (fxMul (y % fxOne).toNat fxLn2) fxOne 0
  if 0 ≤ n then m * 2 ^ n.toNat else m / 2 ^ (-n).toNat

/-- x to the power a/b. -/
def fxPow (x a b : Nat) : Nat := if x = 0 then 0 else fxExp2 (fxLog2 x * a / b)

/-- n terms of the sine of u from its term t of order k: t - t u²/((k+1)(k+2)) + … -/
def sinSum : Nat → Nat → Nat → Nat → Int
  | 0, _, _, _ => 0
  | n + 1, u2, t, k => (t : Int) - sinSum n u2 (fxMul t u2 / ((k + 1) * (k + 2))) (k + 2)

/-- sin(π x). -/
def fxSinPi (x : Nat) : Int :=
  let r := x % (2 * fxOne)
  let h := r % fxOne
  let f := if fxOne < 2 * h then fxOne - h else h
  let u := fxMul fxPi f
  let s := sinSum 16 (fxMul u u) u 1
  if r < fxOne then s else -s

/-! ### Tolerance (R240, R242) -/

/-- An integer within 1 of num ÷ den, picked by e among all there are (R240: a stage that is not exact is accurate to ±1 code). -/
def within1 (num : Int) (den e : Nat) : Int :=
  if num % den = 0 then num / den + (e % 3 : Nat) - 1 else num / den + (e % 2 : Nat)

/-- Working full scale (R240). -/
def wMax : Nat := 1048560

/-- A stage's result within 1 of num ÷ den, negative results clipped to 0; the stage and its inputs pick the error (log entry 11). -/
def stage (name : Nat) (inputs : List Int) (num : Int) (den : Nat) : Nat :=
  (max 0 (within1 num den (Config.codeError name inputs))).toNat

/-! ### Transfer functions -/

/-- The ST 2084 EOTF: the fraction of 10,000 cd/m² of a nonlinear value. -/
def pqLinear (e : Nat) : Nat :=
  let p := fxPow (min e fxOne) 32 2523
  fxPow (fxDiv (p - fxOne * 107 / 128) (fxOne * 2413 / 128 - 2392 * p / 128)) 16384 2610

/-- Its inverse. -/
def pqCode (y : Nat) : Nat :=
  let m := fxPow (min y fxOne) 2610 16384
  fxPow (fxDiv (fxOne * 107 / 128 + 2413 * m / 128) (fxOne + 2392 * m / 128)) 2523 32

/-- a, b and c of the BT.2100 HLG curve. -/
def hlgA : Nat := fxOne * 17883277 / 100000000
/-- 1 - 4a. -/
def hlgB : Nat := fxOne * 28466892 / 100000000
/-- 1/2 - a ln 4a. -/
def hlgC : Nat := fxOne * 5599107295295620 / 10000000000000000

/-- The inverse of the BT.2100 HLG OETF. -/
def hlgScene (e : Nat) : Nat :=
  let x := min e fxOne
  if 2 * x ≤ fxOne then fxMul x x / 3
  else (fxExp2 (((x : Int) - hlgC) * fxOne / hlgA * fxOne / fxLn2) + hlgB) / 12

/-- The BT.2100 HLG OETF. -/
def hlgCode (x : Nat) : Nat :=
  if 12 * x ≤ fxOne then fxPow (3 * x) 1 2
  else ((fxMul hlgA (fxMul (fxLog2 (12 * x - hlgB)).toNat fxLn2)) + hlgC)

/-- The luminance of BT.2100 from its three components. -/
def luma2100 (r g b : Nat) : Nat := (2627 * r + 6780 * g + 593 * b) / 10000

/-- The EOTF stage of R240 (transfer code 0 SDR, 1 PQ, 2 HLG): luminance in cd/m² of three nonlinear values, SDR white given. -/
def eotfLum (tcs white : Nat) (e0 e1 e2 : Nat) : Nat × Nat × Nat :=
  if tcs = 0 then (white * fxPow e0 12 5, white * fxPow e1 12 5, white * fxPow e2 12 5)
  else if tcs = 1 then (10000 * pqLinear e0, 10000 * pqLinear e1, 10000 * pqLinear e2)
  else
    let r := hlgScene e0
    let g := hlgScene e1
    let b := hlgScene e2
    let k := 1000 * fxPow (luma2100 r g b) 1 5
    (fxMul k r, fxMul k g, fxMul k b)

/-- The nonlinear encoding of R242 (2 PQ, 3 HLG, 4 SDR) of three luminances in cd/m². -/
def encodeLum (enc white : Nat) (l0 l1 l2 : Nat) : Nat × Nat × Nat :=
  if enc = 2 then (pqCode (l0 / 10000), pqCode (l1 / 10000), pqCode (l2 / 10000))
  else if enc = 3 then
    let r := min l0 (1000 * fxOne) / 1000
    let g := min l1 (1000 * fxOne) / 1000
    let b := min l2 (1000 * fxOne) / 1000
    let y := luma2100 r g b
    let k := fun x => if y = 0 then 0 else hlgCode (min fxOne (fxDiv x (fxPow y 1 6)))
    (k r, k g, k b)
  else
    let k := fun l => fxPow (min fxOne (l / max 1 white)) 5 12
    (k l0, k l1, k l2)

/-! ### Matrices -/

/-- Kr and Kb of BT.709 or BT.2020, in ten-thousandths. -/
def lumaKr (col : Nat) : Nat := if col = 0 then 2126 else 2627
/-- Kb. -/
def lumaKb (col : Nat) : Nat := if col = 0 then 722 else 593
/-- Kg. -/
def lumaKg (col : Nat) : Nat := 10000 - lumaKr col - lumaKb col

/-- The matrix stage of R240: narrow-range Y', Cb, Cr of d bits, widened to 16, to R', G', B' with wMax for 1. The widened full scale stands for the
full scale of the d-bit code. -/
def matrixStage (d col c0 c1 c2 : Nat) : Nat × Nat × Nat :=
  let n := 2 ^ (d - 8)
  let y : Int := (c0 * (2 ^ d - 1) : Nat) - (65535 * 16 * n : Nat)
  let cb : Int := (c1 * (2 ^ d - 1) : Nat) - (65535 * 128 * n : Nat)
  let cr : Int := (c2 * (2 ^ d - 1) : Nat) - (65535 * 128 * n : Nat)
  let kr : Int := lumaKr col
  let kb : Int := lumaKb col
  let kg : Int := lumaKg col
  let u := 65535 * n * 219 * 224 * 10000
  let i : List Int := [d, col, c0, c1, c2]
  (stage 0 i (wMax * (y * 2240000 + (20000 - 2 * kr) * cr * 219)) u,
    stage 1 i (wMax * (y * 2240000 * kg - 219 * (kb * (20000 - 2 * kb) * cb + kr * (20000 - 2 * kr) * cr))) (u * lumaKg col),
    stage 2 i (wMax * (y * 2240000 + (20000 - 2 * kb) * cb * 219)) u)

/-- Rows of the BT.2087 matrix from BT.709 to BT.2020, in ten-thousandths. -/
def to2020 : List (Int × Int × Int) := [(6274, 3293, 433), (691, 9195, 114), (164, 880, 8956)]
/-- Rows of the matrix from BT.2020 to BT.709, in ten-thousandths. -/
def to709 : List (Int × Int × Int) := [(16605, -5876, -728), (-1246, 11329, -83), (-182, -1006, 11187)]

/-- Row i of a matrix applied to three values, × 10,000. -/
def matRow (m : List (Int × Int × Int)) (i : Nat) (v : Nat × Nat × Nat) : Int :=
  let k := m.getD i (0, 0, 0)
  k.1 * v.1 + k.2.1 * v.2.1 + k.2.2 * v.2.2

/-- A component i of narrow-range 10-bit Y'CbCr of nonlinear values, before it is rounded, in fixed point (R242 step 3). -/
def progExact (col : Nat) (e : Nat × Nat × Nat) (i : Nat) : Int :=
  let y : Int := (lumaKr col * e.1 + lumaKg col * e.2.1 + lumaKb col * e.2.2 : Nat) / 10000
  if i = 0 then 876 * y + 64 * fxOne
  else if i = 1 then 896 * ((e.2.2 : Int) - y) * 10000 / (20000 - 2 * lumaKb col : Nat) + 512 * fxOne
  else 896 * ((e.1 : Int) - y) * 10000 / (20000 - 2 * lumaKr col : Nat) + 512 * fxOne

/-! ### The Lanczos kernel (R244) -/

/-- sinc(x) for x given by its magnitude. -/
def fxSinc (x : Nat) : Int := if x = 0 then fxOne else fxSinPi x * fxOne / (fxMul fxPi x : Nat)

/-- The Lanczos-windowed sinc with a = t ÷ 2 at x: 0 from a on. -/
def lanczosAt (t x : Nat) : Int :=
  if t * fxOne ≤ 2 * x then 0 else fxSinc x * fxSinc (2 * x / max 1 t) / fxOne

/-- num ÷ den rounded to the nearest integer, halves away from zero; 0 for a divisor of 0. -/
def nearest (num den : Int) : Int :=
  let q : Int := ((2 * num.natAbs + den.natAbs) / (2 * den.natAbs) : Nat)
  if (num < 0) = (den < 0) then q else -q

end Sys2Proof.Machine
end

