-- ==== Sys2Proof/Machine/Compose.lean ====
section
/-! DEFINITION. Pixel arithmetic of the couch: unpacking, linear light, scaling, blending, encoding (R238-R244). A stage the spec holds only to a
tolerance gives one of the codes that tolerance allows (log entry 11); every other stage is exact. -/

namespace Sys2Proof.Machine

/-! ### Source pixels (R238, R240) -/

/-- A pixel in working values: R, G, B, its alpha, and its coverage (0xFFFF inside the source's raster, 0 outside). -/
structure Px where
  r : Nat
  g : Nat
  b : Nat
  a : Nat
  cov : Nat
deriving DecidableEq, Repr

/-- A crop pixel outside the source's raster: transparent. -/
def Px.clear : Px := ⟨0, 0, 0, 0, 0⟩

/-- Columns stored together, and their bytes. -/
def PixFmt.group : PixFmt → Nat × Nat
  | .pgroup 0 d _ _ => (2, d / 2)
  | .pgroup _ d _ _ => (4, 3 * d / 2)
  | .buffer f => (1, pixelBytes f)
  | .rgb16 _ => (1, 6)

/-- Byte range of a line that holds columns x0 to x1 and, for 4:2:2, the chroma beside them. -/
def SrcFrame.span (f : SrcFrame) (x0 x1 : Nat) : Nat × Nat :=
  let g := f.fmt.group
  let a := x0 / g.1
  let b := (min (x1 + 1) (f.w - 1)) / g.1 + 1
  (a * g.2, (b - a) * g.2)

/-- Sample k of d bits of a byte string packed most significant bit first. -/
def packed (d : Nat) (bs : List Byte) (k : Nat) : Nat := bitsN (ofBe (bs ++ [0])) (8 * (bs.length + 1) - d * k - 1) (8 * (bs.length + 1) - d * (k + 1))

/-- Widen a d-bit component to 16 bits, MSB-aligned with its top bits replicated. -/
def widen (d v : Nat) : Nat := v * 2 ^ (16 - d) + v / 2 ^ (2 * d - 16)

/-- Mean of two chroma samples, rounded up. -/
def meanUp (a b : Nat) : Nat := (a + b + 1) / 2

/-- Luminance in cd/m² to a working value (R240). -/
def workOf (name peak : Nat) (inputs : List Int) (lum : Nat) : Nat := min wMax (stage name inputs (lum * wMax : Nat) (max 1 peak * fxOne))

/-- Three nonlinear values, wMax for 1, to working values: the EOTF stage (R240; transfer 3 is LINEAR and exact, 4 a cascade source's). -/
def eotfStage (tcs peak white : Nat) (m : Nat × Nat × Nat) : Nat × Nat × Nat :=
  if tcs = 3 then (min wMax m.1, min wMax m.2.1, min wMax m.2.2)
  else if tcs = 4 then
    (min wMax (Config.cascadeWork (m.1 / 16) peak), min wMax (Config.cascadeWork (m.2.1 / 16) peak), min wMax (Config.cascadeWork (m.2.2 / 16) peak))
  else
    let e := fun (v : Nat) => v * fxOne / wMax
    let l := eotfLum tcs white (e m.1) (e m.2.1) (e m.2.2)
    let i : List Int := [tcs, peak, white, m.1, m.2.1, m.2.2]
    (workOf 3 peak i l.1, workOf 4 peak i l.2.1, workOf 5 peak i l.2.2)

/-- The gamut stage: BT.709 sources to BT.2020 (R240). -/
def gamutStage (w : Nat × Nat × Nat) : Nat × Nat × Nat :=
  let k := fun (i : Nat) => min wMax (stage (6 + i) [w.1, w.2.1, w.2.2] (matRow to2020 i w) 10000)
  (k 0, k 1, k 2)

/-- Three 16-bit components to working values (R240): the matrix for Y'CbCr of `yuv` bits, EOTF, gamut for BT.709. -/
def toWorking (yuv : Option Nat) (col tcs peak white : Nat) (c0 c1 c2 : Nat) : Nat × Nat × Nat :=
  let w := eotfStage tcs peak white (match yuv with
    | some d => matrixStage d col c0 c1 c2
    | none => (c0 * 16, c1 * 16, c2 * 16))
  if col = 0 then gamutStage w else w

/-- Make a pixel inside the raster. -/
def Px.inside (w : Nat × Nat × Nat) (a : Nat) : Px := ⟨w.1, w.2.1, w.2.2, a, 0xFFFF⟩

/-- Column x of a line whose bytes from group `g0` on are `bs` (R238, R240). -/
def SrcFrame.pixel (f : SrcFrame) (peak white g0 : Nat) (bs : List Byte) (x : Nat) : Px :=
  let g := f.fmt.group
  let i := x / g.1 - g0
  let at_ := bs.drop (i * g.2)
  match f.fmt with
  | .pgroup 0 d col tcs =>
    let here := fun k => widen d (packed d (at_.take g.2) k)
    let next := fun k => if x + 1 < f.w then widen d (packed d ((at_.drop g.2).take g.2) k) else here k
    let cb := if x % 2 = 0 then here 0 else meanUp (here 0) (next 0)
    let cr := if x % 2 = 0 then here 2 else meanUp (here 2) (next 2)
    Px.inside (toWorking (some d) col tcs peak white (here (if x % 2 = 0 then 1 else 3)) cb cr) 0xFFFF
  | .pgroup s d col tcs =>
    let c := fun k => widen d (packed d (at_.take g.2) (3 * (x % 4) + k))
    if s = 1 then Px.inside (toWorking (some d) col tcs peak white (c 1) (c 0) (c 2)) 0xFFFF
    else Px.inside (toWorking none col tcs peak white (c 0) (c 1) (c 2)) 0xFFFF
  | .buffer b =>
    if b ≤ 1 then
      Px.inside (toWorking none 0 0 peak white (byteAt at_ 0 * 257) (byteAt at_ 1 * 257) (byteAt at_ 2 * 257)) (byteAt at_ 3 * 257)
    else if b = 4 then
      let w := leAt at_ 0 4
      Px.inside (toWorking none 1 1 peak white (widen 10 (bitsN w 9 0)) (widen 10 (bitsN w 19 10)) (widen 10 (bitsN w 29 20)))
        (bitsN w 31 30 * 21845)
    else
      Px.inside (toWorking none 1 3 peak white (leAt at_ 0 2) (leAt at_ 2 2) (leAt at_ 4 2)) (if b = 2 then leAt at_ 6 2 else 0xFFFF)
  | .rgb16 t =>
    let c := fun k => if t = 1 then widen 12 (leAt at_ (2 * k) 2 % 4096) else leAt at_ (2 * k) 2
    Px.inside (toWorking none 1 t peak white (c 0) (c 1) (c 2)) 0xFFFF

/-! ### Scaling (R244) -/

/-- The mapped position of destination coordinate d of a crop of c over n destination samples from c0 on, in 1/64 sample, rounded with halves
up: floor(64 (c0 + (d + 1/2) c/n - 1/2) + 1/2). -/
def mapPos (c0 c n : Nat) (d : Nat) : Int :=
  (64 * (2 * n * c0 : Nat) + 64 * ((2 * d + 1) * c : Nat) - 64 * (n : Int) + (n : Int)) / (2 * (n : Int))

/-- The position of the i-th of n things spread in lo..hi, as a free place in the window. -/
def placeIn (lo hi : Int) (v : Nat) : Int := lo + ((v % ((hi - lo).toNat + 1) : Nat) : Int)

/-- Distances from the base sample to the taps of a t-tap kernel: the t samples nearest the mapped position. A kernel stretched by a ratio c/n above
1 has them at places of its window, t c/2n samples to either side, that the spec does not state (log entry 33). -/
def lanczosOffsets (t c n ph : Nat) : List Int :=
  (List.range t).map (fun (i : Nat) =>
    if c ≤ n then (i : Int) - ((t - 1) / 2 : Nat) + (if t % 2 = 1 ∧ 32 ≤ ph then 1 else 0)
    else placeIn (((ph : Int) * n - (32 * t * c : Nat)) / (64 * n : Nat) + 1) (((ph : Int) * n + (32 * t * c : Nat)) / (64 * n : Nat))
      (Config.lanczosTap t c n ph i))

/-- The kernel at a tap o samples from the base sample: its argument is o less the phase, over the ratio c/n when that is above 1. -/
def lanczosValue (t c n ph : Nat) (o : Int) : Int :=
  let d := (64 * o - ph).natAbs
  lanczosAt t (if c ≤ n then d * fxOne / 64 else d * n * fxOne / (64 * c))

/-- Steps 1 and 2: each value over their sum, times 4,096, rounded. -/
def lanczosRounded (t c n ph : Nat) : List Int :=
  let vs := (lanczosOffsets t c n ph).map (lanczosValue t c n ph)
  vs.map (fun v => nearest (4096 * v) vs.sum)

/-- Step 3: the coefficient of largest magnitude, the lowest of equals, takes what makes the sum 4,096. -/
def settleCoefs (cs : List Int) : List Int :=
  let top := cs.foldl (fun m v => max m v.natAbs) 0
  cs.modify (cs.findIdx (fun v => v.natAbs == top)) (fun v => v + (4096 - cs.sum))

/-- Taps (source coordinates) and coefficients of a destination coordinate: point sampling for t = 1, the Lanczos kernel otherwise. -/
def tapsAt (t c0 c n d : Nat) : List Int × List Int :=
  let p := mapPos c0 c n d
  let base := p / 64
  let ph := (p % 64).toNat
  if t ≤ 1 then ([if ph < 32 then base else base + 1], [4096])
  else ((lanczosOffsets t c n ph).map (fun o => base + o), settleCoefs (lanczosRounded t c n ph))

/-- Source coordinates of a coordinate's taps, the nearest edge sample of the crop for those outside it. -/
def tapCoords (t c0 c n d : Nat) : List Nat :=
  (tapsAt t c0 c n d).1.map (fun i => (clampI (c0 : Int) ((c0 + c - 1 : Nat) : Int) i).toNat)

/-- A filtered sum in units of 1/4096, with the tolerance of R240, clipped to 0..top. One tap of 4,096 is exact. -/
def filtered (top : Nat) (cs : List Int) (vs : List Nat) : Nat :=
  let sum := (List.zipWith (fun (c : Int) (v : Nat) => c * v) cs vs).sum
  let v := if cs = [4096] then sum / 4096 else within1 sum 4096 (Config.codeError 9 (cs ++ vs.map (fun (v : Nat) => (v : Int))))
  (clampI 0 (top : Int) v).toNat

/-- Filter pixels. -/
def filterPx (cs : List Int) (ps : List Px) : Px :=
  let f := fun (top : Nat) (g : Px → Nat) => filtered top cs (ps.map g)
  ⟨f wMax (·.r), f wMax (·.g), f wMax (·.b), f 0xFFFF (·.a), f 0xFFFF (·.cov)⟩

/-! ### Blending and encoding (R241, R242) -/

/-- e(a). -/
def alphaE (a : Nat) : Nat := a + a / 2 ^ 15
/-- mul(x, a). -/
def alphaMul (x a : Nat) : Nat := (x * alphaE a + 32768) / 2 ^ 16
/-- The complement term of source-over: (x × (65,536 - e(a)) + 32,768) >> 16. -/
def alphaRest (x a : Nat) : Nat := (x * (65536 - alphaE a) + 32768) / 2 ^ 16

/-- Is a source premultiplied (R238)? -/
def premultiplied (c : LayerCfg) : Bool := c.kind == 2 && (c.bfmt == 1 || c.bfmt == 2)

/-- Blend one component of a layer's pixel onto acc (R241); a pixel outside the source's raster leaves acc as it is. -/
def blend1 (c : LayerCfg) (p : Px) (v acc : Nat) : Nat :=
  let a := match c.asrc with
    | 0 => 0xFFFF
    | 1 => c.alpha
    | 2 => p.a
    | _ => alphaMul c.alpha p.a
  let s := if !premultiplied c then alphaMul v a else if c.asrc = 1 ∨ c.asrc = 3 then alphaMul v c.alpha else v
  if p.cov = 0 then acc
  else min wMax (match c.blend with
    | 0 => s + alphaRest acc (alphaMul a p.cov)
    | 1 => v
    | _ => acc + s)

/-- Blend a layer's pixel. -/
def blendPx (c : LayerCfg) (p : Px) (acc : Nat × Nat × Nat) : Nat × Nat × Nat :=
  (blend1 c p p.r acc.1, blend1 c p p.g acc.2.1, blend1 c p p.b acc.2.2)

/-- A fill word's working values: full-range PQ codes, exactly code ÷ 1,023, at the EOTF stage (R240). -/
def fillWork (peak : Nat) (codes : List Nat) : Nat × Nat × Nat :=
  let k := fun (i : Nat) => workOf 10 peak [peak, codes.getD i 0] (10000 * pqLinear (codes.getD i 0 * fxOne / 1023))
  (k 0, k 1, k 2)

/-- Luminance in cd/m² of a working value. -/
def lumOf (peak v : Nat) : Nat := v * peak * fxOne / wMax

/-- A canvas code of one component (R242): LINEAR16 exact, PQ12 within one code. -/
def canvasCode (c : SheetCfg) (v : Nat) : Nat :=
  if c.enc = 0 then min ((v + 8) / 16) 65535
  else min 4095 (stage 11 [c.peak, v] (4095 * pqCode (lumOf c.peak v / 10000) : Nat) fxOne)

/-- The canvas codes of a fill word, as the couch converts it (R240, R242, R316). -/
def SheetCfg.fillCode (c : SheetCfg) (codes : List Nat) : List Nat :=
  let w := fillWork c.peak codes
  [canvasCode c w.1, canvasCode c w.2.1, canvasCode c w.2.2]

/-- A canvas pixel's six bytes. -/
def canvasBytes (c : SheetCfg) (v : Nat × Nat × Nat) : List Byte :=
  leBytes 2 (canvasCode c v.1) ++ leBytes 2 (canvasCode c v.2.1) ++ leBytes 2 (canvasCode c v.2.2)

/-- Component i (Y', Cb, Cr) of a programme pixel at full resolution (R242): the matrix of a BT.709 sheet, the encoding, the sheet's coefficients, rounded
to the nearest code. -/
def progComp (c : SheetCfg) (v : Nat × Nat × Nat) (i : Nat) : Nat :=
  let l := (lumOf c.peak v.1, lumOf c.peak v.2.1, lumOf c.peak v.2.2)
  let m := if c.col = 0 then
      ((max 0 (matRow to709 0 l)).toNat / 10000, (max 0 (matRow to709 1 l)).toNat / 10000, (max 0 (matRow to709 2 l)).toNat / 10000)
    else l
  let e := encodeLum c.enc c.white m.1 m.2.1 m.2.2
  (clampI 0 1023 ((progExact c.col e i + (fxOne / 2 : Nat)) / fxOne)).toNat

/-- A programme code as it is written: within one of the code R242 gives. -/
def progOut (name : Nat) (inputs : List Int) (v : Nat) : Nat := (clampI 0 1023 (within1 v 1 (Config.codeError name inputs))).toNat

/-- The [1, 2, 1] ÷ 4 chroma filter, rounded half up. -/
def chroma121 (a b d : Nat) : Nat := (a + 2 * b + d + 2) / 4

end Sys2Proof.Machine
end

