-- ==== Sys2Proof/Machine/Couch.lean ====
section
/-! DEFINITION. The couch: frame boundaries, frame and tap choice, composition, SPLIT, countermarks, buffer posts (R14, R17, R221-R263). -/

namespace Sys2Proof.Machine

/-! ### Sources and their frames (R17, R249) -/

/-- Tokens a layer's source has posted, newest first. -/
def State.srcTokens (s : State) (c : LayerCfg) : List Token :=
  if c.kind = 0 then (s.sessAt c.idx).tokens else if c.kind = 1 then (s.ctxAt c.idx).tokens else []

/-- Rate code of a layer's source. -/
def State.srcRate (s : State) (c : LayerCfg) : Nat :=
  if c.kind = 0 then (sessCfg s.rd c.idx).rate else (ctxCfg s.rd c.idx).rate

/-- Does counter value `at_` lie less than 16 lines of the sheet from boundary `b` (R17)? -/
def SheetCfg.near (c : SheetCfg) (b at_ : Nat) : Bool :=
  decide (b * 0x10000 < at_ * 0x10000 + c.lines 16) && decide (at_ * 0x10000 < b * 0x10000 + c.lines 16)

/-- The newest complete frame of a source. -/
def State.newestWhole (s : State) (c : LayerCfg) : Option Token := (s.srcTokens c).find? (fun t => t.complete)

/-- The current frame of a source: the newest whose start lies in the boundary's window. -/
def State.currentOf (s : State) (sh : SheetCfg) (b : Nat) (c : LayerCfg) : Option Token :=
  (s.srcTokens c).find? (fun t => sh.near b t.start)

/-- Is a source late at a boundary: no complete frame, or the newest finished more than 1.25 of its periods before (R249)? -/
def State.srcLate (s : State) (c : LayerCfg) (b : Nat) : Bool :=
  match s.newestWhole c with
  | none => true
  | some t => decide (5 * rateDen (s.srcRate c) * secNs < (b - t.posted) * 4 * rateNum (s.srcRate c))

/-- Is a source phased: the sheet's rate, and its last complete frame begun in the window of the boundary before (R17)? -/
def State.srcPhased (s : State) (c : LayerCfg) (sh : SheetCfg) (prev : Nat) : Bool :=
  match s.newestWhole c with
  | some t => s.srcRate c == sh.rate && sh.near prev t.start
  | none => false

/-- A frame as a layer's choice names it: its slot and the counter at its first packet. -/
def Token.name (t : Token) : Nat × Nat := (t.slot, t.start)

/-- Where the frame in slot k of a layer's source lies, and its format: a session's by the set the frame began with, a press context's by its set. -/
def State.frameAt (s : State) (c : LayerCfg) (k : Nat) : SrcFrame :=
  if c.kind = 0 then
    let v := (s.sessAt c.idx).slotAt k
    let z := v.cfg
    { base := z.lineAddr k 0, pitch := z.line * 32, w := v.w, h := v.h, tag := c.dom
      fmt := if z.kind = 0 then .pgroup z.sampling (depthBits z.depth) z.col z.tcs else .pgroup 0 10 z.col z.tcs }
  else
    let z := ctxCfg s.rd c.idx
    { base := z.outBase + k * z.slotBytes, pitch := z.w * 6, w := z.w, h := z.h, tag := c.dom, fmt := .rgb16 4 }

/-- FRAME_CHOICE (R249, R17): the choice of one enabled layer of sheet k for the picture that begins at counter value b; a late layer is counted. -/
def State.chooseFrame (s : State) (sh : SheetCfg) (prev b : Nat) (c : LayerCfg) : State :=
  let x := { s.layerAt c.slot with
    use := none, fallback := none, current := false, split := false, gone := false, taps := [], rasterW := 0, rasterH := 0
    useAt := none, fallbackAt := none }
  match c.kind with
  | 2 => s.setLayer c.slot { x with rasterW := c.bw, rasterH := c.bh }
  | 3 => s.setLayer c.slot { x with rasterW := (sheetCfg s.rd 0).w, rasterH := (sheetCfg s.rd 0).h }
  | 4 => s.setLayer c.slot x
  | _ =>
    let f := s.newestWhole c
    let y := match f with
      | some t => { x with use := some t.name, useAt := some (s.frameAt c t.slot), rasterW := t.width, rasterH := t.height }
      | none => x
    if s.srcLate c b then
      (s.setLayer c.slot (if c.trans then x else y)).addSat (Reg.couchLayerCnt c.slot) 31 16 1
    else if !sh.prec && s.srcPhased c sh prev then
      let cur := s.currentOf sh b c
      s.setLayer c.slot { y with
        use := cur.map Token.name, fallback := y.use, current := true
        useAt := cur.map (fun t => s.frameAt c t.slot), fallbackAt := y.useAt
        rasterW := (cur.map (·.width)).getD y.rasterW, rasterH := (cur.map (·.height)).getD y.rasterH }
    else s.setLayer c.slot y

/-- Has the layer anything to compose from in the picture? -/
def LayerSt.has (x : LayerSt) (c : LayerCfg) : Bool :=
  !x.domainOff && (match c.kind with
    | 2 => x.buffer.isSome
    | 3 => true
    | 4 => true
    | _ => x.use.isSome || x.current)

/-- The crop the layer is composed with: x, y, width, height (R232). -/
def LayerSt.crop (x : LayerSt) (c : LayerCfg) : Nat × Nat × Nat × Nat :=
  if c.fit then (0, 0, x.rasterW, x.rasterH) else (c.cx, c.cy, c.cw, c.ch)

/-- The loop of R247 below v taps: the largest t ≥ 2 that fits, starting from t. -/
def fitTaps (fits : Nat → Bool) : Nat → Option Nat
  | 0 => none
  | t + 1 => if t + 1 < 2 then none else if fits (t + 1) then some (t + 1) else fitTaps fits t

/-- The taps of R247 in one band of `a` bytes: (0, 0) when the layer contributes nothing there. -/
def chooseTaps (need : Nat → Nat → Nat) (a h v : Nat) : Nat × Nat :=
  if need h v ≤ a then (h, v)
  else match fitTaps (fun t => decide (need h t ≤ a)) (v - 1) with
    | some t => (h, t)
    | none => if need 1 1 ≤ a then (1, 1) else (0, 0)

/-- TAP_CHOICE (R247): taps of every band; degraded and the event where any band gets other taps, and the most degraded band's shown (R261). -/
def State.chooseTapsOf (s : State) (sh : SheetCfg) (c : LayerCfg) : State :=
  let x := s.layerAt c.slot
  let off := Reg.couchLayerSts c.slot
  if !x.has c then s.setF off 7 0 0
  else
    let cr := x.crop c
    let bands := (List.range 16).map (fun b =>
      let d := c.bandCols sh.h (bandLo c.sheet sh.w b) (bandHi c.sheet sh.w b)
      (d, if c.kind = 4 then (c.th, c.tv)
        else chooseTaps (fun h v => c.need cr.2.2.1 cr.2.2.2 d h v) (allocOf s.rd c.slot b) c.th c.tv))
    let taps := bands.zipIdx.foldl (fun m p => SMap.set (fun _ => (0, 0)) m p.2 p.1.2) ([] : SMap (Nat × Nat))
    let worst := (bands.filter (fun p => p.1 != 0)).foldl
      (fun (m : Option (Nat × Nat)) p => match m with
        | none => some p.2
        | some q => if p.2.1 * p.2.2 < q.1 * q.2 then some p.2 else some q) none
    let w := worst.getD (0, 0)
    let s1 := (s.setLayer c.slot { x with taps := taps }).setF off 7 0 (w.1 * 16 + w.2)
    if bands.any (fun p => p.1 != 0 && p.2 != (c.th, c.tv)) then (s1.setB off 31 true).raiseEvt Reg.couchEvt else s1

/-! ### Buffer posts (R251-R253) -/

/-- BUFFER_POST_EFFECT: the oldest post of layer l takes effect at its sheet's boundary and completes with the picture's number. -/
def State.postEffect (s : State) (n l : Nat) : State :=
  let x := s.layerAt l
  match x.posts with
  | [] => s
  | (buf, q) :: rest =>
    let s1 := s.setLayer l { x with buffer := some buf, posts := rest }
    match (s1.queueOf q).zipIdx.find? (fun p => p.1.started && p.1.kind == 1 && byteAt p.1.bytes 8 == l) with
    | some (_, i) => s1.completeAt q i 0 (some (n % 2 ^ 32))
    | none => s1

/-- Take the first waiting post of pipe b's queue (R251, R252). -/
def State.bufferPost (s : State) (b : Nat) : State :=
  match s.firstWaiting b with
  | none => s
  | some (i, d) =>
    let l := byteAt d.bytes 8
    if d.kind ≠ 1 then s
    else if 64 ≤ l ∨ 2 ≤ byteAt d.bytes 9 ∨ !zeroBytes d.bytes 10 22 ∨ (layerCfg s.rd (l % 64)).kind ≠ 2 then s.completeAt b i 1 none
    else
      let x := s.layerAt l
      (s.startAt b i 0).setLayer l { x with posts := x.posts ++ [(byteAt d.bytes 9, b)] }

/-- Take every post that UCALL has accepted: they count for the boundary that follows (R221, R252). -/
def State.takePosts (s : State) : State :=
  (List.range 16).foldl (fun s b => (List.range (s.queueOf b).length).foldl (fun s _ => s.bufferPost b) s) s

/-- BUFFER_POST. -/
def execBufferPost (b : Fin 16) (s : State) : Host.Outcome State Fault Refusal := .next (s.bufferPost b.val)

/-! ### The frame boundary (R221) -/

/-- Countermark region r's registers are numbered from region 1. -/
def State.cmAt (s : State) (r : Nat) : CmSt := SMap.get (fun _ => CmSt.reset) s.cm r
/-- Store it. -/
def State.setCm (s : State) (r : Nat) (x : CmSt) : State := { s with cm := SMap.set (fun _ => CmSt.reset) s.cm r x }

/-- Has the fallback of region r (1-15) been forced? -/
def State.cmForced (s : State) (r : Nat) : Bool := decide (1 ≤ r) && s.flag (Reg.couchCmSts (r - 1)) 31

/-- Countermark regions at sheet 0's boundary: nothing emitted, nothing checked, the forcing as it stands (R258, R316). -/
def State.cmBegin (s : State) : State :=
  (List.range 15).foldl (fun s i => s.setCm (i + 1) ⟨[], false, s.cmForced (i + 1)⟩) s

/-- Groups whose commit point is sheet k's frame boundary: couch group k; for sheet 0 every imposition group (R19). -/
def boundaryGroups (k : Nat) : List (CommitUnit × Nat) :=
  (.couch, k) :: (if k = 0 then (List.range 513).map (fun g => (CommitUnit.imp, g)) else [])

/-- Begin picture n of sheet k (R221, R227): posts, then frames, then taps. The boundary before is the one the sheet had, or lies one frame
period back (R17, log entry 167). -/
def State.beginPicture (s : State) (k n : Nat) : State :=
  let sh := sheetCfg s.rd k
  let x := s.sheetAt k
  let mine := (layersOf s.rd).filter (fun c => c.sheet == k)
  let on := mine.filter (fun c => c.en)
  let prev := match x.seenAt with
    | some t => if x.seen + 1 = n then t else s.now - periodNs sh.rate
    | none => s.now - periodNs sh.rate
  let s1 := ((s.setSheet k
    { picture := n, begun := true, composed := [], imposed := 0, coarse := decide (5 ≤ s.getF Reg.ladderSts 3 0), start := s.now
      prevStart := prev, seen := n, seenAt := some s.now, set := sh, prevSet := x.set }
    ).setB (Reg.couchSheetSts k) 31 true).wr (Reg.couchSheetPic k) (BitVec.ofNat 32 n)
  let s2 := mine.foldl (fun s c => s.postEffect n c.slot) s1
  let s3 := on.foldl (fun s c => s.chooseFrame sh prev s1.now c) s2
  let s4 := on.foldl (fun s c => s.chooseTapsOf sh c) s3
  if k = 0 then s4.cmBegin else s4

/-- Does the ladder hold a programme sheet to every second frame (R32)? -/
def State.halved (s : State) (k : Nat) : Bool := k != 0 && decide (4 ≤ s.getF Reg.ladderSts 3 0)

/-- FRAME_BOUNDARY of sheet k: acts once for each grid instant, never for one passed over (R445). Where the ladder passes a boundary by no picture
begins and no set takes effect, so that no picture mixes two sets (R221, log entry 167). A set that names another time base or rate begins
its first picture at the boundary that makes it active. -/
def State.frameBoundary (s : State) (k : Nat) : State :=
  let c0 := sheetCfg s.rd k
  let n0 := gridIndex c0.rate (s.timeOf c0.tb)
  let x := s.sheetAt k
  if !c0.en || decide (n0 ≤ x.seen) then s
  else
    let half := s.halved k
    let s0 := if k = 0 then s else s.setB (Reg.couchSheetSts k) 30 half
    if half && x.begun && decide (n0 < x.picture + 2) then s0.setSheet k { x with seen := n0, seenAt := some s.now }
    else
      let s1 := s0.takePosts.commitPoints (boundaryGroups k)
      let c := sheetCfg s1.rd k
      if c.en then s1.beginPicture k (gridIndex c.rate (s1.timeOf c.tb)) else s1

/-- FRAME_BOUNDARY. -/
def execFrameBoundary (k : Fin 4) (s : State) : Host.Outcome State Fault Refusal := .next (s.frameBoundary k.val)

/-! ### Reading a layer (R14, R240, R250, R254) -/

/-- The frame the layer reads now and where it lies: its choice, the frame kept for a SPLIT once one was taken, the current frame once it has begun. -/
def State.layerFrame (s : State) (sh : SheetCfg) (c : LayerCfg) : Option ((Nat × Nat) × SrcFrame) :=
  let x := s.layerAt c.slot
  if x.split then x.fallback.bind (fun f => x.fallbackAt.map (fun a => (f, a)))
  else if x.current && x.use.isNone then
    (s.currentOf sh (s.sheetAt c.sheet).start c).map (fun t => (t.name, s.frameAt c t.slot))
  else x.use.bind (fun f => x.useAt.map (fun a => (f, a)))

/-- Where a layer's pixels lie. -/
def State.srcFrame (s : State) (sh : SheetCfg) (c : LayerCfg) : Option SrcFrame :=
  match c.kind with
  | 0 => (s.layerFrame sh c).map Prod.snd
  | 1 => (s.layerFrame sh c).map Prod.snd
  | 2 =>
    (s.layerAt c.slot).buffer.map (fun b =>
      { base := c.base + b * c.bufBytes, pitch := c.pitch * 32, w := c.bw, h := c.bh, tag := c.dom, fmt := .buffer c.bfmt })
  | 3 =>
    let n := (s.sheetAt c.sheet).picture
    let z := s.pictureSet 0 n
    some { base := z.rowAddr n 0, pitch := z.pitch * 32, w := z.w, h := z.h, tag := c.dom, fmt := .rgb16 (if z.enc = 1 then 1 else 3) }
  | _ => none

/-- Source lines a layer needs for sheet rows y0..y1-1, none when it touches none of them. -/
def LayerSt.lines (x : LayerSt) (c : LayerCfg) (sh : SheetCfg) (tv y0 y1 : Nat) : List Nat :=
  let r := c.rect sh.w sh.h
  let cr := x.crop c
  ((List.range (min y1 r.2.2.2 - max y0 r.2.2.1)).flatMap (fun j =>
    tapCoords tv cr.2.1 cr.2.2.2 c.dh (((max y0 r.2.2.1 + j : Nat) : Int) - c.dy).toNat)).dedup

/-- Have tokens covered these source lines of the layer's frame (R14, R254)? -/
def State.linesReady (s : State) (sh : SheetCfg) (c : LayerCfg) (lines : List Nat) : Bool :=
  let x := s.layerAt c.slot
  match c.kind with
  | 2 => true
  | 4 => true
  | 3 =>
    let z := s.sheetAt 0
    let n := (s.sheetAt c.sheet).picture
    decide (n < z.picture) || (decide (n = z.picture) && z.begun &&
      lines.all (fun l => s.sliceComposed 0 (l / (16 * (s.pictureSet 0 n).sliceRows)) || decide ((s.pictureSet 0 n).h ≤ l)))
  | _ =>
    if !x.current || x.split then true
    else match s.layerFrame sh c with
      | none => false
      | some f =>
        let ts := (s.srcTokens c).filter (fun t => t.name == f.1)
        ts.any (fun t => t.complete) || lines.all (fun l =>
          ts.any (fun t => t.rows == l / 16) || ts.any (fun t => decide (t.height ≤ l)))

/-- The layers of sheet k that read nothing that failed, with their taps in band b. -/
def State.liveLayers (s : State) (k b : Nat) : List (LayerCfg × (Nat × Nat)) :=
  ((layersOn s.rd k).filter (fun c => !(s.layerAt c.slot).gone && (s.layerAt c.slot).has c)).filterMap (fun c =>
    let t := SMap.get (fun _ => (0, 0)) (s.layerAt c.slot).taps b
    if t = (0, 0) then none else some (c, t))

/-- Does a layer's destination lie outside band b? -/
def LayerCfg.outsideBand (c : LayerCfg) (sh : SheetCfg) (b : Nat) : Bool := c.cols (bandLo c.sheet sh.w b) (bandHi c.sheet sh.w b) == 0

/-- Are the rows slice j of band b needs all there (R14)? -/
def State.sliceReady (s : State) (k b j : Nat) : Bool :=
  let sh := sheetCfg s.rd k
  let y0 := j * 16 * sh.sliceRows
  let y1 := min sh.h (y0 + 16 * sh.sliceRows)
  (s.liveLayers k b).all (fun p =>
    p.1.outsideBand sh b || s.linesReady sh p.1 ((s.layerAt p.1.slot).lines p.1 sh p.2.2 y0 y1))

/-- A layer read failed (R250). -/
def State.layerFail (s : State) (l : Nat) (r : MemAcc) : State :=
  let x := s.layerAt l
  let dom := decide (r = .domain)
  ((s.setLayer l { x with gone := true, domainOff := x.domainOff || dom }).setB (Reg.couchLayerSts l) (if dom then 30 else 29) true).raiseEvt
    Reg.couchEvt

/-- Lines a pipe has read of a layer: line number, first column group, bytes. -/
abbrev Fetched := List (Nat × Nat × List Byte)

/-- Read the lines of a frame that a part of a sheet needs, columns x0 to x1 of the source. The first failing read ends it. -/
def State.fetchLines (t : Tx) (f : SrcFrame) (x0 x1 : Nat) : List Nat → State → State × MemAcc × Fetched
  | [], s => (s, .ok, [])
  | l :: ls, s =>
    if f.h ≤ l ∨ f.w ≤ x0 then State.fetchLines t f x0 x1 ls s
    else
      let sp := f.span x0 (min x1 (f.w - 1))
      let r := s.memRead t (f.base + l * f.pitch + sp.1) sp.2
      match r.2.1 with
      | .ok =>
        let q := State.fetchLines t f x0 x1 ls r.1
        (q.1, q.2.1, (l, sp.1 / max 1 f.fmt.group.2, r.2.2) :: q.2.2)
      | e => (r.1, e, [])

/-- One scaled pixel of a layer at sheet position (x, y) (R244). -/
def samplePx (sh : SheetCfg) (c : LayerCfg) (cr : Nat × Nat × Nat × Nat) (t : Nat × Nat) (f : SrcFrame) (got : Fetched)
    (x y : Nat) : Px :=
  let h := tapsAt t.1 cr.1 cr.2.2.1 c.dw ((x : Int) - c.dx).toNat
  let hx := tapCoords t.1 cr.1 cr.2.2.1 c.dw ((x : Int) - c.dx).toNat
  let v := tapsAt t.2 cr.2.1 cr.2.2.2 c.dh ((y : Int) - c.dy).toNat
  let vy := tapCoords t.2 cr.2.1 cr.2.2.2 c.dh ((y : Int) - c.dy).toNat
  filterPx v.2 (vy.map (fun l =>
    match got.find? (fun g => g.1 == l) with
    | some g => filterPx h.2 (hx.map (fun i => if i < f.w then f.pixel sh.peak sh.white g.2.1 g.2.2 i else Px.clear))
    | none => Px.clear))

/-- What a layer gives a part of a sheet: its pixels, by position; none where its destination does not reach. -/
structure LayerPart where
  cfg : LayerCfg
  crop : Nat × Nat × Nat × Nat
  taps : Nat × Nat
  src : Option SrcFrame
  got : Fetched
deriving DecidableEq, Repr

/-- Read what layer c needs for columns x0..x1-1 and rows y0..y1-1; none when a read failed (R250). -/
def State.fetchLayer (s : State) (sh : SheetCfg) (b x0 x1 y0 y1 : Nat) (c : LayerCfg) (t : Nat × Nat) : State × Option LayerPart :=
  let x := s.layerAt c.slot
  let cr := x.crop c
  let r := c.rect sh.w sh.h
  let xa := max x0 r.1
  let xb := min x1 r.2.1
  if xb ≤ xa ∨ min y1 r.2.2.2 ≤ max y0 r.2.2.1 then (s, none)
  else match s.srcFrame sh c with
    | none => (s, if c.kind = 4 then some ⟨c, cr, t, none, []⟩ else none)
    | some f =>
      let cols := (List.range (xb - xa)).flatMap (fun i => tapCoords t.1 cr.1 cr.2.2.1 c.dw (((xa + i : Nat) : Int) - c.dx).toNat)
      let q := State.fetchLines ⟨f.tag, 0x40 + b⟩ f (cols.foldl min (cols.headD 0)) (cols.foldl max 0) (x.lines c sh t.2 y0 y1) s
      match q.2.1 with
      | .ok => (q.1, some ⟨c, cr, t, some f, q.2.2⟩)
      | e => (q.1.layerFail c.slot e, none)

/-- Read what every layer needs, in composition order. -/
def State.fetchAll (sh : SheetCfg) (b x0 x1 y0 y1 : Nat) : List (LayerCfg × (Nat × Nat)) → State → State × List LayerPart
  | [], s => (s, [])
  | p :: ps, s =>
    let r := s.fetchLayer sh b x0 x1 y0 y1 p.1 p.2
    let q := State.fetchAll sh b x0 x1 y0 y1 ps r.1
    (q.1, r.2.toList ++ q.2)

/-- Composition order (R255): order field, then slot; in a safety region every safety layer above all others. -/
def composeOrder (safety : Bool) (ls : List (LayerCfg × (Nat × Nat))) : List (LayerCfg × (Nat × Nat)) :=
  let key := fun (c : LayerCfg) => (if safety && c.dom == 2 then 64 * 64 else 0) + c.order * 64 + c.slot
  ls.mergeSort (fun a b => decide (key a.1 ≤ key b.1))

/-- One composed pixel in working values (R241). -/
def composePx (sh : SheetCfg) (parts : List LayerPart) (x y : Nat) : Nat × Nat × Nat :=
  parts.foldl (fun acc p =>
    let r := p.cfg.rect sh.w sh.h
    if x < r.1 ∨ r.2.1 ≤ x ∨ y < r.2.2.1 ∨ r.2.2.2 ≤ y then acc
    else match p.src with
      | none =>
        let w := fillWork sh.peak p.cfg.fill
        blendPx p.cfg (Px.inside w 0xFFFF) acc
      | some f => blendPx p.cfg (samplePx sh p.cfg p.crop p.taps f p.got x y) acc) (fillWork sh.peak sh.bg)

/-! ### Composing a slice -/

/-- The safety region of canvas leaf (lx, ly): that of its entry, if the entry is valid (R255). -/
def State.leafRegion (s : State) (lx ly : Nat) : Nat :=
  let e := SMap.get (fun _ => (0 : BitVec 64)) s.table (ly * 1024 + lx)
  if entValid e then entRegion e else 0

/-- The bytes of a programme row from column x0 on (R223, R242): pgroups of Cb, Y0, Cr, Y1, chroma from its neighbours' full-resolution values,
the nearest column standing in for one outside the sheet. -/
def progRow (sh : SheetCfg) (px : Nat → Nat × Nat × Nat) (x0 n : Nat) : List Byte :=
  (List.range (n / 2)).flatMap (fun j =>
    let x := x0 + 2 * j
    let l := px (x - 1)
    let m := px x
    let r := px (min (x + 1) (sh.w - 1))
    let y0 := progComp sh m 0
    let y1 := progComp sh r 0
    let cb := chroma121 (progComp sh l 1) (progComp sh m 1) (progComp sh r 1)
    let cr := chroma121 (progComp sh l 2) (progComp sh m 2) (progComp sh r 2)
    let i : List Int := [sh.enc, sh.col, sh.peak, sh.white, m.1, m.2.1, m.2.2, r.1, r.2.1, r.2.2, l.1, l.2.1, l.2.2]
    beBytes 5 (((progOut 12 i cb * 1024 + progOut 13 i y0) * 1024 + progOut 14 i cr) * 1024 + progOut 15 i y1))

/-- Compose one leaf's part inside band b, columns x0..x1-1, rows y0..y1-1, and write it to the picture's slot (R223, R241, R242, R256). -/
def State.composeLeaf (s : State) (k b x0 x1 y0 y1 : Nat) : State :=
  let sh := sheetCfg s.rd k
  let n := (s.sheetAt k).picture
  let region := if k = 0 then s.leafRegion (x0 / 16) (y0 / 16) else 0
  let xa := if k = 0 then x0 else x0 - 1
  let xb := if k = 0 then x1 else min sh.w (x1 + 1)
  let ls := composeOrder (region != 0) (s.liveLayers k b)
  let r := State.fetchAll sh b xa xb y0 y1 ls s
  let px := fun y x => composePx sh r.2 x y
  let rows := (List.range (y1 - y0)).map (fun j =>
    (y0 + j,
      if k = 0 then (List.range (x1 - x0)).flatMap (fun i => canvasBytes sh (px (y0 + j) (x0 + i)))
      else progRow sh (px (y0 + j)) x0 (x1 - x0)))
  let s1 := rows.foldl (fun s p =>
    (s.memWrite ⟨4, 0x40 + b⟩ (sh.rowAddr n p.1 + (if k = 0 then x0 * 6 else x0 / 2 * 5)) p.2).1) r.1
  if region = 0 || !s.flag (Reg.couchCmCfg (region - 1)) 31 then s1
  else
    let m := s1.cmAt region
    s1.setCm region { m with
      leaves := SMap.set (fun _ => []) m.leaves (y0 / 16 * 1024 + x0 / 16) (rows.flatMap Prod.snd) }

/-- The canvas leaves of region r inside the raster. -/
def State.regionLeaves (s : State) (r : Nat) : List Nat :=
  let sh := sheetCfg s.rd 0
  (s.table.filter (fun p => entValid p.2 && entRegion p.2 == r && decide (p.1 % 1024 < sh.w / 16) && decide (p.1 / 1024 < sh.h / 16))).map
    Prod.fst

/-- Force region r's fallback (R257, R336): cause 1 is the checker, other causes a receiver's echo. Alarm, host event and couch event. -/
def State.forceRegion (s : State) (r cause ch rx n v e m : Nat) : State :=
  let off := Reg.couchCmSts (r - 1)
  ((((((s.setB off 31 true).setB off 30 (cause == 1)).setB off 29 (cause != 1)).claspAlarm r cause ch rx n v e m).hostEvent 0x06
    (r + cause % 8 * 16)).raiseEvt Reg.couchEvt)

/-- The countermark of a region and picture (R256). -/
def countermark (v r n : Nat) : Nat := crc32c (leBytes 4 v ++ leBytes 4 r ++ leBytes 4 n)

/-- COUNTERMARK_CHECK of region r over the leaves emitted (R256, R257). -/
def State.cmCheck (s : State) (r : Nat) : State :=
  let i := r - 1
  let x := s.cmAt r
  let n := (s.sheetAt 0).picture % 2 ^ 32
  let cfg := s.rd (Reg.couchCmCfg i)
  let v := if x.leaves.isEmpty then 0 else crc32c (x.leaves.flatMap Prod.snd)
  let e := (s.rd (Reg.couchCmExp i ((n + 2 ^ 32 - fld cfg 6 4) % 2 ^ 32 % max 1 (fld cfg 3 0)))).toNat
  let m := countermark v r n
  let s1 := (((s.setCm r { x with checked := true }).setB (Reg.couchCmSts i) 28 (v == e)).wr (Reg.couchCmLast i) (BitVec.ofNat 32 m)).wr
    (Reg.couchCmPic i) (BitVec.ofNat 32 n)
  if v = e then s1
  else (s1.addSat (Reg.couchCmSts i) 15 0 1).forceRegion r 1 0 0 n v e m

/-- Has every leaf of the picture been composed? -/
def State.pictureComposed (s : State) : Bool := s.sliceComposed 0 ((sheetCfg s.rd 0).slices - 1)

/-- Check every enabled region whose last leaf has been composed; one without leaves when the picture is done. -/
def State.cmChecks (s : State) : State :=
  (List.range 15).foldl (fun s i =>
    let x := s.cmAt (i + 1)
    let ls := s.regionLeaves (i + 1)
    if !s.flag (Reg.couchCmCfg i) 31 || x.checked then s
    else if (if ls.isEmpty then s.pictureComposed else decide (ls.length ≤ x.leaves.length)) then s.cmCheck (i + 1)
    else s) s

/-- Parts of leaves in columns lo..hi-1: first and last column of each. -/
def leafParts (lo hi : Nat) : List (Nat × Nat) :=
  (blocks 16 lo (hi - lo)).map (fun j => (max lo (16 * j), min hi (16 * j + 16)))

/-- COMPOSE_SLICE: band b composes slice j of sheet k's picture, leaf row by leaf row, once the rows it needs are there (R14, R229). -/
def State.composeSlice (s : State) (k b j : Nat) : State :=
  let sh := sheetCfg s.rd k
  let x := s.sheetAt k
  let lo := bandLo k sh.w b
  let hi := bandHi k sh.w b
  if !x.begun || decide (hi ≤ lo) || decide (sh.slices ≤ j) || SMap.get (fun _ => 0) x.composed b != j || !s.sliceReady k b j then s
  else
    let y0 := j * 16 * sh.sliceRows
    let y1 := min sh.h (y0 + 16 * sh.sliceRows)
    let s1 := (leafParts y0 y1).foldl (fun s r => (leafParts lo hi).foldl (fun s c => s.composeLeaf k b c.1 c.2 r.1 r.2) s) s
    let z := s1.sheetAt k
    let s2 := s1.setSheet k { z with composed := SMap.set (fun _ => 0) z.composed b (j + 1) }
    if k = 0 then
      let s3 := if s2.sliceComposed 0 j then { s2 with sys := { s2.sys with ladderSlices := min 16 (s2.sys.ladderSlices + 1) } } else s2
      s3.cmChecks
    else s2

/-- COMPOSE_SLICE. -/
def execComposeSlice (k : Fin 4) (b : Fin 16) (slice : BitVec 10) (s : State) : Host.Outcome State Fault Refusal :=
  .next (s.composeSlice k.val b.val slice.toNat)

/-- Latest start of slice j of sheet k's picture (R17), in 2⁻¹⁶ ns of its time base: its presentation time less 20 lines + 10 µs and the path
allowance of R457. -/
def State.latestStart (s : State) (k j : Nat) : Int :=
  let sh := sheetCfg s.rd k
  (sh.presents (s.sheetAt k).picture j : Int) - sh.lines 20 - (10000 * 0x10000 : Nat) - ((s.rd (Reg.timeAllow k)).toNat * 0x10000 : Nat)

/-- SLICE_LATEST_START (R17): layers that still miss rows of slice j are completed from their last complete frame, each counted as a SPLIT. -/
def State.sliceLatest (s : State) (k j : Nat) : State :=
  let sh := sheetCfg s.rd k
  let y0 := j * 16 * sh.sliceRows
  let y1 := min sh.h (y0 + 16 * sh.sliceRows)
  if !(s.sheetAt k).begun || sh.prec || decide (sh.slices ≤ j) || decide ((s.timeOf sh.tb : Int) < s.latestStart k j) then s
  else
    (List.range 16).foldl (fun s b =>
      if SMap.get (fun _ => 0) (s.sheetAt k).composed b ≠ j then s
      else (s.liveLayers k b).foldl (fun s p =>
        let x := s.layerAt p.1.slot
        let need := x.lines p.1 sh p.2.2 y0 y1
        if x.current && !x.split && !need.isEmpty && !p.1.outsideBand sh b && !s.linesReady sh p.1 need then
          (s.setLayer p.1.slot { x with split := true }).addSat (Reg.couchLayerCnt p.1.slot) 15 0 1
        else s) s) s

/-- SLICE_LATEST_START. -/
def execSliceLatestStart (k : Fin 4) (slice : BitVec 10) (s : State) : Host.Outcome State Fault Refusal :=
  .next (s.sliceLatest k.val slice.toNat)

/-- COUCH_CM_FORCED_CLEAR (R258, R260): a safety-tagged write clears forced where it has a 1. -/
def execCouchCmForcedClear (ini : Ini) (r : Fin 15) (v : Word) (s : State) : Host.Outcome State Fault Refusal :=
  .next (s.gatedWrite ini (Reg.couchCmSts r) v (fun s => if bit v 31 then s.setB (Reg.couchCmSts r) 31 false else s))

end Sys2Proof.Machine
end

