-- ==== Sys2Proof/Machine/Imposition.lean ====
section
/-! DEFINITION. Imposition: the table window, staging, calibration sets, forming folio rows (R306-R320). -/

namespace Sys2Proof.Machine

/-! ### The table window (R144, R308, R309) -/

/-- Entries of the window. -/
def tableEntries : Nat := 589824

/-- May this transaction reach the window at all (R141): an engine, Clasp or imposition? -/
def tableInitiator (t : Tx) : Bool := decide (t.port < 0x40) || decide (t.port = 0xC1) || decide (t.port = 0x60)

/-- Store one entry: staged while sheet 0 runs or where one is staged already, else at once. -/
def State.storeEntry (s : State) (i : Nat) (e : BitVec 64) : State :=
  if s.flag (Reg.couchSheetCtrl 0) 31 || (SMap.get (fun _ => (none : Option (BitVec 64))) s.staged i).isSome then
    let s1 := { s with staged := SMap.set (fun _ => (none : Option (BitVec 64))) s.staged i (some e) }
    s1.setF Reg.impSts 14 0 s1.staged.length
  else { s with table := SMap.set (fun _ => (0 : BitVec 64)) s.table i e }

/-- Write entries from index i on: the whole write or nothing (R144, R308, R309). -/
def State.tableWrite (s : State) (t : Tx) (i : Nat) (es : List (BitVec 64)) : State × MemAcc :=
  let addr := 0x40000000 + 8 * i
  let at_ := es.zipIdx.map (fun p => (i + p.2, p.1))
  let fresh := at_.filter (fun p => (SMap.get (fun _ => (none : Option (BitVec 64))) s.staged p.1).isNone)
  let barred := at_.any (fun p => decide (t.tag ≠ 2) && (s.entrySafety p.1 || entRegion p.2 != 0))
  if tableEntries < i + es.length then (s, .range)
  else if !tableInitiator t then
    (s.violation t true addr (if at_.any (fun p => s.entrySafety p.1) then 2 else 1), .domain)
  else if barred then (s.violation t true addr 2, .domain)
  else if s.flag (Reg.couchSheetCtrl 0) 31 then
    if 16384 < s.staged.length + fresh.length then ((s.addSat Reg.impCnt 31 24 1).raiseEvt Reg.impEvt, .error)
    else (at_.foldl (fun s p => s.storeEntry p.1 p.2) s, .ok)
  else if at_.any (fun p => entBad s.rd p.2) then (s, .error)
  else (at_.foldl (fun s p => s.storeEntry p.1 p.2) s, .ok)

/-- Bytes of the window. -/
def State.tableRead (s : State) (t : Tx) (a n : Nat) : State × MemAcc × List Byte :=
  if a % 8 ≠ 0 ∨ n % 8 ≠ 0 then (s, .error, [])
  else
    let i := (a - 0x40000000) / 8
    if !tableInitiator t then
      (s.violation t false a (if (List.range (n / 8)).any (fun k => s.entrySafety (i + k)) then 2 else 1), .domain, [])
    else (s, .ok, (List.range (n / 8)).flatMap (fun k => leBytes 8 (s.tableEntry (i + k)).toNat))

/-- How a bus access that ended so is answered (R142, R155). -/
def MemAcc.resp : MemAcc → Resp
  | .ok => .ok 0
  | .domain => .domain
  | .stall => .stall
  | _ => .busError

/-- IMP_TABLE_WRITE. -/
def execImpTableWrite (ini : Ini) (index : BitVec 20) (vals : List (BitVec 64)) (s : State) : Host.Outcome State Fault Refusal :=
  .next (
    let r := s.tableWrite (Tx.ofIni ini) index.toNat vals
    r.1.answer r.2.resp)

/-! ### Calibration (R313-R315) -/

/-- The identity set. -/
def calIdentity : List Byte := [0, 0x40, 0, 0, 0, 0, 0, 0, 0, 0x40, 0, 0, 0, 0, 0, 0, 0, 0x40] ++ List.replicate 14 0

/-- Bytes of set k as the active sets hold it: the owner's from CAL_LOAD, the safety authority's from IMP_CAL. -/
def State.calSet (s : State) (k : Nat) : List Byte :=
  if k < 4032 then SMap.get (fun _ => calIdentity) s.calAct k
  else (List.range 8).flatMap (fun w => leBytes 4 (s.rd (Reg.impCal (k - 4032) w)).toNat)

/-- One pixel calibrated (R313). -/
def calPixel (pq : Bool) (set : List Byte) (p : Nat × Nat × Nat) : List Nat :=
  let m := fun k => signed 16 (leAt set (2 * k) 2)
  (List.range 3).map (fun i =>
    let c := (m (3 * i) * p.1 + m (3 * i + 1) * p.2.1 + m (3 * i + 2) * p.2.2 + 8192) / 16384 + m (9 + i)
    (clampI 0 (if pq then 4095 else 65535) c).toNat)

/-- CAL_LOAD (R315). An unaligned address is BAD_FIELD even when count is 0: DESIGN CHOICE, log entry 180 (R82, R315). -/
def State.calLoad (s : State) : State :=
  match s.firstWaiting 0x20 with
  | none => s
  | some (i, d) =>
    let addr := leAt d.bytes 8 6
    let first := leAt d.bytes 14 2
    let n := leAt d.bytes 16 2
    if d.kind ≠ 1 then s
    else if !zeroBytes d.bytes 18 14 || decide (256 < n) || decide (4032 < first + n) || decide (addr % 32 ≠ 0)
        || (n != 0 && regionOf addr (32 * n) != .ss) then s.completeAt 0x20 i 1 none
    else
      let r := s.memRead ⟨1, 0x60⟩ addr (32 * n)
      match r.2.1 with
      | .ok =>
        let sets := (List.range n).map (fun k => (r.2.2.drop (32 * k)).take 32)
        if sets.any (fun b => !zeroBytes b 24 8) then r.1.completeAt 0x20 i 1 none
        else
          State.completeAt { r.1 with
            calShd := SMap.setList (fun _ => calIdentity) r.1.calShd first sets } 0x20 i 0 none
      | .domain => r.1.completeAt 0x20 i 2 none
      | _ => r.1.completeAt 0x20 i 3 none

/-- CAL_LOAD. -/
def execCalLoad (s : State) : Host.Outcome State Fault Refusal := .next s.calLoad

/-! ### Forming folio rows (R307, R311, R312, R316) -/

/-- A table entry with its index. -/
abbrev Placed := Nat × BitVec 64

/-- The folio of an entry. -/
def entFolio (e : BitVec 64) : Nat := 16 * entCh e + entRx e
/-- The folio leaf of an entry. -/
def entPlace (e : BitVec 64) : Nat × Nat × Nat := (entFolio e, entX e, entY e)

/-- Valid entries inside sheet 0's raster, in ascending index. -/
def State.insideEntries (s : State) : List Placed :=
  let sh := sheetCfg s.rd 0
  s.table.filter (fun p => entValid p.2 && decide (p.1 % 1024 < sh.w / 16) && decide (p.1 / 1024 < sh.h / 16))

/-- Is a valid entry ignored and counted as outside (R307)? -/
def State.entOutside (s : State) (e : BitVec 64) : Bool :=
  let r := s.rd (Reg.wchRx (entCh e) (entRx e))
  !bit r 31 || decide (fld r 17 9 ≤ entX e) || decide (fld r 8 0 ≤ entY e) || entOrient e != fld r 30 28

/-- The entries that map: the one of highest index at each folio leaf. -/
def State.mapped (s : State) : List Placed :=
  let es := s.insideEntries.filter (fun p => !s.entOutside p.2)
  es.filter (fun p => !es.any (fun q => decide (p.1 < q.1) && entPlace p.2 == entPlace q.2))

/-- Samples of canvas leaf (cx, cy) of the picture, read with the wall tag: R, G, B of each pixel in raster order. -/
def State.canvasLeaf (s : State) (sh : SheetCfg) (n cx cy : Nat) : State × List Nat :=
  (List.range 16).foldl (fun (a : State × List Nat) j =>
    let r := a.1.readFree ⟨4, 0x60⟩ (sh.rowAddr n (16 * cy + j) + cx * 96) 96
    (r.1, a.2 ++ leWords r.2)) (s, [])

/-- The fallback of region r for entry i (R316): the fill colour, or its leaf of the image. A read that fails gives the fill colour, the
imposition event and an alarm. -/
def State.fallbackLeaf (s : State) (sh : SheetCfg) (r i : Nat) : State × List Nat :=
  let c := s.rd (Reg.impFbCfg (r - 1))
  let fill := (List.replicate 256 (sh.fillCode (fillCodes c))).flatten
  if !bit c 31 then (s, fill)
  else
    let k := (s.table.filter (fun p => entValid p.2 && entRegion p.2 == r && decide (p.1 < i))).length
    let base := s.getF (Reg.impFbHi (r - 1)) 15 0 * 2 ^ 32 + s.getF (Reg.impFbLo (r - 1)) 31 8 * 256
    let q := s.memRead ⟨2, 0x60⟩ (base + 1536 * k) 1536
    if q.2.1 = .ok then (q.1, leWords q.2.2)
    else ((q.1.raiseEvt Reg.impEvt).claspAlarm r 4 0 0 ((s.sheetAt 0).picture % 2 ^ 32) 0 0 0, fill)

/-- Canvas pixel (column, row) that lands at pixel (u, v) of a folio leaf (R312). -/
def turned (orient u v : Nat) : Nat × Nat :=
  let q := match orient % 4 with
    | 0 => (u, v)
    | 1 => (v, 15 - u)
    | 2 => (15 - u, 15 - v)
    | _ => (15 - v, u)
  (if 4 ≤ orient then 15 - q.1 else q.1, q.2)

/-- A leaf turned, mirrored and calibrated (R312, R313). -/
def placeLeaf (pq : Bool) (orient : Nat) (set : List Byte) (px : List Nat) : List Nat :=
  (List.range 256).flatMap (fun i =>
    let p := turned orient (i % 16) (i / 16)
    let k := (p.2 * 16 + p.1) * 3
    calPixel pq set (px.getD k 0, px.getD (k + 1) 0, px.getD (k + 2) 0))

/-- The leaf of one entry, and whether it was substituted. -/
def State.formLeaf (s : State) (sh : SheetCfg) (n : Nat) (p : Placed) : State × List Nat × Bool :=
  let r := entRegion p.2
  let sub := r != 0 && (s.cmAt r).inForce
  let q := if sub then s.fallbackLeaf sh r p.1 else s.canvasLeaf sh n (p.1 % 1024) (p.1 / 1024)
  (q.1, placeLeaf (sh.enc == 1) (entOrient p.2) (s.calSet (entCal p.2)) q.2, sub)

/-- The version folio f's rows of picture n are formed at (R332). -/
def State.formVersion (s : State) (f n : Nat) : Nat :=
  if (n + 1) % 2 ^ 32 = (s.rxAt f).fromPicture then (s.rxAt f).prevVer else s.rxVersion f

/-- The press reads bytes 0-31 of a folio's entry when it forms the picture's first row (R285); none when the read fails. -/
def State.readEntry (s : State) (f n : Nat) : State :=
  match s.folioCtx with
  | none => s
  | some c =>
    if (s.rxAt f).entryPic = some n then s
    else
      let z := ctxCfg s.rd c
      let r := s.memRead ⟨1, z.port⟩ (ssBase + z.table + 64 * f) 32
      r.1.setRx f { r.1.rxAt f with entry := if r.2.1 = .ok then r.2.2 else [], entryPic := some n }

/-- The pipe a new segment is dealt to (R279): of the mask, the one with the fewest segments waiting, the lowest of equals (log entry 39). -/
def State.dealPipe (s : State) : Nat :=
  match s.folioCtx with
  | none => 0
  | some c =>
    let load := fun (b : Nat) => (s.rx.map (fun r => (r.2.rows.filter (fun w => w.pipe == b)).length)).sum
    (((pipesOf (ctxCfg s.rd c).mask).foldl (fun (best : Option Nat) b => match best with
      | none => some b
      | some a => if load b < load a then some b else some a) none)).getD 0

/-- Form row y of folio f in slice j of picture n and hand it to the press (R311). A leaf without an entry is FILL with every component 0 (R307). -/
def State.formRow (s : State) (es : List Placed) (n j f y : Nat) : State :=
  let sh := sheetCfg s.rd 0
  let x := s.sheetAt 0
  let ver := s.formVersion f n
  if ver = 0 then s
  else
    let s0 := s.readEntry f n
    let w := s0.getF (Reg.wchRx (f / 16) (f % 16)) 17 9
    let at_ := (List.range w).map (fun lx => es.find? (fun p => entPlace p.2 == (f, lx, y)))
    let q := at_.foldl (fun (a : State × List (List Nat) × List Bool) p =>
      match p with
      | none => (a.1, a.2.1 ++ [List.replicate 768 0], a.2.2 ++ [true])
      | some p =>
        let r := a.1.formLeaf sh n p
        (r.1, a.2.1 ++ [r.2.1], a.2.2 ++ [r.2.2])) (s0, [], [])
    let bitOf := fun b => at_.map (fun p => match p with | some p => p.2.getLsbD b | none => false)
    let t := sh.presents n j
    let row : FolioRow :=
      { y := y, slice := j, picture := n, ptS := ptSec t, ptNs := ptNs t, due := t,
        deadline := (t : Int) - ((s.rd (Reg.timeAllow 0)).toNat * 0x10000 : Nat), w := w,
        h := s0.getF (Reg.wchRx (f / 16) (f % 16)) 8 0, samples := rowSamples q.2.1, static := bitOf 49, raw := bitOf 50,
        region := at_.map (fun p => match p with | some p => entRegion p.2 | none => 0), forced := q.2.2, ver := ver,
        prec := sh.prec, coarse := x.coarse, step := s.getF Reg.ladderSts 3 0,
        entry := (q.1.rxAt f).entry, pipe := q.1.dealPipe }
    let r := q.1.rxAt f
    if q.1.folioCtx.isSome then
      q.1.setRx f { r with
        rows := r.rows ++ [row], formedPic := some (n % 2 ^ 32)
        prevVer := if n % 2 ^ 32 = r.fromPicture then ver else r.prevVer }
    else q.1

/-- The rows completed by slice j: folio and row whose last canvas leaf row lies in rows lo..hi, folios ascending, rows ascending. -/
def rowsOfSlice (es : List Placed) (lo hi : Nat) : List (Nat × Nat) :=
  let here := es.filter (fun p => decide (lo ≤ p.1 / 1024) && decide (p.1 / 1024 ≤ hi))
  let rows := (here.map (fun p => (entFolio p.2, entY p.2))).dedup
  (rows.filter (fun r => !es.any (fun p => decide (hi < p.1 / 1024) && entFolio p.2 == r.1 && entY p.2 == r.2))).mergeSort
    (fun a b => decide (a.1 < b.1) || (decide (a.1 = b.1) && decide (a.2 ≤ b.2)))

/-- FORM_FOLIO_ROW: the last leaf row of a composed slice is walked; the slice's folio rows are formed and its ignored entries counted. -/
def State.formFolioRow (s : State) (cy : Nat) : State :=
  let sh := sheetCfg s.rd 0
  let x := s.sheetAt 0
  let j := cy / sh.sliceRows
  let lo := j * sh.sliceRows
  let hi := min (lo + sh.sliceRows) (ceilDiv sh.h 16) - 1
  if !sh.en || !x.begun || decide (cy ≠ hi) || decide (x.imposed ≠ j) || decide (sh.slices ≤ j) || !s.sliceComposed 0 j then s
  else
    let inSlice := fun (p : Placed) => decide (lo ≤ p.1 / 1024) && decide (p.1 / 1024 ≤ hi)
    let good := s.insideEntries.filter (fun p => !s.entOutside p.2)
    let es := s.mapped
    let out := (s.insideEntries.filter (fun p => inSlice p && s.entOutside p.2)).length
    let dup := (good.filter (fun p => inSlice p && !es.contains p)).length
    let s1 := ((s.addSat Reg.impCnt 11 0 out).addSat Reg.impCnt 23 12 dup).setSheet 0 { x with imposed := j + 1 }
    (rowsOfSlice es lo hi).foldl (fun s r => s.formRow es x.picture j r.1 r.2) s1

/-- FORM_FOLIO_ROW. -/
def execFormFolioRow (cy : Fin 576) (s : State) : Host.Outcome State Fault Refusal := .next (s.formFolioRow cy.val)

end Sys2Proof.Machine
end

