-- ==== Sys2Proof/Machine/Press.lean ====
section
/-! DEFINITION. The press: folio pictures, references, keys and refreshes, statistics, KEY and PIN descriptors, packets (R264-R299, R327, R336). -/

namespace Sys2Proof.Machine

/-! ### The folio table and the reference store (R284, R285, R290) -/

/-- Bytes of one reference plane. -/
def planeBytes (w h : Nat) : Nat := roundUp (2016 * w * h) 256

/-- May an entry be trusted (R285): reserved bytes zero, store inside the reference region? -/
def CtxCfg.trusts (z : CtxCfg) (e : List Byte) (w h : Nat) : Bool :=
  e.length == 32 && decide (byteAt e 4 < 64) && decide (byteAt e 5 < 4) && decide (byteAt e 6 < 16) && byteAt e 7 == 0 && zeroBytes e 12 20
    && decide (256 * leAt e 8 4 + 6 * planeBytes w h ≤ z.refSize * 0x100000)

/-- Far address of plane j of a folio's store. -/
def CtxCfg.planeAddr (z : CtxCfg) (e : List Byte) (w h j : Nat) : Nat := z.refBase + 256 * leAt e 8 4 + j * planeBytes w h

/-- Pixels of a plane, at its stored depth, read by pipe b. -/
def State.readPlane (s : State) (b a w h : Nat) : State × List Nat :=
  let r := s.readFree ⟨4, 0x50 + b⟩ a (1536 * w * h)
  (r.1, leWords r.2)

/-- Write 16-bit words. -/
def State.writeWords (s : State) (t : Tx) (a : Nat) (ws : List Nat) : State := (s.memWrite t a (ws.flatMap (leBytes 2))).1

/-- Rows of leaf rows ys of a raster held in raster order. -/
def rasterRow (w : Nat) (ss : List Nat) (y : Nat) : List Nat := (ss.drop (y * 16 * 16 * w * 3)).take (16 * 16 * w * 3)

/-- Half- and quarter-resolution planes of a raster (R287). -/
def pyramid (w h : Nat) (ss : List Nat) : List Nat :=
  [2, 4].flatMap (fun k =>
    (List.range (16 * h / k * (16 * w / k) * 3)).map (fun i =>
      let wk := 16 * w / k
      meanAt k w h ss ((i / 3 % wk : Nat) : Int) ((i / 3 / wk : Nat) : Int) (i % 3)))

/-! ### KEY and PIN (R277, R278) -/

/-- Take the first waiting KEY or PIN of pipe b's queue into its context's arbiter, or complete it at once. -/
def State.pressDesc (s : State) (b kind : Nat) : State :=
  let q := 0x10 + b
  match s.firstWaiting q with
  | none => s
  | some (i, d) =>
    let c := byteAt d.bytes 8
    let m := byteAt d.bytes 9
    let first := leAt d.bytes 10 2
    let n := leAt d.bytes 12 2
    let slot := m % 8
    let z := ctxCfg s.rd (c % 64)
    if d.kind ≠ kind then s
    else if 64 ≤ c ∨ 32 ≤ m ∨ 0x2000 ≤ first ∨ 0x4000 ≤ n ∨ !zeroBytes d.bytes 14 18 ∨ 8192 < first + n
        ∨ (kind = 1 ∧ (slot ≠ 0 ∨ m.testBit 3)) ∨ (kind = 2 ∧ (slot = 0 ∨ 4 < slot ∨ m.testBit 4)) then s.completeAt q i 1 none
    else if n = 0 then s.completeAt q i 0 none
    else if !z.en || z.kind == 1 || z.kind == 3 then s.completeAt q i 2 none
    else if z.kind = 2 ∧ (first ≠ 0 ∨ n ≠ 1 ∨ (kind = 2 ∧ 1 < slot)) then s.completeAt q i 1 none
    else
      let s1 := s.startAt q i 0
      { s1 with keyReqs := s1.keyReqs ++ [⟨c, q, kind == 2, slot, m.testBit 3, m.testBit 4, (List.range n).map (· + first), d.bytes⟩] }

/-- KEY. -/
def execKey (b : Fin 16) (s : State) : Host.Outcome State Fault Refusal := .next (s.pressDesc b.val 1)
/-- PIN. -/
def execPin (b : Fin 16) (s : State) : Host.Outcome State Fault Refusal := .next (s.pressDesc b.val 2)

/-- What the requests that reach a folio's next picture come to: the pinned slot, the slots released. -/
structure PinSt where
  pin : Nat
  unpin : Nat

/-- A request has reached folio f at picture n; the last folio completes the descriptor (R278). -/
def State.reached (s : State) (r : KeyReq) (f n : Nat) : State :=
  let left := r.left.filter (fun g => g != f)
  if left.isEmpty then
    let s1 := { s with keyReqs := s.keyReqs.erase r }
    match (s1.queueOf r.queue).zipIdx.find? (fun p => p.1.started && p.1.bytes == r.bytes) with
    | some (_, i) => s1.completeAt r.queue i 0 (some (n % 2 ^ 32))
    | none => s1
  else { s with keyReqs := s.keyReqs.map (fun x => if x = r then { r with left := left } else x) }

/-- One request of the arbiter at folio f's picture n. `top` is the highest slot its version has. A PIN waits for a picture that is stored (R285, log
entry 168); of a PIN and an unpin of one slot the later one wins, but the slot is released either way (R278, R291). -/
def State.takeReq (f n top : Nat) (hevc stores : Bool) (a : State × PinSt) (r : KeyReq) : State × PinSt :=
  let s := a.1
  let p := a.2
  let bitj := 2 ^ (r.slot - 1)
  if !r.pin then
    ((if hevc then s.requestCtxKey r.keep r.ctx else s.requestKey r.keep f).reached r f n, p)
  else if top < r.slot then (s.reached r f n, p)
  else if r.unpin then
    (s.reached r f n, ⟨if p.pin = r.slot then 0 else p.pin, Nat.lor p.unpin bitj⟩)
  else if stores ∧ (p.pin = 0 ∨ p.pin = r.slot) then (s.reached r f n, ⟨r.slot, p.unpin⟩)
  else a

/-- Every request of context c that names folio f, in arbiter order. -/
def State.takeReqs (s : State) (c f n top : Nat) (hevc stores : Bool) : State × PinSt :=
  (s.keyReqs.filter (fun r => r.ctx == c && r.left.contains f)).foldl (State.takeReq f n top hevc stores) (s, ⟨0, 0⟩)

/-! ### A folio's picture (R283, R285, R296-R299) -/

/-- Highest long-term slot of a version (R348). -/
def slotTop (ver : Nat) : Nat := if ver = 1 then 0 else if ver = 2 then 2 else 4

/-- 250 ms in counts. -/
def keyGap : Nat := 250000000

/-- The bytes of a statistics record (R292). -/
def recordBytes (r : PicRec) (budget qp flags n : Nat) : List Byte :=
  leBytes 4 r.bits ++ leBytes 4 budget ++ leBytes 4 qp ++ leBytes 2 flags ++ leBytes 2 r.normUnits ++ leBytes 4 r.normBits
    ++ leBytes 2 r.nSkip ++ leBytes 2 r.nIntra ++ leBytes 4 (min r.sad 0xFFFFFFFF) ++ leBytes 4 n

/-- End a folio's picture at pipe b: rows never formed repeat the short-term plane, references are stored and pinned, the refresh advances, the record is
written (R290-R292, R297). -/
def State.endFolio (s : State) (b c f : Nat) : State :=
  let z := ctxCfg s.rd c
  let t : Tx := ⟨4, 0x50 + b⟩
  let x := s.rxAt f
  let p := x.pic
  if !p.isOpen then s
  else
    let w := x.tileW
    let h := x.tileH
    let cur := z.planeAddr p.entry w h (1 - x.stPlane)
    let marked := p.concealed && !p.key
    let s1 :=
      if !p.trusted then s
      else
        let old := s.readPlane b (z.planeAddr p.entry w h x.stPlane) w h
        let od := SMap.get (fun _ => p.depth) x.depths x.stPlane
        let s0 := ((List.range h).filter (fun y => !p.rows.contains y)).foldl (fun s y =>
          s.writeWords t (cur + y * 1536 * w)
            (if x.stValid then (rasterRow w old.2 y).map (redepth od p.depth) else List.replicate (768 * w) 0)) old.1
        let new := s0.readPlane b cur w h
        let s2 := new.1.writeWords t (cur + 1536 * w * h) (pyramid w h new.2)
        if p.pin = 0 then s2
        else s2.writeWords t (z.planeAddr p.entry w h (p.pin + 1)) (new.2 ++ pyramid w h new.2)
    let ends := match p.refresh with | some r => !p.dirty && decide (r.2 ≤ r.1 + 1) | none => false
    let mark := marked && !ends
    let x' := { s1.rxAt f with
      pic := { p with isOpen := false }
      lastPic := p.number
      wasTrusted := p.trusted
      stPlane := if p.trusted then 1 - x.stPlane else x.stPlane
      stValid := p.trusted
      depths := if p.trusted then
          SMap.set (fun _ => 0) (if p.pin = 0 then x.depths else SMap.set (fun _ => 0) x.depths (p.pin + 1) p.depth) (1 - x.stPlane) p.depth
        else x.depths
      marks := if p.trusted then
          SMap.set (fun _ => false) (if p.pin = 0 then x.marks else SMap.set (fun _ => false) x.marks (p.pin + 1) mark) (1 - x.stPlane) mark
        else x.marks
      ltValid := if p.trusted && p.pin != 0 then Nat.lor x.ltValid (2 ^ (p.pin - 1)) else x.ltValid
      refresh := if ends then none
        else match p.refresh, x.refresh with
          | some r, some _ => some (if p.dirty then r else (r.1 + 1, r.2))
          | _, y => y }
    let exceeds := p.profile && !p.limited && decide (p.budget < p.stats.bits)
    let flags := b2n p.key + 2 * b2n p.refresh.isSome + 4 * b2n p.stats.capTail + 8 * b2n p.stats.tailSkip + 16 * b2n exceeds + 32 * b2n mark
      + 64 * b2n (p.step != 0) + 128 * b2n (!p.trusted) + 256 * b2n (p.pin != 0) + 512 * b2n p.limited
    let s2 := s1.setRx f x'
    let s3 := (s2.memWrite ⟨1, 0x50 + b⟩ (ssBase + z.statBase + 32 * (p.number % max 1 z.statDepth * 8192 + f))
      (recordBytes p.stats p.budget p.qp flags p.number)).1
    let s4 := if p.stats.capTail then s3.addSat (Reg.pressCtxCnt c) 31 16 1 else s3
    (if mark then s4.addSat (Reg.pressCtxCnt c) 15 0 1 else s4).showFolio c f

/-- Begin folio f's picture with its first row (R283, R285, R296-R299). A picture without a stored one before it has nothing to repeat (R285, log entry
103); a repeat starts no key and leaves its band of a refresh to be coded again (R267, R297). -/
def State.beginFolio (s : State) (c f : Nat) (row : FolioRow) : State :=
  let z := ctxCfg s.rd c
  let mism := s.flag (Reg.pressCtxSts c) 30
  let x0 := s.rxAt f
  let e := row.entry
  let trusted := z.trusts e row.w row.h
  let resized := x0.tileW != row.w || x0.tileH != row.h
  let s0 := s.setRx f { x0 with
    tileW := row.w, tileH := row.h
    stValid := x0.stValid && trusted && !resized
    ltValid := if resized then 0 else x0.ltValid }
  let q := s0.takeReqs c f row.picture (slotTop row.ver) false trusted
  let x := q.1.rxAt f
  let recover := trusted && !x.wasTrusted
  let repeats := mism && trusted && x.stValid
  let start := !repeats && (recover || (x.keyPending && trusted && (x.keyTime = 0 || decide (x.keyTime + keyGap ≤ s.now))))
  let keep := if x.keyPending then x.keyKeep else true
  let allIntra := start && (recover || (byteAt e 5).testBit 0)
  let held := x.ltValid
  let lt1 := if start && !keep then 0 else held
  let released := Nat.lor q.2.unpin (if start && !keep && !allIntra then held else 0)
  let n := max 2 (z.refreshN)
  let refresh := if start then (if allIntra then none else some (0, n)) else x.refresh
  let want := if row.prec then (if row.coarse then 12 else 16) else (if z.depth = 0 then 8 else if z.depth = 1 then 10 else 12)
  let top := if row.ver = 1 then 10 else if row.ver = 2 then 12 else 16
  let d := min want top
  let precision := row.prec && !row.coarse && d == 16
  let base := if precision then z.qp else byteAt e 4 % 64
  let pic : PicSt :=
    { number := row.picture % 2 ^ 32, isOpen := true, entry := e, repeats := repeats, budget := leAt e 0 4, qp := base, trusted := trusted, key := allIntra, keepLt := allIntra && keep
      refresh := if trusted then refresh else none, dirty := repeats, pin := if trusted then q.2.pin else 0
      unpin := released % 2 ^ slotTop row.ver, depth := d, limited := row.prec && decide (d < want)
      ycocg := decide (2 ≤ row.ver) && decide (Config.leafChoice s.free 0 % 2 = 1), precision := precision
      profile := row.prec && !row.coarse, rows := [], concealed := false, above := [], step := row.step
      stats := { PicRec.reset with left := row.w * row.h } }
  let s1 := q.1.setRx f { x with
    pic := pic, refresh := refresh
    keyPending := x.keyPending && !start, keyKeep := x.keyKeep && !start, keyTime := if start then s.now else x.keyTime
    ltValid := Nat.land lt1 (15 - q.2.unpin % 16) }
  (s1.bumpFree).showFolio c f

/-! ### Coding a segment (R279, R283, R286, R293, R335, R336) -/

/-- The references of a picture (R286, R298, R372): those prediction may choose from. -/
def State.folioRefs (s : State) (b : Nat) (z : CtxCfg) (x : RxSt) (row : FolioRow) : State × List RefPlane × List Nat :=
  let p := x.pic
  let get := fun (s : State) (j : Nat) =>
    let r := s.readPlane b (z.planeAddr p.entry row.w row.h j) row.w row.h
    (r.1, r.2.map (redepth (SMap.get (fun _ => p.depth) x.depths j) p.depth))
  let sh := if x.stValid then get s x.stPlane else (s, List.replicate (768 * row.w * row.h) 0)
  let use := Nat.land (byteAt p.entry 6 % 16) x.ltValid
  let slots := if p.refresh.isSome || !p.trusted then [] else
    ((List.range (slotTop row.ver)).map (· + 1)).filter (fun j => use.testBit (j - 1))
  let lts := slots.foldl (fun (a : State × List RefPlane) j =>
    let r := get a.1 (j + 1)
    (r.1, a.2 ++ [(⟨j, r.2⟩ : RefPlane)])) (sh.1, [])
  (lts.1, (if x.stValid then [⟨0, sh.2⟩] else []) ++ lts.2, sh.2)

/-- The band of leaf rows of refresh picture i of n over h rows (R297). -/
def bandRows (r : Nat × Nat) (h : Nat) : Nat × Nat := (r.1 * h / r.2, (r.1 + 1) * h / r.2)

/-- The CRCs of a segment's safety regions (R335). -/
def regionCrcs (regions : List Nat) (leaves : List (List Nat)) : List (Nat × Nat) :=
  ((List.range 15).map (· + 1)).filterMap (fun r =>
    let ls := (leaves.zip regions).filter (fun p => p.2 == r)
    if ls.isEmpty then none else some (r, crc32c (ls.flatMap (fun p => p.1.flatMap (leBytes 2)))))

/-- Pipe b appends coded bytes to a context's output ring (R272; log entry 40). -/
def State.toOutRing (s : State) (b c : Nat) (bs : List Byte) : State :=
  let z := ctxCfg s.rd c
  let x := s.ctxAt c
  let ring := max 1 (z.outSize * 0x10000)
  let a := x.outPos % ring
  let n := min bs.length (ring - a)
  let s1 := (s.memWrite ⟨4, 0x50 + b⟩ (z.outBase + a) (bs.take n)).1
  let s2 := (s1.memWrite ⟨4, 0x50 + b⟩ z.outBase ((bs.drop n).take ring)).1
  s2.setCtxSt c { s2.ctxAt c with outPos := (x.outPos + bs.length) % ring }

/-- Raise the context's event once for each slice whose folios have all been coded (R292). -/
def State.sliceEvents (s : State) (c : Nat) : State :=
  let x := s.ctxAt c
  let waits := fun (k : Nat × Nat) => s.rx.any (fun r => r.2.rows.any (fun w => w.picture == k.1 && w.slice == k.2))
  let done := x.ended.filter (fun k => !waits k)
  if done.isEmpty then s
  else (s.setCtxSt c { x with ended := x.ended.filter waits }).raiseEvt (Reg.pressCtxEvt c)

/-- Code the row, at the pipe it was dealt to. -/
def State.codeRow (s : State) (c f : Nat) (row : FolioRow) : State :=
  let z := ctxCfg s.rd c
  let x := s.rxAt f
  let p := x.pic
  let r := s.folioRefs row.pipe z x row
  let pq := (sheetCfg s.rd 0).enc == 1
  let cw := if pq then 12 else 16
  let safe := row.region.any (fun g => g != 0)
  let qp := min 63 (p.qp + (if row.step = 0 then 0 else 4))
  let hdr : SegHdr :=
    { w := row.w, h := row.h, depthCode := depthCodeOf p.depth, pq := pq, ycocg := p.ycocg, precision := p.precision, key := p.key,
      keepLt := p.keepLt, refresh := p.refresh.isSome, refreshN := (p.refresh.map Prod.snd).getD 0, band := (p.refresh.map Prod.fst).getD 0,
      pin := p.pin, unpin := p.unpin, qp := if p.stats.tail then 63 else qp, regions := decide (row.ver = 3) && safe }
  let e : EncCfg :=
    { hdr := hdr, ver := row.ver, y := row.y, qp := qp, refs := r.2.1, short := r.2.2, shortOk := x.stValid, tSkip := z.skipThr * 16,
      tRaw := z.rawThr * 256, rawThr := z.rawThr, step := row.step, repeats := p.repeats, intraOnly := !p.trusted,
      band := p.refresh.map (fun q => bandRows q row.h), budget := p.budget, tailRsv := z.tailRsv, skipRsv := z.skipRsv,
      mayTail := !row.prec || row.coarse, draw := s.free }
  let ls := (List.range row.w).map (fun i =>
    (⟨(leafOfRow row.w row.samples i).map (reduceSample cw p.depth), row.static.getD i false, row.raw.getD i false, row.region.getD i 0,
      row.forced.getD i false⟩ : LeafIn))
  let g := p.stats
  let t0 : EncSt :=
    { wr := (bitsOf 64 hdr.word, CodeSt.init p.depth hdr.qp), leaves := [], vecs := [], refsUsed := [], dirty := p.dirty, n := 0, sn := 0,
      left := g.left, spent := g.spent, tail := g.tail, skipping := g.skipping, capTail := g.capTail, tailSkip := g.tailSkip,
      normUnits := g.normUnits, normBits := g.normBits, nSkip := g.nSkip, nIntra := g.nIntra, sad := g.sad }
  let t := e.row p.above ls t0
  let bytes := bitsToBytes (ceilDiv t.wr.1.length 8) t.wr.1
  let s1 := { r.1 with free := r.1.free + 64 * row.w + 64 }
  let s2 := if p.trusted then
      s1.writeWords ⟨4, 0x50 + row.pipe⟩ (z.planeAddr p.entry row.w row.h (1 - x.stPlane) + row.y * 1536 * row.w) (rowSamples t.leaves)
    else s1
  let s3 := s2.toOutRing row.pipe c bytes
  let markOf := fun (j : Nat) => if j = 0 then !x.stValid || SMap.get (fun _ => false) x.marks x.stPlane
    else SMap.get (fun _ => false) x.marks (j + 1)
  let crcs := if row.ver = 3 then regionCrcs row.region t.leaves else []
  let pn := row.picture % 2 ^ 32
  let seg : Segment :=
    { rx := f % 16, version := row.ver, key := p.key, safety := safe, picture := pn, ptS := row.ptS, ptNs := row.ptNs, row := row.y,
      deadline := row.deadline, sent := 0, bytes := bytes }
  let s4 := s3.setRx f { s3.rxAt f with
    pic := { p with
      rows := row.y :: p.rows, dirty := t.dirty, concealed := p.concealed || t.refsUsed.any markOf, above := t.vecs
      stats := { bits := g.bits + 8 * bytes.length, normUnits := t.normUnits, normBits := t.normBits, nSkip := t.nSkip, nIntra := t.nIntra,
                 sad := t.sad, spent := t.spent, left := t.left, tail := t.tail, skipping := t.skipping, capTail := t.capTail,
                 tailSkip := t.tailSkip } }
    kept := (x.kept.filter (fun k => decide ((pn + 2 ^ 32 - k.picture) % 2 ^ 32 < 64)))
      ++ crcs.map (fun k => (⟨pn, row.y, k.1, k.2, row.due, false⟩ : KeptCrc)) }
  let ch := s4.chAt (f / 16)
  s4.setCh (f / 16) { ch with segs := ch.segs ++ [seg] }

/-- CODE_SEGMENT: code the oldest row waiting of folio f (R279, R286). -/
def State.codeSegment (s : State) (f : Nat) : State :=
  match s.folioCtx, (s.rxAt f).rows with
  | some c, row :: rest =>
    let s1 := s.setRx f { s.rxAt f with rows := rest }
    let p := (s1.rxAt f).pic
    let new := !p.isOpen || p.number != row.picture % 2 ^ 32
    let s2 := if new then (s1.endFolio row.pipe c f).beginFolio c f row else s1
    let s3 := (s2.codeRow c f row).setF (Reg.pressPipeSts row.pipe) 5 0 c
    let s4 :=
      if row.h ≤ ((s3.rxAt f).pic.rows).length then
        let e := s3.endFolio row.pipe c f
        e.setCtxSt c { e.ctxAt c with ended := ((row.picture, row.slice) :: (e.ctxAt c).ended).dedup }
      else s3
    s4.sliceEvents c
  | _, _ => s

/-- CODE_SEGMENT. -/
def execCodeSegment (ch : Fin 512) (rx : Fin 16) (s : State) : Host.Outcome State Fault Refusal := .next (s.codeSegment (16 * ch.val + rx.val))

/-! ### Sending (R327, R329) -/

/-- SEND_PACKET: the next packet of channel n's oldest segment enters its node; a channel that does not send drops its segments (R321, R325); a node
without room makes it wait (R400). -/
def State.sendPacket (s : State) (n : Nat) : State :=
  let c := s.chAt n
  match c.segs with
  | [] => s
  | g :: rest =>
    if !s.chSends n then s.setCh n { c with segs := [] }
    else
      let m := s.chMax n
      let data := (g.bytes.drop g.sent).take m
      let last := decide (g.bytes.length ≤ g.sent + data.length)
      let h : FolioHdr :=
        { version := g.version, flags := b2n last + 2 * b2n g.key + 4 * b2n g.safety, channel := n, receiver := g.rx, ptype := 0,
          picture := g.picture, ptS := g.ptS, ptNs := g.ptNs, row := g.row, offset := g.sent }
      let p := s.folioPkt n 2 h data (s.chLanes n) (some g.deadline)
      let node := s.getF (Reg.wchTm n) 9 0
      if s.hasRoom node p then
        (s.enqueue node p).setCh n { c with segs := if last then rest else { g with sent := g.sent + data.length } :: rest }
      else s

/-- SEND_PACKET. -/
def execSendPacket (ch : Fin 512) (s : State) : Host.Outcome State Fault Refusal := .next (s.sendPacket ch.val)

end Sys2Proof.Machine
end

