-- ==== Sys2Proof/Machine/Hevc.lean ====
section
/-! DEFINITION. Picture boundaries of contexts, and the HEVC kinds (R267, R281, R282, R292-R298, R300-R305). What ITU-T H.265 makes of a stream
goes through constants without a body. -/

namespace Sys2Proof.Machine

/-! ### Portions (R281) and the beginning of a picture -/

/-- CTUs across, and CTU rows. -/
def CtxCfg.ctus (z : CtxCfg) : Nat × Nat := (ceilDiv z.w z.ctu, ceilDiv z.h z.ctu)

/-- CTU rows of portion i of a picture (R281). -/
def CtxCfg.portionRows (z : CtxCfg) (i : Nat) : List Nat :=
  let rows := z.ctus.2
  let n := max 1 (pipesOf z.mask).length
  if z.split then (List.range ((i + 1) * rows / n - i * rows / n)).map (· + i * rows / n) else [i]

/-- Portions of a picture. -/
def CtxCfg.portionCount (z : CtxCfg) : Nat := if z.split then (pipesOf z.mask).length else z.ctus.2

/-- Portions waiting at pipe b. -/
def State.portionsAt (s : State) (b : Nat) : List Portion := SMap.get (fun _ => []) s.portions b
/-- Store them. -/
def State.setPortions (s : State) (b : Nat) (ps : List Portion) : State := { s with portions := SMap.set (fun _ => []) s.portions b ps }

/-- Deal portions 0..n-1 of a picture to the pipes of a mask in turn. -/
def State.dealPortions (s : State) (mask c n picture deadline : Nat) (decode : Bool) : State :=
  let pipes := pipesOf mask
  (List.range n).foldl (fun s i =>
    let b := pipes.getD (i % max 1 pipes.length) 0
    s.setPortions b (s.portionsAt b ++ [⟨c, decode, picture, i, deadline⟩])) s

/-- Begin picture n of an HEVC_ENC context (R281, R296-R299). -/
def State.beginHevc (s : State) (c n : Nat) (first mism : Bool) : State :=
  let z := ctxCfg s.rd c
  let q := s.takeReqs c 0 n 1 true true
  let x := q.1.ctxAt c
  let start := !mism && x.keyPending && (x.keyTime = 0 || decide (x.keyTime + keyGap ≤ s.now))
  let keep := x.keyKeep
  let periodic := z.period != 0 && x.irapLeft == 0
  let irap := first || (start && z.keyFit) || (!mism && periodic)
  let refresh := if irap then none else if start then some (0, max 2 z.refreshN) else x.refresh
  let sh := s.sheetAt z.src
  let s1 := q.1.setCtxSt c { x with
    begun := true, picture := n, key := irap, refresh := refresh, dirty := mism, mismatch := mism
    keyPending := x.keyPending && !(start || first), keyKeep := x.keyKeep && !(start || first)
    keyTime := if start || first then s.now else x.keyTime
    irapLeft := if irap then z.period - 1 else x.irapLeft - 1
    ltValid := x.ltValid && !irap && !(start && !keep) && !q.2.unpin.testBit 0
    pin := q.2.pin == 1, unpin := q.2.unpin.testBit 0, qp := z.qp, budget := z.budget, coded := []
    stats := { PicRec.reset with left := z.ctus.1 * z.ctus.2 } }
  s1.dealPortions z.mask c z.portionCount n (sh.start + periodNs z.rate) false

/-! ### Encoding a portion (R281, R293, R297, R298, R300) -/

/-- Can a portion start? An encode portion needs its source lines composed and, since the bits of its units follow in raster order (R293), the portion
before it coded; a CTU row of a wavefront needs the row above it, whose portion runs whole (R281). -/
def State.portionReady (s : State) (p : Portion) : Bool :=
  let z := ctxCfg s.rd p.ctx
  let x := s.ctxAt p.ctx
  if p.decode then
    match x.dec with
    | some au => !au.wavefront || decide (p.index = 0) || !au.left.contains (p.index - 1)
    | none => true
  else
    let c := s.pictureSet z.src p.picture
    let sh := s.sheetAt z.src
    let last := min (max 1 c.h) ((((z.portionRows p.index).getLast?).getD 0 + 1) * z.ctu) - 1
    (decide (sh.picture ≠ p.picture) || s.sliceComposed z.src (last / (16 * c.sliceRows)))
      && (decide (p.index = 0) || x.coded.any (fun q => q.1 == p.picture && q.2.1 + 1 == p.index))

/-- The waiting portion a pipe serves next: earliest deadline among those that can start (R281). -/
def State.nextPortion (s : State) (b : Nat) : Option Portion :=
  ((s.portionsAt b).filter s.portionReady).foldl (fun best p => match best with
    | none => some p
    | some q => if p.deadline < q.deadline then some p else some q) none

/-- One CTU (R293): coded normally, at QP 63, or SKIP. -/
def hevcUnit (z : CtxCfg) (mayTail repeats irap : Bool) (budget : Nat) (a : PicRec × Bool × List Byte) (draw : Nat) (u : HevcUnit) :
    PicRec × Bool × List Byte :=
  let g := a.1
  let tail := g.tail || (mayTail && decide ((budget : Int) - g.spent < (g.left * z.tailRsv : Nat)))
  let put := fun (g : PicRec) (dirty : Bool) (q : Nat) (skip normal : Bool) =>
    let v : HevcUnit := { u with qp := q, skip := skip, intra := if skip then irap else u.intra }
    let bs := Config.hevcUnitBytes draw v
    let kind := if skip && !irap then 0 else if v.intra then 1 else Config.hevcUnitKind draw v
    let n := 8 * bs.length
    (({ g with
        bits := g.bits + n, spent := g.spent + n, left := g.left - 1, normUnits := g.normUnits + b2n normal
        normBits := g.normBits + (if normal then n else 0), nSkip := g.nSkip + b2n (kind == 0), nIntra := g.nIntra + b2n (kind == 1)
        sad := g.sad + Config.hevcUnitSad draw v } : PicRec), dirty, a.2.2 ++ bs)
  let g1 := { g with tail := tail, capTail := g.capTail || tail }
  if repeats then put g a.2.1 u.qp true true
  else if g1.skipping then put g1 (a.2.1 || u.intra) u.qp true false
  else if tail then
    let r := put g1 a.2.1 63 false false
    if (budget : Int) - ((g1.left - 1) * z.skipRsv : Nat) < r.1.spent then
      put { g1 with skipping := true, tailSkip := true } (a.2.1 || u.intra) u.qp true false
    else r
  else put g1 a.2.1 u.qp false true

/-- Y', Cb and Cr of a line of 10-bit 4:2:2 pgroups. -/
def planes422 (w : Nat) (bs : List Byte) : List Nat × List Nat × List Nat :=
  let at_ := fun (g k : Nat) => packed 10 ((bs.drop (5 * g)).take 5) k
  ((List.range w).map (fun x => at_ (x / 2) (1 + 2 * (x % 2))), (List.range (w / 2)).map (at_ · 0), (List.range (w / 2)).map (at_ · 2))

/-- Each pair of chroma lines averaged, rounded half up (R300). -/
def halveLines : List (List Nat) → List (List Nat)
  | a :: b :: l => List.zipWith meanUp a b :: halveLines l
  | l => l

/-- The source lines of a CTU row as the context codes them (R300): 4:2:0 for Main and Main 10, 8 bits for Main. -/
def CtxCfg.source (z : CtxCfg) (ls : List (List Nat × List Nat × List Nat)) : List (List Nat) × List (List Nat) × List (List Nat) :=
  let chroma := fun (c : List (List Nat)) => if z.hprof ≤ 1 then halveLines c else c
  let depth := fun (c : List (List Nat)) => if z.hprof = 0 then c.map (fun l => l.map (fun v => (v + 2) / 4)) else c
  (depth (ls.map (·.1)), depth (chroma (ls.map (·.2.1))), depth (chroma (ls.map (·.2.2))))

/-- The samples of CTU i of a row. -/
def CtxCfg.ctuSource (z : CtxCfg) (src : List (List Nat) × List (List Nat) × List (List Nat)) (i : Nat) : List Nat :=
  let cut := fun (n : Nat) (c : List (List Nat)) => c.flatMap (fun l => (l.drop (i * n)).take n)
  cut z.ctu src.1 ++ cut (z.ctu / 2) src.2.1 ++ cut (z.ctu / 2) src.2.2

/-- Pipe b reads the lines of CTU row r of picture n of the context's sheet (R151, R264). -/
def State.sourceRow (s : State) (b : Nat) (z : CtxCfg) (n r : Nat) : State × List (List Nat × List Nat × List Nat) :=
  let c := s.pictureSet z.src n
  (List.range (min (r * z.ctu + z.ctu) c.h - r * z.ctu)).foldl (fun (a : State × List (List Nat × List Nat × List Nat)) l =>
    let q := a.1.readFree ⟨4, 0x50 + b⟩ (c.rowAddr n (r * z.ctu + l)) (ceilDiv (c.w * 5) 2)
    (q.1, a.2 ++ [planes422 c.w q.2])) (s, [])

/-- Does a slice begin with CTU row r (R281, R298): at the picture's start, with each portion under split, at each edge of a refresh's band? -/
def CtxCfg.sliceAt (z : CtxCfg) (x : CtxSt) (r : Nat) : Bool :=
  let n := max 1 (pipesOf z.mask).length
  decide (r = 0) || (z.split && (List.range n).any (fun i => r == i * z.ctus.2 / n))
    || (match x.refresh with
        | some q => r == (bandRows q z.ctus.2).1 || r == (bandRows q z.ctus.2).2
        | none => false)

/-- The header of the slice that begins with CTU row r: context, picture, address, QP, key, what is pinned and released, whether the slices of a refresh
picture keep the loop filter inside (slice_loop_filter_across_slices_enabled_flag 0, R298). -/
def CtxCfg.sliceHead (z : CtxCfg) (c : Nat) (x : CtxSt) (qp r : Nat) : List Byte :=
  Config.hevcSliceHead [c, x.picture, r * z.ctus.1, qp, b2n x.key, b2n x.pin, b2n x.unpin, b2n x.ltValid, b2n x.refresh.isSome]

/-- What R297 and R298 fix of a unit of CTU row r: intra in a key or in the band; above the band prediction from refreshed lines alone, with a margin of
8 luma lines; no long-term prediction until the refresh ends. -/
def CtxCfg.unitOf (z : CtxCfg) (x : CtxSt) (qp r : Nat) (src : List Nat) : HevcUnit :=
  match x.refresh with
  | some q =>
    let b := bandRows q z.ctus.2
    { qp := qp, skip := false, intra := x.key || (decide (b.1 ≤ r) && decide (r < b.2)), lines := if r < b.1 then some (b.1 * z.ctu - 8) else none,
      longTerm := false, src := src }
  | none => { qp := qp, skip := false, intra := x.key, lines := none, longTerm := x.ltValid, src := src }

/-- Programme flow f's record. -/
def State.flowAt (s : State) (f : Nat) : FlowSt := SMap.get (fun _ => FlowSt.reset) s.flow f
/-- Store it. -/
def State.setFlow (s : State) (f : Nat) (x : FlowSt) : State := { s with flow := SMap.set (fun _ => FlowSt.reset) s.flow f x }

/-- An access unit goes to every enabled flow that carries context c (R411). -/
def State.feedFlows (s : State) (c picture : Nat) (au : List Byte) : State :=
  ((List.range 16).filter (fun f => s.flag (Reg.tmFlowCtrl f) 31 && s.getF (Reg.tmFlowCtrl f) 15 10 == c)).foldl
    (fun s f => s.setFlow f { s.flowAt f with aus := (s.flowAt f).aus ++ [(picture, au)] }) s

/-- The frame number drop-frame counting gives frame f since midnight at 30, 60 or 120 frames a second nominal: 2, 4 or 8 numbers a minute are passed
over, but in every tenth (R458; log entry 169). -/
def dropLabel (nominal f : Nat) : Nat :=
  let d := nominal / 15
  let ten := 600 * nominal - 9 * d
  (f + 9 * d * (f / ten) + d * ((f % ten - d) / (60 * nominal - d))) % nominal

/-- The time code of a picture presented at t (R458): hours, minutes, seconds, frame, whether counting is drop-frame. -/
def timeCode (rate : Nat) (t : Nat) (utc : Int) : List Nat :=
  let sod := (((t / secT : Nat) : Int) - utc) % 86400 |>.toNat
  let drop := rate == 3 || rate == 8 || rate == 11
  let frame := if drop then dropLabel (rateNum rate / 1000) ((sod * secT + t % secT) * rateNum rate / (rateDen rate * secT))
    else t % secT * rateNum rate / (max 1 (rateDen rate) * secT)
  [sod / 3600, sod / 60 % 60, sod % 60, frame, b2n drop]

/-- The access unit's head (R298, R300, R301): parameter sets and SEI, from the context's set, the level it signals, the picture's key and refresh state, the
time code of its presentation, the VUI and, at an IRAP, the SEI block pipe b reads. -/
def State.hevcHead (s : State) (b c : Nat) : State × List Byte :=
  let z := ctxCfg s.rd c
  let x := s.ctxAt c
  let sh := s.pictureSet z.src x.picture
  let refreshStart := match x.refresh with | some r => r.1 == 0 | none => false
  let sei := if x.key then s.readFree ⟨1, 0x50 + b⟩ (ssBase + z.table) 32 else (s, [])
  let vui := [if sh.col = 0 then 1 else 9, if sh.enc = 2 then 16 else if sh.enc = 3 then 18 else 1, if sh.col = 0 then 1 else 9, 0]
  let utc := signed 16 (s.getF (Reg.tbUtc sh.tb) 15 0)
  (sei.1, Config.hevcHead ([c, x.picture, b2n x.key, b2n z.irap, b2n refreshStart, (x.refresh.map Prod.snd).getD 0 - 1, z.w, z.h, z.rate, z.hprof,
    b2n z.tier, z.levelIdc, z.kbps, z.ctu, z.stRefs, z.qp, b2n (s.halved z.src), b2n x.pin, b2n x.unpin]
      ++ timeCode sh.rate (sh.presents x.picture 0) utc ++ vui) (sei.2.take 28))

/-- The picture of an HEVC_ENC context is coded: its access unit, record, references (R291, R292, R297). -/
def State.endHevc (s : State) (b c : Nat) : State :=
  let z := ctxCfg s.rd c
  let x := s.ctxAt c
  let sh := s.pictureSet z.src x.picture
  let head := s.hevcHead b c
  let parts := (x.coded.filter (fun p => p.1 == x.picture)).mergeSort (fun a b => decide (a.2.1 ≤ b.2.1))
  let au := head.2 ++ parts.flatMap (fun p => p.2.2)
  let n := x.picture % 2 ^ 32
  let ends := match x.refresh with | some r => !x.dirty && decide (r.2 ≤ r.1 + 1) | none => false
  let s1 := head.1.setCtxSt c { x with
    coded := [], ltValid := x.ltValid || x.pin
    refresh := if ends then none else x.refresh.map (fun r => if x.dirty then r else (r.1 + 1, r.2)) }
  let s2 := (s1.toOutRing b c au).feedFlows c x.picture au
  let g := { x.stats with bits := x.stats.bits + 8 * head.2.length }
  let flags := b2n x.key + 2 * b2n x.refresh.isSome + 4 * b2n g.capTail + 8 * b2n g.tailSkip
    + 16 * b2n (sh.prec && !(s.sheetAt z.src).coarse && decide (x.budget < g.bits))
    + 64 * b2n (s.getF Reg.ladderSts 3 0 != 0) + 256 * b2n x.pin
  let s3 := (s2.memWrite ⟨1, 0x50 + b⟩ (ssBase + z.statBase + 32 * (n % max 1 z.statDepth)) (recordBytes g x.budget x.qp flags n)).1
  (if g.capTail then s3.addSat (Reg.pressCtxCnt c) 31 16 1 else s3).raiseEvt (Reg.pressCtxEvt c)

/-- Pipe b codes CTU row r of the picture in progress: the units in raster order, after the header of a slice that begins with it. -/
def State.encodeRow (b : Nat) (z : CtxCfg) (c : Nat) (x : CtxSt) (a : State × PicRec × Bool × List Byte) (r : Nat) : State × PicRec × Bool × List Byte :=
  let step := a.1.getF Reg.ladderSts 3 0
  let sh := a.1.pictureSet z.src x.picture
  let mayTail := !sh.prec || (a.1.sheetAt z.src).coarse
  let qp := min 63 (x.qp + (if step = 0 then 0 else 4))
  let q := a.1.sourceRow b z x.picture r
  let src := z.source q.2
  let head := if z.sliceAt x r then z.sliceHead c x qp r else []
  let g := { a.2.1 with bits := a.2.1.bits + 8 * head.length }
  let across := z.ctus.1
  let u := (List.range across).foldl (fun t i =>
    hevcUnit z mayTail x.mismatch x.key x.budget t (q.1.free + i) (z.unitOf x qp r (z.ctuSource src i))) (g, a.2.2.1, a.2.2.2 ++ head)
  ({ q.1 with free := q.1.free + across }, u)

/-- Pipe b codes one portion. -/
def State.encodePortion (s : State) (b : Nat) (p : Portion) : State :=
  let z := ctxCfg s.rd p.ctx
  let x := s.ctxAt p.ctx
  if x.picture ≠ p.picture then s
  else
    let r := (z.portionRows p.index).foldl (State.encodeRow b z p.ctx x) (s, x.stats, x.dirty, [])
    let coded := x.coded ++ [(p.picture, p.index, r.2.2.2)]
    let s2 := r.1.setCtxSt p.ctx { x with stats := r.2.1, dirty := r.2.2.1, coded := coded }
    if z.portionCount ≤ coded.length then s2.endHevc b p.ctx else s2

/-! ### Decoding (R302-R305) -/

/-- Bits of one line of 4:2:2 10-bit codes. -/
def line422 (codes : List Nat) : List Byte := bitBytes (10 * codes.length) (codes.foldl (fun a v => a * 1024 + v % 1024) 0)

/-- The picture being decoded is done: its tokens, marks and counts (R304, R305). -/
def State.endDecode (s : State) (c : Nat) (slot : Option Nat) (marked : Bool) : State :=
  let z := ctxCfg s.rd c
  let x := s.ctxAt c
  let first := marked && !x.marked
  let s1 := s.setCtxSt c { x with dec := none, marked := marked }
  let s2 := s1.setB (Reg.pressCtxSts c) 27 marked
  let s3 := if marked then s2.addSat (Reg.pressCtxCnt c) 15 0 1 else s2
  let s4 := if first && z.auto then
      (s3.raiseEvt (Reg.pressCtxEvt c)).hostEvent 0x07 (c + (if s3.flag (Reg.pressCtxSts c) 28 then 256 else 0))
    else s3
  match slot with
  | none => s4
  | some k =>
    let i := z.src
    let y := s4.sessAt i
    let v := y.slotAt k
    let s5 := s4.setSess i (y.setSlot k { v with damaged := v.damaged || marked })
    s5.completeFrame i k

/-- Pipe b writes lines lo..hi-1 of the picture being decoded, with the context's domain (R151), and posts their rows. The frame's token carries the
picture's mark. -/
def State.decodeLines (s : State) (b c : Nat) (slot : Option Nat) (marked : Bool) (lo hi : Nat) (f : Nat → List Byte) : State :=
  let z := ctxCfg s.rd c
  let i := z.src
  match slot with
  | none => s
  | some k =>
    (List.range (hi - lo)).foldl (fun s j =>
      let l := lo + j
      let s1 := s.writeAt i ⟨z.dom, 0x50 + b⟩ ((((s.sessAt i).slotAt k).cfg).lineAddr k l) (f l)
      let y := s1.sessAt i
      let v := y.slotAt k
      (s1.setSess i (y.setSlot k { v with damaged := v.damaged || marked })).lineDone i k l) s

/-- A picture of the fill colour (R304). -/
def CtxCfg.fillPic (z : CtxCfg) (w h : Nat) : HevcPic :=
  ⟨0, w, h, true, (List.range (w / 2 * h)).flatMap (fun _ => [z.fill.getD 1 0, z.fill.getD 0 0, z.fill.getD 2 0, z.fill.getD 0 0])⟩

/-- Line l of a picture's codes. -/
def HevcPic.line (p : HevcPic) (l : Nat) : List Byte := line422 ((p.samples.drop (l * 2 * p.w)).take (2 * p.w))

/-- An access unit that cannot be decoded yields the most recent decoded picture again, or the fill colour (R304). -/
def State.repeatDecode (s : State) (c : Nat) (slot : Option Nat) (p : HevcPic) : State :=
  (s.decodeLines ((pipesOf (ctxCfg s.rd c).mask).headD 0) c slot true 0 p.h p.line).endDecode c slot true

/-- The plane of a reference, or its substitute (R304): for a missing short-term picture the most recent decoded one, for a missing long-term one the
first short-term reference, or that substitute, the fill colour if nothing has been decoded. -/
def CtxSt.refPic (x : CtxSt) (fill : HevcPic) (uses : List (Int × Bool)) (u : Int × Bool) : HevcPic :=
  let has := fun (p : Int) => x.dpb.find? (fun q => q.poc == p)
  match has u.1 with
  | some q => q
  | none =>
    let recent := x.recent.getD fill
    if u.2 then ((uses.find? (fun v => !v.2)).bind (fun v => has v.1)).getD recent else recent

/-- The lines the portions of a picture of h lines begin with, and its height (R281, R303): CTU rows of a wavefront, slices, or all of it. -/
def decodeBounds (wpp spread : Bool) (ctu h : Nat) (slices : List Nat) : List Nat :=
  (if wpp then (List.range (ceilDiv h ctu)).map (· * ctu)
   else if spread then slices.zipIdx.map (fun p => if p.2 = 0 then 0 else min h (p.1 * ctu))
   else [0]) ++ [h]

/-- ACCESS_UNIT_DECODE: take the next access unit handed over to HEVC_DEC context c, check it against R302, claim a slot, settle its references and mark
(R304, R305) and spread its portions (R303); or repeat the latest picture. -/
def State.accessUnit (s : State) (c : Nat) : State :=
  let z := ctxCfg s.rd c
  let x := s.ctxAt c
  let i := z.src
  match x.dec, x.aus with
  | none, a :: rest =>
    if !z.en || z.kind != 3 then s
    else if !(sessCfg s.rd i).en || s.sessState i == 5 then s.setCtxSt c { x with aus := rest }
    else
      let ps := a.params
      let pipes := pipesOf z.mask
      let w := Config.hevcWidth ps
      let h := Config.hevcHeight ps
      let outside := !a.bytes.isEmpty && (!Config.hevcSupported ps || decide (z.w < w) || decide (z.h < h)
        || decide (z.outSize * 0x10000 < Config.hevcDpb ps))
      let bad := outside || a.bytes.isEmpty || !Config.hevcDecodable ps a.bytes
      let wpp := Config.hevcWpp ps
      let slices := Config.hevcSliceRows ps a.bytes
      let spread := wpp || decide (pipes.length ≤ slices.length)
      let bounds := decodeBounds wpp spread (max 1 (Config.hevcCtu ps)) h slices
      let last := x.recent.getD (z.fillPic z.w z.h)
      let s1 := ((s.setCtxSt c { x with aus := rest }).claimSlot i a.ts).addWrap (Reg.pressCtxPic c) 31 0 1
      let y := s1.sessAt i
      let s2 := match y.slot with
        | some k => s1.setSess i (y.setSlot k { y.slotAt k with w := if bad then last.w else w, h := if bad then last.h else h, start := a.start })
        | none => s1
      let s3 := (s2.setB (Reg.pressCtxSts c) 28 outside).setB (Reg.pressCtxSts c) 29 (!spread && !bad)
      if bad then s3.repeatDecode c y.slot last
      else
        let poc := Config.hevcPoc ps x.poc a.bytes
        let uses := Config.hevcUses ps poc a.bytes
        let missing := uses.any (fun u => !x.dpb.any (fun q => q.poc == u.1))
        let mended := match Config.hevcRecovery a.bytes with | some n => some (poc + n) | none => x.recoverAt
        let recovers := match mended with | some p => decide (p ≤ poc) | none => false
        let stale := uses.any (fun u => x.dpb.any (fun q => q.poc == u.1 && q.marked))
        let keeps := Config.hevcKeeps ps poc a.bytes
        let n := bounds.length - 1
        let au : DecAu :=
          { bytes := a.bytes, params := ps, poc := poc, at_ := a.at_, slot := y.slot, left := List.range n, bounds := bounds, wavefront := wpp
            refs := uses.map (fun u => (x.refPic (z.fillPic w h) uses u).samples)
            marked := missing || (stale && !Config.hevcIrap a.bytes && !recovers) }
        (s3.setCtxSt c { s3.ctxAt c with
          dec := some au, poc := poc, recoverAt := if recovers then none else mended, dpb := x.dpb.filter (fun q => keeps.contains q.poc) }).dealPortions
            (if spread then z.mask else 2 ^ pipes.headD 0) c n a.at_ (a.at_ + periodNs z.rate) true
  | _, _ => s

/-- ACCESS_UNIT_DECODE. -/
def execAccessUnitDecode (c : Fin 64) (s : State) : Host.Outcome State Fault Refusal := .next (s.accessUnit c.val)

/-- Sample j of the picture an access unit decodes to, as a 10-bit code: 8-bit samples are shifted by 2 (R302). -/
def DecAu.code (au : DecAu) (j : Nat) : Nat :=
  let v := Config.hevcSample au.params au.bytes au.refs j
  if Config.hevc8Bit au.params then v % 256 * 4 else v % 1024

/-- The picture an access unit decodes to. -/
def DecAu.pic (au : DecAu) : HevcPic :=
  let w := Config.hevcWidth au.params
  let h := Config.hevcHeight au.params
  ⟨au.poc, w, h, au.marked, (List.range (2 * w * h)).map au.code⟩

/-- Pipe b decodes one portion; the last one ends the picture, which is then a reference. -/
def State.decodePortion (s : State) (b : Nat) (p : Portion) : State :=
  match (s.ctxAt p.ctx).dec with
  | none => s
  | some au =>
    if au.at_ ≠ p.picture ∨ !au.left.contains p.index then s
    else
      let w := Config.hevcWidth au.params
      let left := au.left.filter (fun j => j != p.index)
      let s1 := s.decodeLines b p.ctx au.slot au.marked (au.bounds.getD p.index 0) (au.bounds.getD (p.index + 1) 0)
        (fun l => line422 ((List.range (2 * w)).map (fun j => au.code (l * 2 * w + j))))
      let x := s1.ctxAt p.ctx
      if left.isEmpty then
        (s1.setCtxSt p.ctx { x with dpb := x.dpb ++ [au.pic], recent := some au.pic }).endDecode p.ctx au.slot au.marked
      else s1.setCtxSt p.ctx { x with dec := some { au with left := left } }

/-! ### Pipes at work (R275, R281, R282) -/

/-- Pipe b switches context (R282): what it holds of the outgoing context goes to that context's save area, the first 64 KiB of its reference region, and
the incoming context's is read back. What is saved the spec leaves open (log entry 102). -/
def State.switchTo (s : State) (b c : Nat) : State :=
  let old := s.getF (Reg.pressPipeSts b) 5 0
  if old = c then s
  else
    let z := ctxCfg s.rd old
    let t : Tx := ⟨4, 0x50 + b⟩
    let s1 := if z.en && decide (2 ≤ z.kind) && z.mask.testBit b then
        ((s.memWrite t z.refBase ((List.range 0x10000).map (Config.savedByte s.free))).1).bumpFree
      else s
    ((s1.memRead t (ctxCfg s.rd c).refBase 0x10000).1).setF (Reg.pressPipeSts b) 5 0 c

/-- Pipe b runs a portion, whole. -/
def State.runPortion (s : State) (b : Nat) (p : Portion) : State :=
  let s1 := (s.setPortions b ((s.portionsAt b).erase p)).switchTo b p.ctx
  if p.decode then s1.decodePortion b p else s1.encodePortion b p

/-- CODE_PORTION: pipe b codes or decodes the portion of earliest deadline; a portion of another context than the one loaded switches context
first (R281, R282). -/
def State.codePortion (s : State) (b : Nat) : State :=
  match s.nextPortion b with
  | none => s
  | some p => s.runPortion b p

/-- CODE_PORTION. -/
def execCodePortion (b : Fin 16) (s : State) : Host.Outcome State Fault Refusal := .next (s.codePortion b.val)

/-- PRESS_PIPE_STS[b] as it reads (R275): between two commands a pipe with a segment dealt to it, or a portion that can start, is at work on it, first
switching context if the portion's is not loaded (log entry 170). -/
def State.pipeView (s : State) (b : Nat) : Word :=
  let v := s.rd (Reg.pressPipeSts b)
  match s.nextPortion b with
  | some p => if p.ctx = fld v 5 0 then putFld v 31 31 1 else putFld v 30 30 1
  | none => if s.rx.any (fun r => r.2.rows.any (fun w => w.pipe == b)) then putFld v 31 31 1 else v

/-! ### Picture boundaries (R267, R281) -/

/-- The portions of context c still waiting run before its next picture begins, in the order of their picture: each completes by its deadline (R281; log
entry 171). -/
def State.finishPicture (s : State) (c : Nat) : State :=
  let mine := (List.range 16).flatMap (fun b => ((s.portionsAt b).filter (fun p => p.ctx == c)).map (fun p => (b, p)))
  (mine.mergeSort (fun a b => decide (a.2.index ≤ b.2.index))).foldl (fun s p => s.runPortion p.1 p.2) s

/-- PICTURE_BOUNDARY of context c: its armed group reaches its commit point; an encode context begins its source's picture (R19, R267). -/
def State.pictureBoundary (s : State) (c : Nat) : State :=
  let z0 := if (ctxCfg s.rd c).en then ctxCfg s.rd c else ctxCfg s.rdSh c
  let x0 := s.ctxAt c
  let k := if z0.kind = 2 then z0.src else 0
  if z0.kind = 1 ∨ z0.kind = 3 then (if x0.dec.isSome then s else s.commitPoint .press c)
  else
    let sh0 := s.sheetAt k
    if !sh0.begun || (x0.begun && x0.picture == sh0.picture) then s
    else
      let s1 := (s.finishPicture c).commitPoint .press c
      let z := ctxCfg s1.rd c
      if !z.en || z.kind != z0.kind then s1
      else
        let sh := sheetCfg s1.rd z.sheet
        let mism := z.w != sh.w || z.h != sh.h || z.rate != sh.rate
        let s2 := (s1.setB (Reg.pressCtxSts c) 30 mism).wr (Reg.pressCtxPic c) (BitVec.ofNat 32 sh0.picture)
        let x := s2.ctxAt c
        if z.kind = 0 then s2.setCtxSt c { x with begun := true, picture := sh0.picture }
        else s2.beginHevc c sh0.picture (!x.begun) mism

/-- PICTURE_BOUNDARY. -/
def execPictureBoundary (c : Fin 64) (s : State) : Host.Outcome State Fault Refusal := .next (s.pictureBoundary c.val)

/-- COMMIT_POINT (R19, R20): a group whose point is a boundary of pictures that run reaches it at that boundary and at no other instant, so that no
picture mixes two sets (R221); any other group's point is now. -/
def State.reachPoint (s : State) (u : CommitUnit) (g : Nat) : State :=
  if s.groupIdle u g then s.commitPoint u g
  else match u with
    | .couch => s.frameBoundary g
    | .imp => s.frameBoundary 0
    | .press => s.pictureBoundary g
    | _ => s.commitPoint u g

/-- COMMIT_POINT. -/
def execCommitPoint (u : CommitUnit) (grp : BitVec 16) (s : State) : Host.Outcome State Fault Refusal :=
  .next (s.reachPoint u grp.toNat)

end Sys2Proof.Machine
end

