-- ==== Sys2Proof/Machine/BackChannel.lean ====
section
/-! DEFINITION. The back channel: acceptance of upstream packets, the ring, JOIN, key requests, STATUS, countermark echoes, and the control and epoch
descriptors of the imposition queue (R330-R336, R542, R543, R554). -/

namespace Sys2Proof.Machine

/-- An upstream packet whose tag has verified (R326): the lane it arrived on, the header fields the device reads, its decrypted data. -/
structure Upstream where
  lane : BitVec 6
  channel : Fin 512
  receiver : Fin 16
  ptype : Byte
  keyId : Byte
  epoch : BitVec 16
  sequence : Word
  picture : Word
  row : Byte
  data : List Byte
deriving DecidableEq, Repr

/-- The packet a frame spells, with its data decrypted. -/
def messageOf (u : UpFrame) (data : List Byte) : Upstream :=
  { lane := u.lane, channel := ⟨beAt u.header 2 2 % 512, Nat.mod_lt _ (by decide)⟩, receiver := ⟨byteAt u.header 4 % 16, Nat.mod_lt _ (by decide)⟩,
    ptype := u.header.getD 5 0, keyId := u.header.getD 7 0, epoch := BitVec.ofNat 16 (beAt u.header 8 2),
    sequence := BitVec.ofNat 32 (beAt u.header 12 4), picture := BitVec.ofNat 32 (beAt u.header 16 4), row := u.header.getD 28 0, data := data }

/-- The folio number 16 × channel + receiver of an upstream packet. -/
def upFolio (p : Upstream) : Nat := 16 * p.channel.val + p.receiver.val
/-- Control code of a packet; an echo carries none. -/
def upCode (p : Upstream) : Nat := if p.ptype = 2 then byteAt p.data 0 else 0

/-- Does the packet arrive on a lane of its channel (R331)? -/
def State.upLane (s : State) (p : Upstream) : Bool := (s.chLanes p.channel.val).contains p.lane.toNat

/-- The key that key_id names: the current one, or the previous one within 1 s of the commit that replaced it (R331). -/
def State.upKey (s : State) (p : Upstream) : Option (List Byte) :=
  if p.keyId.toNat = s.getF (Reg.wchKey p.channel.val) 31 24 then some (s.chKey p.channel.val)
  else match (s.chAt p.channel.val).prevKey with
    | some (k, at_, key) => if p.keyId.toNat = k ∧ s.now ≤ at_ + 1000000000 then some key else none
    | none => none

/-- The data of an upstream packet, none when no key fits or the tag fails (R328): AES-256-GCM with the header as additional data and byte 2 of the IV
0x10 + receiver. -/
def State.upOpen (s : State) (u : UpFrame) : Option (List Byte) :=
  let p := messageOf u []
  (s.upKey p).bind (fun k =>
    Config.gcmOpen k (folioIv p.channel.val (0x10 + p.receiver.val) p.epoch.toNat p.sequence.toNat) u.header u.body)

/-- The sequence numbers accepted so far from the receiver in epoch e. -/
def RxSt.seqs (x : RxSt) (e : Nat) : List Word := if x.seqEpoch = e then x.seqSeen else []

/-- May the packet's sequence be accepted: not seen, and no more than 64 below the highest? -/
def RxSt.fresh (x : RxSt) (p : Upstream) : Bool :=
  let seen := x.seqs p.epoch.toNat
  !seen.contains p.sequence && seen.all (fun q => decide (q.toNat ≤ p.sequence.toNat + 64))

/-- What R331 asks of a packet beside its key and tag: lane, channel and receiver enabled, epoch, sequence. -/
def State.upGood (s : State) (p : Upstream) : Bool :=
  s.upLane p && s.chOn p.channel.val && s.rxOn (upFolio p)
    && decide (p.epoch.toNat = s.getF (Reg.wchEpoch p.channel.val) 15 0) && (s.rxAt (upFolio p)).fresh p

/-- R331: the packet, when it is accepted. -/
def State.accepts (s : State) (u : UpFrame) : Option Upstream :=
  if s.upGood (messageOf u []) then (s.upOpen u).map (messageOf u) else none

/-- Count a discarded packet in bad. -/
def State.upBad (s : State) (n : Nat) : State := s.addSat (Reg.wchCnt n) 15 8 1

/-- Record an accepted sequence number; those more than 64 below the highest can never be accepted again. -/
def State.noteSeq (s : State) (p : Upstream) : State :=
  let x := s.rxAt (upFolio p)
  let seen := p.sequence :: x.seqs p.epoch.toNat
  let top := seen.foldl (fun a q => max a q.toNat) 0
  s.setRx (upFolio p) { x with seqEpoch := p.epoch.toNat, seqSeen := seen.filter (fun q => decide (top ≤ q.toNat + 64)) }

/-- Write a message to the back-channel ring, and raise the imposition event (R317, R331). -/
def State.bcRing (s : State) (p : Upstream) : State :=
  (s.ringWrite ⟨1, 0x60⟩ Reg.impBcRing Reg.impBcRingCtl 64
    (leBytes 2 p.channel.val ++ leBytes 1 p.receiver.val ++ [p.ptype] ++ leBytes 1 (upCode p) ++ [0, 0, 0] ++ leBytes 8 s.now
      ++ (padTo 48 (p.data.take 48)))).raiseEvt Reg.impEvt

/-- Run an upstream packet through R331: discarded and counted in bad, or recorded and handled when it is the one `want` asks for. -/
def State.upstream (s : State) (u : UpFrame) (want : Upstream → Bool) (act : State → Upstream → State) : State :=
  match s.accepts u with
  | none => s.upBad (messageOf u []).channel.val
  | some p => if want p then act (s.noteSeq p) p else s

/-- A control message of code `code`: the type stands in the header, the code under the tag (R326, R330). -/
def State.upControl (s : State) (u : UpFrame) (code : Nat) (act : State → Upstream → State) : State :=
  if (messageOf u []).ptype = 2 then s.upstream u (fun p => upCode p == code) act else s

/-! ### JOIN, KEY_REQUEST, STATUS (R332-R334) -/

/-- JOIN: at most one in 250 ms per receiver; sooner ones are discarded and counted (R332). -/
def State.joinMsg (s : State) (p : Upstream) : State :=
  let x := s.rxAt (upFolio p)
  let early := match x.lastJoin with | some t => decide (s.now < t + 250000000) | none => false
  if early then s.upBad p.channel.val
  else
    let s1 := s.bcRing p
    (s1.setRx (upFolio p) { s1.rxAt (upFolio p) with
      joinVersions := byteAt p.data 1, joinCaps := beAt p.data 2 2, lastJoin := some s.now, lastStatus := s.now }).negotiate (upFolio p)

/-- JOIN. -/
def execJoin (p : UpFrame) (s : State) : Host.Outcome State Fault Refusal := .next (s.upControl p 1 State.joinMsg)

/-- KEY_REQUEST: the ring entry, and with the folio's auto_key the request itself (R284, R296, R333). -/
def State.keyMsg (s : State) (p : Upstream) : State :=
  let s1 := s.bcRing p
  if ((s.rxAt (upFolio p)).entry.getD 5 0).getLsbD 1 then s1.requestKey ((p.data.getD 1 0).getLsbD 0) (upFolio p) else s1

/-- KEY_REQUEST. -/
def execKeyRequest (p : UpFrame) (s : State) : Host.Outcome State Fault Refusal := .next (s.upControl p 2 State.keyMsg)

/-- STATUS: the ring entry, and SILENT ends (R334). -/
def State.statusMsg (s : State) (p : Upstream) : State :=
  let f := (upFolio p)
  let s1 := s.bcRing p
  let s2 := s1.setRx f { s1.rxAt f with lastStatus := s.now }
  if s2.rxState f = 4 then s2.setRxState f 1 (s2.rxVersion f) else s2

/-- STATUS. -/
def execStatus (p : UpFrame) (s : State) : Host.Outcome State Fault Refusal := .next (s.upControl p 3 State.statusMsg)

/-- STATUS_TIMEOUT: a JOINED receiver without a STATUS for 3 s becomes SILENT (R334). -/
def State.statusTimeout (s : State) (f : Nat) : State :=
  if s.rxState f = 1 ∧ (s.rxAt f).lastStatus + 3000000000 ≤ s.now then s.setRxState f 4 (s.rxVersion f) else s

/-- STATUS_TIMEOUT. -/
def execStatusTimeout (ch : Fin 512) (rx : Fin 16) (s : State) : Host.Outcome State Fault Refusal :=
  .next (s.statusTimeout (16 * ch.val + rx.val))

/-! ### Countermark echoes (R335, R336) -/

/-- The region and CRC of entry j of an echo. -/
def echoEntry (data : List Byte) (j : Nat) : Nat × Nat := (byteAt data (4 + 8 * j), beAt data (8 + 8 * j) 4)

/-- The values the press still keeps of a segment: for 8 pictures. -/
def RxSt.keptOf (x : RxSt) (picture row : Nat) : List KeptCrc :=
  x.kept.filter (fun k => decide (k.picture = picture) && decide (k.row = row)
    && decide ((x.pic.number + 2 ^ 32 - picture) % 2 ^ 32 < 8))

/-- Mark kept values of a segment as echoed. -/
def State.setEchoed (s : State) (f picture row region : Nat) : State :=
  let x := s.rxAt f
  s.setRx f { x with kept := x.kept.map (fun k =>
    if k.picture = picture ∧ k.row = row ∧ k.region = region then { k with echoed := true } else k) }

/-- Compare one entry with the kept value: a mismatch forces its region and raises its alarms. -/
def State.echoOne (s : State) (p : Upstream) (e : Nat × Nat) : State :=
  match ((s.rxAt (upFolio p)).keptOf p.picture.toNat p.row.toNat).find? (fun k => k.region == e.1) with
  | none => s
  | some k =>
    let s1 := s.setEchoed (upFolio p) k.picture k.row k.region
    if k.crc = e.2 then s1
    else (s1.forceRegion e.1 2 p.channel.val p.receiver.val k.picture e.2 k.crc 0).raiseEvt Reg.impEvt

/-- COUNTERMARK_ECHO: checked whole, then compared entry by entry. -/
def State.echoMsg (s : State) (p : Upstream) : State :=
  let k := byteAt p.data 0
  let es := (List.range k).map (echoEntry p.data)
  let kept := (s.rxAt (upFolio p)).keptOf p.picture.toNat p.row.toNat
  if k = 0 ∨ 15 < k ∨ p.data.length ≠ 4 + 8 * k ∨ !es.all (fun e => kept.any (fun q => q.region == e.1)) then s.upBad p.channel.val
  else es.foldl (fun s e => s.echoOne p e) (s.bcRing p)

/-- COUNTERMARK_ECHO. -/
def execCountermarkEcho (p : UpFrame) (s : State) : Host.Outcome State Fault Refusal :=
  .next (if (messageOf p []).ptype = 3 then s.upstream p (fun _ => true) State.echoMsg else s)

/-- ECHO_MISSING: with strict set, a kept value with no echo 8 frame periods after its presentation forces its region (R336). -/
def State.echoMissing (s : State) (f picture row region : Nat) : State :=
  let sh := sheetCfg s.rd 0
  match (s.rxAt f).kept.find? (fun k => decide (k.picture = picture) && decide (k.row = row) && decide (k.region = region) && !k.echoed) with
  | none => s
  | some k =>
    if s.flag Reg.impEcho 31 ∧ s.rxVersion f = 3 ∧ k.due + frameStart sh.rate 8 ≤ s.timeOf sh.tb then
      (((s.setEchoed f picture row region).forceRegion region 3 (f / 16) (f % 16) picture 0 k.crc 0)).raiseEvt Reg.impEvt
    else s

/-- ECHO_MISSING. -/
def execEchoMissing (ch : Fin 512) (rx : Fin 16) (picture : Word) (row : Byte) (region : Fin 15) (s : State) :
    Host.Outcome State Fault Refusal :=
  .next (s.echoMissing (16 * ch.val + rx.val) picture.toNat row.toNat (region.val + 1))

/-! ### Service replies and descriptors (R542, R543, R554) -/

/-- SERVICE_REPLY: the ring entry. -/
def execServiceReply (p : UpFrame) (s : State) : Host.Outcome State Fault Refusal := .next (s.upControl p 0x10 State.bcRing)

/-- An accepted upstream packet of any kind but TIME_ECHO (R330): those without a meaning of their own are only ringed. -/
def State.upMessage (s : State) (p : Upstream) : State :=
  if p.ptype = 3 then s.echoMsg p
  else if p.ptype = 2 then
    (match upCode p with
     | 1 => s.joinMsg p
     | 2 => s.keyMsg p
     | 3 => s.statusMsg p
     | _ => s.bcRing p)
  else s.bcRing p

/-- CONTROL_SEND (R542). A length of 0 completes BAD_FIELD: DESIGN CHOICE, log entry 178 (R542 lists it so; R8 would make it a no-op). -/
def State.controlSend (s : State) : State :=
  match s.firstWaiting 0x20 with
  | none => s
  | some (i, d) =>
    let n := leAt d.bytes 8 2
    let r := byteAt d.bytes 10
    let len := byteAt d.bytes 11
    let code := byteAt d.bytes 12
    let f := n * 16 + r
    if d.kind ≠ 2 then s
    else if 512 ≤ n ∨ 16 ≤ r ∨ len = 0 ∨ 16 < len ∨ code < 0x90 ∨ 0x9F < code ∨ !zeroBytes d.bytes 28 4 then s.completeAt 0x20 i 1 none
    else if !s.chSends n || s.rxState f != 1 then s.completeAt 0x20 i 4 none
    else (s.sendControl f ((d.bytes.drop 12).take len)).completeAt 0x20 i 0 none

/-- CONTROL_SEND. -/
def execControlSend (s : State) : Host.Outcome State Fault Refusal := .next s.controlSend

/-- EPOCH_LOAD (R554). -/
def State.epochLoad (s : State) : State :=
  match s.firstWaiting 0x20 with
  | none => s
  | some (i, d) =>
    let addr := leAt d.bytes 8 6
    let first := leAt d.bytes 14 2
    let n := leAt d.bytes 16 2
    if d.kind ≠ 3 then s
    else if 512 < n ∨ 512 < first + n ∨ !zeroBytes d.bytes 18 14 ∨ (n ≠ 0 ∧ regionOf addr (2 * n) ≠ .ss) then s.completeAt 0x20 i 1 none
    else if (List.range n).any (fun k => s.chOn (first + k) || bit (s.rdSh (Reg.wchCtrl (first + k))) 31) then s.completeAt 0x20 i 5 none
    else
      let r := s.memRead ⟨1, 0x60⟩ addr (2 * n)
      match r.2.1 with
      | .ok => (((leWords r.2.2).zipIdx).foldl (fun s p => s.setF (Reg.wchEpoch (first + p.2)) 15 0 p.1) r.1).completeAt 0x20 i 0 none
      | .domain => r.1.completeAt 0x20 i 2 none
      | _ => r.1.completeAt 0x20 i 3 none

/-- EPOCH_LOAD. -/
def execEpochLoad (s : State) : Host.Outcome State Fault Refusal := .next s.epochLoad

end Sys2Proof.Machine
end

