-- ==== Sys2Proof/Machine/Ports.lean ====
section
/-! DEFINITION. Sending: the transmitter gate, MACsec protection, PRP copies, shapers in force, gate lists in force, frames the time unit forms, and what
happens at a frame's timestamp point (R389-R392, R399-R410, R447, R449, R547). -/

namespace Sys2Proof.Machine

/-! ### The transmitter (R384, R547) -/

/-- May port m send: running, with link, and not gated? Management ports are never gated. -/
def State.portTx (s : State) (m : Nat) : Bool :=
  s.flag (Reg.macSts m) 30 && s.flag (Reg.macSts m) 31
    && (decide (40 ≤ m) || (!s.flag Reg.sysTwinSts 31 && (!s.flag Reg.sysTwinCfg 31 || s.flag Reg.sysTwinSts 30)))

/-- Line rate of port m in Gb/s. -/
def State.lineRate (s : State) (m : Nat) : Nat :=
  match s.getF (Reg.macCtrl m) 30 29 with | 0 => 25 | 1 => 10 | _ => 1

/-- Bytes of the port's longest frame with FCS (R383). -/
def State.frameLimit (s : State) (m : Nat) : Nat := if s.flag (Reg.macCtrl m) 26 then 9216 else 1522

/-- The EtherType of a frame, behind an 802.1Q tag if it has one. -/
def frameType (bs : List Byte) : Nat := if beAt bs 12 2 = 0x8100 then beAt bs 16 2 else beAt bs 12 2

/-! ### MACsec (R389-R391) -/

/-- SA `an` of a set of SAs. -/
def saOf (m : SMap SaSt) (an : Nat) : SaSt := SMap.get (fun _ => SaSt.reset) m an
/-- Is MACsec set on port m? -/
def State.secOn (s : State) (m : Nat) : Bool := s.flag (Reg.macCtrl m) 25
/-- EAPOL frames pass unprotected: MKA makes the keys (R389, DEDUCED). -/
def isEapol (bs : List Byte) : Bool := decide (frameType bs = 0x888E)
/-- The SCI: the port's MAC address and port identifier 1. -/
def State.sciOf (s : State) (m : Nat) : List Byte := beBytes 6 (s.portMac m) ++ beBytes 2 1

/-- Show whether some port has stopped (R414). -/
def State.showStops (s : State) : State := s.setB Reg.tmSts 30 (s.port.any (fun p => p.2.saStopped))

/-- Port m's transmit SA after a change of PN, tx_an, next_ready or keys: an exhausted SA gives way to the next when it is ready, and otherwise the port
stops; a port with an SA that can send goes on (R391). An SA whose packet numbers are used up is not ready, whatever next_ready says. -/
def State.settleSa (s : State) (m : Nat) : State :=
  let p := s.portAt m
  let cfg := Reg.macSecCfg m
  if (saOf p.txSa (s.getF cfg 28 27)).pn < 0xFFFFFFFF then
    (s.setPort m { p with saStopped := false }).showStops
  else if s.flag cfg 31 && decide ((saOf p.txSa (s.getF cfg 30 29)).pn < 0xFFFFFFFF) then
    ((((s.setF cfg 28 27 (s.getF cfg 30 29)).setB cfg 31 false)).setPort m { p with saStopped := false }).showStops
  else if p.saStopped then s
  else (((s.setPort m { p with saStopped := true }).showStops)).raiseEvt Reg.tmEvt

/-- A protected frame under port m's transmit SA, and the state with its packet number used. -/
def State.protect (s : State) (m : Nat) (bs : List Byte) : List Byte × State :=
  let p := s.portAt m
  let an := s.getF (Reg.macSecCfg m) 28 27
  let sa := saOf p.txSa an
  let data := bs.drop 12
  let tag := [0x88, 0xE5, BitVec.ofNat 8 (0x2C + an), BitVec.ofNat 8 (if data.length < 48 then data.length else 0)]
    ++ beBytes 4 sa.pn ++ s.sciOf m
  let s1 := s.setPort m { p with txSa := SMap.set (fun _ => SaSt.reset) p.txSa an { sa with pn := sa.pn + 1 } }
  let s2 := if sa.pn + 1 = 0xC0000000 then s1.raiseEvt Reg.tmEvt else s1
  (bs.take 12 ++ tag ++ Config.gcmSeal sa.key (s.sciOf m ++ beBytes 4 sa.pn) (bs.take 12 ++ tag) data, s2.settleSa m)

/-- Can port m send this frame now: its transmitter may, and MACsec has a key for it? -/
def State.canSend (s : State) (m : Nat) (bs : List Byte) : Bool :=
  s.portTx m && (!s.secOn m || isEapol bs
    || (!(s.portAt m).saStopped && (saOf (s.portAt m).txSa (s.getF (Reg.macSecCfg m) 28 27)).keyed))

/-- Send a frame on port m: protected where MACsec says so, counted. -/
def State.sendOn (s : State) (m : Nat) (bs : List Byte) : State :=
  let r := if s.secOn m && !isEapol bs then s.protect m bs else (bs, s)
  (r.2.addSat (Reg.macCntTx m) 31 0 1).emit (.frame m r.1)

/-! ### PRP (R392) -/

/-- Is port m one of a PRP pair? -/
def State.prpOn (s : State) (m : Nat) : Bool := decide (40 ≤ m) && s.flag (Reg.macCtrl 40) 24

/-- A frame with its redundancy control trailer for LAN A (0) or B (1). -/
def prpFrame (seq lan : Nat) (bs : List Byte) : List Byte :=
  let size := bs.length - (if beAt bs 12 2 = 0x8100 then 18 else 14) + 6
  bs ++ beBytes 2 seq ++ beBytes 2 ((0xA + lan) * 0x1000 + size % 0x1000) ++ [0x88, 0xFB]

/-- The next redundancy sequence number taken. -/
def State.nextPrp (s : State) : State := { s with sys := { s.sys with prpSeq := (s.sys.prpSeq + 1) % 0x10000 } }

/-- Place a frame in port m's FIFO; a PRP pair's frame goes to both ports, only the copy of port m bearing a stamp. -/
def State.place (s : State) (m : Nat) (f : Fifo) : State :=
  if s.prpOn m then
    let q := s.sys.prpSeq
    let cp := fun p => { f with bytes := prpFrame q (p - 40) f.bytes, stamp := if p = m then f.stamp else Stamp.none }
    (s.nextPrp.toPort 40 (cp 40)).toPort 41 (cp 41)
  else s.toPort m f

/-- Send a frame the port forms itself at once (R386), on both ports of a PRP pair. -/
def State.sendNow (s : State) (m : Nat) (bs : List Byte) : State :=
  let one := fun (s : State) p f => if s.canSend p f then s.sendOn p f else s
  if s.prpOn m then
    let q := s.sys.prpSeq
    one (one s.nextPrp 40 (prpFrame q 0 bs)) 41 (prpFrame q 1 bs)
  else one s m bs

/-! ### Shapers in force (R404-R406) -/

/-- The CFG register of shaper g. -/
def shBase (g : Nat) : Nat := if g < 0x400 then Reg.tmSubCfg g else Reg.tmSvcCfg (g - 0x400)
/-- Word i (CFG, RATE, BURST) of shaper g in force: until its next refill a newly accepted set waits. -/
def State.shWord (s : State) (g i : Nat) : Word :=
  match (s.shAt g).old with
  | some ws => ws.getD i 0
  | none => s.rd (shBase g + 4 * i)
/-- Is the shaper shaped? -/
def State.shaped (s : State) (g : Nat) : Bool := bit (s.shWord g 0) 31
/-- Its overhead in bytes. -/
def State.overhead (s : State) (g : Nat) : Int := signed 8 (fld (s.shWord g 0) 7 0)
/-- Does it allow a packet: unshaped, or tokens ≥ 0? -/
def State.shAllows (s : State) (g : Nat) : Bool := !s.shaped g || decide (0 ≤ (s.shAt g).tokens)

/-- Set tokens and show them in whole bytes, rounded towards minus infinity. -/
def State.setTokens (s : State) (g : Nat) (t : Int) : State :=
  (s.setSh g { s.shAt g with tokens := t }).wr (shBase g + 0xC) (wordOfInt (t / 65536))

/-- Tokens after a charge of L bytes: never below −(9,216 + overhead) bytes, further charge being dropped (R405). -/
def chargedTokens (t ov : Int) (l : Nat) : Int := min t (max (-((9216 + ov) * 65536)) (t - ((l : Int) + ov) * 65536))

/-- Take the charge of an L-byte frame from a shaped bucket. -/
def State.charge (s : State) (g l : Nat) : State :=
  if s.shaped g then s.setTokens g (chargedTokens (s.shAt g).tokens (s.overhead g) l) else s

/-- A frame's length L on port m (R405): with SecTAG and ICV where MACsec adds them. -/
def State.chargeLen (s : State) (m : Nat) (bs : List Byte) : Nat := bs.length + (if s.secOn m && !isEapol bs then 32 else 0)

/-! ### Gate lists (R408-R410) -/

/-- A gate list placed on a time base: entries, cycle and start in ns, time base. -/
structure GateList where
  entries : List (Nat × Nat)
  cycle : Nat
  start : Nat
  tb : Nat
deriving DecidableEq, Repr

/-- The list the registers hold, starting at TM_GATE_START. -/
def State.gateRegs (s : State) (q : Nat) : GateList :=
  ⟨gateEntries s.rd q, (s.rd (Reg.tmGateCycle q)).toNat, s.gateStarted q, s.getF (Reg.tmGateCtrl q) 29 27⟩

/-- The list that runs on port q, if one does: the old one while an accepted list waits for its start. -/
def State.gateRuns (s : State) (q : Nat) : Option GateList :=
  let p := s.portAt q
  if !s.flag (Reg.tmGateSts q) 31 then none
  else if p.gateNew.isSome then some ⟨p.gateOld, p.gateOldCycle, p.gateOldBase, p.gateOldTb⟩
  else some (s.gateRegs q)

/-- Place in a list's cycle at time x (2⁻¹⁶ ns), and the cycle's number counted from its start. -/
def GateList.at (l : GateList) (x : Nat) : Nat × Int :=
  let d : Int := (x : Int) - (l.start * 65536 : Nat)
  let c : Int := ((max 1 l.cycle) * 65536 : Nat)
  ((d % c).toNat, d / c)

/-- The entry in force at a place in the cycle and what of it is left: entries follow one another, one of no duration being passed over, and the last
holds to the cycle's end. -/
def gateEntryAt (cycle : Nat) : List (Nat × Nat) → Nat → Nat → Nat → Nat × Nat × Nat
  | [], i, _, pos => (i, 0xFF, cycle - pos)
  | (st, d) :: es, i, from_, pos =>
    if es.isEmpty || (d != 0 && es.all (fun e => e.2 == 0)) then (i, st, cycle - pos)
    else if pos < from_ + d * 65536 then (i, st, min (from_ + d * 65536) cycle - pos) else gateEntryAt cycle es (i + 1) (from_ + d * 65536) pos

/-- For how long from a place in the cycle class k stays open (2⁻¹⁶ ns; none: for ever), at most `fuel` entries ahead. -/
def GateList.openFor (l : GateList) (k : Nat) : Nat → Nat → Option Nat
  | 0, _ => none
  | n + 1, pos =>
    let cyc := max 1 l.cycle * 65536
    let e := gateEntryAt cyc l.entries 0 0 pos
    if !e.2.1.testBit k then some 0
    else (l.openFor k n ((pos + e.2.2) % cyc)).map (fun r => e.2.2 + r)

/-- For how long class k of port q stays open from now (none: for ever), an accepted list taking over at its start. -/
def State.gateOpen (s : State) (q k : Nat) : Option Nat :=
  let run : Option Nat := match s.gateRuns q with
    | none => none
    | some l => l.openFor k (2 * l.entries.length + 2) (l.at (s.timeOf l.tb)).1
  match (s.portAt q).gateNew with
  | none => run
  | some st =>
    let n := s.gateRegs q
    let left := st * 65536 - s.timeOf n.tb
    let new := (n.openFor k (2 * n.entries.length + 2) 0).map (fun r => left + r)
    match run with
    | some r => if r < left then some r else new
    | none => new

/-! ### Frames of the time unit (R398, R446-R449) -/

/-- A PTP port's exchange record. -/
def State.tpAt (s : State) (m : Nat) : TpSt := SMap.get (fun _ => TpSt.reset) s.tp m
/-- Store it. -/
def State.setTp (s : State) (m : Nat) (x : TpSt) : State := { s with tp := SMap.set (fun _ => TpSt.reset) s.tp m x }

/-- The time base of port m. -/
def State.portTb (s : State) (m : Nat) : Nat := s.getF (Reg.timePortCfg m) 27 25
/-- A timestamp is taken with a resolution of 0.125 ns. -/
def stampRes (x : Int) : Int := x / 8192 * 8192
/-- Egress timestamp of a frame of port m whose first bit crosses now (R449). -/
def State.egress (s : State) (m : Nat) : Int :=
  stampRes (s.timeOf (s.portTb m) : Int) + (s.rd (Reg.timePortAsymTx m)).toInt
/-- Ingress timestamp of a crossing on port m. -/
def State.ingress (s : State) (m : Nat) (x : Int) : Int := stampRes x - (s.rd (Reg.timePortAsymRx m)).toInt

/-- portIdentity of port m: the base's clockIdentity and the port's number plus 1. -/
def State.portIdentity (s : State) (m : Nat) : BitVec 80 :=
  let t := s.portTb m
  BitVec.ofNat 80 (((s.rd (Reg.tbId t 1)).toNat * 2 ^ 32 + (s.rd (Reg.tbId t 0)).toNat) * 0x10000 + (m + 1))

/-- A PTP timestamp of a time in 2⁻¹⁶ ns: 48-bit seconds, nanoseconds. The fraction of a nanosecond goes into the correction field. -/
def ptpTime (x : Int) : List Byte :=
  beBytes 6 (x.toNat / secT % 2 ^ 48) ++ beBytes 4 (ptNs x.toNat)

/-- A PTP message: the common header of IEEE 1588 and a body. `corr` is in 2⁻¹⁶ ns. -/
def State.ptpMsg (s : State) (m typ seq ctl intv : Nat) (twoStep : Bool) (corr : Int) (body : List Byte) : List Byte :=
  let pr := s.getF (Reg.timePortCfg m) 29 28
  [BitVec.ofNat 8 ((if pr = 2 then 0x10 else 0) + typ), if pr = 3 then 0x02 else 0x12] ++ beBytes 2 (34 + body.length)
    ++ beBytes 1 (s.getF (Reg.timePortCfg m) 15 8) ++ [0, if twoStep then 0x02 else 0, 0]
    ++ beBytes 8 (BitVec.ofInt 64 corr).toNat ++ [0, 0, 0, 0] ++ beBytes 10 (s.portIdentity m).toNat ++ beBytes 2 seq
    ++ beBytes 1 ctl ++ beBytes 1 intv ++ body

/-- Where a PTP message of port m goes (R446): the multicast addresses of IEEE 1588 and 802.1AS. `peer`: the peer delay group; `event`: port 319. -/
def State.ptpAddr (s : State) (m : Nat) (peer event : Bool) : Addr :=
  let port := if event then 319 else 320
  match s.getF (Reg.timePortCfg m) 24 23 with
  | 1 => ⟨0, if peer then 0x01005E00006B else 0x01005E000181, 0, none, [if peer then 0xE000006B else 0xE0000181], port, port⟩
  | 2 => ⟨1, if peer then 0x33330000006B else 0x333300000181, 0, none,
          if peer then [0xFF020000, 0, 0, 0x6B] else [0xFF0E0000, 0, 0, 0x181], port, port⟩
  | _ => ⟨2, if peer || s.getF (Reg.timePortCfg m) 29 28 = 2 then 0x0180C200000E else 0x011B19000000, 0x88F7, none, [], 0, 0⟩

/-- Queue a frame of the time unit on port m, ahead of class 7's subscriber packets. -/
def State.sendTime (s : State) (m : Nat) (a : Addr) (msg : List Byte) (st : Stamp) : State :=
  s.place m { cls := 7, node := 1024, ch := none, deadline := none, bytes := s.buildFrame m 0 a msg, stamp := st }

/-- Follow_Up information TLV of IEEE 802.1AS: cumulative rate ratio 1, nothing else to tell. -/
def asTlv : List Byte := [0, 3, 0, 28, 0, 0x80, 0xC2, 0, 0, 1] ++ List.replicate 22 0

/-- The frame as it leaves once its egress time is known: a one-step Sync bears it as origin, a one-step Pdelay_Resp the time since its request
arrived as correction (R447). -/
def State.stampFrame (s : State) (m : Nat) (f : Fifo) : List Byte :=
  match f.stamp with
  | .ptp .sync _ a msg =>
    let c := (BitVec.ofNat 64 (beAt msg 8 8)).toInt + s.egress m % 65536
    let b := s.buildFrame m 0 a
      (msg.take 8 ++ beBytes 8 (BitVec.ofInt 64 c).toNat ++ (msg.drop 16).take 18 ++ ptpTime (s.egress m) ++ msg.drop 44)
    b ++ f.bytes.drop b.length
  | .ptp .pdelayResp t a msg =>
    let c := (BitVec.ofNat 64 (beAt msg 8 8)).toInt + (s.egress m - t)
    let b := s.buildFrame m 0 a (msg.take 8 ++ beBytes 8 (BitVec.ofInt 64 c).toNat ++ msg.drop 16)
    b ++ f.bytes.drop b.length
  | _ => f.bytes

/-- What a frame's egress time sets off: the t3 of a TIME_ECHO reply, the time of a request, the Follow_Up of a two-step message (R447, R460). -/
def State.atEgress (s : State) (m : Nat) (f : Fifo) : State :=
  let e := s.egress m
  let x := s.tpAt m
  match f.stamp with
  | .echo fo id =>
    let r := s.rxAt fo
    s.setRx fo { r with t3 := SMap.put r.t3 m (id, e.toNat) }
  | .ptp .delayReq _ _ _ => s.setTp m { x with req := x.req.map (fun r => (r.1, some e)) }
  | .ptp .pdelayReq _ _ _ => s.setTp m { x with req := x.req.map (fun r => (r.1, some e)) }
  | .ptp .syncTwo _ _ msg =>
    let tlv := if s.getF (Reg.timePortCfg m) 29 28 = 2 then asTlv else []
    let a := s.ptpAddr m false false
    let g := s.ptpMsg m 8 (beAt msg 30 2) 2 (s.getF (Reg.timePortIntv m) 23 16) false (e % 65536) (ptpTime e ++ tlv)
    s.sendTime m a g (.ptp .general 0 a g)
  | .ptp .pdelayRespTwo t _ msg =>
    let a := s.ptpAddr m true false
    let g := s.ptpMsg m 0xA (beAt msg 30 2) 5 0x7F false (t + e % 65536) (ptpTime e ++ (msg.drop 44).take 10)
    s.sendTime m a g (.ptp .general 0 a g)
  | _ => s

end Sys2Proof.Machine
end

