-- ==== Sys2Proof/Machine/TimeCmds.lean ====
section
/-! DEFINITION. The commands of the time unit: servo samples, PTP exchanges, descriptors of queue 0x050, counters and PPS, TIME_ECHO (R440-R463). -/

namespace Sys2Proof.Machine

/-! ### Servo and states (R443, R444, R454) -/

/-- SERVO_SAMPLE (R443): a sample that reaches base t's servo. -/
def execServoSample (t : Fin 8) (theta : Int) (s : State) : Host.Outcome State Fault Refusal :=
  .next (if s.tbOn t.val && s.getF (Reg.tbCtrl t.val) 30 29 != 0 && s.sys.refSysLostAt.isNone then s.servo t.val theta else s)

/-- HOLDOVER_TIMEOUT (R444): no sample for 2 s. -/
def execHoldoverTimeout (t : Fin 8) (s : State) : Host.Outcome State Fault Refusal :=
  .next (if (s.tbState t.val = 2 ∨ s.tbState t.val = 3) ∧ (s.tbAt t.val).lastSample + 2000000000 ≤ s.now then s.setTbState t.val 4 else s)

/-- REF_SYS_FAIL (R454): after 1 s of loss every enabled base is FAILED. -/
def execRefSysFail (s : State) : Host.Outcome State Fault Refusal :=
  .next (if s.lossState = some 5 then
      (List.range 8).foldl (fun s t => if s.tbOn t then s.setTbState t 5 else s) s
    else s)

/-- Write a time's seconds, nanoseconds and fraction into registers. -/
def State.showTime (s : State) (lo : Nat) (hi : Option Nat) (ns fr x : Nat) : State :=
  let s1 := s.wr lo (BitVec.ofNat 32 (x / secT))
  let s2 := match hi with | some h => s1.wr h (BitVec.ofNat 32 (x / secT / 2 ^ 32 % 2 ^ 16)) | none => s1
  (s2.wr ns (BitVec.ofNat 32 (ptNs x))).wr fr (BitVec.ofNat 32 (x % 0x10000))

/-- Capture base t and the system counter at one instant (R440). -/
def State.snapTb (s : State) (t : Nat) : State :=
  ((s.showTime (Reg.tbNowSLo t) (some (Reg.tbNowSHi t)) (Reg.tbNowNs t) (Reg.tbNowFrac t) (s.timeOf t)).wr
    (Reg.tbSnapCtrLo t) (BitVec.ofNat 32 s.now)).wr (Reg.tbSnapCtrHi t) (BitVec.ofNat 32 (s.now / 2 ^ 32))

/-- TB_SNAP. -/
def execTbSnap (ini : Ini) (t : Fin 8) (v : Word) (s : State) : Host.Outcome State Fault Refusal :=
  .next (s.gatedWrite ini (Reg.tbSnap t.val) v (fun s => if bit v 0 then s.snapTb t.val else s))

/-! ### PTP (R446-R449) -/

/-- Role of port m: 0 disabled, 1 master, 2 slave, 3 passive. -/
def State.ptpRole (s : State) (m : Nat) : Nat := s.getF (Reg.timePortCfg m) 31 30
/-- Does port m's profile measure peer delay? -/
def State.ptpPeer (s : State) (m : Nat) : Bool := s.getF (Reg.timePortCfg m) 29 28 == 1 || s.getF (Reg.timePortCfg m) 29 28 == 2
/-- Is the port qualified? -/
def State.qualified (s : State) (m : Nat) : Bool := s.flag (Reg.timePortQual m) 0
/-- Does port m run PTP in the message's domain? -/
def State.ptpHears (s : State) (m : Nat) (p : PtpMsg) : Bool :=
  s.portRuns m && decide (s.getF (Reg.timePortCfg m) 15 8 = p.domain.toNat)

/-- Is an event message's sender the one accepted since qualified was set (R447)? Without qualified every sender is heard. -/
def State.heard (s : State) (m : Nat) (p : PtpMsg) : Bool :=
  !s.qualified m || (match (s.tpAt m).master with | none => true | some i => i == p.source)

/-- The first sender heard after qualified was set is the one accepted. -/
def State.lockSender (s : State) (m : Nat) (p : PtpMsg) : State :=
  if s.qualified m && (s.tpAt m).master.isNone then s.setTp m { s.tpAt m with master := some p.source } else s

/-- Deliver an offset of port m to its base's servo while the port is qualified (R447). -/
def State.deliver (s : State) (m : Nat) (theta : Int) : State :=
  if s.qualified m && s.takesSamples (s.portTb m) 1 then s.servo (s.portTb m) theta else s

/-- cumulativeScaledRateOffset of a message's Follow_Up information TLV (802.1AS). -/
def scaledRate (bytes : List Byte) : Int :=
  if beAt bytes 44 2 = 3 ∧ 58 ≤ bytes.length then signed 32 (beAt bytes 54 4) else 0

/-- A Sync's origin and receipt are known: kept for the next Delay_Resp (E2E), or, with peer delay measured, the offset is computed and delivered. -/
def State.syncDone (s : State) (m : Nat) (t1 t2 : Int) (bytes : List Byte) : State :=
  let s1 := s.setTp m { s.tpAt m with sync := none, meas := some (t1, t2) }
  let x := s.tpAt m
  if s.ptpPeer m && x.last.isSome then
    let d := if s.getF (Reg.timePortCfg m) 29 28 = 2 then x.mpd + x.mpd * scaledRate bytes / 2 ^ 41 else x.mpd
    s1.deliver m (t2 - t1 - d)
  else s1

/-- Latest meanPathDelay, shown in 2⁻⁸ ns. -/
def State.setMpd (s : State) (m : Nat) (d : Int) : State :=
  (s.setTp m { s.tpAt m with mpd := d }).wr (Reg.timePortMpd m) (wordOfInt (d / 256))

/-- A Sync at a slave port. -/
def State.ptpSync (s : State) (m : Nat) (p : PtpMsg) : State :=
  if s.ptpHears m p && s.ptpRole m == 2 && s.heard m p then
    let s1 := s.lockSender m p
    let t2 := s.ingress m p.crossing
    if p.twoStep then s1.setTp m { s1.tpAt m with sync := some (p.source, p.seqId.toNat, t2, p.correction) }
    else s1.syncDone m (p.carried + p.correction) t2 p.bytes
  else s

/-- A Follow_Up at a slave port: of the Sync it follows. -/
def State.ptpFollowUp (s : State) (m : Nat) (p : PtpMsg) : State :=
  match (s.tpAt m).sync with
  | some (src, seq, t2, corr) =>
    if s.ptpHears m p && s.ptpRole m == 2 && src == p.source && decide (seq = p.seqId.toNat) then
      s.syncDone m (p.carried + p.correction + corr) t2 p.bytes
    else s
  | none => s

/-- A Delay_Req at a master port: Delay_Resp with its receipt time. -/
def State.ptpDelayReq (s : State) (m : Nat) (p : PtpMsg) : State :=
  if s.ptpHears m p && s.ptpRole m == 1 && !s.ptpPeer m then
    let t4 := s.ingress m p.crossing
    let a := s.ptpAddr m false false
    let g := s.ptpMsg m 9 p.seqId.toNat 3 (s.getF (Reg.timePortIntv m) 15 8) false (p.correction - t4 % 65536)
      (ptpTime t4 ++ beBytes 10 p.source.toNat)
    s.sendTime m a g (.ptp .general 0 a g)
  else s

/-- A Delay_Resp at a slave port: the exchange is complete, meanPathDelay and the offset follow. -/
def State.ptpDelayResp (s : State) (m : Nat) (p : PtpMsg) : State :=
  let x := s.tpAt m
  match x.req, x.meas with
  | some (seq, some t3), some (t1, t2) =>
    if s.ptpHears m p && s.ptpRole m == 2 && !s.ptpPeer m && s.heard m p && p.answers == s.portIdentity m && decide (seq = p.seqId.toNat) then
      let t4 := p.carried - p.correction
      let d := ((t2 - t1) + (t4 - t3)) / 2
      ((s.setTp m { x with req := none }).setMpd m d).deliver m (t2 - t1 - d)
    else s
  | _, _ => s

/-- A Pdelay_Req: a master or slave port that measures peer delay answers it, in two steps where MACsec is set. -/
def State.ptpPdelayReq (s : State) (m : Nat) (p : PtpMsg) : State :=
  let role := s.ptpRole m
  if s.ptpHears m p && s.ptpPeer m && (role == 1 || (role == 2 && s.heard m p)) then
    let s1 := if role = 2 then s.lockSender m p else s
    let t2 := s.ingress m p.crossing
    let a := s.ptpAddr m true true
    let body := fun t : List Byte => t ++ beBytes 10 p.source.toNat
    if s.secOn m then
      let g := s.ptpMsg m 3 p.seqId.toNat 5 0x7F true (-(t2 % 65536)) (body (ptpTime t2))
      s1.sendTime m a g (.ptp .pdelayRespTwo p.correction a g)
    else
      let g := s.ptpMsg m 3 p.seqId.toNat 5 0x7F false p.correction (body (List.replicate 10 0))
      s1.sendTime m a g (.ptp .pdelayResp t2 a g)
  else s

/-- A peer exchange is complete: `turn` is the peer's turnaround, t3 its egress (none: one step). The neighbour rate ratio follows successive exchanges
under 802.1AS. -/
def State.peerDone (s : State) (m : Nat) (t1 t4 turn : Int) (t3 : Option Int) : State :=
  let x := s.tpAt m
  let e := t3.getD (t1 + turn)
  let r := match x.last, t3 with
    | some (a, b), some c => if b < t4 ∧ a < c then (c - a, t4 - b) else x.nrr
    | _, _ => x.nrr
  let d := if s.getF (Reg.timePortCfg m) 29 28 = 2 then ((t4 - t1) * r.1 / r.2 - turn) / 2 else ((t4 - t1) - turn) / 2
  (s.setTp m { x with req := none, peer := none, last := some (e, t4), nrr := r }).setMpd m d

/-- A Pdelay_Resp at a slave port. -/
def State.ptpPdelayResp (s : State) (m : Nat) (p : PtpMsg) : State :=
  let x := s.tpAt m
  match x.req with
  | some (seq, some t1) =>
    if s.ptpHears m p && s.ptpRole m == 2 && s.ptpPeer m && s.heard m p && p.answers == s.portIdentity m && decide (seq = p.seqId.toNat) then
      let s1 := s.lockSender m p
      let t4 := s.ingress m p.crossing
      if p.twoStep then s1.setTp m { s1.tpAt m with peer := some (p.carried, t4, p.correction) }
      else s1.peerDone m t1 t4 p.correction none
    else s
  | _ => s

/-- Its Follow_Up. -/
def State.ptpPdelayFollow (s : State) (m : Nat) (p : PtpMsg) : State :=
  let x := s.tpAt m
  match x.req, x.peer with
  | some (seq, some t1), some (t2, t4, corr) =>
    if s.ptpHears m p && s.ptpRole m == 2 && s.ptpPeer m && p.answers == s.portIdentity m && decide (seq = p.seqId.toNat) then
      s.peerDone m t1 t4 (p.carried - t2 + p.correction + corr) (some (p.carried + p.correction))
    else s
  | _, _ => s

/-- Announce, Signaling and Management messages go to TIME_RX_RING with their ingress time (R447, R450). -/
def State.ptpGeneral (s : State) (m : Nat) (p : PtpMsg) : State :=
  if s.portRuns m && s.ptpRole m != 0 then
    let t := (s.ingress m p.crossing).toNat
    s.ringWrite ⟨1, 0x81⟩ Reg.timeRxRing Reg.timeRxRingCtl 128
      (leBytes 4 m ++ leBytes 8 (t / secT) ++ leBytes 4 (ptNs t) ++ padTo 112 (p.bytes.take 112))
  else s

/-- Hand a received PTP message to what its type means. -/
def State.ptpMessage (s : State) (m : Nat) (p : PtpMsg) : State :=
  match byteAt p.bytes 0 % 16 with
  | 0 => s.ptpSync m p
  | 1 => s.ptpDelayReq m p
  | 2 => s.ptpPdelayReq m p
  | 3 => s.ptpPdelayResp m p
  | 8 => s.ptpFollowUp m p
  | 9 => s.ptpDelayResp m p
  | 0xA => s.ptpPdelayFollow m p
  | 0xB => s.ptpGeneral m p
  | 0xC => s.ptpGeneral m p
  | 0xD => s.ptpGeneral m p
  | _ => s

/-- The fields of a PTP message the device reads, from its bytes and its crossing time. -/
def ptpParse (bytes : List Byte) (crossing : Int) : PtpMsg :=
  { source := BitVec.ofNat 80 (beAt bytes 20 10), seqId := BitVec.ofNat 16 (beAt bytes 30 2), domain := bytes.getD 4 0,
    crossing := crossing, carried := ((beAt bytes 34 6 * secT + beAt bytes 40 4 * 65536 : Nat) : Int),
    correction := (BitVec.ofNat 64 (beAt bytes 8 8)).toInt, twoStep := (bytes.getD 6 0).getLsbD 1,
    answers := BitVec.ofNat 80 (beAt bytes 44 10), bytes := bytes }

/-- The counts of a signed log₂ interval of seconds, -7 to +4 (R448). -/
def intervalNs (b : Nat) : Nat := if signed 8 b < 0 then secNs / 2 ^ (signed 8 b).natAbs else secNs * 2 ^ (signed 8 b).toNat

/-- Has the interval gone by since the message before? -/
def State.intervalOver (s : State) (last : Option Nat) (b : Nat) : Bool :=
  match last with
  | none => true
  | some t => decide (t + intervalNs b ≤ s.now)

/-- Is port m's next Sync due? -/
def State.syncDue (s : State) (m : Nat) : Bool :=
  s.portRuns m && s.ptpRole m == 1 && s.intervalOver (s.tpAt m).syncAt (s.getF (Reg.timePortIntv m) 23 16)

/-- Is port m's next Delay_Req or Pdelay_Req due? -/
def State.reqDue (s : State) (m : Nat) : Bool :=
  s.portRuns m && s.ptpRole m == 2
    && s.intervalOver (s.tpAt m).reqAt (if s.ptpPeer m then s.getF (Reg.timePortIntv m) 7 0 else s.getF (Reg.timePortIntv m) 15 8)

/-- A master port's Sync, at its interval: one step, or two where MACsec is set (R447). -/
def State.syncSend (s : State) (m : Nat) : State :=
  if s.syncDue m then
    let x := s.tpAt m
    let a := s.ptpAddr m false true
    let two := s.secOn m
    let tlv := if s.getF (Reg.timePortCfg m) 29 28 = 2 ∧ !two then asTlv else []
    let g := s.ptpMsg m 0 x.syncSeq 0 (s.getF (Reg.timePortIntv m) 23 16) two 0 (List.replicate 10 0 ++ tlv)
    (s.setTp m { x with syncSeq := (x.syncSeq + 1) % 0x10000, syncAt := some s.now }).sendTime m a g (.ptp (if two then .syncTwo else .sync) 0 a g)
  else s

/-- SYNC_SEND. -/
def execSyncSend (m : Fin 42) (s : State) : Host.Outcome State Fault Refusal := .next (s.syncSend m.val)

/-- A slave port's Delay_Req, or Pdelay_Req where its profile measures peer delay, at its interval. -/
def State.delayReqSend (s : State) (m : Nat) : State :=
  if s.reqDue m then
    let x := s.tpAt m
    let peer := s.ptpPeer m
    let a := s.ptpAddr m peer true
    let g := s.ptpMsg m (if peer then 2 else 1) x.reqSeq (if peer then 5 else 1) 0x7F false 0 (List.replicate (if peer then 20 else 10) 0)
    (s.setTp m { x with reqSeq := (x.reqSeq + 1) % 0x10000, reqAt := some s.now, req := some (x.reqSeq, none), peer := none }).sendTime m a g
      (.ptp (if peer then .pdelayReq else .delayReq) 0 a g)
  else s

/-- DELAY_REQ_SEND. -/
def execDelayReqSend (m : Fin 42) (s : State) : Host.Outcome State Fault Refusal := .next (s.delayReqSend m.val)
/-- SYNC. -/
def execSync (m : Fin 42) (p : PtpMsg) (s : State) : Host.Outcome State Fault Refusal := .next (s.ptpSync m.val p)
/-- FOLLOW_UP. -/
def execFollowUp (m : Fin 42) (p : PtpMsg) (s : State) : Host.Outcome State Fault Refusal := .next (s.ptpFollowUp m.val p)
/-- DELAY_REQ. -/
def execDelayReq (m : Fin 42) (p : PtpMsg) (s : State) : Host.Outcome State Fault Refusal := .next (s.ptpDelayReq m.val p)
/-- DELAY_RESP. -/
def execDelayResp (m : Fin 42) (p : PtpMsg) (s : State) : Host.Outcome State Fault Refusal := .next (s.ptpDelayResp m.val p)
/-- PDELAY_REQ. -/
def execPdelayReq (m : Fin 42) (p : PtpMsg) (s : State) : Host.Outcome State Fault Refusal := .next (s.ptpPdelayReq m.val p)
/-- PDELAY_RESP. -/
def execPdelayResp (m : Fin 42) (p : PtpMsg) (s : State) : Host.Outcome State Fault Refusal := .next (s.ptpPdelayResp m.val p)
/-- PDELAY_RESP_FOLLOW_UP. -/
def execPdelayRespFollowUp (m : Fin 42) (p : PtpMsg) (s : State) : Host.Outcome State Fault Refusal := .next (s.ptpPdelayFollow m.val p)
/-- PTP_GENERAL_MESSAGE. -/
def execPtpGeneralMessage (m : Fin 42) (p : PtpMsg) (s : State) : Host.Outcome State Fault Refusal := .next (s.ptpGeneral m.val p)

/-- TIME_PORT_QUAL (R444, R447): a change of qualified resets the accepted sender; clearing it at the slave port of a base puts the base into
HOLDOVER. -/
def State.qualWrite (s : State) (m : Nat) (v : Word) : State :=
  let was := s.qualified m
  let s1 := s.plainWrite (Reg.timePortQual m) v
  if was = bit v 0 then s1
  else
    let t := s.portTb m
    let s2 := s1.setTp m { s1.tpAt m with master := none }
    if was && s.ptpRole m == 2 && s.getF (Reg.tbCtrl t) 30 29 == 1 && (s.tbState t == 2 || s.tbState t == 3) then s2.setTbState t 4 else s2

/-- TIME_PORT_QUAL_WRITE. -/
def execTimePortQualWrite (ini : Ini) (m : Fin 42) (v : Word) (s : State) : Host.Outcome State Fault Refusal :=
  .next (s.gatedWrite ini (Reg.timePortQual m.val) v (fun s => s.qualWrite m.val v))

/-! ### Descriptors of queue 0x050 (R450) -/

/-- OFFSET: a sample for a base that takes descriptors, or IGNORED. -/
def State.offsetDesc (s : State) : State :=
  match s.firstWaiting 0x50 with
  | none => s
  | some (i, d) =>
    let t := byteAt d.bytes 8
    let theta := (BitVec.ofNat 64 (leAt d.bytes 16 8)).toInt
    if d.kind ≠ 1 then s
    else if 8 ≤ t ∨ !zeroBytes d.bytes 9 7 ∨ !zeroBytes d.bytes 24 8 then s.completeAt 0x50 i 1 none
    else if !s.takesSamples t 2 then s.completeAt 0x50 i 4 none
    else (s.servo t theta).completeAt 0x50 i 0 none

/-- OFFSET. -/
def execOffset (s : State) : Host.Outcome State Fault Refusal := .next s.offsetDesc

/-- Statuses of a descriptor whose memory access failed: DOMAIN or FAR_ERROR. -/
def accStatus (r : MemAcc) : Nat := match r with | .domain => 2 | _ => 3

/-- PTP_SEND: a general message with the port's transport headers, in service class 7. -/
def State.ptpSend (s : State) : State :=
  match s.firstWaiting 0x50 with
  | none => s
  | some (i, d) =>
    let addr := leAt d.bytes 8 6
    let n := leAt d.bytes 14 2
    let m := byteAt d.bytes 16
    if d.kind ≠ 2 then s
    else if 42 ≤ m ∨ 1024 < n ∨ !zeroBytes d.bytes 17 15 then s.completeAt 0x50 i 1 none
    else if n = 0 then s.completeAt 0x50 i 0 none
    else
      let r := s.memRead ⟨1, 0x81⟩ addr n
      match r.2.1 with
      | .ok => (r.1.sendTime m (s.ptpAddr m false false) r.2.2 (.ptp .general 0 (s.ptpAddr m false false) r.2.2)).completeAt 0x50 i 0 none
      | e => r.1.completeAt 0x50 i (accStatus e) none

/-- PTP_SEND. -/
def execPtpSend (s : State) : Host.Outcome State Fault Refusal := .next s.ptpSend

/-! ### System counter and PPS (R451-R453) -/

/-- A number for each initiator that can hold a latched counter half. -/
def iniKey : Ini → Nat
  | .engine q => q.g.val * 16 + q.e.val
  | .spine => 0x400
  | .clasp _ => 0x401
  | .host0 => 0x402
  | .host1 => 0x403

/-- A read of SYS_CTR_LO latches the high half for the reader (R452). -/
def State.readCtrLo (s : State) (ini : Ini) : State :=
  State.answer { s with sys := { s.sys with ctrHi := SMap.set (fun _ => (0 : Word)) s.sys.ctrHi (iniKey ini) (BitVec.ofNat 32 (s.now / 2 ^ 32)) } }
    (.ok (BitVec.ofNat 32 s.now))

/-- SYS_CTR_LO_READ. -/
def execSysCtrLoRead (ini : Ini) (s : State) : Host.Outcome State Fault Refusal :=
  .next (s.gated ini Reg.sysCtrLo false 0 (fun s => s.readCtrLo ini))

/-- A PPS_IN edge: timestamp, event, and a sample for a base that takes PPS_IN (R443, R453). -/
def State.ppsIn (s : State) : State :=
  if s.flag Reg.ppsInCfg 31 then
    let t := s.getF Reg.ppsInCfg 2 0
    let x := (stampRes (s.timeOf t)).toNat
    let s1 := (s.showTime Reg.ppsInS none Reg.ppsInNs Reg.ppsInFrac x).raiseEvt Reg.timeEvt
    let th : Int := if x % secT < 500000000 * 65536 then (x % secT : Nat) else (x % secT : Nat) - (secT : Nat)
    if s.takesSamples t 3 then s1.servo t th else s1
  else s

/-- PPS_IN_EDGE. -/
def execPpsInEdge (s : State) : Host.Outcome State Fault Refusal := .next s.ppsIn

/-- PPS_OUT_PULSE: rise in the first nanosecond at or after a second boundary + phase, fall once width µs have passed (R453). -/
def execPpsOutPulse (rise : Bool) (s : State) : Host.Outcome State Fault Refusal :=
  let c := s.rd Reg.ppsOutCfg
  let x := s.timeOf (fld c 30 28)
  let off : Int := ((x : Int) - (s.rd Reg.ppsOutPhase).toInt * 65536) % (secT : Nat)
  .next (
    if rise then
      (if bit c 31 && s.tbOn (fld c 30 28) && fld c 15 0 != 0 && !s.sys.ppsHigh && decide (off < 65569) then
        State.emit { s with sys := { s.sys with ppsHigh := true, ppsAt := x } } (.pps true)
      else s)
    else if s.sys.ppsHigh && decide (s.sys.ppsAt + fld c 15 0 * 1000 * 65536 ≤ x) then
      State.emit { s with sys := { s.sys with ppsHigh := false } } (.pps false)
    else s)

/-! ### TIME_ECHO (R459-R463) -/

/-- The far address of receiver f's echo entry. -/
def State.echoEntryAt (s : State) (f : Nat) : Nat := ssBase + s.getF Reg.timeEchoTbl 25 5 * 32 + 32 * f

/-- The lane of the reply an echo reports on: that of the exchange before (log entry 177). -/
def State.echoLane (s : State) (p : Upstream) : Nat :=
  match List.find? (fun (e : Nat × Nat × Nat) => e.2.1 == (beAt p.data 2 2 + 0xFFFF) % 0x10000) (s.rxAt (upFolio p)).t3 with
  | some e => e.1
  | none => p.lane.toNat

/-- Write a result's θ and D for the path of the lane of the reply it reports on (R460, R463). -/
def State.echoResult (s : State) (p : Upstream) : State :=
  let pathB := decide (s.echoLane p ≠ s.getF (Reg.wchCtrl p.channel.val) 25 20)
  if (p.data.getD 1 0).getLsbD 0 then
    (s.memWrite ⟨1, 0x81⟩ (s.echoEntryAt (upFolio p) + (if pathB then 16 else 8)) (leBytes 4 (beAt p.data 12 4) ++ leBytes 4 (beAt p.data 16 4))).1
  else s

/-- Count an exchange in the entry. -/
def State.echoCount (s : State) (f : Nat) : State :=
  let r := s.readFree ⟨1, 0x81⟩ (s.echoEntryAt f + 24) 4
  (r.1.memWrite ⟨1, 0x81⟩ (s.echoEntryAt f + 24) (leBytes 4 (ofLe r.2 + 1) ++ [0, 0, 0, 0])).1

/-- Form the reply to an echo that arrived at t2, and send it in service class 7 on its lane alone. -/
def State.echoReply (s : State) (p : Upstream) (t2 : Nat) (a : List Byte) : State :=
  let n := p.channel.val
  let f := upFolio p
  let m := p.lane.toNat
  let prev := SMap.find? (s.rxAt f).t3 m
  let t3 := (prev.map Prod.snd).getD 0
  let frac := fun x : Nat => beBytes 2 (x % 0x10000)
  let data := [0x85, if prev.isSome then 1 else 0] ++ (p.data.drop 2).take 10 ++ beBytes 4 (ptSec t2) ++ beBytes 4 (ptNs t2) ++ frac t2
    ++ beBytes 2 ((prev.map Prod.fst).getD 0)
    ++ (if prev.isSome then beBytes 4 (ptSec t3) ++ beBytes 4 (ptNs t3) ++ frac t3 ++ [0, 0] else List.replicate 12 0) ++ a.reverse
  let h : FolioHdr := ⟨max 1 (s.rxVersion f), 0, n, f % 16, 2, s.curPicture, 0, 0, 0, 0⟩
  let r := s.sealFolio n (s.folioPkt n 0 h data [m] none).payload
  r.2.sendTime m (s.chAddr n) r.1 (.echo f (beAt p.data 2 2))

/-- TIME_ECHO (R460): at most 64 answers to a receiver in a second; a failed read of a counts in unread. -/
def State.timeEcho (s : State) (p : Upstream) : State :=
  let f := upFolio p
  let m := p.lane.toNat
  let times := (s.rxAt f).echoTimes.filter (fun t => decide (s.now < t + 1000000000))
  let s0 := s.turnEpoch p.channel.val
  if 64 ≤ times.length then s.addSat Reg.timeEchoCnt 31 16 1
  else if !s0.chSends p.channel.val ∨ 42 ≤ m then s0
  else
    let pathB := decide (m ≠ s.getF (Reg.wchCtrl p.channel.val) 25 20)
    let t2 := (s.ingress m (s.timeOf (s.portTb m))).toNat
    let s1 := (s0.setRx f { s0.rxAt f with echoTimes := s.now :: times }).echoResult p
    let addr := s.echoEntryAt f + (if pathB then 4 else 0)
    let bad := (s1.memRead ⟨1, 0x81⟩ addr 4).2.1 ≠ .ok
    let r := s1.readFree ⟨1, 0x81⟩ addr 4
    let s2 := if bad then r.1.addSat Reg.timeEchoCnt 15 0 1 else r.1
    (s2.echoReply p t2 r.2).echoCount f

/-- TIME_ECHO. -/
def execTimeEcho (p : UpFrame) (s : State) : Host.Outcome State Fault Refusal := .next (s.upControl p 5 State.timeEcho)

end Sys2Proof.Machine
end

