-- ==== Sys2Proof/Machine/Trunk.lean ====
section
/-! DEFINITION. FOLIO_DEC: the trunk packets a cascade child receives and the decoding of their segments into its output raster (R40, R41, R303-R305,
R320, R337, R342-R346, R370-R379, R526). -/

namespace Sys2Proof.Machine

/-! ### Packets (R320, R337, R342, R526) -/

/-- An entry of the inbound map (R303): place, folio number f, offset in leaves. -/
structure MapEntry where
  i : Nat
  f : Nat
  x : Nat
  y : Nat

/-- The valid entries of context c's inbound map. -/
def State.inbound (s : State) (c : Nat) : State × List MapEntry :=
  let z := ctxCfg s.rd c
  let r := s.readFree ⟨1, z.port⟩ (ssBase + z.table) 128
  (r.1, ((List.range 16).filter (fun i => (r.2.getD (8 * i + 6) 0).getLsbD 0)).map (fun i =>
    ⟨i, leAt r.2 (8 * i) 2, leAt r.2 (8 * i + 2) 2, leAt r.2 (8 * i + 4) 2⟩))

/-- Record i of context c. -/
def CtxSt.folioAt (x : CtxSt) (i : Nat) : DecFolio := SMap.get (fun _ => DecFolio.reset) x.folios i
/-- Store it. -/
def State.setDec (s : State) (c i : Nat) (d : DecFolio) : State :=
  s.setCtxSt c { s.ctxAt c with folios := SMap.set (fun _ => DecFolio.reset) (s.ctxAt c).folios i d }

/-- One packet or segment of context c counts as lost. -/
def State.trunkLost (s : State) (c : Nat) : State := s.setCtxSt c { s.ctxAt c with lost := (s.ctxAt c).lost + 1 }

/-- The epoch and sequence rule of R337: the record after an accepted packet, none for one it discards. A newer epoch marks every long-term
slot (R375). -/
def DecFolio.accept (d : DecFolio) (epoch seq : Nat) : Option DecFolio :=
  let adopt := some { d with
    epoch := some epoch, seen := [seq], lt := d.lt.map (fun p => (p.1, p.2.map (fun q => (q.1, true, q.2.2)))) }
  match d.epoch with
  | none => adopt
  | some e =>
    let k := (epoch + 0x10000 - e) % 0x10000
    let top := d.seen.foldl max 0
    if k = 0 then
      if d.seen.contains seq ∨ seq + 4096 ≤ top then none
      else some { d with seen := seq :: d.seen.filter (fun q => decide (max top seq < q + 4096)) }
    else if k ≤ 0x7FFF then adopt
    else none

/-- Put bytes of a packet into the segment they belong to (R342). -/
def addPiece (f version picture row ptS ptNs offset : Nat) (last : Bool) (data : List Byte) : List TrunkSeg → List TrunkSeg
  | [] => [⟨f, version, picture, row, ptS, ptNs, if last then some (offset + data.length) else none, [(offset, data)]⟩]
  | g :: gs =>
    if g.f = f ∧ g.picture = picture ∧ g.row = row then
      { g with last := if last then some (offset + data.length) else g.last, got := g.got ++ [(offset, data)] } :: gs
    else g :: addPiece f version picture row ptS ptNs offset last data gs

/-- The highest Folio version a trunk protocol version allows (R526). -/
def trunkTop (v : Nat) : Nat := if v = 0 then 0 else if v = 1 then 2 else 3

/-- The key of the inbound slot whose channel and key id match, if there is one (R494). -/
def State.inboundKey (s : State) (channel keyId : Nat) : Option (List Byte) :=
  (s.clasp.wall.findSome? (fun p => p.2.bind (fun w =>
    if w.inbound ∧ w.channel = channel ∧ w.keyId = keyId then some w.key else none)))

/-- The data of a trunk packet (R328, R494): none without an inbound slot, or when the tag fails. -/
def State.trunkOpen (s : State) (hd body : List Byte) : Option (List Byte) :=
  (s.inboundKey (beAt hd 2 2 % 512) (byteAt hd 7)).bind (fun k =>
    Config.gcmOpen k (folioIv (beAt hd 2 2 % 512) 0 (beAt hd 8 2) (beAt hd 12 4)) hd body)

/-- A trunk packet of type 0x00 for context c: header, and encrypted data with tag. The version must lie within HIF_VER.trunk, the hop byte must be the
active hop − 1, and R337 must hold; a packet refused counts as lost, and one of another hop raises the context's event (R41, log entry 41). -/
def State.trunkPacket (s : State) (c : Nat) (hd body : List Byte) : State :=
  let z := ctxCfg s.rd c
  let hop := s.getF Reg.impHop 7 0
  match s.trunkOpen hd body with
  | none => s.trunkLost c
  | some bs =>
    if !z.en || z.kind != 1 then s
    else if trunkTop (s.getF Reg.hifVer 23 16) < byteAt hd 0 then s.trunkLost c
    else if hop = 0 ∨ byteAt hd 6 ≠ hop - 1 then (s.trunkLost c).raiseEvt (Reg.pressCtxEvt c)
    else if byteAt hd 5 ≠ 0 then s
    else
      let f := beAt hd 2 2 % 512 * 16 + byteAt hd 4 % 16
      let m := s.inbound c
      match m.2.find? (fun e => e.f == f) with
      | none => m.1.trunkLost c
      | some e =>
        match ((m.1.ctxAt c).folioAt e.i).accept (beAt hd 8 2) (beAt hd 12 4) with
        | none => m.1
        | some d =>
          let s1 := m.1.setDec c e.i { d with ver := byteAt hd 0, keyId := byteAt hd 7 }
          s1.setCtxSt c { s1.ctxAt c with
            segs := addPiece f (byteAt hd 0) (beAt hd 16 4) (byteAt hd 28) (beAt hd 20 4) (beAt hd 24 4) (beAt hd 29 3)
              ((hd.getD 1 0).getLsbD 0) bs (s1.ctxAt c).segs }

/-- The bytes of a segment once it holds 0 to end - 1 without a gap. -/
def TrunkSeg.whole (g : TrunkSeg) : Option (List Byte) :=
  g.last.bind (fun n => (List.range n).mapM (fun i =>
    g.got.findSome? (fun p => if p.1 ≤ i ∧ i < p.1 + p.2.length then p.2[i - p.1]? else none)))

/-! ### Reference planes (R355, R370-R375) -/

/-- Address of pixel row v of a folio's tile in plane or slot k of the output region (R303). -/
def CtxCfg.tileAddr (z : CtxCfg) (e : MapEntry) (k v : Nat) : Nat :=
  z.outBase + k * z.slotBytes + (16 * e.y + v) * z.w * 6 + 16 * e.x * 6

/-- The canvas encoding's code width of the device's sheet 0 as a header states it. -/
def codeWidth (pq : Bool) : Nat := if pq then 12 else 16

/-- A long-term plane's samples at its depth: its codes were stored shifted to the code width (R369). -/
def State.readLt (s : State) (z : CtxCfg) (e : MapEntry) (d : DecFolio) (pq : Bool) (j depth : Nat) : State × List Nat :=
  (List.range (16 * d.h)).foldl (fun (a : State × List Nat) v =>
    let r := a.1.readFree ⟨4, z.port⟩ (z.tileAddr e (z.outSlots + j - 1) v) (96 * d.w)
    (r.1, a.2 ++ (leWords r.2).map (fun c => c / 2 ^ (codeWidth pq - depth)))) (s, [])

/-- The plane a reference names or its substitute (R374): samples, their depth, the plane's mark, whether it is a substitute. -/
def State.refPlane (s : State) (c : Nat) (e : MapEntry) (d : DecFolio) (pq : Bool) (r : Nat) : State × List Nat × Nat × Bool × Bool :=
  let z := ctxCfg s.rd c
  let lt := fun (j : Nat) => SMap.get (fun _ => (none : Option (Nat × Bool × Nat))) d.lt j
  let own := if r = 0 then none else lt r
  match own with
  | some (k, m, _) => let p := s.readLt z e d pq r k; (p.1, p.2, k, m, false)
  | none =>
    match d.short with
    | some (ss, k, m) => (s, ss, k, m, r != 0 || d.gap)
    | none =>
      let newest := ([1, 2, 3, 4] : List Nat).foldl (fun (b : Option (Nat × Nat × Bool × Nat)) j => match lt j, b with
        | some (k, m, p), none => some (j, k, m, p)
        | some (k, m, p), some q => if (p + 2 ^ 32 - q.2.2.2) % 2 ^ 32 < 2 ^ 31 ∧ p ≠ q.2.2.2 then some (j, k, m, p) else b
        | none, _ => b) none
      match newest with
      | some (j, k, m, _) => let p := s.readLt z e d pq j k; (p.1, p.2, k, m, true)
      | none =>
        let f := ({ sheetCfg s.rd 0 with enc := b2n pq } : SheetCfg).fillCode z.fill
        (s, (List.replicate (256 * d.w * d.h) f).flatten, codeWidth pq, false, true)

/-- A plane's samples taken at depth d (R372). -/
def atDepth (p : State × List Nat × Nat × Bool × Bool) (d : Nat) : List Nat := p.2.1.map (redepth p.2.2.1 d)

/-! ### Output (R303, R305) -/

/-- Write one leaf row of a folio, samples at depth d, as canvas codes into output slot or plane k. -/
def State.putTileRow (s : State) (z : CtxCfg) (e : MapEntry) (pq : Bool) (k y w d : Nat) (samples : List Nat) : State :=
  (List.range 16).foldl (fun s v =>
    (s.memWrite ⟨4, z.port⟩ (z.tileAddr e k (16 * y + v))
      (((samples.drop (v * w * 48)).take (w * 48)).flatMap (fun c => leBytes 2 (c * 2 ^ (codeWidth pq - d))))).1) s

/-- Has a folio decoded or concealed row y of picture p? -/
def DecFolio.doneRow (d : DecFolio) (p y : Nat) : Bool :=
  match d.picture with
  | none => false
  | some n =>
    if n = p then !d.isOpen || d.rows.any (fun r => r.1 == y)
    else decide ((n + 2 ^ 32 - p) % 2 ^ 32 < 2 ^ 31)

/-- Post what picture p has now complete: leaf rows every valid folio covering them has decoded, then the whole frame (R205, R303, R305). A folio not yet
started, whose height is not known, may cover every row from its offset on (log entry 172). -/
def State.postTrunk (s : State) (c p : Nat) (m : List MapEntry) : State :=
  let z := ctxCfg s.rd c
  let x := s.ctxAt c
  match x.pics.find? (fun q => q.picture == p) with
  | none => s
  | some q =>
    if q.posted then s
    else
      let slot := p % max 1 z.outSlots
      let covers := fun (y : Nat) => m.filter (fun e => decide (e.y ≤ y)
        && (decide ((x.folioAt e.i).h = 0) || decide (y < e.y + (x.folioAt e.i).h)))
      let all := (List.range (ceilDiv z.h 16)).filter (fun y => !(covers y).isEmpty)
      let ready := all.filter (fun y => (covers y).all (fun e => (x.folioAt e.i).doneRow p (y - e.y)))
      let fresh := ready.filter (fun y => !q.rows.contains y)
      let tok := fun (whole : Bool) (y : Nat) =>
        (⟨slot, p, whole, y, 0, q.start, s.now, q.marked, false, z.w, z.h⟩ : Token)
      let done := !all.isEmpty && decide (ready.length = all.length)
      let q' := { q with rows := fresh ++ q.rows, posted := done }
      s.setCtxSt c { x with
        pics := x.pics.map (fun r => if r.picture = p then q' else r)
        tokens := (if done then [tok true 0] else []) ++ (fresh.reverse.map (tok false)) ++ x.tokens }

/-! ### Start and close of a picture (R370-R379) -/

/-- Does every leaf of a segment do without a reference? -/
def intraFree (ls : List (Nat × LeafSyn × Nat)) : Bool := ls.all (fun l => l.2.1.refOf.isNone)

/-- The refresh count after a picture (R378), and whether the picture ends the refresh. -/
def DecFolio.refreshed (d : DecFolio) (h : SegHdr) : Option Nat × Bool :=
  if !h.refresh then (none, false)
  else
    let nb := if h.band = 0 then some 0 else d.nextBand
    if nb = some h.band then
      let b := bandRows (h.band, h.refreshN) d.h
      let ok := ((List.range (b.2 - b.1)).map (· + b.1)).all (fun y => d.rows.any (fun r => r.1 == y && r.2)) && !d.aboveMarked
      if ok then (if h.refreshN ≤ h.band + 1 then (none, true) else (some (h.band + 1), false)) else (nb, false)
    else (nb, false)

/-- KEY_REQUEST to the parent for folio f (R305, R333, R379): sealed upstream under the key its packets came with (R328, R494). -/
def State.askKey (s : State) (c : Nat) (e : MapEntry) (data : List Byte) : State :=
  let d := (s.ctxAt c).folioAt e.i
  let ch := e.f / 16
  let hd := beBytes 1 d.ver ++ [0] ++ beBytes 2 ch ++ beBytes 1 (e.f % 16) ++ [2, 0] ++ beBytes 1 d.keyId ++ beBytes 2 (d.epoch.getD 0)
    ++ beBytes 2 data.length ++ beBytes 4 d.upSeq ++ List.replicate 16 0
  match s.inboundKey ch d.keyId with
  | none => s
  | some k =>
    (s.setDec c e.i { d with upSeq := d.upSeq + 1 }).emit
      (.upstream e.f (hd ++ Config.gcmSeal k (folioIv ch (0x10 + e.f % 16) (d.epoch.getD 0) d.upSeq) hd data))

/-- Close a folio's picture (R370): conceal what is missing (R376), pin, replace the short-term plane, settle the mark (R377, R378), and with auto set ask
for a key at the first picture marked (R305, R379). -/
def State.closeTrunk (s : State) (c : Nat) (e : MapEntry) (m : List MapEntry) : State :=
  let z := ctxCfg s.rd c
  let d := (s.ctxAt c).folioAt e.i
  match d.isOpen, d.picture, SegHdr.ofWord d.fields with
  | true, some p, some h =>
    let missing := (List.range d.h).filter (fun y => !d.rows.any (fun r => r.1 == y))
    let slot := p % max 1 z.outSlots
    let sub := if missing.isEmpty then (s, [], 0, false, false) else s.refPlane c e d h.pq 0
    let plane := if missing.isEmpty then [] else atDepth sub d.depth
    let s1 := missing.foldl (fun s y => s.putTileRow z e h.pq slot y d.w d.depth (rasterRow d.w plane y)) sub.1
    let whole := (List.range d.h).flatMap (fun y =>
      if d.rows.any (fun r => r.1 == y) then SMap.get (fun _ => []) d.cur y else rasterRow d.w plane y)
    let r := d.refreshed h
    let mark := (d.mark || !missing.isEmpty) && !(h.key && missing.isEmpty) && !r.2
    let s2 := if h.pin = 0 then s1 else
      (List.range d.h).foldl (fun s y => s.putTileRow z e h.pq (z.outSlots + h.pin - 1) y d.w d.depth (rasterRow d.w whole y)) s1
    let lt := if h.pin = 0 then d.lt else SMap.set (fun _ => none) d.lt h.pin (some (d.depth, mark, p))
    let d' := { d with isOpen := false, cur := [], lt := lt, short := some (whole, d.depth, mark), nextBand := r.1, wasMarked := mark }
    let s3 := (s2.setDec c e.i d').setB (Reg.pressCtxSts c) 27 mark
    let s4 := if mark then s3.addSat (Reg.pressCtxCnt c) 15 0 1 else s3
    let s5 := s4.setCtxSt c { s4.ctxAt c with
      pics := (s4.ctxAt c).pics.map (fun q => if q.picture = p then { q with marked := q.marked || mark } else q) }
    let intact := lt.all (fun q => match q.2 with | some k => !k.2.1 | none => true)
    let s6 := if mark && !d.wasMarked && z.auto then
        s5.askKey c e ([2, if intact && decide (2 ≤ s5.getF Reg.hifVer 23 16) then 1 else 0] ++ beBytes 4 p)
      else s5
    s6.postTrunk c p m
  | _, _, _ => s

/-- Start a folio's picture p with header h (R370, R373-R375), after closing the one before. -/
def State.startTrunk (s : State) (c : Nat) (e : MapEntry) (m : List MapEntry) (g : TrunkSeg) (h : SegHdr) : State :=
  let z := ctxCfg s.rd c
  let s1 := s.closeTrunk c e m
  let d := (s1.ctxAt c).folioAt e.i
  let p := g.picture
  let resized := d.w != h.w || d.h != h.h
  let gap := match d.picture with | some n => decide (p ≠ (n + 1) % 2 ^ 32) | none => false
  let lt0 := if resized || (h.key && !h.keepLt) then [] else d.lt
  let lt1 := lt0.filter (fun q => !h.unpin.testBit (q.1 - 1))
  let lt2 := if gap then lt1.map (fun q => (q.1, q.2.map (fun k => (k.1, true, k.2.2)))) else lt1
  let d' := { d with
    w := h.w, h := h.h, depth := h.depth, picture := some p, isOpen := true, fields := { h with qp := 0 }.word, rows := [], lost := [], cur := []
    gap := gap, mark := false, aboveMarked := false, short := if resized then none else d.short, lt := lt2 }
  let s2 := (s1.setDec c e.i d').wr (Reg.pressCtxPic c) (BitVec.ofNat 32 p)
  let x := s2.ctxAt c
  let n := max 1 z.outSlots
  if x.pics.any (fun q => q.picture == p) then s2
  else s2.setCtxSt c { x with
    pics := ⟨p, s.now, g.ptS, g.ptNs, false, false, []⟩ :: x.pics.filter (fun q => q.picture % n != p % n)
    tokens := x.tokens.filter (fun t => t.slot != p % n) }

/-! ### A segment (R343, R376, R377) -/

/-- Decode the leaves of row y: their samples, and whether a leaf used a substitute or predicted from a marked plane, and the latter alone. -/
def State.trunkLeaves (s : State) (c : Nat) (e : MapEntry) (d : DecFolio) (h : SegHdr) (y : Nat) (ls : List (Nat × LeafSyn × Nat)) :
    State × List Nat × Bool × Bool :=
  let used := (ls.filterMap (fun l => l.2.1.refOf)).dedup
  let refs := used.foldl (fun (a : State × List (Nat × List Nat × Bool × Bool)) r =>
    let p := a.1.refPlane c e d h.pq r
    (p.1, a.2 ++ [(r, atDepth p h.depth, p.2.2.2.1, p.2.2.2.2)])) (s, [])
  let sample := fun (r : Nat) (px py : Int) (k : Nat) =>
    let pl := (refs.2.find? (fun q => q.1 == r)).elim [] (fun q => q.2.1)
    let u := (clampI 0 ((16 * d.w - 1 : Nat) : Int) px).toNat
    let v := (clampI 0 ((16 * d.h - 1 : Nat) : Int) py).toNat
    pl.getD ((v * 16 * d.w + u) * 3 + k) 0
  let out := ls.zipIdx.foldl (fun (a : List (List Nat)) l =>
    let env : RecEnv := { d := h.depth, ycocg := h.ycocg, ref := sample, x := l.2, y := y, prev := a.getLast? }
    a ++ [(recLeaf env l.1.2.2 l.1.2.1).1]) []
  (refs.1, rowSamples out, refs.2.any (fun q => q.2.2.1 || q.2.2.2), refs.2.any (fun q => q.2.2.1))

/-- A row of the open picture is settled: close the picture once every row is (R370). -/
def State.afterRow (s : State) (c : Nat) (e : MapEntry) (m : List MapEntry) : State :=
  let d := (s.ctxAt c).folioAt e.i
  match d.picture with
  | some p =>
    if (List.range d.h).all (fun y => d.rows.any (fun r => r.1 == y) || d.lost.contains y) then s.closeTrunk c e m else s.postTrunk c p m
  | none => s

/-- Decode one whole segment of folio e. -/
def State.decodeTrunk (s : State) (c : Nat) (e : MapEntry) (m : List MapEntry) (g : TrunkSeg) (bytes : List Byte) : State :=
  let d := (s.ctxAt c).folioAt e.i
  let lose := fun (s : State) =>
    let d := (s.ctxAt c).folioAt e.i
    if d.isOpen ∧ d.picture = some g.picture ∧ g.row < d.h ∧ !d.rows.any (fun r => r.1 == g.row) then
      (s.setDec c e.i { d with lost := g.row :: d.lost }).afterRow c e m
    else s
  match parseSegment g.version g.row bytes with
  | none => lose s
  | some (h, ls) =>
    let old := match d.picture with
      | some n => decide (n ≠ g.picture) && !decide ((g.picture + 2 ^ 32 - n) % 2 ^ 32 < 2 ^ 31)
      | none => false
    if old || (decide (d.picture = some g.picture) && !d.isOpen) then s
    else
      let s1 := if d.picture = some g.picture then s else s.startTrunk c e m g h
      let d1 := (s1.ctxAt c).folioAt e.i
      let same := match SegHdr.ofWord d1.fields with
        | some k => decide (k.pictureFields = h.pictureFields)
        | none => false
      if !same then lose s1
      else if d1.rows.any (fun r => r.1 == g.row) || d1.lost.contains g.row then s1
      else
        let z := ctxCfg s.rd c
        let r := s1.trunkLeaves c e d1 h g.row ls
        let above := h.refresh && decide (g.row < (bandRows (h.band, h.refreshN) h.h).1) && r.2.2.2
        let s2 := r.1.setDec c e.i { d1 with
          rows := (g.row, intraFree ls) :: d1.rows, cur := SMap.set (fun _ => []) d1.cur g.row r.2.1
          mark := d1.mark || r.2.2.1, aboveMarked := d1.aboveMarked || above }
        (s2.putTileRow z e h.pq (g.picture % max 1 z.outSlots) g.row h.w h.depth r.2.1).afterRow c e m

/-- TRUNK_SEGMENT_DECODE: the first segment context c holds whole; one whose folio is not in the inbound map counts as lost. -/
def State.trunkSegment (s : State) (c : Nat) : State :=
  let x := s.ctxAt c
  let z := ctxCfg s.rd c
  if !z.en || z.kind != 1 then s
  else match x.segs.zipIdx.findSome? (fun p => p.1.whole.map (fun b => (p.1, p.2, b))) with
    | none => s
    | some (g, i, bytes) =>
      let s1 := s.setCtxSt c { x with segs := x.segs.eraseIdx i }
      let m := s1.inbound c
      match m.2.find? (fun e => e.f == g.f) with
      | none => m.1.trunkLost c
      | some e => m.1.decodeTrunk c e m.2 g bytes

/-- TRUNK_SEGMENT_DECODE. -/
def execTrunkSegmentDecode (c : Fin 64) (s : State) : Host.Outcome State Fault Refusal := .next (s.trunkSegment c.val)

end Sys2Proof.Machine
end

