-- ==== Sys2Proof/Machine/NetRx.lean ====
section
/-! DEFINITION. Ports and ingress: enabling a port, frames received, recognisers, classifier and policers, address answers (R383-R397). -/

namespace Sys2Proof.Machine

/-! ### PORT_ENABLE (R383, R384) -/

/-- Does port m's new control word break R384, or does its lane send a pattern (R430)? -/
def State.portWrong (s : State) (m : Nat) (v : Word) : Bool :=
  let mode := fld v 30 29
  let fec := fld v 28 27
  (if m < 40 then decide (2 ≤ mode) else decide (mode < 2))
    || (fec == 1 && mode != 0) || (fec != 0 && decide (2 ≤ mode)) || fec == 3
    || (bit v 25 && decide (m < 32))
    || (bit v 24 && decide (m ≠ 40)) || s.flag (Reg.lanePrbs m) 31
    || (m == 40 && bit v 24 && (s.getF (Reg.macCtrl 41) 30 29 != mode || s.flag (Reg.macCtrl 41) 31))
    || (m == 41 && s.flag (Reg.macCtrl 40) 24)

/-- Start or stop port m: en and running together. -/
def State.runPort (s : State) (m : Nat) (on : Bool) : State := (s.setB (Reg.macCtrl m) 31 on).setB (Reg.macSts m) 30 on

/-- A write of MAC_CTRL: while en is 1 only en changes; setting en checks the settings and starts the port or records AGREE. Port 40 with prp set takes
port 41 with it. -/
def State.macCtrlWrite (s : State) (m : Nat) (v : Word) : State :=
  let pair := fun (s : State) on => if m = 40 ∧ s.flag (Reg.macCtrl 40) 24 then s.runPort 41 on else s
  if s.flag (Reg.macCtrl m) 31 then
    if bit v 31 then s else pair (s.runPort m false) false
  else
    let s1 := (s.plainWrite (Reg.macCtrl m) v).setB (Reg.macCtrl m) 31 false
    if !bit v 31 then s1
    else if s.portWrong m v then s1.setF (Reg.macSts m) 23 16 2
    else pair ((s1.runPort m true).setF (Reg.macSts m) 23 16 0) true

/-- PORT_ENABLE. -/
def execPortEnable (ini : Ini) (m : Fin 42) (v : Word) (s : State) : Host.Outcome State Fault Refusal :=
  .next (s.gatedWrite ini (Reg.macCtrl m.val) v (fun s => s.macCtrlWrite m.val v))

/-! ### Frames taken apart -/

/-- A received frame's header and what follows it. -/
structure RxHdr where
  dst : Nat
  src : Nat
  tci : Option Nat
  etype : Nat
  rest : List Byte
deriving DecidableEq, Repr

/-- The header of a frame, with its 802.1Q tag if it has one. -/
def rxHdr (bs : List Byte) : RxHdr :=
  let tagged := decide (beAt bs 12 2 = 0x8100)
  { dst := beAt bs 0 6, src := beAt bs 6 6, tci := if tagged then some (beAt bs 14 2) else none,
    etype := frameType bs, rest := bs.drop (if tagged then 18 else 14) }

/-- An IP packet's parts: version 6, source, destination, protocol, payload. -/
structure RxIp where
  v6 : Bool
  src : List Byte
  dst : List Byte
  proto : Nat
  payload : List Byte
deriving DecidableEq, Repr

/-- The IP packet a frame carries. -/
def RxHdr.ip (h : RxHdr) : Option RxIp :=
  let b := h.rest
  if h.etype = 0x0800 ∧ byteAt b 0 / 16 = 4 then
    some ⟨false, (b.drop 12).take 4, (b.drop 16).take 4, byteAt b 9, (b.take (beAt b 2 2)).drop (byteAt b 0 % 16 * 4)⟩
  else if h.etype = 0x86DD ∧ byteAt b 0 / 16 = 6 then
    some ⟨true, (b.drop 8).take 16, (b.drop 24).take 16, byteAt b 6, (b.drop 40).take (beAt b 4 2)⟩
  else none

/-- A UDP datagram's destination port and payload. -/
def RxIp.udp (p : RxIp) : Option (Nat × List Byte) :=
  if p.proto = 17 then some (beAt p.payload 2 2, (p.payload.take (beAt p.payload 4 2)).drop 8) else none

/-- The UDP datagram a frame carries. -/
def RxHdr.udp (h : RxHdr) : Option (RxIp × Nat × List Byte) := h.ip.bind (fun p => p.udp.map (fun u => (p, u.1, u.2)))

/-! ### Address answers (R386) -/

/-- An ARP reply for the port's IPv4 address. -/
def State.arpAnswer (s : State) (m senderMac : Nat) (senderIp targetIp : Word) : State :=
  if s.portRuns m && s.rd (Reg.macIp4 m) != 0 && targetIp == s.rd (Reg.macIp4 m) then
    s.sendNow m (padFrame (ethHeader senderMac (s.portMac m) none 0x0806 ++ [0, 1, 8, 0, 6, 4, 0, 2] ++ beBytes 6 (s.portMac m)
      ++ beBytes 4 targetIp.toNat ++ beBytes 6 senderMac ++ beBytes 4 senderIp.toNat))
  else s

/-- ARP_REQUEST. -/
def execArpRequest (m : Fin 42) (senderMac : BitVec 48) (senderIp targetIp : Word) (s : State) : Host.Outcome State Fault Refusal :=
  .next (s.arpAnswer m.val senderMac.toNat senderIp targetIp)

/-- A neighbour advertisement for MAC_IP6 or the link-local address (RFC 4861): solicited to the sender, or to all nodes when it has no address. -/
def State.ndAnswer (s : State) (m senderMac : Nat) (senderIp target : List Byte) : State :=
  let own := (s.portIp6 m == target && target != List.replicate 16 0) || s.portLinkLocal m == target
  if s.portRuns m && own then
    let none6 := senderIp == List.replicate 16 0
    let dip := if none6 then [0xFF, 2] ++ List.replicate 13 0 ++ [1] else senderIp
    let dmac := if none6 then 0x333300000001 else senderMac
    let icmp := fun sum => [136, 0] ++ beBytes 2 sum ++ [if none6 then 0x20 else 0x60, 0, 0, 0] ++ target ++ [2, 1] ++ beBytes 6 (s.portMac m)
    let sum := inetSum (target ++ dip ++ beBytes 4 32 ++ [0, 0, 0, 58] ++ icmp 0)
    s.sendNow m (padFrame (ethHeader dmac (s.portMac m) none 0x86DD ++ ip6Header 0 target dip 58 32 255 ++ icmp sum))
  else s

/-- NEIGHBOUR_SOLICITATION. -/
def execNeighbourSolicitation (m : Fin 42) (senderMac : BitVec 48) (senderIp target : BitVec 128) (s : State) :
    Host.Outcome State Fault Refusal :=
  .next (s.ndAnswer m.val senderMac.toNat (beBytes 16 senderIp.toNat) (beBytes 16 target.toNat))

/-- Is an ICMPv6 packet a neighbour solicitation that passes the validity checks of RFC 4861: hop limit 255, checksum, code 0, length, a unicast target, and
from the unspecified address only to a solicited-node group without a source link-layer option? -/
def RxHdr.solicits (h : RxHdr) (p : RxIp) : Bool :=
  let b := p.payload
  let none6 := p.src == List.replicate 16 0
  p.v6 && p.proto == 58 && byteAt b 0 == 135 && byteAt h.rest 7 == 255 && byteAt b 1 == 0 && decide (24 ≤ b.length)
    && inetSum (p.src ++ p.dst ++ beBytes 4 b.length ++ [0, 0, 0, 58] ++ b) == 0 && byteAt b 8 != 0xFF
    && (!none6 || (p.dst.take 13 == [0xFF, 2, 0, 0, 0, 0, 0, 0, 0, 0, 0, 1, 0xFF] && byteAt b 24 != 1))

/-- Answer a frame that asks for one of the port's addresses. -/
def State.answerAddress (s : State) (m : Nat) (h : RxHdr) : State :=
  if h.etype = 0x0806 ∧ beAt h.rest 0 8 = 0x0001080006040001 then
    s.arpAnswer m (beAt h.rest 8 6) (BitVec.ofNat 32 (beAt h.rest 14 4)) (BitVec.ofNat 32 (beAt h.rest 24 4))
  else match h.ip with
    | some p => if h.solicits p then s.ndAnswer m h.src p.src ((p.payload.drop 8).take 16) else s
    | none => s

/-! ### Policers (R396, R397) -/

/-- Policer i's buckets. -/
def State.polAt (s : State) (i : Nat) : PolSt := SMap.get (fun _ => PolSt.reset) s.pol i
/-- Store them. -/
def State.setPol (s : State) (i : Nat) (x : PolSt) : State := { s with pol := SMap.set (fun _ => PolSt.reset) s.pol i x }

/-- Colour of a frame of B bytes (0 green, 1 yellow, 2 red) and the buckets after it. -/
def PolSt.colour (x : PolSt) (marked : Bool) (b : Nat) : Nat × PolSt :=
  let n := b * 65536
  if marked then (if n ≤ x.te then (1, { x with te := x.te - n }) else (2, x))
  else if n ≤ x.tc then (0, { x with tc := x.tc - n })
  else if n ≤ x.te then (1, { x with te := x.te - n })
  else (2, x)

/-- Meter a frame: is it delivered? Each colour is counted; a disabled policer colours green and touches no bucket. -/
def State.meter (s : State) (i : Nat) (dei : Bool) (b : Nat) : State × Bool :=
  let c := s.rd (Reg.tmPolCfg i)
  if !bit c 31 then (s.addSat (Reg.tmPolCntG i) 31 0 1, true)
  else
    let r := (s.polAt i).colour (bit c 30 && dei) b
    let s1 := s.setPol i r.2
    if r.1 = 0 then (s1.addSat (Reg.tmPolCntG i) 31 0 1, true)
    else if r.1 = 1 then (s1.addSat (Reg.tmPolCntY i) 31 0 1, !bit c 29)
    else (s1.addSat (Reg.tmPolCntR i) 31 0 1, false)

/-- Credit of a rate word per refill, in 2⁻¹⁶ byte (R404). -/
def rateCredit (w : Word) : Nat := fld w 15 0 * 2 ^ fld w 19 16

/-- One refill of policer i: credit, then cap. -/
def State.polRefill (s : State) (i : Nat) : State :=
  let x := s.polAt i
  s.setPol i ⟨min (x.tc + rateCredit (s.rd (Reg.tmPolCir i))) (s.getF (Reg.tmPolCbs i) 23 0 * 65536),
    min (x.te + rateCredit (s.rd (Reg.tmPolEir i))) (s.getF (Reg.tmPolEbs i) 23 0 * 65536), x.refills + 1⟩

/-- POLICER_REFILL, when 1,000 counts more have gone by. -/
def execPolicerRefill (i : Fin 512) (s : State) : Host.Outcome State Fault Refusal :=
  .next (if s.refillDue (s.polAt i).refills then s.polRefill i.val else s)

/-! ### The classifier (R394, R395) -/

/-- Bytes of an address as TM_CLS_DST and TM_CLS_SRC lay it out. -/
def State.clsAddr (s : State) (e : Nat) (src v6 : Bool) : List Byte :=
  let w := fun k => beBytes 4 (s.rd (if src then Reg.tmClsSrc e k else Reg.tmClsDst e k)).toNat
  if v6 then w 0 ++ w 1 ++ w 2 ++ w 3 else w 0

/-- Does an enabled entry match a frame of port m? -/
def State.clsMatch (s : State) (e m : Nat) (h : RxHdr) : Bool :=
  let c := s.rd (Reg.tmClsCtrl e)
  let k := s.rd (Reg.tmClsKey e)
  let lane := fld c 5 0
  bit c 31 && (lane == 0x3F || lane == m)
    && (!bit c 28 || h.tci.any (fun t => t % 4096 == fld k 11 0))
    && (match fld c 30 29 with
        | 2 => h.etype == fld k 31 16
        | mt => match h.udp with
          | none => false
          | some (p, dport, _) =>
            p.v6 == (mt == 1) && dport == fld k 31 16 && p.dst == s.clsAddr e false p.v6 && (!bit c 27 || p.src == s.clsAddr e true p.v6))

/-- Is a control word one with a reserved code? -/
def clsReserved (v : Word) : Bool :=
  fld v 30 29 == 3 || decide (4 ≤ fld v 26 24) || (decide (42 ≤ fld v 5 0) && fld v 5 0 != 0x3F)

/-- Is an entry's destination a multicast address that its lane joins: a single trunk or management port? -/
def State.clsJoins (s : State) (e : Nat) : Bool :=
  let c := s.rd (Reg.tmClsCtrl e)
  let top := fld (s.rd (Reg.tmClsDst e 0)) 31 24
  decide (32 ≤ fld c 5 0) && decide (fld c 5 0 < 42)
    && ((fld c 30 29 == 0 && decide (224 ≤ top) && decide (top < 240)) || (fld c 30 29 == 1 && top == 0xFF))

/-- A multicast group joined on a port: port, IPv6, the VLAN its entries ask for, the group's address. -/
structure Group where
  port : Nat
  v6 : Bool
  vlan : Option Nat
  addr : List Byte
deriving DecidableEq, Repr

/-- The group entry e joins. -/
def State.clsGroup (s : State) (e : Nat) : Group :=
  let c := s.rd (Reg.tmClsCtrl e)
  let v6 := fld c 30 29 == 1
  ⟨fld c 5 0, v6, if bit c 28 then some (s.getF (Reg.tmClsKey e) 11 0) else none, s.clsAddr e false v6⟩

/-- What a port listens to of a group: every source, or those listed (RFC 3376, RFC 3810). -/
inductive Listen where
  | all
  | from_ (sources : List (List Byte))
deriving DecidableEq, Repr

/-- What the enabled entries of a group listen to. -/
def State.listening (s : State) (g : Group) : Listen :=
  let es := (List.range 512).filter (fun e => s.flag (Reg.tmClsCtrl e) 31 && s.clsJoins e && s.clsGroup e == g)
  if es.any (fun e => !s.flag (Reg.tmClsCtrl e) 27) then .all else .from_ ((es.map (fun e => s.clsAddr e true g.v6)).eraseDups)

/-- A record of a report: its type and its sources. None for an empty list of sources added or given up. -/
def listenRecord (typ : Nat) (src : List (List Byte)) : List (Nat × List (List Byte)) := if src.isEmpty then [] else [(typ, src)]

/-- The records that tell a change: sources allowed (5) and blocked (6), or a change to a list (3) or to every source (4). -/
def Listen.change : Listen → Listen → List (Nat × List (List Byte))
  | .all, .all => []
  | .all, .from_ b => [(3, b)]
  | .from_ _, .all => [(4, [])]
  | .from_ a, .from_ b => listenRecord 5 (b.filter (fun x => !a.contains x)) ++ listenRecord 6 (a.filter (fun x => !b.contains x))

/-- The record that answers a query for some sources, or for any when none are named: MODE_IS_EXCLUDE (2) or MODE_IS_INCLUDE (1). -/
def Listen.answer (asked : List (List Byte)) : Listen → List (Nat × List (List Byte))
  | .all => if asked.isEmpty then [(2, [])] else [(1, asked)]
  | .from_ a => listenRecord 1 (a.filter (fun x => asked.isEmpty || asked.contains x))

/-- A record as both protocols lay it out. -/
def Group.record (g : Group) (r : Nat × List (List Byte)) : List Byte :=
  [BitVec.ofNat 8 r.1, 0] ++ beBytes 2 r.2.length ++ g.addr ++ r.2.flatten

/-- An IGMPv3 or MLDv2 report of some records of group g, with the header values those standards give (R395; log entry 176). -/
def State.reportFrame (s : State) (g : Group) (rs : List (Nat × List (List Byte))) : List Byte :=
  let body := beBytes 2 rs.length ++ rs.flatMap g.record
  let port := s.portMac g.port
  if g.v6 then
    let all : List Byte := [0xFF, 2, 0, 0, 0, 0, 0, 0, 0, 0, 0, 0, 0, 0, 0, 0x16]
    let icmp := fun sum => [143, 0] ++ beBytes 2 sum ++ [0, 0] ++ body
    let sum := inetSum (s.portLinkLocal g.port ++ all ++ beBytes 4 (icmp 0).length ++ [0, 0, 0, 58] ++ icmp 0)
    ethHeader 0x333300000016 port g.vlan 0x86DD ++ ip6Header 0 (s.portLinkLocal g.port) all 0 (8 + (icmp 0).length) 1
      ++ [58, 0, 5, 2, 0, 0, 1, 0] ++ icmp sum
  else
    let igmp := fun sum => [0x22, 0] ++ beBytes 2 sum ++ [0, 0] ++ body
    let ip := fun sum => [0x46, 0xC0] ++ beBytes 2 (24 + (igmp 0).length) ++ [0, 0, 0x40, 0, 1, 2] ++ beBytes 2 sum
      ++ beBytes 4 (s.rd (Reg.macIp4 g.port)).toNat ++ [224, 0, 0, 22, 0x94, 4, 0, 0]
    ethHeader 0x01005E000016 port g.vlan 0x0800 ++ ip (inetSum (ip 0)) ++ igmp (inetSum (igmp 0))

/-- Send a report, when there is anything to report. -/
def State.sendReport (s : State) (g : Group) (rs : List (Nat × List (List Byte))) : State :=
  if rs.isEmpty then s else s.spineSend g.port (s.reportFrame g rs)

/-- Set or clear en of entry e, and report what that changes of the group it joins. -/
def State.clsEnable (s : State) (e : Nat) (on : Bool) : State :=
  let s1 := s.setB (Reg.tmClsCtrl e) 31 on
  if s.clsJoins e then s1.sendReport (s.clsGroup e) ((s.listening (s.clsGroup e)).change (s1.listening (s.clsGroup e))) else s1

/-- The group and the sources an IGMP or MLD membership query asks about; the group of a general query is all zeros. -/
def RxHdr.query (h : RxHdr) : Option (Bool × List Byte × List (List Byte)) :=
  h.ip.bind (fun p =>
    let src := fun k n (bs : List Byte) => (List.range n).map (fun i => (bs.drop (k * i)).take k)
    if !p.v6 ∧ p.proto = 2 ∧ byteAt p.payload 0 = 0x11 then
      some (false, (p.payload.drop 4).take 4, src 4 (beAt p.payload 10 2) (p.payload.drop 12))
    else
      let b := p.payload.drop (8 * (1 + byteAt p.payload 1))
      if p.v6 ∧ p.proto = 0 ∧ byteAt p.payload 0 = 58 ∧ byteAt b 0 = 130 then
        some (true, (b.drop 8).take 16, src 16 (beAt b 26 2) (b.drop 28))
      else none)

/-- Answer a query that comes in at port m, for each group joined there that it asks about (R395). -/
def State.answerQuery (s : State) (m : Nat) (h : RxHdr) : State :=
  match h.query with
  | none => s
  | some (v6, group, src) =>
    let mine := (((List.range 512).filter (fun e => s.flag (Reg.tmClsCtrl e) 31 && s.clsJoins e)).map s.clsGroup).eraseDups
    (mine.filter (fun g => g.port == m && g.v6 == v6 && (g.addr == group || group.all (fun b => b == 0)))).foldl
      (fun s g => s.sendReport g ((s.listening g).answer src)) s

/-- A write discarded because the entry is enabled. -/
def State.clsBusy (s : State) : State := (s.setB Reg.tmSts 31 true).raiseEvt Reg.tmEvt

/-- A write to word w of entry e: while en is 1 only a write that clears en is taken; a reserved code keeps en at 0. -/
def State.clsWrite (s : State) (e w : Nat) (v : Word) : State :=
  let off := Reg.tmClsCtrl e + 4 * w
  if s.flag (Reg.tmClsCtrl e) 31 then
    if w = 0 ∧ !bit v 31 then s.clsEnable e false else s.clsBusy
  else
    let s1 := s.plainWrite off v
    if w = 0 ∧ bit v 31 then
      (if clsReserved v then s1.setB off 31 false else (s1.setB off 31 false).clsEnable e true)
    else s1

/-- CLASSIFIER_WRITE. -/
def execClassifierWrite (ini : Ini) (e : Fin 512) (w : Fin 16) (v : Word) (s : State) : Host.Outcome State Fault Refusal :=
  .next (s.gatedWrite ini (Reg.tmClsCtrl e.val + 4 * w.val) v (fun s => s.clsWrite e.val w.val v))

/-! ### RTP -/

/-- An RTP packet's parts: marker, sequence, timestamp, payload behind contributing sources and extension. -/
def rtpParse (bs : List Byte) : Bool × Nat × Word × List Byte :=
  let b0 := byteAt bs 0
  let n := 12 + 4 * (b0 % 16)
  let x := if 16 ≤ b0 % 32 then 4 + 4 * beAt bs (n + 2) 2 else 0
  let pad := if 32 ≤ b0 % 64 then byteAt bs (bs.length - 1) else 0
  (decide (128 ≤ byteAt bs 1), beAt bs 2 2, BitVec.ofNat 32 (beAt bs 4 4), (bs.take (bs.length - pad)).drop (n + x))

/-- A 16-bit sequence number extended to the value nearest the highest received. -/
def extendSeq (top : Option Word) (q : Nat) : Word :=
  match top with
  | none => BitVec.ofNat 32 q
  | some t => t + BitVec.ofInt 32 (signed 16 ((q + 0x10000 - t.toNat % 0x10000) % 0x10000))

/-- The sample row headers of an ST 2110-20 payload: length, row, field bit, pixel offset; at most three. -/
def rowHeaders : Nat → List Byte → List (Nat × Nat × Bool × Nat) × List Byte
  | 0, bs => ([], bs)
  | f + 1, bs =>
    let h := (beAt bs 0 2, beAt bs 2 2 % 0x8000, decide (128 ≤ byteAt bs 2), beAt bs 4 2 % 0x8000)
    if 128 ≤ byteAt bs 4 then
      let r := rowHeaders f (bs.drop 6)
      (h :: r.1, r.2)
    else ([h], bs.drop 6)

/-- The runs of samples behind their headers; `bpp` bits a pixel turn the offset into bytes. -/
def rowPieces (bpp : Nat) : List (Nat × Nat × Bool × Nat) → List Byte → List RowPiece
  | [], _ => []
  | h :: hs, bs => ⟨h.2.1, h.2.2.1, h.2.2.2 * bpp / 8, bs.take h.1⟩ :: rowPieces bpp hs (bs.drop h.1)

/-- An RTP payload as session i sees it. -/
def State.sessPacket (s : State) (i : Nat) (bs : List Byte) : RtpPacket :=
  let c := sessCfg s.rd i
  let r := rtpParse bs
  let pay := r.2.2.2
  if c.kind = 0 then
    let hs := rowHeaders 3 (pay.drop 2)
    let bpp := (if c.sampling = 0 then 2 else 3) * depthBits c.depth
    ⟨BitVec.ofNat 32 (beAt pay 0 2 * 0x10000 + r.2.1), r.2.2.1, r.1, rowPieces bpp hs.1 hs.2, [], false⟩
  else
    let pieces := if c.kind = 1 then (Config.st2110x30 pay).map (fun f => (⟨0, false, 0, f.flatMap (fun w => leBytes 4 w.toNat)⟩ : RowPiece)) else []
    ⟨extendSeq (s.sessAt i).top r.2.1, r.2.2.1, r.1, pieces, pay, c.kind == 4 && r.1⟩

/-! ### MAC_FRAME_RECEIVE (R382, R389, R392, R393) -/

/-- Count a good frame discarded by recognition, classification or policing. -/
def State.macDrop (s : State) (m : Nat) : State := s.addSat (Reg.macCntDrop m) 31 0 1

/-- A protected frame's parts (R389): association number, packet number, SCI, and the plain frame its key gives. The SecTAG carries the SCI and says
that the data are encrypted; a short length gives the data bytes before the ICV. -/
def State.secOpen (s : State) (m : Nat) (bs : List Byte) : Option (Nat × Nat × List Byte) :=
  let an := byteAt bs 14 % 4
  let sa := saOf (s.portAt m).rxSa an
  let short := byteAt bs 15
  let data := if short = 0 then bs.drop 28 else (bs.drop 28).take (short + 16)
  if beAt bs 12 2 = 0x88E5 ∧ byteAt bs 14 / 4 = 0x0B ∧ sa.keyed then
    (Config.gcmOpen sa.key ((bs.drop 20).take 8 ++ (bs.drop 16).take 4) (bs.take 28) data).map (fun p => (an, beAt bs 16 4, bs.take 12 ++ p))
  else none

/-- A frame of a port with macsec set (R389, R390): the plain frame when it validates and passes replay checking, with its packet number recorded. EAPOL
frames pass unprotected. -/
def State.secReceive (s : State) (m : Nat) (bs : List Byte) : Option (State × List Byte) :=
  if isEapol bs then some (s, bs)
  else (s.secOpen m bs).bind (fun r =>
    let p := s.portAt m
    let top := SMap.get (fun _ => 0) p.rxTop r.1
    if 1 ≤ r.2.1 ∧ top + 1 ≤ r.2.1 + s.getF (Reg.macSecCfg m) 15 0 then
      some (s.setPort m { p with rxTop := SMap.set (fun _ => 0) p.rxTop r.1 (max r.2.1 top) }, r.2.2)
    else none)

/-- A frame reaches the Spine (R393, R394): its receive ring, or its MKA and PRP (log entry 173). -/
def State.toSpine (s : State) (m : Nat) (bs : List Byte) : State :=
  { s with sys := { s.sys with spineRx := s.sys.spineRx ++ [(m, bs)] } }

/-- Does the frame end in a redundancy control trailer? -/
def hasRct (bs : List Byte) : Bool := decide (20 ≤ bs.length) && decide (beAt bs (bs.length - 2) 2 = 0x88FB)

/-- The duplicate discard table (R392): entries younger than 400 ms, of at most 256 source nodes, the latest first. -/
def prpKeep (now : Nat) (es : List (Nat × Nat)) : List (Nat × Nat) :=
  let live := es.filter (fun e => decide (now < e.2 + 400000000))
  let nodes := ((live.map (fun e => e.1 / 0x10000)).eraseDups).take 256
  live.filter (fun e => nodes.contains (e.1 / 0x10000))

/-- A frame of the PRP pair: none for a second copy, else its bytes without the trailer. -/
def State.prpReceive (s : State) (bs : List Byte) : State × Option (List Byte) :=
  if hasRct bs then
    let k := beAt bs 6 6 * 0x10000 + beAt bs (bs.length - 6) 2
    let es := prpKeep s.now s.sys.prpDup
    if es.any (fun e => e.1 == k) then ({ s with sys := { s.sys with prpDup := es } }, none)
    else ({ s with sys := { s.sys with prpDup := prpKeep s.now ((k, s.now) :: es) } }, some (bs.take (bs.length - 6)))
  else (s, some bs)

/-- The body of a Folio packet: as many data bytes as its header says, and the tag. -/
def folioBody (pay : List Byte) : List Byte := (pay.drop 32).take (beAt pay 10 2 + 16)

/-- The payload of a frame that matches the addressing of an enabled wall channel on one of its lanes (R393 item 4). -/
def State.folioIn (s : State) (m : Nat) (h : RxHdr) : Option (List Byte) :=
  let hit := fun n => s.chOn n && (s.chLanes n).contains m &&
    (match (s.chAddr n).mode, h.udp with
     | 2, _ => h.etype == (s.chAddr n).etype
     | md, some (p, dport, _) => p.v6 == (md == 1) && dport == (s.chAddr n).sport
     | _, none => false)
  match (List.range 512).find? hit with
  | none => none
  | some n => some (if (s.chAddr n).mode = 2 then h.rest else (h.udp.map (fun u => u.2.2)).getD [])

/-- An upstream Folio packet: R331, then what its kind means. -/
def State.folioReceive (s : State) (m : Nat) (pay : List Byte) : State :=
  s.upstream ⟨BitVec.ofNat 6 m, pay.take 32, folioBody pay⟩ (fun _ => true)
    (fun s p => if p.ptype = 2 ∧ upCode p = 5 then s.timeEcho p else s.upMessage p)

/-- The PTP message a frame carries. -/
def RxHdr.ptp (h : RxHdr) : Option (List Byte) :=
  if h.etype = 0x88F7 then some h.rest
  else match h.udp with
    | some (_, dport, pay) => if dport = 319 ∨ dport = 320 then some pay else none
    | none => none

/-- Apply classifier entry e to a frame it matches: meter, then act (R394, R396). -/
def State.classified (s : State) (m e : Nat) (h : RxHdr) (bs : List Byte) : State :=
  let c := s.rd (Reg.tmClsCtrl e)
  let r := if bit c 17 then s.meter (fld c 16 8) (h.tci.any (fun t => t.testBit 12)) (bs.length + 4) else (s, true)
  let t := fld c 23 18
  let pay := if fld c 30 29 = 2 then h.rest else (h.udp.map (fun u => u.2.2)).getD []
  if !r.2 then r.1.macDrop m
  else match fld c 26 24 with
    | 1 =>
      let k := sessCfg s.rd t
      if m = 32 + k.legA ∧ k.legA < 8 then r.1.ingestPacket t false (r.1.sessPacket t pay)
      else if k.merge ∧ m = 32 + k.legB ∧ k.legB < 8 then r.1.ingestPacket t true (r.1.sessPacket t pay)
      else r.1.macDrop m
    | 2 => r.1.trunkPacket t (pay.take 32) (folioBody pay)
    | 3 => r.1.toSpine m bs
    | _ => r.1.macDrop m

/-- Is it a MAC control frame (R382)? -/
def isMacControl (bs : List Byte) : Bool := decide (frameType bs = 0x8808)

/-- Dispatch a good frame by the first rule of R393 it meets. -/
def State.dispatchFrame (s : State) (m : Nat) (bs : List Byte) : State :=
  let h := rxHdr bs
  if isMacControl bs then s.addSat (Reg.macCntPause m) 31 0 1
  else if h.etype = 0x888E ∨ h.etype = 0x88FB then s.toSpine m bs
  else match h.ptp with
    | some g => s.ptpMessage m (ptpParse g (s.timeOf (s.portTb m)))
    | none =>
      match s.folioIn m h with
      | some pay => s.folioReceive m pay
      | none =>
        let s1 := (s.answerAddress m h).answerQuery m h
        match (List.range 512).find? (fun e => s1.clsMatch e m h) with
        | some e => s1.classified m e h bs
        | none => if 40 ≤ m then s1.toSpine m bs else s1.macDrop m

/-- A good plain frame at port m: counted, and its PRP copies sorted out (R392). -/
def State.goodFrame (s : State) (m : Nat) (bs : List Byte) : State :=
  let s1 := s.addSat (Reg.macCntRx m) 31 0 1
  if s1.prpOn m then
    let r := s1.prpReceive bs
    match r.2 with
    | none => r.1
    | some b => r.1.dispatchFrame m b
  else s1.dispatchFrame m bs

/-- A frame arrives at port m. A frame with a bad FCS, an oversize or one that fails MACsec counts in MAC_CNT_ERR (R387, R391); a MAC control frame counts in
MAC_CNT_PAUSE, protected or not (R382). -/
def State.receiveFrame (s : State) (m : Nat) (f : RxFrame) : State :=
  let bad := s.addSat (Reg.macCntErr m) 31 0 1
  if !s.portRuns m || !s.flag (Reg.macSts m) 31 then s
  else if !f.fcsOk then bad
  else if isMacControl f.bytes then s.goodFrame m f.bytes
  else match (if s.secOn m then s.secReceive m f.bytes else some (s, f.bytes)) with
    | none => bad
    | some (s1, bs) => if s.frameLimit m < bs.length + 4 then bad else s1.goodFrame m bs

/-- MAC_FRAME_RECEIVE. -/
def execMacFrameReceive (m : Fin 42) (f : RxFrame) (s : State) : Host.Outcome State Fault Refusal := .next (s.receiveFrame m.val f)

end Sys2Proof.Machine
end

