-- ==== Sys2Proof/Machine/NetTx.lean ====
section
/-! DEFINITION. The transmit hierarchy: refills, release from subscriber nodes, the choice at a port, gate lists, FRAME_SEND, MACsec and PRP commands
(R391, R392, R398-R410, R413). -/

namespace Sys2Proof.Machine

/-! ### SHAPER_REFILL (R404, R406) -/

/-- The number of a shaper among commit groups 0-0x54F. -/
def shaperNo : ShaperId → Nat
  | .sub n => n.val
  | .svc n => 0x400 + n.val

/-- Tokens after a refill: forgive first (only when a set has just become active), then the credit, then the cap. -/
def refilled (t : Int) (forgive : Bool) (rate burst : Word) : Int :=
  min ((if forgive then max t 0 else t) + (rateCredit rate : Nat)) ((fld burst 23 0 * 65536 : Nat) : Int)

/-- One refill of shaper g, which is also its commit point. A set accepted at the refill before becomes active now. -/
def State.shRefill (s : State) (g : Nat) : State :=
  let x := s.shAt g
  let b := shBase g
  let t := refilled x.tokens (x.old.isSome && bit (s.rd b) 30) (s.rd (b + 4)) (s.rd (b + 8))
  ((s.setSh g { x with old := none, refills := x.refills + 1 }).setTokens g t).commitPoint .tm g

/-- SHAPER_REFILL, when 1,000 counts more have gone by. -/
def execShaperRefill (n : ShaperId) (s : State) : Host.Outcome State Fault Refusal :=
  .next (if s.refillDue (s.shAt (shaperNo n)).refills then s.shRefill (shaperNo n) else s)

/-! ### SUBSCRIBER_RELEASE (R399, R405, R407) -/

/-- The highest-priority queue that holds a packet: its first packet and the node's packets without it. -/
def headPkt (ps : List Pkt) : Option (Pkt × List Pkt) :=
  match ps with
  | [] => none
  | p :: rest =>
    let q := rest.foldl (fun a x => min a x.queue) p.queue
    match (p :: rest).findIdx? (fun x => x.queue == q) with
    | none => none
    | some i => ((p :: rest)[i]?).map (fun x => (x, (p :: rest).eraseIdx i))

/-- May node n release a packet of queue q now: queue 0 always, the others as its shaper allows; a zero rate holds them. -/
def State.mayRelease (s : State) (n q : Nat) : Bool :=
  q == 0 || (s.shAllows n && !(s.shaped n && fld (s.shWord n 1) 15 0 == 0))

/-- Complete the FRAME_SEND descriptor whose frame has reached its port FIFO. -/
def State.frameSent (s : State) (d : Option (List Byte)) : State :=
  match d with
  | none => s
  | some bs =>
    match (s.queueOf 0x40).findIdx? (fun q => q.started && q.bytes == bs) with
    | some i => s.completeAt 0x40 i 0 none
    | none => s

/-- Place a packet's copies: one charge at the node, each copy built for its port. -/
def State.placeCopies (s : State) (n : Nat) (p : Pkt) (pay : List Byte) : State :=
  let cfg := s.rd (Reg.tmSubCfg n)
  let frames := (p.dests.filterMap (fun d => (laneToPort d.1).map (fun m => (m, s.buildFrame m (fld cfg 13 8) d.2 pay))))
  let s1 := match frames with
    | [] => s
    | f :: _ => s.charge n (s.chargeLen f.1 f.2)
  frames.foldl (fun s f => s.place f.1 { cls := fld cfg 29 27, node := n, ch := p.folio, deadline := p.deadline, bytes := f.2 }) s1

/-- Release node n's head packet: a wall packet takes its sequence number and is encrypted; a channel that has stopped sends nothing more. -/
def State.release (s : State) (n : Nat) : State :=
  match headPkt (s.nodeAt n) with
  | none => s
  | some (p, rest) =>
    if !s.mayRelease n p.queue then s
    else
      let s1 := s.setNode n rest
      let s2 := match p.folio with
        | none => s1.placeCopies n p p.payload
        | some c =>
          let s2 := s1.turnEpoch c
          if s2.chSends c then
            let r := s2.sealFolio c p.payload
            r.2.placeCopies n p r.1
          else s2
      (s2.frameSent p.desc).showUsed

/-- SUBSCRIBER_RELEASE. -/
def execSubscriberRelease (n : Fin 1024) (s : State) : Host.Outcome State Fault Refusal := .next (s.release n.val)

/-! ### PORT_TRANSMIT (R401) -/

/-- Time of a frame on the wire in 2⁻¹⁶ ns: preamble, frame, FCS. -/
def State.wireTime (s : State) (m : Nat) (f : Fifo) : Nat :=
  ceilDiv ((s.chargeLen m f.bytes + 12) * 8 * 65536) (s.lineRate m)

/-- May this frame of class k start now at port m: its gate stays open until it ends, and MACsec can protect it? -/
def State.fits (s : State) (m : Nat) (f : Fifo) : Bool :=
  s.canSend m f.bytes && (match s.gateOpen m f.cls with
    | none => true
    | some r => decide (0 < r) && decide (s.wireTime m f ≤ r))

/-- The first frame of each node of class k, by ascending node. -/
def headsOf (fs : List Fifo) (k : Nat) : List Fifo :=
  let mine := fs.filter (fun f => f.cls == k)
  (mine.zipIdx.filter (fun p => !(mine.take p.2).any (fun g => g.node == p.1.node))).map Prod.fst

/-- Deficit key of a class and node. -/
def drrKey (k n : Nat) : Nat := k * 2048 + n

/-- Deficit round robin (R401): the node whose turn it is sends while its deficit covers its head frame; otherwise the turn moves on and the next node
gains its quantum. `fuel` bounds the rounds. -/
def drr (quantum : Nat → Nat) (k : Nat) : Nat → SMap Nat → List Fifo → Option (Fifo × SMap Nat)
  | 0, _, _ => none
  | _, _, [] => none
  | n + 1, d, f :: fs =>
    let key := drrKey k f.node
    let have_ := SMap.get (fun _ => 0) d key
    if f.bytes.length ≤ have_ then some (f, SMap.set (fun _ => 0) d key (have_ - f.bytes.length))
    else
      let next := (fs ++ [f]).headD f
      let nk := drrKey k next.node
      drr quantum k n (SMap.set (fun _ => 0) d nk (SMap.get (fun _ => 0) d nk + quantum next.node)) (fs ++ [f])

/-- The frame of class k that port m sends next, and the record after the choice: frames of the time unit first. -/
def State.pick (s : State) (m k : Nat) : Option (Fifo × PortSt) :=
  let p := s.portAt m
  let hs := (headsOf p.fifo k).filter (s.fits m)
  match hs.find? (fun f => f.node == 1024) with
  | some f => some (f, p)
  | none =>
    let sorted := (List.range 1024).filterMap (fun n => hs.find? (fun f => f.node == n))
    let turn := SMap.get (fun _ => 0) p.rr k
    let order := sorted.filter (fun f => decide (turn ≤ f.node)) ++ sorted.filter (fun f => decide (f.node < turn))
    match order with
    | [] => none
    | f0 :: _ =>
      let q := fun n => s.getF (Reg.tmSubCfg n) 23 16 * 64
      let d0 := if f0.node = turn then p.deficit
        else SMap.set (fun _ => 0) p.deficit (drrKey k f0.node) (SMap.get (fun _ => 0) p.deficit (drrKey k f0.node) + q f0.node)
      (drr q k (160 * (order.length + 1)) d0 order).map (fun r =>
        let more := decide (1 < (p.fifo.filter (fun f => f.cls == k && f.node == r.1.node)).length)
        (r.1, { p with
          deficit := if more then r.2 else SMap.set (fun _ => 0) r.2 (drrKey k r.1.node) 0
          rr := SMap.set (fun _ => 0) p.rr k r.1.node }))

/-- The choice of R401: the highest class that is eligible. -/
def State.choose (s : State) (m : Nat) : Option (Fifo × PortSt) :=
  [7, 6, 5, 4, 3, 2, 1, 0].findSome? (fun k => if s.shAllows (0x400 + 8 * m + k) then s.pick m k else none)

/-- Is a frame late: it starts on its lane after its send deadline (R15, R457)? -/
def State.isLate (s : State) (f : Fifo) : Bool :=
  match f.deadline with
  | some d => decide (d < (s.timeOf (sheetCfg s.rd 0).tb : Int))
  | none => false

/-- Send the frame port m chooses. Each late copy of a channel's packet counts in WCH_CNT.late: DESIGN CHOICE, log entry 179 (R15). -/
def State.transmit (s : State) (m : Nat) : State :=
  match s.choose m with
  | none => s
  | some (f, p) =>
    let s1 := ((s.setPort m { p with fifo := p.fifo.erase f }).charge (0x400 + 8 * m + f.cls) (s.chargeLen m f.bytes)).showUsed
    let s2 := match f.ch with
      | some c => if s.isLate f then s1.addSat (Reg.wchCnt c) 31 16 1 else s1
      | none => s1
    (s2.sendOn m (s2.stampFrame m f)).atEgress m f

/-- PORT_TRANSMIT. -/
def execPortTransmit (m : Fin 42) (s : State) : Host.Outcome State Fault Refusal := .next (s.transmit m.val)

/-! ### MACsec and PRP (R391, R392) -/

/-- MACSEC_TX_AN_WRITE: the switch takes effect at the next frame. -/
def execMacsecTxAnWrite (ini : Ini) (m : Fin 42) (v : Word) (s : State) : Host.Outcome State Fault Refusal :=
  .next (s.gatedWrite ini (Reg.macSecCfg m.val) v (fun s => (s.plainWrite (Reg.macSecCfg m.val) v).settleSa m.val))

/-- A PRP supervision frame (IEC 62439-3): path, version 1, sequence, the node's own address. -/
def State.supervision (s : State) : List Byte :=
  padFrame (ethHeader 0x01154E000100 (s.portMac 40) none 0x88FB ++ [0, 1] ++ beBytes 2 s.sys.prpSeq ++ [20, 6] ++ beBytes 6 (s.portMac 40)
    ++ [0, 0])

/-- Is a supervision frame due: 2 s after the one before (R392)? -/
def State.prpDue (s : State) : Bool :=
  s.prpOn 40 && s.portRuns 40 && (match s.sys.prpLast with | some t => decide (t + 2000000000 ≤ s.now) | none => true)

/-- PRP_SUPERVISION. -/
def execPrpSupervision (s : State) : Host.Outcome State Fault Refusal :=
  .next (if s.prpDue then State.sendNow { s with sys := { s.sys with prpLast := some s.now } } 40 s.supervision else s)

/-! ### Gate lists (R409, R410) -/

/-- Show the entry in force of port q's running list. -/
def State.showGate (s : State) (q : Nat) : State :=
  match s.gateRuns q with
  | none => s
  | some l =>
    let at_ := l.at (s.timeOf l.tb)
    s.setF (Reg.tmGateSts q) 7 0 (gateEntryAt (max 1 l.cycle * 65536) l.entries 0 0 at_.1).1

/-- GATE_ENTRY_ADVANCE: the entry in which the time falls; a new cycle is the group's commit point. -/
def State.gateAdvance (s : State) (q : Nat) : State :=
  match s.gateRuns q with
  | none => s
  | some l =>
    let c := (l.at (s.timeOf l.tb)).2.toNat
    let s1 := s.showGate q
    if c = (s1.portAt q).gateCycle then s1
    else (s1.setPort q { s1.portAt q with gateCycle := c }).commitPoint .tm (0x8000 + q)

/-- GATE_ENTRY_ADVANCE. -/
def execGateEntryAdvance (m : Fin 42) (s : State) : Host.Outcome State Fault Refusal := .next (s.gateAdvance m.val)

/-- GATE_LIST_START: at its start the accepted list takes over, wherever the old cycle stands. -/
def State.gateTakeOver (s : State) (q : Nat) : State :=
  let p := s.portAt q
  match p.gateNew with
  | none => s
  | some st =>
    if st * 65536 ≤ s.timeOf (s.getF (Reg.tmGateCtrl q) 29 27) then
      ((s.setPort q { p with gateNew := none, gateOld := [], gateOldCycle := 0, gateOldBase := 0, gateOldTb := 0, gateCycle := 0 }).setB
        (Reg.tmGateSts q) 31 true).showGate q
    else s

/-- GATE_LIST_START. -/
def execGateListStart (m : Fin 42) (s : State) : Host.Outcome State Fault Refusal := .next (s.gateTakeOver m.val)

/-! ### FRAME_SEND (R413) -/

/-- Take the next FRAME_SEND: its frame enters the subscriber node, and the descriptor completes when the frame is in its port FIFO. Without room it
waits (R400). -/
def State.frameSend (s : State) : State :=
  match s.firstWaiting 0x40 with
  | none => s
  | some (i, d) =>
    let addr := leAt d.bytes 8 6
    let len := leAt d.bytes 14 2
    let m := byteAt d.bytes 16
    let q := byteAt d.bytes 17
    let node := leAt d.bytes 18 2
    if d.kind ≠ 1 then s
    else if 42 ≤ m ∨ 4 ≤ q ∨ 1024 ≤ node ∨ !zeroBytes d.bytes 20 12 ∨ s.frameLimit m < len + 4 then s.completeAt 0x40 i 1 none
    else if len = 0 then s.completeAt 0x40 i 0 none
    else
      let r := s.memRead ⟨1, 0x80⟩ addr len
      match r.2.1 with
      | .ok =>
        let p : Pkt := { queue := q, dests := [(m, ⟨3, 0, 0, none, [], 0, 0⟩)], payload := r.2.2, folio := none, deadline := none, desc := some d.bytes }
        if r.1.hasRoom node p then (r.1.startAt 0x40 i 0).enqueue node p else s
      | e => r.1.completeAt 0x40 i (accStatus e) none

/-- FRAME_SEND. -/
def execFrameSend (s : State) : Host.Outcome State Fault Refusal := .next s.frameSend

end Sys2Proof.Machine
end

