-- ==== Sys2Proof/Machine/NetFlow.lean ====
section
/-! DEFINITION. Programme flows: enabling, MPEG-2 TS and RTP HEVC encapsulation (R411, R412). -/

namespace Sys2Proof.Machine

/-! ### FLOW_ENABLE (R411) -/

/-- PIDs that ISO/IEC 13818-1 reserves: 0x0000-0x000F and 0x1FFF. -/
def pidReserved (p : Nat) : Bool := decide (p < 0x10) || p == 0x1FFF

/-- Is flow f's setting refused? -/
def State.flowWrong (s : State) (f : Nat) (v : Word) : Bool :=
  let c := ctxCfg s.rd (fld v 15 10)
  let port := fun l => decide (40 ≤ l) || !s.portRuns l
  let pid := s.rd (Reg.tmFlowPid f)
  let ap := s.rd (Reg.tmFlowApid f)
  let aud := fun p => p != 0 && pidReserved p
  !c.en || c.kind != 2 || port (fld v 27 22) || (bit v 29 && port (fld v 21 16)) || (bit v 29 && fld v 27 22 == fld v 21 16)
    || pidReserved (fld pid 28 16) || pidReserved (fld pid 12 0) || aud (fld ap 28 16) || aud (fld ap 12 0)
    || s.getF (Reg.tmFlowAPort f) 31 16 == 0 || (bit v 29 && s.getF (Reg.tmFlowBPort f) 31 16 == 0)

/-- A write of TM_FLOW_CTRL: while en is 1 only en changes; a refused flow keeps en at 0; an accepted one starts at seq0. -/
def State.flowWrite (s : State) (f : Nat) (v : Word) : State :=
  let off := Reg.tmFlowCtrl f
  if s.flag off 31 then (if bit v 31 then s else (s.setB off 31 false).setFlow f FlowSt.reset)
  else
    let s1 := (s.plainWrite off v).setB off 31 false
    if bit v 31 && !s1.flowWrong f v then
      (s1.setB off 31 true).setFlow f { FlowSt.reset with seq := s.getF (Reg.tmFlowRtp f) 15 0 }
    else s1

/-- FLOW_ENABLE. -/
def execFlowEnable (ini : Ini) (f : Fin 16) (v : Word) (s : State) : Host.Outcome State Fault Refusal :=
  .next (s.gatedWrite ini (Reg.tmFlowCtrl f.val) v (fun s => s.flowWrite f.val v))

/-! ### Transport stream (R412) -/

/-- A PCR field: base of 33 bits, 6 bits of ones, extension of 9. -/
def pcrBytes (pcr : Nat) : List Byte := beBytes 6 (pcr / 300 % 2 ^ 33 * 2 ^ 15 + 0x7E00 + pcr % 300)

/-- One TS packet: header, adaptation field with the PCR where there is one and stuffing to fill, payload. -/
def tsPack (pid : Nat) (start : Bool) (cc : Nat) (pcr : Option Nat) (pay : List Byte) : List Byte :=
  let room := 184 - pay.length
  let adapt := match pcr with
    | some p => [BitVec.ofNat 8 (room - 1), 0x10] ++ pcrBytes p ++ List.replicate (room - 8) 0xFF
    | none => if room = 0 then [] else if room = 1 then [0] else [BitVec.ofNat 8 (room - 1), 0x00] ++ List.replicate (room - 2) 0xFF
  [0x47] ++ beBytes 2 ((if start then 0x4000 else 0) + pid)
    ++ [BitVec.ofNat 8 ((if pay.isEmpty then 0x20 else if adapt.isEmpty then 0x10 else 0x30) + cc % 16)] ++ adapt ++ pay

/-- A null packet. -/
def tsNull : List Byte := [0x47, 0x1F, 0xFF, 0x10] ++ List.replicate 184 0xFF

/-- A PES packet cut into TS packets, the PCR in the first where given; `f` bounds the walk. -/
def tsCut (pid : Nat) : Nat → Bool → Nat → Option Nat → List Byte → List (List Byte)
  | 0, _, _, _, _ => []
  | f + 1, first, cc, pcr, bs =>
    if bs.isEmpty then []
    else
      let n := if pcr.isSome then 176 else 184
      tsPack pid first cc pcr (bs.take n) :: tsCut pid f false (cc + 1) none (bs.drop n)

/-- A PES packet: stream id, length where it is bounded, PTS and no DTS. -/
def pesBytes (id pts : Nat) (bounded : Bool) (es : List Byte) : List Byte :=
  [0, 0, 1] ++ beBytes 1 id ++ beBytes 2 (if bounded then es.length + 8 else 0) ++ [0x80, 0x80, 5]
    ++ [BitVec.ofNat 8 (0x21 + pts / 2 ^ 30 % 8 * 2)] ++ beBytes 2 (pts / 2 ^ 15 % 2 ^ 15 * 2 + 1) ++ beBytes 2 (pts % 2 ^ 15 * 2 + 1) ++ es

/-- PTS, RTP timestamp and PCR of a time in 2⁻¹⁶ ns (R412). -/
def ptsOf (t : Nat) : Nat := t * 90000 / secT % 2 ^ 33
/-- The RTP timestamp. -/
def rtpTsOf (t : Nat) : Nat := t * 90000 / secT % 2 ^ 32
/-- The PCR. -/
def pcrOf (t : Nat) : Nat := t * 27000000 / secT % (2 ^ 33 * 300)

/-- Sections end with the CRC-32 of MPEG-2. -/
def section_ (bs : List Byte) : List Byte := bs ++ beBytes 4 ((Crc.mk 32 0x04C11DB7 0xFFFFFFFF false 0).final bs)

/-- The PAT of flow f: one programme. -/
def State.patOf (s : State) (f : Nat) : List Byte :=
  section_ ([0, 0xB0, 13, 0, 1, 0xC1, 0, 0] ++ beBytes 2 (s.getF (Reg.tmFlowTs f) 31 16) ++ beBytes 2 (0xE000 + s.getF (Reg.tmFlowPid f) 28 16))

/-- The ST 302M PIDs of a flow: stream number and PID. -/
def State.flowAudio (s : State) (f : Nat) : List (Nat × Nat) :=
  [(0, s.getF (Reg.tmFlowApid f) 12 0), (1, s.getF (Reg.tmFlowApid f) 28 16)].filter (fun p => p.2 != 0)

/-- Its PMT: video of type 0x24 carrying the PCR, each ST 302M stream of type 0x06 with its registration descriptor. -/
def State.pmtOf (s : State) (f : Nat) : List Byte :=
  let v := s.getF (Reg.tmFlowPid f) 12 0
  let es := [0x24] ++ beBytes 2 (0xE000 + v) ++ [0xF0, 0]
    ++ (s.flowAudio f).flatMap (fun p => [0x06] ++ beBytes 2 (0xE000 + p.2) ++ [0xF0, 6, 5, 4, 0x42, 0x53, 0x53, 0x44])
  section_ ([2] ++ beBytes 2 (0xB000 + (13 + es.length)) ++ beBytes 2 (s.getF (Reg.tmFlowTs f) 31 16) ++ [0xC1, 0, 0] ++ beBytes 2 (0xE000 + v)
    ++ [0xF0, 0] ++ es)

/-- A section in its TS packet. -/
def tsSection (pid cc : Nat) (sec : List Byte) : List Byte :=
  [0x47] ++ beBytes 2 (0x4000 + pid) ++ [BitVec.ofNat 8 (0x10 + cc % 16), 0] ++ sec ++ List.replicate (183 - sec.length) 0xFF

/-- Copies of flow f's packets. -/
def State.flowDests (s : State) (f : Nat) : List (Nat × Addr) :=
  let c := s.rd (Reg.tmFlowCtrl f)
  let mode := if bit c 28 then 1 else 0
  (fld c 27 22, addrAt s.rd (Reg.tmFlowAMacLo f) mode none)
    :: (if bit c 29 then [(fld c 21 16, addrAt s.rd (Reg.tmFlowBMacLo f) mode none)] else [])

/-- RTP packets of flow f from payloads, the marker on the last where asked. -/
def State.flowPkts (s : State) (f ts : Nat) (mark : Bool) (pays : List (List Byte)) : List Pkt :=
  let x := s.flowAt f
  pays.zipIdx.map (fun (p, i) =>
    { queue := 2, dests := s.flowDests f, folio := none, deadline := none,
      payload := rtpHeader (mark && i + 1 == pays.length) (s.getF (Reg.tmFlowRtp f) 30 24) ((x.seq + i) % 0x10000) ts (s.rd (Reg.tmFlowSsrc f)) ++ p })

/-- TS packets by seven, the last group filled with null packets. -/
def tsGroups : Nat → List (List Byte) → List (List Byte)
  | 0, _ => []
  | f + 1, ps => if ps.isEmpty then [] else ((ps.take 7) ++ List.replicate (7 - ps.length) tsNull).flatten :: tsGroups f (ps.drop 7)

/-- Enter packets into flow f's node if there is room; otherwise the flow waits (R400). The record is then as `upd` makes it. -/
def State.flowSend (s : State) (f : Nat) (pkts : List Pkt) (upd : FlowSt → FlowSt) : State :=
  let node := s.getF (Reg.tmFlowCtrl f) 9 0
  if s.roomFor node pkts then
    let s1 := s.enqueueAll node pkts
    s1.setFlow f (upd { s1.flowAt f with seq := ((s1.flowAt f).seq + pkts.length) % 0x10000 })
  else s

/-- TS packets that the multiplex rate carries in the frame period of picture n: rate in 100 kb/s units. -/
def rateBudget (rate code n : Nat) : Nat :=
  let upTo := fun k => k * rate * 100000 * rateDen code / (rateNum code * 1504)
  upTo (n + 1) - upTo n

/-! ### RTP HEVC (RFC 7798) -/

/-- The NAL units of a byte stream between start codes; `cur` gathers the unit in progress, reversed. -/
def nalUnits : List Byte → List Byte → List (List Byte)
  | [], cur => if cur.isEmpty then [] else [cur.reverse]
  | b :: bs, cur =>
    if b = 1 ∧ (cur.take 2) = [0, 0] then
      let done := (cur.drop 2).dropWhile (fun x => x == 0)
      (if done.isEmpty then [] else [done.reverse]) ++ nalUnits bs []
    else nalUnits bs (b :: cur)

/-- Fragments of a NAL unit's payload: `cap` bytes each behind the payload header and the FU header; `f` bounds the walk. -/
def fragments (h0 h1 : Byte) (cap : Nat) : Nat → Bool → List Byte → List (List Byte)
  | 0, _, _ => []
  | f + 1, first, bs =>
    let typ := h0.toNat / 2 % 64
    let last := decide (bs.length ≤ cap)
    ([BitVec.ofNat 8 (h0.toNat / 128 * 128 + 49 * 2 + h0.toNat % 2), h1, BitVec.ofNat 8 (b2n first * 128 + b2n last * 64 + typ)] ++ bs.take cap)
      :: (if last then [] else fragments h0 h1 cap f false (bs.drop cap))

/-- RTP payloads of a NAL unit: itself, or fragmentation units. -/
def nalPayloads (max_ : Nat) (nal : List Byte) : List (List Byte) :=
  if nal.length ≤ max_ then [nal] else fragments (nal.getD 0 0) (nal.getD 1 0) (max_ - 3) nal.length true (nal.drop 2)

/-- Longest RTP payload of flow f: R327's limit under the smaller jumbo setting of its ports. -/
def State.flowCap (s : State) (f : Nat) : Nat :=
  let c := s.rd (Reg.tmFlowCtrl f)
  let j := s.flag (Reg.macCtrl (fld c 27 22)) 26 && (!bit c 29 || s.flag (Reg.macCtrl (fld c 21 16)) 26)
  folioMax (if bit c 28 then 1 else 0) j + 48 - 12

/-! ### The commands -/

/-- PROGRAMME_ACCESS_UNIT_SEND: the oldest access unit waiting, encapsulated with its timestamps. -/
def State.sendUnit (s : State) (f : Nat) : State :=
  let x := s.flowAt f
  let c := s.rd (Reg.tmFlowCtrl f)
  match x.aus with
  | [] => s
  | (n, au) :: rest =>
    let sh := sheetCfg s.rd (ctxCfg s.rd (fld c 15 10)).src
    let t := sh.presents n 0
    if !bit c 31 then s
    else if bit c 30 then
      let pays := (nalUnits au []).flatMap (nalPayloads (s.flowCap f))
      s.flowSend f (s.flowPkts f (rtpTsOf t) true pays) (fun y => { y with aus := rest })
    else
      let pes := pesBytes 0xE0 (ptsOf t) false au
      let ts := tsCut (s.getF (Reg.tmFlowPid f) 12 0) pes.length true x.ccVideo (some (pcrOf t)) pes
      let rate := s.getF (Reg.tmFlowTs f) 15 0
      let used := roundUp ts.length 7 + x.excess
      let budget := rateBudget rate sh.rate n
      let pad := if rate = 0 then 0 else (budget - used) / 7 * 7
      let all := ts ++ List.replicate (roundUp ts.length 7 - ts.length + pad) tsNull
      s.flowSend f (s.flowPkts f (rtpTsOf t) false (tsGroups all.length all))
        (fun y => { y with aus := rest, ccVideo := (x.ccVideo + ts.length) % 16, excess := if rate = 0 then 0 else used + pad - budget })

/-- PROGRAMME_ACCESS_UNIT_SEND. -/
def execProgrammeAccessUnitSend (f : Fin 16) (s : State) : Host.Outcome State Fault Refusal := .next (s.sendUnit f.val)

/-- PSI_INSERT: PAT, PMT and a PCR for the present time of the programme sheet's base, in one RTP packet. -/
def State.psiInsert (s : State) (f : Nat) : State :=
  let x := s.flowAt f
  let c := s.rd (Reg.tmFlowCtrl f)
  let sh := sheetCfg s.rd (ctxCfg s.rd (fld c 15 10)).src
  let t := s.timeOf sh.tb
  let pid := s.rd (Reg.tmFlowPid f)
  if bit c 31 && !bit c 30 then
    let ts := [tsSection 0 x.ccPat (s.patOf f), tsSection (fld pid 28 16) x.ccPmt (s.pmtOf f), tsPack (fld pid 12 0) false (x.ccVideo + 15) (some (pcrOf t)) []]
    s.flowSend f (s.flowPkts f (rtpTsOf t) false (tsGroups 1 ts))
      (fun y => { y with ccPat := (x.ccPat + 1) % 16, ccPmt := (x.ccPmt + 1) % 16, excess := if s.getF (Reg.tmFlowTs f) 15 0 = 0 then 0 else x.excess + 7 })
  else s

/-- PSI_INSERT. -/
def execPsiInsert (f : Fin 16) (s : State) : Host.Outcome State Fault Refusal := .next (s.psiInsert f.val)

/-- An ST 302M PES packet of stream k enters flow f's multiplex at time t (R412). -/
def State.flowAudioSend (s : State) (f k t : Nat) (es : List Byte) : State :=
  let x := s.flowAt f
  let c := s.rd (Reg.tmFlowCtrl f)
  match (s.flowAudio f).find? (fun p => p.1 == k) with
  | some (_, pid) =>
    if bit c 31 && !bit c 30 then
      let cc := SMap.get (fun _ => 0) x.ccAudio k
      let pes := pesBytes 0xBD (ptsOf t) true es
      let ts := tsCut pid pes.length true cc none pes
      s.flowSend f (s.flowPkts f (rtpTsOf t) false (tsGroups ts.length ts))
        (fun y => { y with ccAudio := SMap.set (fun _ => 0) x.ccAudio k ((cc + ts.length) % 16),
                           excess := if s.getF (Reg.tmFlowTs f) 15 0 = 0 then 0 else x.excess + roundUp ts.length 7 })
    else s
  | none => s

end Sys2Proof.Machine
end

