-- ==== Sys2Proof/Machine/Audio.lean ====
section
/-! DEFINITION. The audio commands: frame syncs, AES3 blocks, output blocks of the ASRC groups, mutes and outputs (R465-R485). -/

namespace Sys2Proof.Machine

/-! ### Clocks and commit points (R465) -/

/-- An audio input's sync record: ports 0-15, AES3 receivers 16-19, PDM 24. -/
def State.spAt (s : State) (k : Nat) : SpSt := SMap.get (fun _ => SpSt.reset) s.sp k
/-- Store it. -/
def State.setSp (s : State) (k : Nat) (x : SpSt) : State := { s with sp := SMap.set (fun _ => SpSt.reset) s.sp k x }

/-- Is an audio group's own clock at a block boundary? That of an ASRC group, and of an output that reads it, is where no frame of its block in progress
has been produced; a port's or a PDM input's is where the command says. -/
def State.audBoundary (s : State) (g : Nat) : Bool :=
  if g < 0x20 then true
  else (s.grpAt (if g < 0x30 then g - 0x20 else s.getF (Reg.audOutCfg (g - 0x30)) 27 24)).acc.isEmpty

/-- AUDIO_BLOCK_BOUNDARY: the commit point of an audio group. -/
def execAudioBlockBoundary (grp : BitVec 16) (s : State) : Host.Outcome State Fault Refusal :=
  .next (if s.audBoundary grp.toNat then s.commitPoint .aud grp.toNat else s)

/-- The counter at the latest boundary of an audio group's clock and its rate in Hz: a port's frame syncs, the PDM clock's, a group's output blocks, the
blocks of the group an output reads. -/
def State.audClock (s : State) (g : Nat) : Nat × Nat :=
  let ofGrp := fun i => ((s.grpAt i).stamp, s.grpRate i)
  if g < 0x10 then ((s.spAt g).lastAt, audRate (s.getF (Reg.audSpCfg g) 25 22))
  else if g < 0x14 then ((s.spAt g).lastAt, audRate (s.getF (Reg.audArSts (g - 0x10)) 3 0))
  else if g < 0x18 then ((s.spAt g).lastAt, 48000)
  else if g < 0x20 then ((s.spAt 24).lastAt, 48000)
  else if g < 0x30 then ofGrp (g - 0x20)
  else ofGrp (s.getF (Reg.audOutCfg (g - 0x30)) 27 24)

/-- AUDIO_CLOCK_STOPPED: no block boundary for two block periods. -/
def execAudioClockStopped (grp : BitVec 16) (s : State) : Host.Outcome State Fault Refusal :=
  let c := s.audClock grp.toNat
  .next (if c.1 + 128 * secNs / max 1 c.2 ≤ s.now then s.commitPoint .aud grp.toNat else s)

/-! ### Frame syncs (R466, R468, R472) -/

/-- The bits of a slot a port uses, MSB first. -/
def slotMask (bits : Nat) : Word := if bits = 0 then 0xFFFF0000 else if bits = 1 then 0xFFFFFF00 else 0xFFFFFFFF

/-- Change a port's lock, raising the event on a change. -/
def State.setSpLock (s : State) (p : Nat) (on : Bool) : State := s.setAudBit (Reg.audSpSts p) 30 on

/-- The groups clocked by output port p each produce a frame. -/
def State.portClock (s : State) (p : Nat) : State :=
  ((List.range 16).filter (fun g => s.grpOn g && s.flag (Reg.audGrpOut g) 31 && s.getF (Reg.audGrpOut g) 26 23 == p)).foldl (fun s g => s.grpOut g) s

/-- A frame sync at serial port p: lock after 16 at the committed spacing, an error off it; a locked input's slots enter its groups, an output port
clocks its groups. -/
def State.serialSync (s : State) (p : Nat) (onSpacing : Bool) (samples : List Word) : State :=
  let c := s.rd (Reg.audSpCfg p)
  if !s.flag (Reg.audSpSts p) 31 then s
  else
    let x := s.spAt p
    let good := if onSpacing then x.good + 1 else 0
    let s1 := s.setSp p { x with good := good, lastAt := s.now }
    let s2 := if onSpacing then s1 else s1.addSat (Reg.audSpCnt p) 31 0 1
    let s3 := if !onSpacing then s2.setSpLock p false else if 16 ≤ good then s2.setSpLock p true else s2
    if bit c 30 then s3.portClock p
    else if s3.flag (Reg.audSpSts p) 30 then
      s3.feedGroups 0 p none 0 [(List.range (fld c 21 17)).map (fun i => samples.getD i 0 &&& slotMask (fld c 16 15))]
    else s3

/-- The receiver's nonaudio bit, with the event on a change. -/
def State.setArNonaudio (s : State) (a : Nat) (on : Bool) : State := s.setAudBit (Reg.audArSts a) 30 on

/-- The receiver returns to audio after 4,096 frames without a burst preamble, bit 1 of its channel status being clear (R471). -/
def State.arSettle (s : State) (a : Nat) : State :=
  if 4096 ≤ (s.spAt (0x10 + a)).quiet ∧ !bit (s.rd (Reg.audArCs0 a 0)) 1 then s.setArNonaudio a false else s

/-- A frame of AES3 receiver a enters its groups while it is locked; with mute_v a sample with V = 1 enters as 0. The receiver itself looks for the burst
preamble, in the samples as they are received (R471). -/
def State.aesFrame (s : State) (a : Nat) (vA vB : Bool) (samples : List Word) : State :=
  let c := s.rd (Reg.audArCfg a)
  let m := fun (v : Bool) (w : Word) => if v && bit c 30 then 0 else w
  if bit c 31 && s.flag (Reg.audArSts a) 31 then
    let burst := !(burstPairs [samples.getD 0 0, samples.getD 1 0]).isEmpty
    let x := s.spAt (0x10 + a)
    let s1 := s.setSp (0x10 + a) { x with lastAt := s.now, quiet := if burst then 0 else x.quiet + 1, anyV := x.anyV || vA || vB }
    let s2 := if burst then (s.grpsOf 1 a none).foldl (fun s g => s.nonaudioEntry g [0]) (s1.setArNonaudio a true) else s1.arSettle a
    let s3 := s2.feedGroups 1 a none 0 [[m vA (samples.getD 0 0), m vB (samples.getD 1 0)]]
    if burst then (s.grpsOf 1 a none).foldl (fun s g => s.setGrp g { s.grpAt g with quiet := SMap.set (fun _ => 0) (s.grpAt g).quiet 0 0 }) s3 else s3
  else s

/-- One 48 kHz frame of the PDM inputs: microphone j decimated from its bits so far; a disabled input gives 0 (R472). -/
def State.pdmFrame (s : State) (samples : List Word) : State :=
  let x := s.spAt 24
  let bits := fun j => (([samples.getD (2 * j + 1) 0, samples.getD (2 * j) 0] ++ SMap.get (fun _ => []) x.bits j).take 64 : List Word)
  let s1 := s.setSp 24 { x with lastAt := s.now, bits := (List.range 16).foldl (fun m j => SMap.set (fun _ => []) m j (bits j)) x.bits }
  let mic := fun j =>
    let c := s.rd (Reg.audPdmCfg (j / 2))
    if bit c 31 then Config.pdm (bits j) (bit c 30) (fld c 29 24) else 0
  (List.range 8).foldl (fun s i => s.feedGroups 2 i none 0 [(List.range (16 - 2 * i)).map (fun j => mic (2 * i + j))]) s1

/-- AUDIO_FRAME_SYNC. -/
def execAudioFrameSync (src : AudioIn) (onSpacing : Bool) (samples : List Word) (s : State) : Host.Outcome State Fault Refusal :=
  .next (match src with
    | .serial p => s.serialSync p.val onSpacing samples
    | .aes a vA vB => s.aesFrame a.val vA vB samples
    | .pdm => s.pdmFrame samples)

/-- AUDIO_PORT_LOCK_LOSS: a slave port without a frame sync for two frame periods (R467). -/
def execAudioPortLockLoss (p : Fin 16) (s : State) : Host.Outcome State Fault Refusal :=
  let c := s.rd (Reg.audSpCfg p.val)
  .next (
    if s.flag (Reg.audSpSts p.val) 31 && !bit c 27
        && decide ((s.spAt p.val).lastAt + 2 * secNs / max 1 (audRate (fld c 25 22)) ≤ s.now) then
      (s.setSp p.val { s.spAt p.val with good := 0 }).setSpLock p.val false
    else s)

/-! ### AES3 (R468, R469, R471) -/

/-- Write 24 bytes into six words from `off` on. -/
def State.putWords (s : State) (off : Nat) (bs : List Byte) : State :=
  (List.range 6).foldl (fun s w => s.wr (off + 4 * w) (BitVec.ofNat 32 (leAt bs (4 * w) 4))) s

/-- The CRCC of a subframe's channel status (R468, R470; log entry 124). -/
def crcc (cs : List Byte) : Byte := BitVec.ofNat 8 ((Crc.mk 8 0x1D 0xFF true 0).final (cs.take 23))

/-- Is a subframe's channel status of the professional format with a bad CRCC? -/
def badStatus (cs : List Byte) : Bool := (cs.getD 0 0).getLsbD 0 && cs.getD 23 0 != crcc cs

/-- A 192-frame block of receiver a: a good professional block, or a consumer block, is captured whole; a bad CRCC leaves the capture and counts. -/
def State.aes3Block (s : State) (a : Nat) (b : Aes3Block) : State :=
  if !s.flag (Reg.audArCfg a) 31 || !s.flag (Reg.audArSts a) 31 then s
  else
    let x := s.spAt (0x10 + a)
    let s1 := if x.anyV then (s.setSp (0x10 + a) { x with anyV := false }).addSat (Reg.audArCnt a) 15 0 1 else s
    let coded := (b.csA.getD 0 0).getLsbD 1
    if badStatus b.csA || badStatus b.csB then (s1.addSat (Reg.audArCnt a) 31 16 1).raiseEvt Reg.audEvt
    else
      let s2 := ((((s1.putWords (Reg.audArCs0 a 0) b.csA).putWords (Reg.audArCs1 a 0) b.csB).putWords (Reg.audArU0 a 0) b.uA).putWords
        (Reg.audArU1 a 0) b.uB).addWrap (Reg.audArSeq a) 31 0 1
      if coded then (s2.setArNonaudio a true).feedStatus 1 a none [0] else (s2.arSettle a).feedStatus 1 a none []

/-- AES3_BLOCK. -/
def execAes3Block (a : Fin 4) (b : Aes3Block) (s : State) : Host.Outcome State Fault Refusal := .next (s.aes3Block a.val b)

/-- AES3_LOCK_CHANGE: lock and measured rate. -/
def execAes3LockChange (a : Fin 4) (locked : Bool) (rate : BitVec 4) (s : State) : Host.Outcome State Fault Refusal :=
  .next (
    let on := locked && s.flag (Reg.audArCfg a.val) 31
    if s.flag (Reg.audArSts a.val) 31 = on then s.setF (Reg.audArSts a.val) 3 0 (if on then rate.toNat else 0xF)
    else ((s.setB (Reg.audArSts a.val) 31 on).setF (Reg.audArSts a.val) 3 0 (if on then rate.toNat else 0xF)).raiseEvt Reg.audEvt)

/-- NONAUDIO_EXIT: 4,096 frames without a burst preamble, and bit 1 of the pair's channel status clear (R471). -/
def State.nonaudioExit (s : State) (g pair : Nat) : State :=
  let x := s.grpAt g
  if x.nonaudio.contains pair && decide (4096 ≤ SMap.get (fun _ => 0) x.quiet pair) && !x.coded.contains pair then
    let left := x.nonaudio.filter (fun k => k != pair)
    ((s.setGrp g { x with nonaudio := left, quiet := SMap.set (fun _ => 0) x.quiet pair 0 }).setB (Reg.audGrpSts g) 30 (!left.isEmpty)).raiseEvt
      Reg.audEvt
  else s

/-- NONAUDIO_EXIT. -/
def execNonaudioExit (g : Fin 16) (pair : Fin 8) (s : State) : Host.Outcome State Fault Refusal := .next (s.nonaudioExit g.val pair.val)

/-! ### AUDIO_OUTPUT_BLOCK (R475-R480) -/

/-- Bytes of a ring block of group g. -/
def State.ringBlock (s : State) (g : Nat) : Nat := 16 + 256 * s.grpCount g
/-- Far address of block b's entry in the ring of group g. -/
def State.ringAt (s : State) (g b : Nat) : Nat :=
  ssBase + s.getF (Reg.audGrpRing g) 25 4 * 16 + b % max 1 (s.getF (Reg.audGrpRingCtl g) 5 0) * s.ringBlock g

/-- A sample of frame i of a linear ramp over 64 frames, up or down: where in a frame the gain is taken and how it is rounded are open
(log entry 12). -/
def ramp64 (up : Bool) (i : Nat) (w : Word) : Word :=
  let n : Nat := i + b2n Config.rampLater
  let g : Int := ((if up then n else 64 - n : Nat) : Int)
  wordOfInt ((w.toInt * g + (if Config.rampUp then 63 else 0)) / 64)

/-- Frames of a block as its ramps leave them: a fade-in or unmute rises, a mute falls, a muted block is zero. -/
def shaped64 (fade muted ramp : Bool) (fs : List (List Word)) : List (List Word) :=
  fs.zipIdx.map (fun (f, i) =>
    let f1 := if fade then f.map (ramp64 true i) else f
    if ramp then f1.map (ramp64 (!muted) i) else if muted then f1.map (fun _ => 0) else f1)

/-- Write block b of group g into its ring, the header last. -/
def State.writeBlock (s : State) (g b : Nat) : State :=
  let x := s.grpAt g
  let muted := s.flag (Reg.audGrpSts g) 29
  let locked := s.grpLocked g
  let fs := shaped64 (x.fade && locked) muted x.ramp x.acc.reverse
  let flags := b2n (x.inserted || x.lost) + 2 * b2n x.dropped + 4 * b2n (!x.nonaudio.isEmpty) + 8 * b2n muted + 16 * b2n (!locked)
  let hd := leBytes 8 x.stamp ++ leBytes 4 b ++ [BitVec.ofNat 8 flags, BitVec.ofNat 8 (s.grpCount g), BitVec.ofNat 8 (s.getF (Reg.audGrpOut g) 22 19), 0]
  let s1 := (s.memWrite ⟨1, 0x82⟩ (s.ringAt g b + 16) (fs.flatMap (fun f => f.flatMap (fun w => leBytes 4 w.toNat)))).1
  let s2 := (s1.memWrite ⟨1, 0x82⟩ (s.ringAt g b) hd).1
  s2.setGrp g { s2.grpAt g with
    blk := none, acc := [], written := some b, inserted := false, dropped := false, fade := x.fade && !locked, ramp := false }

/-- Measured ρ in 2⁻²⁸: the counter spans of up to the last 16 blocks of each side (R476); none before each side has two stamps. -/
def GrpSt.measured (x : GrpSt) : Option Nat :=
  let span := fun l : List Nat => l.headD 0 - l.getLastD 0
  let ni := x.inStamps.length - 1
  let no := x.outStamps.length - 1
  if ni = 0 ∨ no = 0 ∨ span x.inStamps = 0 then none
  else some (span x.outStamps * ni * rhoOne / (span x.inStamps * no))

/-- The exact ρ of a synchronous source (R476). -/
def syncRho (fs meas : Nat) : Nat := syncRate fs meas * rhoOne / max 1 fs

/-- Lock of group g, with the event on a change. -/
def State.setGrpLock (s : State) (g : Nat) (on : Bool) : State := s.setAudBit (Reg.audGrpSts g) 31 on

/-- Track ρ and lock at an output block (R476). While the group is unlocked ρ is what is measured (log entry 44). -/
def State.track (s : State) (g : Nat) : State :=
  let x := s.grpAt g
  let k := s.getF (Reg.audGrpOut g) 18 15
  let rho := (s.rd (Reg.audGrpRatio g)).toNat
  let fill := x.fifo.length
  let sync := s.flag (Reg.audGrpOut g) 30
  let near := if sync then !x.inserted && !x.dropped else decide (60 ≤ fill) && decide (fill ≤ 68)
  match x.measured with
  | none => (s.setGrp g { x with goodBlocks := 0, used := 0 }).setGrpLock g false
  | some m =>
    let r : Nat :=
      if sync then syncRho (s.grpRate g) m
      else if s.grpLocked g then ((rho : Int) + ((m : Int) - rho) / 2 ^ k).toNat
      else m
    let used : Nat := if sync then r else ((r : Int) + (r : Int) * ((fill : Int) - 64) / 2 ^ 20).toNat
    let inRange := decide (rhoOne / 4 ≤ r) && decide (r ≤ rhoOne * 4)
    let good := if near && inRange then x.goodBlocks + 1 else 0
    let lock := inRange && !x.lost && (if s.grpLocked g then sync || (decide (32 ≤ fill) && decide (fill ≤ 96)) else decide (16 ≤ good))
    ((s.setGrp g { x with goodBlocks := if lock || near then good else 0, used := used }).wr (Reg.audGrpRatio g) (BitVec.ofNat 32 r)).setGrpLock g lock

/-- The MUTE descriptors waiting for group g complete with the block number (R480). -/
def State.completeMutes (s : State) (g b : Nat) : Nat → State
  | 0 => s
  | n + 1 =>
    match (s.queueOf 0x60).findIdx? (fun d => d.started && d.note == g + 1) with
    | some i => State.completeMutes (s.completeAt 0x60 i 0 (some (b % 2 ^ 32))) g b n
    | none => s

/-- Group g begins block b: a mute change due takes effect with a ramp, the stamp is taken, ρ is tracked. -/
def State.beginBlock (s : State) (g b : Nat) : State :=
  let x := s.grpAt g
  let muted := s.flag (Reg.audGrpSts g) 29
  let m := x.muteNext.getD muted
  let s1 := (s.setGrp g { x with
    blk := some b, stamp := s.now, acc := [], muteNext := none, ramp := m != muted, outStamps := (s.now :: x.outStamps).take 17 }).setB
      (Reg.audGrpSts g) 29 m
  ((s1.completeMutes g b (s1.queueOf 0x60).length).track g)

/-- Whole frames dropped so that 64 wait (R479). -/
def State.refill64 (s : State) (g : Nat) : State :=
  let x := s.grpAt g
  let n := x.fifo.length - 64
  if n = 0 then s
  else (((s.setGrp g { x with fifo := x.fifo.drop n, dropped := true }).setF (Reg.audGrpSts g) 7 0 64).addSat (Reg.audGrpCnt g) 15 0 n).raiseEvt
    Reg.audEvt

/-- An output block boundary of group g (R475, R476, R479). The block in progress is finished and written, the next begun. After a forward move of its
time base the blocks between are never written; after a backward move none is until the index passes the last written. -/
def State.outputBlock (s : State) (g : Nat) : State :=
  if !s.grpOn g then s
  else
    let s0 := s.grpRun g
    let x := s0.grpAt g
    let next := (x.written.map (· + 1)).getD 0
    if s.flag (Reg.audGrpOut g) 31 then
      match x.blk with
      | none => s0.beginBlock g next
      | some b => if 64 ≤ x.acc.length then (s0.writeBlock g b).beginBlock g (b + 1) else s0
    else
      let jb := s0.grpIndex g / 64
      match x.blk with
      | none => if next ≤ jb then s0.beginBlock g jb else s0
      | some b =>
        if jb = b + 1 then (s0.writeBlock g b).beginBlock g jb
        else if b + 1 < jb then (s0.refill64 g).beginBlock g jb
        else if jb < b then s0.setGrp g { x with blk := none, acc := [] }
        else s0

/-- AUDIO_OUTPUT_BLOCK. -/
def execAudioOutputBlock (g : Fin 16) (s : State) : Host.Outcome State Fault Refusal := .next (s.outputBlock g.val)

/-- AUDIO_SOURCE_LOSS: no frame for two output block periods (R478). -/
def State.sourceLoss (s : State) (g : Nat) : State :=
  let x := s.grpAt g
  if s.grpOn g && !x.lost && decide (x.lastFrameAt + 128 * secNs / max 1 (s.grpRate g) ≤ s.now) then
    ((s.grpRun g).setGrp g { (s.grpRun g).grpAt g with
      lost := true, filling := true, fifo := [], hist := [], pos := 0, inStamps := [], inCount := 0, outStamps := [], goodBlocks := 0, fade := true }).setGrpLock
        g false |>.setF (Reg.audGrpSts g) 7 0 0
  else s

/-- AUDIO_SOURCE_LOSS. -/
def execAudioSourceLoss (g : Fin 16) (s : State) : Host.Outcome State Fault Refusal := .next (s.sourceLoss g.val)

/-- MUTE (R480): accepted for the group's next output block, or BAD_FIELD. -/
def State.muteDesc (s : State) : State :=
  match s.firstWaiting 0x60 with
  | none => s
  | some (i, d) =>
    let g := byteAt d.bytes 8
    let v := byteAt d.bytes 9
    if d.kind ≠ 1 then s
    else if 16 ≤ g ∨ 2 ≤ v ∨ !zeroBytes d.bytes 10 22 then s.completeAt 0x60 i 1 none
    else (s.startAt 0x60 i (g + 1)).setGrp g { s.grpAt g with muteNext := some (v == 1) }

/-- MUTE. -/
def execMute (s : State) : Host.Outcome State Fault Refusal := .next s.muteDesc

/-! ### AUDIO_OUTPUT_SEND (R470, R481-R485) -/

/-- The frames of ring block b of group g as an output reads them, its channels only: none unless the header carries b. -/
def State.readBlock (s : State) (g b first count : Nat) : State × Option (Nat × List (List Word)) :=
  let r := s.memRead ⟨1, 0x82⟩ (s.ringAt g b) (s.ringBlock g)
  if r.2.1 = .ok ∧ leAt r.2.2 8 4 = b % 2 ^ 32 then
    (r.1, some (leAt r.2.2 0 8, (List.range 64).map (fun i => (List.range count).map (fun c =>
      BitVec.ofNat 32 (leAt r.2.2 (16 + 4 * (i * s.grpCount g + first + c)) 4)))))
  else (r.1, none)

/-- The most significant n bytes of a sample, big-endian. -/
def topBytes (n : Nat) (w : Word) : List Byte := (beBytes 4 w.toNat).take n

/-- Presentation time of output frame j of output o, in 2⁻¹⁶ ns (R483). -/
def State.presented (s : State) (o g j : Nat) : Nat := j * secT / max 1 (s.grpRate g) + (s.rd (Reg.audOutDelay o)).toNat * 0x10000

/-- Channel status of transmitter a as a block carries it (R470): its own registers or a receiver's, with the CRCC of the professional format. -/
def State.txStatus (s : State) (a : Nat) : List Byte :=
  let c := s.rd (Reg.audAtCfg a)
  let rx := fld c 29 28
  let sub := fun b => (List.range 6).flatMap (fun w => leBytes 4 (s.rd (
    if bit c 30 then (if b then Reg.audArCs1 rx w else Reg.audArCs0 rx w) else (if b then Reg.audAtCs1 a w else Reg.audAtCs0 a w))).toNat)
  let crc := fun l : List Byte => if (l.getD 0 0).getLsbD 0 then l.take 23 ++ [crcc l] else l
  crc (sub false) ++ crc (sub true)

/-- Whole ST 2110-30 packets of the frames waiting: `n` frames each; `f` bounds the walk. -/
def cutAudio (n : Nat) : Nat → List (List Word) → List (List (List Word))
  | 0, _ => []
  | f + 1, fs => if n = 0 ∨ fs.length < n then [] else fs.take n :: cutAudio n f (fs.drop n)

/-- ST 2110-30 (R483): packets leave once every frame of theirs has been written; without room the block waits. -/
def State.sendSt30 (s : State) (o g b : Nat) (fs : List (List Word)) : State :=
  let x := s.aoAt o
  let nt := s.rd (Reg.audOutNet o)
  let rate := s.grpRate g
  let n := rate / (if bit nt 30 then 8000 else 1000)
  let joined := decide (x.buf ≠ []) && x.first + x.buf.length == 64 * b
  let buf := if joined then x.buf ++ fs else fs
  let first := if joined then x.first else 64 * b
  let cuts := cutAudio n buf.length buf
  let mode := if (List.range 3).all (fun k => s.rd (Reg.audOutDstIp1 o + 4 * k) == 0) then 0 else 1
  let extra := (s.rd (Reg.audOutDelay o)).toNat * rate / secNs
  let pkts : List Pkt := cuts.zipIdx.map (fun (fs, i) =>
    { queue := 1, dests := [(fld nt 16 11, addrAt s.rd (Reg.audOutMacLo o) mode none)], folio := none, deadline := none,
      payload := rtpHeader false (fld nt 29 23) ((x.seq + i) % 0x10000) ((first + n * i + extra) % 2 ^ 32) (s.rd (Reg.audOutSsrc o))
        ++ fs.flatMap (fun f => f.flatMap (topBytes (if bit nt 31 then 3 else 2))) })
  let node := s.getF (Reg.audOutCfg o) 13 4
  if s.roomFor node pkts then
    (s.enqueueAll node pkts).setAo o { x with
      blk := b + 1, seq := (x.seq + pkts.length) % 0x10000, buf := buf.drop (n * cuts.length), first := first + n * cuts.length }
  else s

/-- Audio frames of the video frame in progress of a sheet at 48 kHz. -/
def State.runFrames (s : State) (k : Nat) : Nat :=
  let c := sheetCfg s.rd k
  let n := gridIndex c.rate (s.timeOf c.tb)
  let upTo := fun m => m * 48000 * rateDen c.rate / max 1 (rateNum c.rate)
  upTo (n + 1) - upTo n

/-- The slips due at an embedder: a dropped video frame skips its run of audio frames, a repeated one sends it again (R484). -/
def State.embedded (s : State) (o : Nat) (fs : List (List Word)) : State × List (List Word) :=
  let x := s.aoAt o
  let run := s.runFrames (s.getF (Reg.ingOutCfg (s.getF (Reg.audOutCfg o) 13 4)) 29 28)
  let skip := x.skip + run * (x.slips.filter id).length
  let again := (List.range (x.slips.filter (fun d => !d)).length).flatMap (fun _ => (x.sent.take run).reverse)
  let now_ := again ++ fs.drop skip
  (s.setAo o { x with slips := [], skip := skip - fs.length, sent := (now_.reverse ++ x.sent).take 2048 }, now_)

/-- The picture of sheet k whose presentation time covers time t (R483). -/
def State.pictureAt (s : State) (k t : Nat) : Nat := let c := sheetCfg s.rd k; gridIndex c.rate (t - c.offset * 0x10000)

/-- Frames cut where the picture that carries them changes: each picture with its frames, from frame j of output o on. `f` bounds the walk. -/
def State.byPicture (s : State) (o g k : Nat) : Nat → Nat → List (List Word) → List (Nat × List (List Word))
  | 0, _, _ => []
  | f + 1, j, fs =>
    let p := fun i => s.pictureAt k (s.presented o g (j + i))
    let n := ((List.range fs.length).takeWhile (fun i => p i == p 0)).length
    if fs.isEmpty then [] else (p 0, fs.take n) :: s.byPicture o g k f (j + n) (fs.drop n)

/-- Folio audio (R485): one packet for each receiver that takes audio under version 3. -/
def State.sendFolioAudio (s : State) (o g b : Nat) (fs : List (List Word)) : State :=
  let n := s.getF (Reg.audOutCfg o) 13 4
  let t := s.presented o g (64 * b)
  let rxs := (s.rxOfChannel n).filter (fun f => s.flag (Reg.wchRx n (f % 16)) 25 && s.rxVersion f == 3)
  let data := [BitVec.ofNat 8 (s.getF (Reg.audOutCfg o) 18 14), BitVec.ofNat 8 (s.getF (Reg.audGrpOut g) 22 19), 0, 64] ++ beBytes 4 b
    ++ fs.flatMap (fun f => f.flatMap (topBytes 3))
  let pkts := rxs.map (fun f => s.folioPkt n 1 ⟨3, 1, n, f % 16, 1, s.curPicture, ptSec t, ptNs t, 0, 0⟩ data (s.chLanes n) none)
  let node := s.getF (Reg.wchTm n) 9 0
  let s1 := s.setAo o { s.aoAt o with blk := b + 1 }
  if !s.chSends n then s1 else if s.roomFor node pkts then s1.enqueueAll node pkts else s

/-- Send block b of group g by output o's kind; ports and transmitters wait for delay after the block's frame sync. -/
def State.sendBlock (s : State) (o g b stamp : Nat) (fs : List (List Word)) : State :=
  let c := s.rd (Reg.audOutCfg o)
  let tgt := fld c 13 4
  let done := fun (s : State) => s.setAo o { s.aoAt o with blk := b + 1 }
  let due := decide (stamp + (s.rd (Reg.audOutDelay o)).toNat ≤ s.now)
  match fld c 30 28 with
  | 0 =>
    if due then
      let sp := s.rd (Reg.audSpCfg tgt)
      (done s).emit (.sound 0 tgt (fs.flatMap (fun f => (List.range (fld sp 21 17)).flatMap (fun i => beBytes 4 (f.getD i 0 &&& slotMask (fld sp 16 15)).toNat))))
    else s
  | 1 =>
    if due then
      let x := s.aoAt o
      let cs := if b % 3 = 0 ∨ x.cs = [] then s.txStatus tgt else x.cs
      let s1 := (s.setAo o { x with cs := cs, blk := b + 1 })
      if s.flag (Reg.audAtCfg tgt) 31 then
        s1.emit (.sound 1 tgt (fs.flatMap (fun f => f.flatMap (topBytes 3)) ++ (cs.drop (b % 3 * 8)).take 8 ++ (cs.drop (24 + b % 3 * 8)).take 8))
      else s1
    else s
  | 2 => s.sendSt30 o g b fs
  | 3 =>
    let r := (done s).embedded o fs
    (s.byPicture o g (s.getF (Reg.ingOutCfg tgt) 29 28) r.2.length (64 * b) r.2).foldl
      (fun s p => s.emit (.embed tgt p.1 (p.2.flatMap (fun f => f.flatMap (topBytes 3))))) r.1
  | 4 =>
    let s1 := s.flowAudioSend (tgt / 2) (tgt % 2) (s.presented o g (64 * b)) (Config.st302Code fs)
    done s1
  | 5 => s.sendFolioAudio o g b fs
  | _ => s

/-- AUDIO_OUTPUT_SEND: the oldest block not yet sent that the ring still holds; missing blocks are passed over (R479). -/
def State.outputSend (s : State) (o : Nat) : State :=
  let c := s.rd (Reg.audOutCfg o)
  let g := fld c 27 24
  match (s.grpAt g).written with
  | none => s
  | some w =>
    let lo := max (s.aoAt o).blk (w + 1 - s.getF (Reg.audGrpRingCtl g) 5 0)
    let cand := (List.range (w + 1 - lo)).map (· + lo)
    if !bit c 31 then s
    else match cand.find? (fun b => (s.readBlock g b (fld c 23 19) (fld c 18 14)).2.isSome) with
      | none => s
      | some b =>
        let r := s.readBlock g b (fld c 23 19) (fld c 18 14)
        match r.2 with
        | some (stamp, fs) => r.1.sendBlock o g b stamp fs
        | none => s

/-- AUDIO_OUTPUT_SEND. -/
def execAudioOutputSend (o : Fin 16) (s : State) : Host.Outcome State Fault Refusal := .next (s.outputSend o.val)

end Sys2Proof.Machine
end

