-- ==== Sys2Proof/Machine/Operands.lean ====
section
/-! DEFINITION. Operand forms of the Mutan formats (Encoding formats, R65-R67): immediates, local and far addresses, tokens,
task and event operands, vector lanes. -/

namespace Sys2Proof.Machine

/-- Bytes an I-format instruction covers: 8 with an extension word. -/
def IArgs.size (a : IArgs) : Nat := if a.x then 8 else 4
/-- Immediate, imm12 zero-extended or the extension word exactly as written (R65). -/
def IArgs.immZ (a : IArgs) : Word := if a.x then a.ext else a.imm12.zeroExtend 32
/-- Immediate of ADDI: imm12 sign-extended, or the extension word (R65). -/
def IArgs.immS (a : IArgs) : Word := if a.x then a.ext else a.imm12.signExtend 32
/-- Local address of an M-format instruction: ra + sext(off10) (R66). -/
def MArgs.addr (a : MArgs) (c : Ctx) : Nat := (c.gr a.ra.toNat + a.off10.signExtend 32).toNat
/-- Bytes an M-format access covers. -/
def MArgs.width (a : MArgs) : Nat := 2 ^ a.sz.toNat
/-- Far address of a T-format instruction: fb + rb modulo 2⁴⁸ (R67). -/
def TArgs.far (a : TArgs) (c : Ctx) : Nat := (c.fbr a.fb.toNat + (c.gr a.rb.toNat).zeroExtend 48).toNat
/-- Branch target of a B-format instruction at pc: pc + sext(off21) × 4. -/
def BArgs.target (a : BArgs) (pc : Nat) : Int := (pc : Int) + a.off21.toInt * 4
/-- A token value: generation in [7:4], slot in [3:0] (Far access and tokens). -/
def tokenOf (gen : BitVec 4) (slot : Nat) : Word := BitVec.ofNat 32 (gen.toNat * 16 + slot % 16)
/-- Gathering of a task or event operand (R68). -/
def opGath (w : Word) : Nat := fld w 21 16
/-- Task id of a task operand. -/
def opTask (w : Word) : Nat := fld w 15 0
/-- Has a task operand a must-be-zero bit set? -/
def opTaskBad (w : Word) : Bool := decide (fld w 31 22 ≠ 0)
/-- Source of an event operand. -/
def opSrc (w : Word) : Nat := fld w 8 0
/-- Has an event operand a must-be-zero bit set? -/
def opSrcBad (w : Word) : Bool := decide (fld w 31 22 ≠ 0) || decide (fld w 15 9 ≠ 0)

/-! ### Vector lanes (R69) -/

/-- Lane width of a vector instruction. -/
def VArgs.width (a : VArgs) : Nat := if a.w32 then 32 else 16
/-- Lane i of width w, unsigned. -/
def laneU (w : Nat) (v : BitVec 256) (i : Nat) : Nat := v.toNat / 2 ^ (w * i) % 2 ^ w
/-- Lane i of width w, signed. -/
def laneS (w : Nat) (v : BitVec 256) (i : Nat) : Int := signed w (laneU w v i)
/-- The low w bits of an integer. -/
def lowBits (w : Nat) (x : Int) : Nat := (x % (2 ^ w : Int)).toNat
/-- The vector whose lane i is the low w bits of f i. -/
def ofLanes (w : Nat) (f : Nat → Int) : BitVec 256 :=
  BitVec.ofNat 256 ((List.range (256 / w)).foldl (fun n i => n + lowBits w (f i) * 2 ^ (w * i)) 0)

/-! ### The current context of an engine -/

/-- The context an engine's instruction runs in. -/
def State.ctxOf (s : State) (q : EngId) : Ctx := let x := s.engAt q.g.val q.e.val; x.ctx x.cur
/-- Is that context the urgent one? -/
def State.urgOf (s : State) (q : EngId) : Bool := (s.engAt q.g.val q.e.val).cur
/-- Replace it. -/
def State.putCtx (s : State) (q : EngId) (c : Ctx) : State :=
  let x := s.engAt q.g.val q.e.val
  s.setEng q.g.val q.e.val (x.setCtx x.cur c)
/-- The engine's record. -/
def State.engOf (s : State) (q : EngId) : Eng := s.engAt q.g.val q.e.val
/-- Replace the engine's record. -/
def State.putEng (s : State) (q : EngId) (x : Eng) : State := s.setEng q.g.val q.e.val x

end Sys2Proof.Machine
end

