-- ==== Sys2Proof/Machine/Flags.lean ====
section
/-! DEFINITION. What the engine computes beside results: comparison outcomes for predicates (R64), saturation (R69), the
legality of an encoding (R62), local range and alignment (R57), and the shared frame of one instruction (R60-R63, R92). -/

namespace Sys2Proof.Machine

/-- ra = rb. -/
def condEq (a b : Word) : Bool := decide (a = b)
/-- ra ≠ rb. -/
def condNe (a b : Word) : Bool := !decide (a = b)
/-- ra < rb, signed. -/
def condLt (a b : Word) : Bool := decide (a.toInt < b.toInt)
/-- ra ≥ rb, signed. -/
def condGe (a b : Word) : Bool := !condLt a b
/-- ra < rb, unsigned. -/
def condLtu (a b : Word) : Bool := decide (a.toNat < b.toNat)
/-- ra ≥ rb, unsigned. -/
def condGeu (a b : Word) : Bool := !condLtu a b

/-- Saturate to the signed range of width w (R69). -/
def sat (w : Nat) (x : Int) : Int := clampI (-(2 ^ (w - 1) : Int)) ((2 ^ (w - 1) : Int) - 1) x

/-- Fault codes of R91. -/
def causeIllegal : Nat := 0x01
/-- PC_RANGE. -/
def causePcRange : Nat := 0x02
/-- PAGE_EMPTY. -/
def causePageEmpty : Nat := 0x03
/-- ALIGN. -/
def causeAlign : Nat := 0x04
/-- LOCAL_RANGE. -/
def causeLocalRange : Nat := 0x05
/-- FAR_RANGE. -/
def causeFarRange : Nat := 0x06
/-- DOMAIN. -/
def causeDomain : Nat := 0x07
/-- FAR_ERROR. -/
def causeFarError : Nat := 0x08

/-- Does a local range reach 0x6000 (R57)? A range of no bytes reaches nothing (R71). -/
def localBad (a n : Nat) : Bool := decide (n ≠ 0) && decide (0x6000 < a + n)

/-- How the body of an instruction ends: done, a jump, a fault (with the pc that issued a deferred one), the end of the
context's occupant, or a stall that leaves everything as it was and is tried again (log entry 22). -/
inductive Res where
  | next (s : State)
  | jump (s : State) (pc : Nat)
  | fault (s : State) (cause : Nat) (issue : Option Nat) (addr : Nat)
  | over (s : State)
  | stall

/-- The part of an instruction every format shares: its words, its size in bytes, its predicate and sense, and whether its first word and
its extension word are legal (R61, R62). -/
structure Ins where
  words : List Word
  size : Nat
  pr : Nat
  pn : Bool
  legal : Bool
  extOk : Bool

/-- Does the engine run an instruction now: enabled, not parked, its current context occupied and awake (R45, R88, R125)? -/
def State.running (s : State) (q : EngId) : Bool :=
  s.enabled q.g.val q.e.val && !s.parked q.g.val && (s.ctxOf q).occ && (s.ctxOf q).sleep.isNone

/-- State of the overlay page that holds address pc (R60). -/
def State.pageOf (s : State) (q : EngId) (pc : Nat) : PageSt := SMap.get (fun _ => PageSt.empty) (s.engOf q).page (pc / 0x800)

/-- Does the instruction's predicate hold (R61)? -/
def Ins.holds (i : Ins) (c : Ctx) : Bool := c.pred i.pr != i.pn

/-- pc moves past the instruction (R63). -/
def State.stepPc (s : State) (q : EngId) (n : Nat) : State :=
  let c := s.ctxOf q
  s.putCtx q { c with pc := c.pc + BitVec.ofNat 13 n }

/-- Take a fault in the engine's current context at pc (R92). -/
def State.faultHere (s : State) (q : EngId) (cause pc issue addr : Nat) : State :=
  s.fault q.g.val q.e.val (s.urgOf q) cause pc issue addr

/-- The address a PC_RANGE fault of the sequential step reports (R63). -/
def pcEnd : Nat := 0x2000

/-- Put the body's result into effect (R63, R92). -/
def State.finish (s : State) (q : EngId) (pc size : Nat) : Res → State
  | .next s' => s'.stepPc q size
  | .jump s' t => s'.putCtx q { s'.ctxOf q with pc := BitVec.ofNat 13 t }
  | .fault s' cause issue addr => s'.faultHere q cause pc (issue.getD pc) addr
  | .over s' => s'
  | .stall => s

/-- The word of the instruction buffer at address a. -/
def State.codeWord (s : State) (q : EngId) (a : Nat) : Word :=
  BitVec.ofNat 32 (ofLe (SMap.getList (fun _ => (0 : Byte)) (s.engOf q).ibuf a 4))

/-- Does the instruction buffer hold these words from address a on? No words are held nowhere. -/
def State.holdsWords (s : State) (q : EngId) (a : Nat) (ws : List Word) : Bool :=
  !ws.isEmpty && ws.zipIdx.all (fun p => s.codeWord q (a + 4 * p.2) == p.1)

/-- The engine's next word is not the command's instruction: a word outside the instruction tables faults ILLEGAL (R62), its predicate
permitting where its opcode gives the R format (R61; log entry 152); any other word names another instruction, and the command is not what
the engine executes (log entry 71). -/
def State.otherWord (s : State) (q : EngId) (c : Ctx) (pc : Nat) : State :=
  let w := s.codeWord q pc
  if !wordOpKnown w then s.faultHere q causeIllegal pc pc pc
  else if wordFnKnown w then s
  else if c.pred (fld w 9 7) != bit w 6 then s.faultHere q causeIllegal pc pc pc
  else if 0x1FFC < pc + 4 then s.faultHere q causePcRange pc pc pcEnd
  else s.stepPc q 4

/-- One instruction of an engine: fetch, predicate, the legality of its first word, the sequential step, the fetch and legality of an
extension word, then its body (R60-R63; log entry 152). -/
def State.instr (s : State) (q : EngId) (i : Ins) (body : State → Ctx → Res) : State :=
  let c := s.ctxOf q
  let pc := c.pc.toNat
  if !s.running q then s
  else match s.pageOf q pc with
    | .empty => s.faultHere q causePageEmpty pc pc pc
    | .filling => s
    | .valid =>
      if !s.holdsWords q pc (i.words.take 1) then s.otherWord q c pc
      else if !i.holds c then
        if 0x1FFC < pc + i.size then s.faultHere q causePcRange pc pc pcEnd else s.stepPc q i.size
      else if !i.legal then s.faultHere q causeIllegal pc pc pc
      else if 0x1FFC < pc + i.size then s.faultHere q causePcRange pc pc pcEnd
      else match s.pageOf q (pc + i.size - 4) with
        | .empty => s.faultHere q causePageEmpty pc pc (pc + i.size - 4)
        | .filling => s
        | .valid =>
          if !s.holdsWords q pc i.words then s
          else if !i.extOk then s.faultHere q causeIllegal pc pc pc
          else s.finish q pc i.size (body s c)

/-! ### Formats -/

/-- An R-format instruction with no field that must be 0 but bit [25]. -/
def insR (i : Instr) (a : RArgs) (legal : Bool) : Ins := ⟨i.words, 4, a.pr.toNat, a.pn, !a.x && legal, true⟩
/-- A vector instruction. -/
def insV (i : Instr) (a : VArgs) (legal : Bool) : Ins := ⟨i.words, 4, a.pr.toNat, a.pn, !a.x && legal, true⟩
/-- An I-format instruction: `legal` speaks of its first word, `imm` of the immediate; with an extension word imm12 must be 0 (R62). -/
def insI (i : Instr) (a : IArgs) (legal : Bool) (imm : Word → Bool) : Ins :=
  ⟨i.words, IArgs.size a, a.pr.toNat, false, (if a.x then decide (a.imm12 = 0) else imm (a.imm12.zeroExtend 32)) && legal,
    !a.x || imm a.ext⟩
/-- An M-format instruction. -/
def insM (i : Instr) (a : MArgs) (legal : Bool) : Ins := ⟨i.words, 4, a.pr.toNat, false, !a.x && legal, true⟩
/-- A T-format instruction. -/
def insT (i : Instr) (a : TArgs) (legal : Bool) : Ins := ⟨i.words, 4, a.pr.toNat, false, !a.x && legal, true⟩
/-- A U-format instruction: bits [1:0] must be 0. -/
def insU (i : Instr) (a : UArgs) : Ins := ⟨i.words, 4, a.pr.toNat, false, !a.x && decide (a.low = 0), true⟩
/-- A B-format instruction. -/
def insB (i : Instr) (a : BArgs) : Ins := ⟨i.words, 4, a.pr.toNat, a.pn, !a.x, true⟩
/-- Vector register indexes have bit 4 clear (R62). -/
def vreg (r : BitVec 5) : Bool := !r.getLsbD 4

/-! ### Tokens (R73-R77) -/

/-- Does a slot hold an operation in flight? -/
def TokSlot.isBusy (t : TokSlot) : Bool := match t.st with | .busy _ => true | _ => false
/-- Is a slot free? -/
def TokSlot.isFree (t : TokSlot) : Bool := match t.st with | .idle => true | _ => false
/-- The operation in flight in a slot. -/
def TokSlot.op? (t : TokSlot) : Option FarOp := match t.st with | .busy o => some o | _ => none
/-- The error a slot holds. -/
def TokSlot.err? (t : TokSlot) : Option (Nat × FarOp) := match t.st with | .err c o => some (c, o) | _ => none

/-- Operations in flight of a context. -/
def Ctx.inFlight (c : Ctx) : List FarOp := (List.range 16).filterMap (fun i => (c.slot i).op?)

/-- The oldest error held on a slot of a context whose operation satisfies p: slot, cause, operation. -/
def Ctx.oldestErr (c : Ctx) (p : FarOp → Bool) : Option (Nat × Nat × FarOp) :=
  (List.range 16).foldl (fun best i =>
    match (c.slot i).err? with
    | some (cause, o) =>
      if p o && (match best with | some (_, _, b) => decide (o.order < b.order) | none => true) then some (i, cause, o)
      else best
    | none => best) none

/-- Is the operation a far store or a fill (R77)? -/
def FarOp.isStore (o : FarOp) : Bool := match o.kind with | .fld => false | _ => true

/-- The deferred fault a held error gives: its slot is freed, the far address reported (R74, R92). -/
def Res.deferred (s : State) (q : EngId) (c : Ctx) (i cause : Nat) (o : FarOp) : Res :=
  .fault (s.putCtx q (c.setSlot i { c.slot i with st := .idle })) cause (some o.pc) o.far

/-- The release wait of a synchronising instruction (R77): stall while a far store or fill of the context is in flight, take the oldest
error one of them holds, and act only then. -/
def Res.afterRelease (s : State) (q : EngId) (c : Ctx) (act : Res) : Res :=
  if c.inFlight.any FarOp.isStore then .stall
  else match c.oldestErr FarOp.isStore with
    | some (i, cause, o) => Res.deferred s q c i cause o
    | none => act

/-- Do two byte ranges overlap? -/
def overlap (a n b m : Nat) : Bool := decide (n ≠ 0) && decide (m ≠ 0) && decide (a < b + m) && decide (b < a + n)

/-- Far operations of an engine in flight: its one port carries those of both contexts. -/
def Eng.flying (x : Eng) : List FarOp := x.norm.inFlight ++ x.urg.inFlight

/-- Must an operation of place `order` on a far range wait for an earlier one of its engine whose range it overlaps (R76, R148)? -/
def Eng.mustWait (x : Eng) (order far len : Nat) : Bool :=
  x.flying.any (fun p => decide (p.order < order) && overlap p.far p.len far len)

/-- Is the local range interlocked by an outstanding far transfer of the context (R75)? -/
def Ctx.interlocked (c : Ctx) (a n : Nat) : Bool :=
  c.inFlight.any (fun o => (match o.kind with | .ifill => false | _ => true) && overlap a n o.loc o.len)

end Sys2Proof.Machine
end

