-- ==== Sys2Proof/Machine/GathCmds.lean ====
section
/-! DEFINITION. The commands of task schedulers, event controllers, parking, mailboxes and doorbells (chapters 2 and 3). -/

namespace Sys2Proof.Machine

/-- QE_ENABLE_WRITE (R45, R88, R104). -/
def execQeEnableWrite (ini : Ini) (q : EngId) (v : Word) (s : State) : Host.Outcome State Fault Refusal :=
  .next (s.gatedWrite ini (Reg.qeCtrl q.g q.e) v (fun s => s.enableWrite q.g.val q.e.val v))

/-- TSU_DESC_WRITE (R97). -/
def execTsuDescWrite (ini : Ini) (g : Fin 64) (count : Bool) (v : Word) (s : State) : Host.Outcome State Fault Refusal :=
  .next (s.gatedWrite ini (if count then Reg.tsuDescCount g else Reg.tsuDescBase g) v
    (fun s => s.tsuDescWrite g.val count v))

/-- SETTLE_EXPIRY (R102). -/
def execSettleExpiry (g : Fin 64) (task : BitVec 16) (s : State) : Host.Outcome State Fault Refusal :=
  .next (s.settleExpiry g.val task.toNat)

/-- CANCEL_MEMORY_EXPIRY (R103). -/
def execCancelMemoryExpiry (g : Fin 64) (task : BitVec 16) (s : State) : Host.Outcome State Fault Refusal :=
  .next (s.cancelExpiry g.val task.toNat)

/-- EVENT_PRESENT (R116-R118, R121). -/
def execEventPresent (g : Fin 64) (src : Fin 512) (s : State) : Host.Outcome State Fault Refusal :=
  .next (s.present g.val src.val)

/-- MODERATION_HOLDOFF_EXPIRY (R118). -/
def execModerationHoldoffExpiry (g : Fin 64) (grp : Fin 16) (s : State) : Host.Outcome State Fault Refusal :=
  .next (s.holdoffExpiry g.val grp.val)

/-- EVC_TAKE_READ (R113). -/
def execEvcTakeRead (ini : Ini) (g : Fin 64) (w : Fin 16) (s : State) : Host.Outcome State Fault Refusal :=
  .next (s.gated ini (Reg.evcTake g w) false 0 (fun s =>
    (s.evcTake ini g.val w.val).1.answer (.ok (s.evcTake ini g.val w.val).2)))

/-- EVC_ROUTE_WRITE (R120). -/
def execEvcRouteWrite (ini : Ini) (g : Fin 64) (src : Fin 512) (v : Word) (s : State) : Host.Outcome State Fault Refusal :=
  .next (s.gatedWrite ini (Reg.evcRoute g src) v (fun s => s.evcRouteWrite g.val src.val v))

/-- STRAND_TIMEOUT (R121). -/
def execStrandTimeout (g : Fin 64) (src : Fin 512) (s : State) : Host.Outcome State Fault Refusal :=
  .next (s.strandTimeout g.val src.val)

/-- GATH_PWR_WRITE (R124, R125). -/
def execGathPwrWrite (ini : Ini) (g : Fin 64) (v : Word) (s : State) : Host.Outcome State Fault Refusal :=
  .next (s.gatedWrite ini (Reg.gathPwr g) v (fun s => s.gathPwrWrite g.val v))

/-- GATHERING_PARK (R125). -/
def execGatheringPark (g : Fin 64) (s : State) : Host.Outcome State Fault Refusal := .next (s.gatheringPark g.val)

/-- MBX_CFG_WRITE (R126). -/
def execMbxCfgWrite (ini : Ini) (n : Fin 48) (v : Word) (s : State) : Host.Outcome State Fault Refusal :=
  .next (s.gated ini (Reg.mbxCfg n) true v (fun s => s.mbxCfgWrite ini n.val v))

/-- MBX_DATA_WRITE (R131, R133, R134). -/
def execMbxDataWrite (ini : Ini) (n : Fin 48) (k : Fin 16) (v : Word) (s : State) : Host.Outcome State Fault Refusal :=
  .next (s.gated ini (Reg.mbxData n k) true v (fun s => s.mbxDataWrite ini n.val k.val v))

/-- MBX_SEND (R129, R131, R133). -/
def execMbxSend (ini : Ini) (n : Fin 48) (v : Word) (s : State) : Host.Outcome State Fault Refusal :=
  .next (s.gated ini (Reg.mbxSend n) true v (fun s => s.mbxSendWrite ini n.val v))

/-- MBX_LAST_WORD_READ: a read of word 15 (R131). -/
def execMbxLastWordRead (ini : Ini) (n : Fin 48) (s : State) : Host.Outcome State Fault Refusal :=
  .next (s.gated ini (Reg.mbxData n 15) false 0 (fun s => s.mbxDataRead ini n.val 15))

/-- MBX_DBI (R136). -/
def execMbxDbi (ini : Ini) (i : Fin 2) (v : Word) (s : State) : Host.Outcome State Fault Refusal :=
  .next (s.gated ini (Reg.mbxDbi i) true v (fun s => s.dbiWrite ini i.val v))

/-- MBX_DBO_SET (R138). -/
def execMbxDboSet (ini : Ini) (i : Fin 2) (v : Word) (s : State) : Host.Outcome State Fault Refusal :=
  .next (s.gated ini (Reg.mbxDboSet i) true v (fun s => s.dboSetWrite ini i.val v))

/-- MBX_DBO_CLEAR (R139, R140). -/
def execMbxDboClear (ini : Ini) (i : Fin 2) (v : Word) (s : State) : Host.Outcome State Fault Refusal :=
  .next (s.gated ini (Reg.mbxDbo i) true v (fun s => s.dboWrite ini i.val v))

end Sys2Proof.Machine
end

