-- ==== Sys2Proof/Machine/Host.lean ====
section
/-! DEFINITION. The host interface: queues and their registers, host events, vectors, power states and resets, and the Spine's
command set (R503-R526). -/

namespace Sys2Proof.Machine

/-! ### Queue registers (R507-R509) -/

/-- Does an enabled command queue name completion queue c? -/
def State.cqNamed (s : State) (c : Nat) : Bool :=
  (List.range 64).any (fun q => s.flag (Reg.hifSqCfg q) 31 && decide (s.getF (Reg.hifSqCfg q) 21 16 = c))

/-- Write HIF_SQ_CFG (R509): while en is 1 nothing changes but en; setting en is refused with err, or empties the queue. -/
def State.sqCfgWrite (s : State) (q : Nat) (v : Word) : State :=
  let cfg := Reg.hifSqCfg q
  if s.flag cfg 31 then s.setB cfg 31 (bit v 31)
  else
    let s1 := s.plainWrite cfg v
    if !bit v 31 then s1
    else if decide (1 ≤ fld v 12 0) && decide (fld v 12 0 ≤ 4096) && s.flag (Reg.hifCqCfg (fld v 21 16)) 31 then
      (s1.setF (Reg.hifSqSts q) 11 0 0).wr (Reg.hifSqTail q) 0
    else (s1.setB cfg 31 false).setB (Reg.hifSqSts q) 28 true

/-- Write HIF_CQ_CFG (R509): a queue an enabled command queue names is not disabled. Enabling it lets entries held for it be written. -/
def State.cqCfgWrite (s : State) (c : Nat) (v : Word) : State :=
  let cfg := Reg.hifCqCfg c
  if s.flag cfg 31 then
    if !bit v 31 && s.cqNamed c then s.setB (Reg.hifCqSts c) 28 true else s.setB cfg 31 (bit v 31)
  else
    let s1 := s.plainWrite cfg v
    if !bit v 31 then s1
    else if decide (2 ≤ fld v 12 0) && decide (fld v 12 0 ≤ 4096) then
      ((((s1.setF (Reg.hifCqSts c) 11 0 0).setF (Reg.hifCqSts c) 12 12 1).wr (Reg.hifCqHead c) 0).drainHeld).placeEvents
    else (s1.setB cfg 31 false).setB (Reg.hifCqSts c) 28 true

/-- Write a base register of a queue (R509): nothing changes while the queue's en is 1. -/
def State.queueBaseWrite (s : State) (cfg off : Nat) (v : Word) : State := if s.flag cfg 31 then s else s.plainWrite off v

/-- Does command queue q run and hold a command (R507)? -/
def State.sqWaits (s : State) (q : Nat) : Bool :=
  s.flag (Reg.hifSqCfg q) 31 && decide (s.getF (Reg.hifSqSts q) 11 0 ≠ s.getF (Reg.hifSqTail q) 11 0)

/-- Write HIF_SQ_TAIL (R507): the write that gives an empty queue a command is noted, since the Spine sees it within 50 µs (R510). -/
def State.sqTailWrite (s : State) (q : Nat) (v : Word) : State :=
  if s.getF (Reg.hifSqCfg q) 12 0 ≤ fld v 11 0 then s.setB (Reg.hifSqSts q) 30 true
  else
    let s1 := s.setF (Reg.hifSqTail q) 11 0 (fld v 11 0)
    if s.sqWaits q then s1
    else { s1 with hif := { s1.hif with sqSince := SMap.set (fun _ => 0) s1.hif.sqSince q s1.now } }

/-- Write HIF_CQ_HEAD (R508): entries the host has read are freed, and held entries may then be written (R512). -/
def State.cqHeadWrite (s : State) (c : Nat) (v : Word) : State :=
  if s.getF (Reg.hifCqCfg c) 12 0 ≤ fld v 11 0 then s.setB (Reg.hifCqSts c) 30 true
  else ((s.setF (Reg.hifCqHead c) 11 0 (fld v 11 0)).drainHeld).placeEvents

/-- Write HIF_EVT_CFG (R513): en needs its queue enabled; pending codes are then placed. -/
def State.evtCfgWrite (s : State) (v : Word) : State :=
  ((s.plainWrite Reg.hifEvtCfg v).setB Reg.hifEvtCfg 31 (bit v 31 && s.flag (Reg.hifCqCfg (fld v 5 0)) 31)).placeEvents

/-- Write HIF_EVT_MASK (R513). -/
def State.evtMaskWrite (s : State) (v : Word) : State := (s.plainWrite Reg.hifEvtMask v).placeEvents

/-- Write HIF_MBX_VEC or HIF_DBO_VEC (R518): a vector of 120 or more leaves en at 0. -/
def State.vecRegWrite (s : State) (off : Nat) (v : Word) : State :=
  (s.plainWrite off v).setB off 31 (bit v 31 && decide (fld v 6 0 < 120))

/-! ### Vectors (R516, R517) -/

/-- Fire vector v if it has counted a request. -/
def State.fireDue (s : State) (v : Nat) : State := if (s.hif.vecAt v).count = 0 then s else s.fireVec v
/-- Fire every PF0 vector with a nonzero count. -/
def State.fireAll (s : State) : State := (List.range 120).foldl State.fireDue s
/-- Send one message for each PF1 vector that counted requests during sleep (R519). -/
def State.firePf1 (s : State) : State :=
  (List.range 8).foldl (fun s v =>
    if (s.hif.vecAt (128 + v)).count = 0 then s
    else
      State.emit { s with hif := { s.hif with vec := SMap.set (fun _ => Vec.reset) s.hif.vec (128 + v) Vec.reset } } (.msix true v)) s

/-- Write HIF_MOD (R515): a vector whose count has reached the new threshold, or that is no longer held off, fires. -/
def State.modWrite (s : State) (v : Nat) (w : Word) : State :=
  let s1 := s.plainWrite (Reg.hifMod v) w
  let n := (s.hif.vecAt v).count
  if s.hif.holding || decide (n = 0) then s1
  else if (fld w 7 0 != 0 && decide (fld w 7 0 ≤ n)) || fld w 31 16 == 0 then s1.fireVec v
  else s1

/-- Write HIF_IDLE_HINT (R517). -/
def State.idleHintWrite (s : State) (v : Word) : State :=
  let s1 := s.plainWrite Reg.hifIdleHint v
  if bit v 0 && !s.hif.holding then s1.fireAll else s1

/-- A vector's timer expires (R516): nothing unless it has counted, its timer has run out and the function is awake. -/
def State.timerExpiry (s : State) (v : Nat) : State :=
  let r := s.hif.vecAt v
  if r.count = 0 ∨ s.hif.holding ∨ s.now < r.since + 1000 * s.getF (Reg.hifMod v) 31 16 then s else s.fireVec v

/-- Write the vector control word of MSI-X table entry v (R516): an unmasked vector whose PBA bit is set sends and clears it. -/
def State.maskWrite (s : State) (v : Nat) (w : Word) : State :=
  let h := { s.hif with msixMask := SMap.set (fun k => decide (k < 128)) s.hif.msixMask v (bit w 0) }
  let r := s.hif.vecAt v
  if !bit w 0 && r.pba && !s.hif.holding then
    State.emit { s with hif := { h with vec := SMap.set (fun _ => Vec.reset) h.vec v { r with pba := false } } } (.msix false v)
  else { s with hif := h }

/-! ### Power states, link and resets (R519, R520) -/

/-- PMCSR as a power state write leaves PME_En and PME_Status (log entry 46). -/
def Hif.pmcsr (h : Hif) (en clr : Bool) : Hif := { h with pmeEn := en, pmeStatus := h.pmeStatus && !clr }

/-- Everything held goes out when a function writes again (R519 item 5): the held entries in order, which only count while PF0 still holds,
then each vector with a nonzero count. -/
def State.resume (s : State) (awake : Hif → Hif) : State :=
  let s1 := if (awake s.hif).holding then s else State.drainList { s with hif := { s.hif with held := [] } } [] s.hif.held
  let s2 := { s1 with hif := awake s1.hif }
  let s3 := if s2.hif.holding then s2 else s2.placeEvents.fireAll
  if s3.hif.d3Pf1 || s3.hif.linkDown || s3.hif.turnedOff || s3.hif.l2 then s3 else s3.firePf1

/-- PME_TURN_OFF (R519 item 2). The link then enters L2 (log entry 46). -/
def State.pmeTurnOff (s : State) : State :=
  State.emit { s with hif := { s.hif with turnedOff := true, l2 := true } } .pmeToAck

/-- A function enters D3hot. -/
def State.d3Entry (s : State) (pf1 pmeEn clr : Bool) : State :=
  { s with hif := if pf1 then { s.hif with d3Pf1 := true } else { s.hif.pmcsr pmeEn clr with d3Pf0 := true } }

/-- A function returns to D0; the link carried the write, so it is neither off nor in L2. -/
def State.d0Entry (s : State) (pf1 pmeEn clr : Bool) : State :=
  s.resume (fun h =>
    let h1 := { h with turnedOff := false, l2 := false, linkDown := false }
    if pf1 then { h1 with d3Pf1 := false } else { h1.pmcsr pmeEn clr with d3Pf0 := false })

/-- The link is lost, or returns (R520). -/
def State.linkLoss (s : State) (back : Bool) : State :=
  if back then s.resume (fun h => { h with linkDown := false, turnedOff := false, l2 := false })
  else { s with hif := { s.hif with linkDown := true } }

/-- Is a held entry an event entry (R511)? -/
def Entry.isEvent (e : Entry) : Bool := decide (byteAt e.bytes 11 / 2 % 2 = 1)

/-- Function-level reset of PF0 (R520): queues disabled, held completions discarded, HIF registers at reset but for HIF_EVT_PEND and the
trunk and ABI versions in force, mailboxes cleared. -/
def State.flrPf0 (s : State) : State :=
  let keep := fun off => decide (off = Reg.hifEvtPend) || decide (off = Reg.hifVer)
  let s1 := { s with
    reg := SMap.dropKeys (fun k => inRange k 0x30000 0x40000 && !keep k) s.reg
    hif := { s.hif with
      held := s.hif.held.filter Entry.isEvent
      vec := SMap.dropKeys (fun k => decide (k < 128)) s.hif.vec
      msixMask := SMap.dropKeys (fun k => decide (k < 128)) s.hif.msixMask
      d3Pf0 := false } }
  (s1.setF Reg.hifVer 31 24 0).mbxReset ⟨0, 0⟩

/-- Function-level reset of PF1 (R520). A Clasp command runs within one step; its reply, if it still waits for the channel, is discarded. -/
def State.flrPf1 (s : State) : State :=
  State.sendNotice (State.mbxReset { s with
    clasp := { s.clasp with owed := s.clasp.owed.filter (fun o => decide (o.1 ≠ 33)) }
    hif := { s.hif with
      vec := SMap.dropKeys (fun k => decide (128 ≤ k)) s.hif.vec
      msixMask := SMap.dropKeys (fun k => decide (128 ≤ k)) s.hif.msixMask
      d3Pf1 := false } } ⟨1, 0⟩)

/-- A conventional reset resets both functions (R520); the link trains again. -/
def State.pcieReset (s : State) : State :=
  let s1 := s.flrPf0.flrPf1
  { s1 with hif := { s1.hif with linkDown := false, turnedOff := false, l2 := false } }

/-! ### Commands (R510-R512, R522-R526) -/

/-- The opcodes of R523 and the version that brought each. -/
def opcodeVersion (op : Nat) : Option Nat :=
  if op = 0x11 ∨ op = 0x51 then some 2
  else if [0x01, 0x02, 0x10, 0x12, 0x20, 0x21, 0x30, 0x31, 0x40, 0x50].contains op then some 1
  else none

/-- Is byte i a parameter byte of the opcode (R523)? -/
def paramByte (op i : Nat) : Bool :=
  let upTo := fun n => decide (8 ≤ i) && decide (i < n)
  match op with
  | 0x01 => upTo 16
  | 0x02 => upTo 9
  | 0x10 => upTo 14
  | 0x11 => upTo 12
  | 0x12 => upTo 16
  | 0x20 => upTo 21
  | 0x21 => upTo 10 || (decide (12 ≤ i) && decide (i < 16))
  | 0x30 => upTo 24
  | 0x31 => upTo 24
  | 0x40 => upTo 9
  | 0x50 => upTo 20
  | 0x51 => upTo 11 || (decide (16 ≤ i) && decide (i < 56))
  | _ => false

/-- Are the reserved bytes of a command 0 (R511, R523)? -/
def reservedOk (e : List Byte) : Bool :=
  (List.range 64).all (fun i =>
    decide (byteAt e i = 0) || decide (i = 0) || decide (i = 2) || decide (i = 3) || paramByte (byteAt e 0) i)

/-- How a command ends: the state, its status (R522) and its result, if the spec states one. -/
abbrev CmdEnd := State × Nat × Option Nat

/-- Write a host buffer: FAR_ERROR when PCIe failed (R522). -/
def State.toHost (s : State) (c : HostCmd) (addr : Nat) (bs : List Byte) (result : Option Nat) : CmdEnd :=
  if c.pcieFail then (s, 6, none) else (s.emit (.hostWrite addr bs), 0, result)

/-- The identity record of R523. -/
def State.identityRecord (s : State) : List Byte :=
  padTo 256 ((List.range 4).flatMap (fun k => leBytes 4 (Config.serial k).toNat) ++ leBytes 4 Config.dieRevision.toNat
    ++ leBytes 4 Config.versionBytes.toNat ++ [3, 3, 3, 7] ++ leBytes 4 (s.rd Reg.clsSts).toNat)

/-- IDENTIFY. -/
def State.identify (s : State) (c : HostCmd) : CmdEnd := s.toHost c (leAt c.entry 8 8) s.identityRecord none

/-- The highest version in a bitmap of versions 1 and 2. -/
def commandVersion (bm : Nat) : Nat := if bm / 2 % 2 = 1 then 2 else bm % 2

/-- NEGOTIATE (R524). -/
def State.hostNegotiate (s : State) (c : HostCmd) : CmdEnd :=
  let v := commandVersion (byteAt c.entry 8)
  if v = 0 then (s, 2, none) else (s.setF Reg.hifVer 31 24 v, 0, some v)

/-- AVS_LIMITS (R528): the counts towards a fault start afresh with the steering. -/
def State.avsLimits (s : State) (c : HostCmd) : CmdEnd :=
  let vmin := leAt c.entry 8 2
  let vmax := leAt c.entry 10 2
  let lo := byteAt c.entry 12
  let hi := byteAt c.entry 13
  if vmin < 550 ∨ 900 < vmax ∨ vmax < vmin ∨ vmin % 5 ≠ 0 ∨ vmax % 5 ≠ 0 ∨ hi ≤ lo ∨ 100 < hi then (s, 3, none)
  else
    let s1 := ((s.wr Reg.avsCfg (BitVec.ofNat 32 (vmax * 2 ^ 16 + vmin))).wr Reg.avsThr
      (BitVec.ofNat 32 (hi * 2 ^ 8 + lo))).setB Reg.avsSts 31 false
    ({ s1 with sys := { s1.sys with mismatchTicks := 0, busTicks := 0 } }, 0, none)

/-- THERM_LIMITS (R523): sets SNS_THERM. -/
def State.thermLimits (s : State) (c : HostCmd) : CmdEnd :=
  (s.wr Reg.snsTherm (BitVec.ofNat 32 (leAt c.entry 10 2 * 2 ^ 16 + leAt c.entry 8 2)), 0, none)

/-- SENSOR_DUMP (R523): offsets 0x0000-0x0813 of the sensors block. -/
def State.sensorDump (s : State) (c : HostCmd) : CmdEnd :=
  s.toHost c (leAt c.entry 8 8) ((List.range 0x205).flatMap (fun i => leBytes 4 (s.rd (0x1400000 + 4 * i)).toNat)) none

/-- Is some engine enabled? -/
def State.anyEngine (s : State) : Bool := (List.range 1024).any (fun i => s.enabled (i / 16) (i % 16))

/-- Does a region CODE_CHECK has marked owner code hold Sheet store bytes o .. o+n-1 (R59, R495)? -/
def State.ownerCode (s : State) (o n : Nat) : Bool := s.clasp.regions.any (fun r => decide (r.1 ≤ o) && decide (o + n ≤ r.1 + r.2))

/-- An engine with a page filled. -/
def Eng.fillPage (x : Eng) (k : Nat) (bs : List Byte) : Eng :=
  { x with page := SMap.set (fun _ => PageSt.empty) x.page k .valid, ibuf := SMap.setList (fun _ => (0 : Byte)) x.ibuf (0x800 * k) bs }

/-- The start context of R525. -/
def Ctx.start (c : Ctx) (entry abi off len : Nat) : Ctx :=
  let g := (List.range 31).foldl (fun c k => c.setG (k + 1)
    (BitVec.ofNat 32 (if k = 0 then abi else if k = 1 then off else if k = 2 then len else 0))) c
  let v := (List.range 16).foldl (fun c k => c.setV k 0) g
  { v with
    occ := true, p := 1, pc := BitVec.ofNat 13 (entry * 4), tsk := 0xFFFF, cancel := false, cancelled := false, sleep := none
    tok := (List.range 16).foldl (fun m i => SMap.set (fun _ => TokSlot.reset) m i { v.slot i with st := .idle }) v.tok }

/-- PROGRAM_START (R525), its checks in the order the rule states them. -/
def State.programStart (s : State) (c : HostCmd) : CmdEnd :=
  let addr := leAt c.entry 8 6
  let len := leAt c.entry 14 4
  let entry := leAt c.entry 18 2
  let abi := commandVersion (byteAt c.entry 20)
  let off := addr - ssBase
  if len = 0 then (s, 0, none)
  else if s.sys.programStarted || s.anyEngine || regionOf addr len != .ss || !s.ownerCode off len then (s, 4, none)
  else if 512 ≤ entry ∨ len < 2048 then (s, 3, none)
  else if abi = 0 then (s, 2, none)
  else
    let r := s.ssRead ⟨1, 0⟩ addr off 2048
    match r.2.1 with
    | .ok =>
      let s1 := { r.1 with
        eng := (List.range 1024).foldl (fun m i =>
          SMap.set (fun _ => Eng.reset) m i ((SMap.get (fun _ => Eng.reset) m i).fillPage 0 r.2.2)) r.1.eng
        sys := { r.1.sys with programStarted := true } }
      let x := s1.engAt 0 0
      (((s1.setEng 0 0 { x with norm := x.norm.start entry abi off len }).enableWrite 0 0 1).setF Reg.hifVer 15 8 abi, 0, some abi)
    | .domain => (r.1, 5, none)
    | _ => (r.1, 6, none)

/-- ROUTE (R523). -/
def State.hostRoute (s : State) (c : HostCmd) : CmdEnd :=
  let i := byteAt c.entry 9
  let v : Word := BitVec.ofNat 32 (leAt c.entry 12 4)
  match byteAt c.entry 8 with
  | 0 => if i < 32 ∧ (!bit v 0 || mbxCfgOk i v) then (s.mbxCfgWrite .spine i v, 0, none) else (s, 3, none)
  | 1 => if i < 64 then (s.dbiRouteWrite .spine i v, 0, none) else (s, 3, none)
  | _ => (s, 3, none)

/-- A byte of the boot flash. -/
def State.flashAt (s : State) (a : Nat) : Byte := (SMap.get (fun _ => (none : Option Byte)) s.sys.flash a).getD (Config.flashByte a)
/-- Program flash bytes. -/
def State.setFlash (s : State) (a : Nat) (bs : List Byte) : State :=
  { s with sys := { s.sys with flash := SMap.setList (fun _ => none) s.sys.flash a (bs.map some) } }

/-- FLASH_READ (R523). -/
def State.flashRead (s : State) (c : HostCmd) : CmdEnd :=
  let a := leAt c.entry 16 4
  let n := leAt c.entry 20 4
  if n = 0 then (s, 0, none)
  else if Config.flashSize < a + n then (s, 3, none)
  else if c.flashFail then (s, 7, none)
  else s.toHost c (leAt c.entry 8 8) ((List.range n).map (fun i => s.flashAt (a + i))) none

/-- FLASH_WRITE (R523): every 4 KiB sector the range touches is erased, then the range programmed. What the sectors hold after a flash error
is open (log entry 36). -/
def State.flashWrite (s : State) (c : HostCmd) : CmdEnd :=
  let a := leAt c.entry 16 4
  let n := leAt c.entry 20 4
  let first := a / 4096 * 4096
  let len := roundUp (a + n) 4096 - first
  if n = 0 then (s, 0, none)
  else if Config.flashSize < a + n then (s, 3, none)
  else if c.pcieFail then (s, 6, none)
  else if c.flashFail then (State.setFlash { s with free := s.free + len } first (s.freeBytes len), 7, none)
  else
    (s.setFlash first ((List.range len).map (fun i =>
      if a ≤ first + i ∧ first + i < a + n then c.hostData.getD (first + i - a) 0 else 0xFF)), 0, none)

/-- May TRUNK_SET act: no FOLIO_DEC context enabled and no enabled wall channel on a trunk lane (R526)? -/
def State.trunkFree (s : State) : Bool :=
  let trunk := fun l => decide (0x20 ≤ l) && decide (l < 0x28)
  !(List.range 64).any (fun c => s.flag (Reg.pressCtxCtrl c) 31 && decide (s.getF (Reg.pressCtxCtrl c) 30 28 = 1)) &&
    !(List.range 512).any (fun n =>
      let w := s.rd (Reg.wchCtrl n)
      bit w 31 && (trunk (fld w 25 20) || (bit w 27 && trunk (fld w 19 14))))

/-- TRUNK_SET (R526). -/
def State.trunkSet (s : State) (c : HostCmd) : CmdEnd :=
  let v := byteAt c.entry 8
  if v ≠ 1 ∧ v ≠ 2 then (s, 3, none)
  else if !s.trunkFree then (s, 4, none)
  else (s.setF Reg.hifVer 23 16 v, 0, none)

/-- GPIO (R523): pins in direction drive value under mask; the result is the level of every pin, driven or read. -/
def State.gpio (s : State) (c : HostCmd) : CmdEnd :=
  let dir : Word := BitVec.ofNat 32 (leAt c.entry 8 4)
  let mask : Word := BitVec.ofNat 32 (leAt c.entry 12 4)
  let val : Word := BitVec.ofNat 32 (leAt c.entry 16 4)
  let out := (s.sys.gpioOut &&& ~~~mask) ||| (val &&& mask)
  (State.emit { s with sys := { s.sys with gpioDir := dir, gpioOut := out } } (.gpio dir out), 0,
    some ((out &&& dir) ||| (c.pins &&& ~~~dir)).toNat)

/-- SMBUS (R523): a write-then-read transfer; a NACK ends it with the index of the byte + 1. -/
def State.smbus (s : State) (c : HostCmd) : CmdEnd :=
  let w := byteAt c.entry 9
  let r := byteAt c.entry 10
  if 32 < w ∨ 32 < r then (s, 3, none)
  else if w = 0 ∧ r = 0 then (s, 0, none)
  else
    let s1 := s.emit (.smbus (byteAt c.entry 8) ((c.entry.drop 16).take w))
    match c.smbusNack with
    | some i => (s1, 0, some (i + 1))
    | none => if r = 0 then (s1, 0, some 0) else s1.toHost c (leAt c.entry 48 8) (padTo r (c.smbusData.take r)) (some 0)

/-- Run a command (R522, R524): before NEGOTIATE has succeeded only IDENTIFY and NEGOTIATE are accepted. -/
def State.runCommand (s : State) (c : HostCmd) : CmdEnd :=
  let op := byteAt c.entry 0
  let host := s.getF Reg.hifVer 31 24
  if host = 0 ∧ op ≠ 1 ∧ op ≠ 2 then (s, 2, none)
  else match opcodeVersion op with
    | none => (s, 1, none)
    | some v =>
      if op ≠ 1 ∧ op ≠ 2 ∧ host < v then (s, 2, none)
      else if !reservedOk c.entry then (s, 1, none)
      else if op = 0x01 then s.identify c
      else if op = 0x02 then s.hostNegotiate c
      else if op = 0x10 then s.avsLimits c
      else if op = 0x11 then s.thermLimits c
      else if op = 0x12 then s.sensorDump c
      else if op = 0x20 then s.programStart c
      else if op = 0x21 then s.hostRoute c
      else if op = 0x30 then s.flashRead c
      else if op = 0x31 then s.flashWrite c
      else if op = 0x40 then s.trunkSet c
      else if op = 0x50 then s.gpio c
      else s.smbus c

/-- Must queue k be served before the rotation passes it (R510): it waits, and has for the 50 µs within which the Spine sees its tail? -/
def State.sqSeen (s : State) (k : Nat) : Bool :=
  s.sqWaits k && decide (SMap.get (fun _ => 0) s.hif.sqSince k + 50000 ≤ s.now)

/-- Does the rotation, which goes on after the queue served last, pass over no queue it has seen waiting before it comes to q (R510; log
entry 137)? -/
def State.inTurn (s : State) (q : Nat) : Bool :=
  !(List.range ((q + 63 - s.hif.turn % 64) % 64)).any (fun d => s.sqSeen ((s.hif.turn + 1 + d) % 64))

/-- May the Spine fetch from queue q now (R507, R510, R512, R519): it runs and is ready, the queue is enabled, holds a command and is in turn,
entries can be placed and PCIe reached? -/
def State.mayFetch (s : State) (q : Nat) : Bool :=
  s.sys.spineUp && decide (s.getF Reg.sysBoot 31 28 = 5) && s.sqWaits q && s.inTurn q
    && !s.hif.holding && decide (s.hif.held.length < holdingCap)

/-- The head after a fetch. -/
def State.nextHead (s : State) (q : Nat) : Nat :=
  let h := s.getF (Reg.hifSqSts q) 11 0 + 1
  if s.getF (Reg.hifSqCfg q) 12 0 ≤ h then 0 else h

/-- Write or hold the completion of command `id` of queue q (R511). -/
def State.complCmd (s : State) (q id status : Nat) (result : Option Nat) : State :=
  let bs := leBytes 4 (result.getD s.fresh) ++ leBytes 2 (s.getF (Reg.hifSqSts q) 11 0) ++ leBytes 2 q ++ leBytes 2 id
    ++ [BitVec.ofNat 8 status, 0] ++ leBytes 4 0
  (if result.isSome then s else s.bumpFree).putEntry ⟨s.getF (Reg.hifSqCfg q) 21 16, bs⟩

/-- The Spine takes the next entry of queue q: the head moves and the rotation comes to q. -/
def State.fetched (s : State) (q : Nat) : State :=
  State.setF { s with hif := { s.hif with turn := q } } (Reg.hifSqSts q) 11 0 (s.nextHead q)

/-- Fetch the next command of queue q, run it and complete it. -/
def State.commandFetch (s : State) (q : Nat) (c : HostCmd) : State :=
  if s.mayFetch q then
    let r := (s.fetched q).runCommand c
    r.1.complCmd q (leAt c.entry 2 2) r.2.1 r.2.2
  else s

/-- Fetch a command if it has the opcode that is meant. -/
def State.fetchOp (s : State) (op q : Nat) (c : HostCmd) : State := if byteAt c.entry 0 = op then s.commandFetch q c else s

/-! ### The commands -/

/-- HIF_SQ_TAIL_WRITE (R507). -/
def execHifSqTailWrite (ini : Ini) (q : Fin 64) (v : Word) (s : State) : Host.Outcome State Fault Refusal :=
  .next (s.gatedWrite ini (Reg.hifSqTail q) v (fun s => s.sqTailWrite q.val v))

/-- HIF_QUEUE_CFG_WRITE (R509). -/
def execHifQueueCfgWrite (ini : Ini) (cq : Bool) (q : Fin 64) (v : Word) (s : State) : Host.Outcome State Fault Refusal :=
  .next (s.gatedWrite ini (if cq then Reg.hifCqCfg q else Reg.hifSqCfg q) v
    (fun s => if cq then s.cqCfgWrite q.val v else s.sqCfgWrite q.val v))

/-- HIF_CQ_HEAD_WRITE (R508, R512). -/
def execHifCqHeadWrite (ini : Ini) (q : Fin 64) (v : Word) (s : State) : Host.Outcome State Fault Refusal :=
  .next (s.gatedWrite ini (Reg.hifCqHead q) v (fun s => s.cqHeadWrite q.val v))

/-- COMMAND_FETCH (R510, R511). -/
def execCommandFetch (q : Fin 64) (c : HostCmd) (s : State) : Host.Outcome State Fault Refusal := .next (s.commandFetch q.val c)

/-- HIF_EVT_CFG_WRITE (R513). -/
def execHifEvtCfgWrite (ini : Ini) (v : Word) (s : State) : Host.Outcome State Fault Refusal :=
  .next (s.gatedWrite ini Reg.hifEvtCfg v (fun s => s.evtCfgWrite v))

/-- MSIX_TIMER_EXPIRY (R516). -/
def execMsixTimerExpiry (v : Fin 120) (s : State) : Host.Outcome State Fault Refusal := .next (s.timerExpiry v.val)

/-- HIF_IDLE_HINT_WRITE (R517). -/
def execHifIdleHintWrite (ini : Ini) (v : Word) (s : State) : Host.Outcome State Fault Refusal :=
  .next (s.gatedWrite ini Reg.hifIdleHint v (fun s => s.idleHintWrite v))

/-- PME_TURN_OFF (R519). -/
def execPmeTurnOff (s : State) : Host.Outcome State Fault Refusal := .next s.pmeTurnOff

/-- D3HOT_ENTRY (R519). -/
def execD3hotEntry (pf1 pmeEn clr : Bool) (s : State) : Host.Outcome State Fault Refusal := .next (s.d3Entry pf1 pmeEn clr)

/-- D0_RETURN (R519). -/
def execD0Return (pf1 pmeEn clr : Bool) (s : State) : Host.Outcome State Fault Refusal := .next (s.d0Entry pf1 pmeEn clr)

/-- PCIE_LINK_LOSS (R520). -/
def execPcieLinkLoss (back : Bool) (s : State) : Host.Outcome State Fault Refusal := .next (s.linkLoss back)

/-- PCIE_CONVENTIONAL_RESET (R520). -/
def execPcieConventionalReset (s : State) : Host.Outcome State Fault Refusal := .next s.pcieReset

/-- PCIE_FLR_PF0 (R520). -/
def execPcieFlrPf0 (s : State) : Host.Outcome State Fault Refusal := .next s.flrPf0

/-- PCIE_FLR_PF1 (R520). -/
def execPcieFlrPf1 (s : State) : Host.Outcome State Fault Refusal := .next s.flrPf1

/-- IDENTIFY (R523). -/
def execIdentify (q : Fin 64) (c : HostCmd) (s : State) : Host.Outcome State Fault Refusal := .next (s.fetchOp 0x01 q.val c)

/-- NEGOTIATE (R524). -/
def execNegotiate (q : Fin 64) (c : HostCmd) (s : State) : Host.Outcome State Fault Refusal := .next (s.fetchOp 0x02 q.val c)

/-- AVS_LIMITS (R528). -/
def execAvsLimits (q : Fin 64) (c : HostCmd) (s : State) : Host.Outcome State Fault Refusal := .next (s.fetchOp 0x10 q.val c)

/-- THERM_LIMITS (R523). -/
def execThermLimits (q : Fin 64) (c : HostCmd) (s : State) : Host.Outcome State Fault Refusal := .next (s.fetchOp 0x11 q.val c)

/-- SENSOR_DUMP (R523). -/
def execSensorDump (q : Fin 64) (c : HostCmd) (s : State) : Host.Outcome State Fault Refusal := .next (s.fetchOp 0x12 q.val c)

/-- PROGRAM_START (R525). -/
def execProgramStart (q : Fin 64) (c : HostCmd) (s : State) : Host.Outcome State Fault Refusal := .next (s.fetchOp 0x20 q.val c)

/-- ROUTE (R523). -/
def execRoute (q : Fin 64) (c : HostCmd) (s : State) : Host.Outcome State Fault Refusal := .next (s.fetchOp 0x21 q.val c)

/-- FLASH_READ (R523). -/
def execFlashRead (q : Fin 64) (c : HostCmd) (s : State) : Host.Outcome State Fault Refusal := .next (s.fetchOp 0x30 q.val c)

/-- FLASH_WRITE (R523). -/
def execFlashWrite (q : Fin 64) (c : HostCmd) (s : State) : Host.Outcome State Fault Refusal := .next (s.fetchOp 0x31 q.val c)

/-- TRUNK_SET (R526). -/
def execTrunkSet (q : Fin 64) (c : HostCmd) (s : State) : Host.Outcome State Fault Refusal := .next (s.fetchOp 0x40 q.val c)

/-- GPIO (R523). -/
def execGpio (q : Fin 64) (c : HostCmd) (s : State) : Host.Outcome State Fault Refusal := .next (s.fetchOp 0x50 q.val c)

/-- SMBUS (R523). -/
def execSmbus (q : Fin 64) (c : HostCmd) (s : State) : Host.Outcome State Fault Refusal := .next (s.fetchOp 0x51 q.val c)

end Sys2Proof.Machine
end

