-- ==== Sys2Proof/Machine/Lanes.lean ====
section
/-! DEFINITION. Serial lanes: references, links and equalisers, rate matching, lane registers and pattern measurement (R387, R415-R436). -/

namespace Sys2Proof.Machine

/-- A lane's record. -/
def State.laneAt (s : State) (i : Nat) : LaneSt := SMap.get (fun _ => LaneSt.reset) s.lane i
/-- Store it. -/
def State.setLane (s : State) (i : Nat) (x : LaneSt) : State := { s with lane := SMap.set (fun _ => LaneSt.reset) s.lane i x }

/-- Raise LANE_EVT and host event 0x04 (R419, R514). -/
def State.laneEvent (s : State) (detail : Nat) : State := (s.raiseEvt Reg.laneEvt).hostEvent 0x04 detail

/-! ### References (R416, R417) -/

/-- The reference code of lane i (R415). -/
def laneRef (i : Nat) : Nat :=
  if i < 16 then 0 else if i < 32 then 1 else if i < 42 then 2 else if i < 46 then 3 else if i < 50 then 4 else 5

/-- Is a reference present and within limits? -/
def State.refOk (s : State) (r : Nat) : Bool := s.flag Reg.laneRefSts r

/-- Port m loses its link: what waits in its FIFO is discarded, a wall copy counted as dropped (R329, R416). -/
def State.dropLink (s : State) (m : Nat) : State :=
  let fs := (s.portAt m).fifo
  let s1 := (s.setB (Reg.macSts m) 31 false).setPort m { s.portAt m with fifo := [] }
  (fs.foldl (fun s f => match f.ch with | some n => s.addSat (Reg.wchCnt n) 7 0 1 | none => s) s1).showUsed

/-- An SDI session whose lane's reference is lost enters LOST (R209, R416). -/
def State.sdiRefLost (s : State) (r i : Nat) : State :=
  let c := sessCfg s.rd i
  let st := s.sessState i
  if c.en && c.kind == 3 && (st == 1 || st == 2 || st == 4) && (sdiLanes c.legA c.links).any (fun l => laneRef (sdiIndex l) == r)
  then s.sessLost i else s

/-- What follows the loss of reference r (R416, R454, R520). -/
def State.refUsersLost (s : State) (r : Nat) : State :=
  if r ≤ 2 then ((List.range 42).filter (fun m => laneRef m == r)).foldl State.dropLink s
  else if r ≤ 4 then (List.range 64).foldl (fun s i => s.sdiRefLost r i) s
  else if r = 5 then s.linkLoss false
  else
    (List.range 8).foldl (fun s t => if s.tbOn t then s.setTbState t 4 else s)
      { s with sys := { s.sys with refSysLostAt := some s.now } }

/-- May reference r be regained: measured within 200 ppm (REF_SYS, which is checked for presence alone, at any value), and 1 ms after
it was lost (R416)? -/
def State.refMayReturn (s : State) (r : Fin 7) (ppm : BitVec 16) : Bool :=
  (r == 6 || decide (ppm.toInt.natAbs ≤ 2000))
    && (match SMap.find? s.sys.refLost r.val with | some t => decide (t + 1000000 ≤ s.now) | none => true)

/-- REF_LOSS (R416). A reference that is not ok is not lost again. -/
def execRefLoss (r : Fin 7) (ppm : BitVec 16) (s : State) : Host.Outcome State Fault Refusal :=
  .next (if !s.refOk r then s
  else
    let s1 := ((s.setB Reg.laneRefSts r false).setB Reg.laneRefSts (8 + r) true).wr (Reg.laneRefPpm r) (ppm.zeroExtend 32)
    (State.refUsersLost { s1 with sys := { s1.sys with refLost := SMap.put s1.sys.refLost r.val s.now } } r).laneEvent r)

/-- What follows the return of reference r: REF_SYS gives the time bases back (R454); every other lane reacquires on its own. -/
def State.refUsersBack (s : State) (r : Nat) : State :=
  if r = 6 then
    (List.range 8).foldl (fun s t =>
      if !s.tbOn t then s
      else if s.getF (Reg.tbCtrl t) 30 29 = 0 then s.setTbState t 1
      else (s.setTb t { s.tbAt t with good := 0, lastSample := s.now }).setTbState t 2)
      { s with sys := { s.sys with refSysLostAt := none } }
  else s

/-- REF_REGAIN (R416-R418). -/
def execRefRegain (r : Fin 7) (ppm : BitVec 16) (fractional : Bool) (s : State) : Host.Outcome State Fault Refusal :=
  .next (if s.refOk r || !s.refMayReturn r ppm then s
  else
    let s1 := (s.setB Reg.laneRefSts r true).wr (Reg.laneRefPpm r) (ppm.zeroExtend 32)
    let s2 := if r.val = 3 ∨ r.val = 4 then s1.setB Reg.laneRefSts (13 + r) fractional else s1
    (s2.refUsersBack r).laneEvent (256 + r))

/-! ### Links and the CTLE (R387, R424) -/

/-- Runs of consecutive codes without error, as (first, length), from code n on. -/
def zeroRuns : Nat → Option (Nat × Nat) → List Nat → List (Nat × Nat)
  | _, none, [] => []
  | _, some r, [] => [r]
  | n, none, e :: es => if e = 0 then zeroRuns (n + 1) (some (n, 1)) es else zeroRuns (n + 1) none es
  | n, some r, e :: es => if e = 0 then zeroRuns (n + 1) (some (r.1, r.2 + 1)) es else r :: zeroRuns (n + 1) none es

/-- The codes R424 may choose from the errors counted at each: centres of the widest runs free of errors, or the codes of fewest errors. -/
def ctleChoices (errs : List Nat) : List Nat :=
  let rs := zeroRuns 0 none errs
  let w := rs.foldl (fun a r => max a r.2) 0
  let least := errs.foldl min (errs.headD 0)
  if rs.isEmpty then ((List.range errs.length).filter (fun i => errs.getD i 0 == least))
  else (rs.filter (fun r => r.2 == w)).map (fun r => r.1 + (r.2 - 1) / 2)

/-- The code lane i takes when it acquires its link: the written one, its own choice (any of the best, log entry 48), or, where the PCIe
controller adapts it, an open value. -/
def State.ctleOf (s : State) (i : Nat) (errs : List Nat) : Nat :=
  let v := s.rd (Reg.laneRx i)
  let cs := ctleChoices errs
  if 50 ≤ i then s.fresh % 32
  else if 42 ≤ i ∨ !bit v 5 then fld v 4 0
  else if cs.isEmpty then s.fresh % 32
  else cs.getD (s.fresh % cs.length) 0

/-- LINK_CHANGE (R387): a port's link needs its reference (R416). -/
def execLinkChange (i : Fin 58) (up : Bool) (errs : List Nat) (s : State) : Host.Outcome State Fault Refusal :=
  .next (
    let s1 := s.setB (Reg.laneSts i) 31 up
    if up then
      let s2 := (s1.setF (Reg.laneSts i) 20 16 (s.ctleOf i errs)).bumpFree
      if i.val < 42 then s2.setB (Reg.macSts i) 31 (s.refOk (laneRef i)) else s2
    else if i.val < 42 then s1.dropLink i else s1)

/-! ### Rate matching (R420) -/

/-- EBUF_RATE_MATCH: with `fill` entries in lane i's buffer, in an inter-frame gap or not. -/
def execEbufRateMatch (i : Fin 58) (fill : BitVec 6) (gap : Bool) (s : State) : Host.Outcome State Fault Refusal :=
  .next (
    let n := fill.toNat
    let x := s.laneAt i
    if 42 ≤ i.val then s
    else if 32 < n ∨ (n = 0 ∧ !gap) then
      ((State.addSat (s.setLane i { x with ebuf := min n 32 }) (Reg.macCntErr i) 31 0 1).setB (Reg.laneSts i) 28 true).laneEvent i
    else if gap ∧ 24 ≤ n then s.setLane i { x with ebuf := n - 1 }
    else if gap ∧ n ≤ 8 then s.setLane i { x with ebuf := n + 1 }
    else s.setLane i { x with ebuf := n })

/-! ### Lane registers (R422-R428) -/

/-- Is lane i in use? -/
def State.laneUsed (s : State) (i : Nat) : Bool :=
  if i < 42 then s.flag (Reg.macCtrl i) 31
  else if i < 50 then
    s.sessLanes.contains (i - 42 + 0x10) || (List.range 8).any (fun o => (outLanes s.rd o).contains (i - 42 + 0x10))
  else !s.flag Reg.sysStrap 1 || !s.hif.linkDown

/-- A write is discarded with busy. -/
def State.laneBusy (s : State) (i : Nat) : State := s.setB (Reg.laneSts i) 29 true

/-- Write LANE_CTRL. -/
def State.laneCtrlWrite (s : State) (i : Nat) (v : Word) : State :=
  if s.laneUsed i || decide (2 ≤ fld v 3 2) then s.laneBusy i else s.plainWrite (Reg.laneCtrl i) v

/-- LANE_CTRL_WRITE (R422, R423). -/
def execLaneCtrlWrite (ini : Ini) (i : Fin 58) (v : Word) (s : State) : Host.Outcome State Fault Refusal :=
  .next (s.gatedWrite ini (Reg.laneCtrl i) v (fun s => s.laneCtrlWrite i v))

/-- Write LANE_RX or LANE_TX: a code the lane uses as written is in force at once. -/
def State.laneEqWrite (s : State) (i : Nat) (tx : Bool) (v : Word) : State :=
  if 50 ≤ i ∧ s.laneUsed i then s.laneBusy i
  else if tx then s.plainWrite (Reg.laneTx i) v
  else
    let s1 := s.plainWrite (Reg.laneRx i) v
    if 42 ≤ i ∨ !bit v 5 then s1.setF (Reg.laneSts i) 20 16 (fld v 4 0) else s1

/-- LANE_EQ_WRITE (R424-R428). -/
def execLaneEqWrite (ini : Ini) (i : Fin 58) (tx : Bool) (v : Word) (s : State) : Host.Outcome State Fault Refusal :=
  .next (s.gatedWrite ini (if tx then Reg.laneTx i else Reg.laneRx i) v (fun s => s.laneEqWrite i tx v))

/-! ### Pattern measurement (R429-R434) -/

/-- The swing of a lane's transmitter, in 1/63 of full swing: the main tap it uses (R426). -/
def mainEff (w : Word) : Nat := let rest := fld w 3 0 + fld w 12 8; if 63 < rest then 0 else min (fld w 23 18) (63 - rest)

/-- Is lane i's checker locked and counting: a lane in use is never locked (R430, R431)? -/
def State.prbsLocked (s : State) (i : Nat) : Bool := s.flag (Reg.laneSts i) 30 && !s.laneUsed i

/-- The largest PRBS count. -/
def prbsMax : Nat := 2 ^ 48 - 1

/-- The places back of the two bits a pattern's polynomial adds: xⁿ + xᵐ + 1 makes each bit the sum of the bits n and m before it (R429). -/
def prbsTaps : Nat → Nat × Nat
  | 0 => (7, 6)
  | 1 => (9, 5)
  | 2 => (15, 14)
  | 3 => (23, 18)
  | _ => (31, 28)

/-- The bit of pattern p that follows the bits of register r. -/
def prbsNext (p : Nat) (r : BitVec 31) : Bool := r.getLsbD ((prbsTaps p).1 - 1) ^^ r.getLsbD ((prbsTaps p).2 - 1)

/-- Shift a bit into a register. -/
def prbsShift (r : BitVec 31) (b : Bool) : BitVec 31 := (r <<< 1) ||| (BitVec.ofBool b).zeroExtend 31

/-- Does r hold bits of pattern p at all? No n bits of it are all 0 (log entry 175). -/
def prbsLive (p : Nat) (r : BitVec 31) : Bool := decide (r.toNat % 2 ^ (prbsTaps p).1 ≠ 0)

/-- The register a generator of pattern p starts from: where in the sequence it starts is open (log entry 175). -/
def prbsSeed (p n : Nat) : BitVec 31 := if prbsLive p (BitVec.ofNat 31 n) then BitVec.ofNat 31 n else 1

/-- The next n bits of pattern p after register r, each inverted where inv is set, and the register then (R429). -/
def prbsBits (p : Nat) (inv : Bool) : Nat → BitVec 31 → List Bool × BitVec 31
  | 0, r => ([], r)
  | n + 1, r =>
    let b := prbsNext p r
    let rest := prbsBits p inv n (prbsShift r b)
    ((b ^^ inv) :: rest.1, rest.2)

/-- The pattern code and the inversion lane i is set to. -/
def State.prbsPattern (s : State) (i : Nat) : Nat × Bool := (s.getF (Reg.lanePrbs i) 28 26, s.flag (Reg.lanePrbs i) 29)

/-- What lane i drives while gen is 1, in place of everything else (R430): the pattern's next n bits, the first one wrong where asked, in the
polarity of tx_inv (R423). Nothing of the pattern while gen is 0. -/
def State.prbsSent (s : State) (i n : Nat) (flip : Bool) : List Bool :=
  let out := (prbsBits (s.prbsPattern i).1 (s.prbsPattern i).2 n (s.laneAt i).gen).1
  if s.flag (Reg.lanePrbs i) 31 then
    (if flip then (out.take 1).map (!·) ++ out.drop 1 else out).map (· ^^ s.flag (Reg.laneCtrl i) 0)
  else []

/-- Send them: the generator moves on. -/
def State.prbsSend (s : State) (i n : Nat) (flip : Bool) : State :=
  let x := s.laneAt i
  let out := s.prbsSent i n flip
  if out.isEmpty then s
  else (s.setLane i { x with gen := (prbsBits (s.prbsPattern i).1 (s.prbsPattern i).2 n x.gen).2 }).emit (.prbs i out)

/-- The checker seeds itself anew. -/
def State.prbsReseed (s : State) (i : Nat) : State := s.setLane i { s.laneAt i with seeded := 0, run := 0, wrong := [] }

/-- Lock is lost: a relock is counted and the checker seeds itself anew. -/
def State.prbsUnlock (s : State) (i : Nat) : State :=
  if s.flag (Reg.laneSts i) 30 then ((s.setB (Reg.laneSts i) 30 false).addSat (Reg.laneSts i) 15 0 1).prbsReseed i else s

/-- The checker takes one bit (R431). Locked, it runs its own pattern on, counts the bit and whether it differs, and loses lock
at 64 wrong of 1,024. Not locked, it fills its register with what it receives and locks at 1,024 bits in a row as that register
foretells. -/
def State.prbsTake (s : State) (i : Nat) (b : Bool) : State :=
  let (p, inv) := s.prbsPattern i
  let x := s.laneAt i
  let got := b ^^ inv
  let want := prbsNext p x.chk
  if s.prbsLocked i then
    let wrong := ((got ^^ want) :: x.wrong).take 1024
    let s1 := s.setLane i { x with
      chk := prbsShift x.chk want, wrong := wrong, bits := min prbsMax (x.bits + 1), errors := min prbsMax (x.errors + b2n (got ^^ want)) }
    if 64 ≤ wrong.count true then s1.prbsUnlock i else s1
  else
    let run := if x.seeded < (prbsTaps p).1 || got ^^ want || !prbsLive p x.chk then 0 else x.run + 1
    let s1 := s.setLane i { x with chk := prbsShift x.chk got, seeded := min (prbsTaps p).1 (x.seeded + 1), run := run, wrong := [] }
    if run = 1024 then s1.setB (Reg.laneSts i) 30 true else s1

/-- The bits lane i's receiver gives: what came in, or what the lane sent where it is looped back, in the polarity of rx_inv (R423). -/
def State.laneGot (s : State) (i : Nat) (w : LaneBits) : List Bool :=
  (if s.getF (Reg.laneCtrl i) 3 2 = 1 then s.prbsSent i w.sent false else w.got).map (· ^^ s.flag (Reg.laneCtrl i) 1)

/-- What lane i carried meanwhile: the generator's bits go out and the checker, where it runs, takes what came in. A lane in use
is never locked and counts nothing (R430). -/
def State.prbsCarry (s : State) (i : Nat) (w : LaneBits) : State :=
  let s1 := s.prbsSend i w.sent false
  if !s.flag (Reg.lanePrbs i) 30 then s1
  else if s.laneUsed i then (s1.setB (Reg.laneSts i) 30 false).prbsReseed i
  else (s.laneGot i w).foldl (fun s b => s.prbsTake i b) s1

/-- Clear errors, bits and, at clear, relocks. -/
def State.prbsZero (s : State) (i : Nat) : State := s.setLane i { s.laneAt i with errors := 0, bits := 0 }

/-- Copy the counts to the snapshot registers. -/
def State.prbsSnapshot (s : State) (i : Nat) : State :=
  let x := s.laneAt i
  (((s.wr (Reg.laneSnapErrLo i) (BitVec.ofNat 32 x.errors)).wr (Reg.laneSnapErrHi i) (BitVec.ofNat 32 (x.errors / 2 ^ 32))).wr
    (Reg.laneSnapBitsLo i) (BitVec.ofNat 32 x.bits)).wr (Reg.laneSnapBitsHi i) (BitVec.ofNat 32 (x.bits / 2 ^ 32))

/-- The generator of lane i starts somewhere in its pattern. -/
def State.prbsStart (s : State) (i : Nat) : State :=
  (s.setLane i { s.laneAt i with gen := prbsSeed (s.prbsPattern i).1 s.fresh }).bumpFree

/-- Write LANE_PRBS, after what the lane carried up to now (R430-R432): snap before clear when both are written (log entry 48). A
generator that starts, or changes its pattern, starts at an open place of it; inject inverts the next bit it sends (log entry 175). -/
def State.prbsWrite (s : State) (i : Nat) (v : Word) (w : LaneBits) : State :=
  let used := s.laneUsed i
  if 5 ≤ fld v 28 26 ∨ (50 ≤ i ∧ used) then s.laneBusy i
  else
    let old := s.rd (Reg.lanePrbs i)
    let barred := bit v 31 && used
    let s1 := s.prbsCarry i w
    let new := putFld (v &&& 0xFC000000) 31 31 (if barred then b2n (bit old 31) else b2n (bit v 31))
    let s2 := (if barred then s1.laneBusy i else s1).wr (Reg.lanePrbs i) new
    let s3 := if bit old 30 && fld old 29 26 != fld v 29 26 then (s2.prbsUnlock i).prbsReseed i else s2
    let s4 := if bit v 30 then s3 else s3.setB (Reg.laneSts i) 30 false
    let s5 := if !bit old 30 && bit v 30 then (s4.prbsZero i).prbsReseed i else s4
    let s6 := if bit v 23 then s5.prbsSnapshot i else s5
    let s7 := if bit v 25 then (s6.prbsZero i).setF (Reg.laneSts i) 15 0 0 else s6
    let s8 := if bit new 31 && (!bit old 31 || fld old 28 26 != fld v 28 26) then s7.prbsStart i else s7
    if bit v 24 then s8.prbsSend i 1 true else s8

/-- LANE_PRBS_WRITE (R430, R432). -/
def execLanePrbsWrite (ini : Ini) (l : LaneRun) (v : Word) (s : State) : Host.Outcome State Fault Refusal :=
  .next (s.gatedWrite ini (Reg.lanePrbs l.lane) v (fun s => s.prbsWrite l.lane v l.bits))

/-- PRBS_CLEAR (R431): a LANE_PRBS write with clear set. -/
def execPrbsClear (ini : Ini) (i : Fin 58) (v : Word) (w : LaneBits) (s : State) : Host.Outcome State Fault Refusal :=
  .next (s.gatedWrite ini (Reg.lanePrbs i) (v ||| 0x2000000) (fun s => s.prbsWrite i (v ||| 0x2000000) w))

/-- PRBS_INJECT (R432): a LANE_PRBS write with inject set. -/
def execPrbsInject (ini : Ini) (l : LaneRun) (v : Word) (s : State) : Host.Outcome State Fault Refusal :=
  .next (s.gatedWrite ini (Reg.lanePrbs l.lane) (v ||| 0x1000000) (fun s => s.prbsWrite l.lane (v ||| 0x1000000) l.bits))

/-- PRBS_SNAP (R434): a LANE_PRBS write with snap set. -/
def execPrbsSnap (ini : Ini) (i : Fin 58) (v : Word) (w : LaneBits) (s : State) : Host.Outcome State Fault Refusal :=
  .next (s.gatedWrite ini (Reg.lanePrbs i) (v ||| 0x800000) (fun s => s.prbsWrite i (v ||| 0x800000) w))

/-- PRBS_LOCK (R431): a lane carries bits, and a checker not locked locks where its 1,024th bit in a row without error comes. -/
def execPrbsLock (l : LaneRun) (s : State) : Host.Outcome State Fault Refusal := .next (s.prbsCarry l.lane l.bits)

/-- PRBS_LOCK_LOSS (R431): lane i carries w, and a locked checker loses lock where its 64th wrong bit of 1,024 comes. -/
def execPrbsLockLoss (i : Fin 58) (w : LaneBits) (s : State) : Host.Outcome State Fault Refusal := .next (s.prbsCarry i w)

end Sys2Proof.Machine
end

