-- ==== Sys2Proof/Machine/Memory.lean ====
section
/-! DEFINITION. Remap, domain map writes and zeroing, scrubbing, HBM scheduling, refresh and retraining (R146-R171), rings. -/

namespace Sys2Proof.Machine

/-- A domain map write (R152, R156): flags change at once; a change of tag zeroes a Sheet store granule (scrub until it ends) and moves an
HBM granule to another key. The zeroes stand at once, as no access meets the granule before scrub clears (log entry 155). -/
def State.domainWrite (s : State) (hbm : Bool) (i : Nat) (tag flags : Nat) : State :=
  let off := if hbm then Reg.memDomHbm i else Reg.memDomSs i
  let same := decide (s.getF off 23 16 = tag)
  let w : Word := BitVec.ofNat 32 (tag * 2 ^ 16 + flags % 16)
  let scrub : Word := if hbm then 0 else if same then s.rd off &&& 0x10 else 0x10
  let s1 := s.wr off (w ||| scrub)
  let gone := !hbm && !same
  { s1 with
    hbmGen := if hbm && !same then s1.hbmGen + 1 else s1.hbmGen
    ss := if gone then SMap.dropKeys (fun k => decide (k / 0x10000 = i)) s1.ss else s1.ss
    ssErr := if gone then SMap.dropKeys (fun w => decide (w / 0x2000 = i)) s1.ssErr else s1.ssErr }

/-- The flags Clasp's write of an entry leaves (R153, R44): none on a wall or tenant granule; on a safety granule owner_rd alone, which only
the co-signed GRANULE command brings (R499), so that a write keeps it and never sets it (log entry 156). -/
def State.claspFlags (s : State) (off tag flags : Nat) : Nat :=
  if tag = 4 ∨ (0x40 ≤ tag ∧ tag < 0x80) then 0
  else if tag = 2 then (if s.getF off 23 16 = 2 ∧ s.flag off 0 then flags % 2 else 0)
  else flags

/-- SYS_MAP_REMAP: only the Spine sets remap, and it stays set (R146, R147). -/
def execSysMapRemap (ini : Ini) (v : Word) (s : State) : Host.Outcome State Fault Refusal :=
  .next (s.gatedWrite ini Reg.sysMap v (fun s => s.wr Reg.sysMap (s.rd Reg.sysMap ||| (v &&& 1))))

/-- SCRUB_COMPLETE: the zeroing of a granule ends and scrub clears (R156). -/
def execScrubComplete (i : Fin 1024) (s : State) : Host.Outcome State Fault Refusal :=
  .next (if s.flag (Reg.memDomSs i) 4 then s.setB (Reg.memDomSs i) 4 false else s)

/-- Sheet store offset of sector k of a bank (R160). -/
def bankSector (bank k : Nat) : Nat :=
  let p := k / 8
  p * 2 ^ 15 + Nat.xor bank (p % 128) * 2 ^ 8 + k % 8 * 32

/-- SRAM_SCRUB: the background pass corrects the single-bit errors of a sector (R161). A double-bit error it meets is an uncorrectable memory
error and raises the memory event (R159); which unit detail then names, R514 does not say: a free value (log entry 157). -/
def execSramScrub (bank : Fin 128) (sector : Fin 16384) (s : State) : Host.Outcome State Fault Refusal :=
  let w := bankSector bank.val sector.val / 8
  let s1 := { s with ssErr := s.ssErr.filter (fun p => !(decide (w ≤ p.1) && decide (p.1 < w + 4) && p.2 == 1)) }
  .next (if (List.range 4).any (fun i => errAt s.ssErr (w + i) == 2) then s1.bumpFree.memEvent 2 (s.fresh % 2 ^ 8) else s1)

/-! ### HBM controllers -/

/-- A controller's record. -/
def State.hbmAt (s : State) (p : Nat) : HbmCtl := SMap.get (fun _ => HbmCtl.reset) s.hbmc p
/-- Store it. -/
def State.setHbm (s : State) (p : Nat) (c : HbmCtl) : State := { s with hbmc := SMap.set (fun _ => HbmCtl.reset) s.hbmc p c }

/-- The head of each bank's read queue, as (position, bank, row), for the banks the PHY is ready for. Each queue shows the controller
its first 16 entries; the rest wait behind it. -/
def HbmCtl.heads (c : HbmCtl) (ready : BitVec 16) : List (Nat × Nat × Nat) :=
  (List.range 16).filterMap (fun b =>
    if ready.getLsbD b then ((c.reads.zipIdx.find? (fun p => p.1.1 == b)).map (fun p => (p.2, p.1.1, p.1.2))) else none)

/-- Hit run of a bank. -/
def HbmCtl.run (c : HbmCtl) (b : Nat) : Nat := SMap.get (fun _ => 0) c.hitRun b

/-- The next read (R163): the oldest row hit of a bank whose hit run is below 8, else the first bank at or after the pointer. -/
def HbmCtl.nextRead (c : HbmCtl) (ready : BitVec 16) : Option (Bool × Nat × Nat × Nat) :=
  let hs := c.heads ready
  let hits := hs.filter (fun h => c.row h.2.1 == some h.2.2 && decide (c.run h.2.1 < 8))
  match hits.foldl (fun best h => match best with
      | some (b : Nat × Nat × Nat) => if h.1 < b.1 then some h else some b
      | none => some h) none with
  | some h => some (true, h)
  | none =>
    ((List.range 16).findSome? (fun i => hs.find? (fun h => h.2.1 == (c.ptr + i) % 16))).map (fun h => (false, h))

/-- Does the write buffer drain at this slot (R163)? -/
def HbmCtl.drains (c : HbmCtl) : Bool :=
  !c.writes.isEmpty &&
    (decide (48 ≤ c.writes.length) || c.reads.isEmpty || (c.draining && decide (16 < c.writes.length)))

/-- One command slot of controller p with nref_k = k (R163). While the buffer drains, a slot at which its oldest write does not meet every
timing passes without a command (log entry 73). -/
def HbmCtl.slot (c : HbmCtl) (p k : Nat) (ready : BitVec 16) (wr : Bool) : HbmCtl :=
  if c.drains then { (if wr then c.issueWrite p k else c) with draining := true }
  else match c.nextRead ready with
    | none => { c with draining := false }
    | some (hit, i, b, r) =>
      { (c.activate p k b r) with
        draining := false
        reads := c.reads.eraseIdx i
        hitRun := SMap.set (fun _ => 0) c.hitRun b (if hit then c.run b + 1 else 0)
        ptr := if hit then c.ptr else (b + 1) % 16 }

/-- HBM_COMMAND_ISSUE: one slot, while no retraining pause holds the pseudo-channel (R163, R168). The PHY tells which banks' oldest reads, and whether
the oldest buffered write, meet every JESD238A timing now. -/
def execHbmCommandIssue (p : Fin 64) (ready : BitVec 16) (wr : Bool) (s : State) : Host.Outcome State Fault Refusal :=
  .next (if s.flag (Reg.hbmPcSts p) 30 then s
    else s.setHbm p.val ((s.hbmAt p.val).slot p.val (s.getF Reg.hbmCfg 4 0) ready wr))

/-- HBM_REFRESH: a bank is refreshed, which closes its row and serves its queued targeted refreshes (R165, R166; log entry 27). -/
def execHbmRefresh (p : Fin 64) (bank : Fin 16) (s : State) : Host.Outcome State Fault Refusal :=
  let c := s.hbmAt p.val
  .next (s.setHbm p.val { c with
    refreshes := c.refreshes + 1
    openRow := SMap.set (fun _ => none) c.openRow bank.val none
    nref := c.nref.filter (fun r => r.1 != bank.val) })

/-- HBM_CFG_WRITE: nref_k of 8-16 is taken, any other value discarded (R167). -/
def execHbmCfgWrite (ini : Ini) (v : Word) (s : State) : Host.Outcome State Fault Refusal :=
  .next (s.gatedWrite ini Reg.hbmCfg v (fun s =>
    if 8 ≤ fld v 4 0 ∧ fld v 4 0 ≤ 16 then s.wr Reg.hbmCfg (v &&& 0x1F) else s))

/-- One millisecond of the system counter, nominally in ns. -/
def msNs : Nat := 1000000

/-- The latest instant at which pseudo-channel p fell due (R168). -/
def State.dueAt (s : State) (p : Nat) : Option Nat :=
  if p * msNs ≤ s.now then some ((s.now - p * msNs) / (64 * msNs) * (64 * msNs) + p * msNs) else none

/-- RETRAIN_DUE (R168). -/
def execRetrainDue (p : Fin 64) (s : State) : Host.Outcome State Fault Refusal :=
  let c := s.hbmAt p.val
  .next (if (s.dueAt p.val).isSome && decide (c.dueLast ≠ s.dueAt p.val) && !s.flag (Reg.hbmPcSts p) 30
    then s.setHbm p.val { c with due := s.dueAt p.val, dueLast := s.dueAt p.val } else s)

/-- Is another pseudo-channel retraining? -/
def State.retraining (s : State) : Bool := (List.range 64).any (fun p => s.flag (Reg.hbmPcSts p) 30)

/-- A retraining pause starts: not serving until it ends. -/
def State.retrainBegin (s : State) (p : Nat) : State :=
  (((s.setHbm p { s.hbmAt p with due := none }).setB (Reg.hbmPcSts p) 30 true).setB (Reg.hbmPcSts p) 31 false)

/-- RETRAIN_START: at a slice boundary of sheet 0 (R168). -/
def execRetrainStart (p : Fin 64) (s : State) : Host.Outcome State Fault Refusal :=
  .next (if (s.hbmAt p.val).due.isSome && !s.retraining && s.flag (Reg.couchSheetCtrl 0) 31 then s.retrainBegin p.val else s)

/-- RETRAIN_FORCED: 1 ms overdue, or sheet 0 not running (R168). -/
def execRetrainForced (p : Fin 64) (s : State) : Host.Outcome State Fault Refusal :=
  .next (match (s.hbmAt p.val).due with
    | some d =>
      if !s.retraining && (decide (d + msNs ≤ s.now) || !s.flag (Reg.couchSheetCtrl 0) 31) then
        ((s.retrainBegin p.val).addSat (Reg.hbmPcSts p) 15 0 1).memEvent 3 p.val
      else s
    | none => s)

/-- RETRAIN_END (R168). -/
def execRetrainEnd (p : Fin 64) (s : State) : Host.Outcome State Fault Refusal :=
  .next (if s.flag (Reg.hbmPcSts p) 30 then
    (s.setB (Reg.hbmPcSts p) 30 false).setB (Reg.hbmPcSts p) 31 true else s)

/-! ### Completion rings -/

/-- The RING_CTL register a ring is set up by. -/
def ringCtlOf : RingId → Nat
  | .couch b => Reg.couchPipeRingCtl b
  | .press b => Reg.pressPipeRingCtl b
  | .imp => Reg.impRingCtl
  | .backChannel => Reg.impBcRingCtl
  | .ing e => Reg.ingRingCtl e
  | .tm => Reg.tmRingCtl
  | .time => Reg.timeRingCtl
  | .timeRx => Reg.timeRxRingCtl
  | .aud => Reg.audRingCtl
  | .cvu u => Reg.cvuRingCtl u

/-- Write a ring's entries: wr returns to 0 (R186). -/
def State.ringCtlWrite (s : State) (off : Nat) (v : Word) : State := s.wr off (v &&& 0xFFFF)

/-- RING_CTL_WRITE (R186). -/
def execRingCtlWrite (ini : Ini) (ring : RingId) (v : Word) (s : State) : Host.Outcome State Fault Refusal :=
  .next (s.gatedWrite ini (ringCtlOf ring) v (fun s => s.ringCtlWrite (ringCtlOf ring) v))

end Sys2Proof.Machine
end

