-- ==== Sys2Proof/Machine/Twin.lean ====
section
/-! DEFINITION. Twin operation: the claim, the transmitter gate's input, collisions and releases (R546-R550, R557). -/

namespace Sys2Proof.Machine

/-- Is the device in service mode (R541)? -/
def State.svcMode (s : State) : Bool := s.flag Reg.sysStrap 1
/-- Is it strapped TWIN_PRIO high? -/
def State.twinPrio (s : State) : Bool := s.flag Reg.sysStrap 2
/-- Is TWIN_ACT_IN_N asserted? -/
def State.twinIn (s : State) : Bool := s.flag Reg.sysTwinSts 31
/-- Does this device hold the claim? -/
def State.claimed (s : State) : Bool := s.flag Reg.sysTwinSts 30
/-- Has the claim been lost until device reset? -/
def State.claimLost (s : State) : Bool := s.flag Reg.sysTwinSts 29

/-- A twin host event, never raised in service mode (R541, R558). -/
def State.twinEvent (s : State) (code detail : Nat) : State := if s.svcMode then s else s.hostEvent code detail

/-- Drive TWIN_ACT_OUT_N: out follows, and its change sets the event source (R546). -/
def State.driveTwin (s : State) (on : Bool) : State :=
  ((s.setB Reg.sysTwinSts 30 on).emit (.twinOut on)).raiseEvt Reg.sysTwinEvt

/-- The claim ends with a cause; `lost` says whether for good (R549, R550). A cause that comes while the device does not hold the claim is
recorded with lost all the same (log entry 49). -/
def State.dropClaim (s : State) (cause : Nat) (lost : Bool) : State :=
  let s1 := s.setF Reg.sysTwinSts 28 26 cause
  let s2 := if lost then s1.setB Reg.sysTwinSts 29 true else s1
  if s.claimed then (s2.driveTwin false).twinEvent 0x11 cause else s2

/-- Restart the keepalive timer (R546, R550). -/
def State.keepRestart (s : State) : State := { s with sys := { s.sys with keepAt := s.now, keepSet := true } }

/-- The keepalive timeout in counts. -/
def State.keepTimeout (s : State) : Nat := s.getF Reg.sysTwinCfg 15 8 * 1000000

/-- Write SYS_TWIN_CFG (R546): in service mode en is ignored and reads 0 (R541); a timeout of 0 is discarded; release reads 0 and releases. -/
def State.twinCfgWrite (s : State) (v : Word) : State :=
  let v1 := if s.svcMode then putFld v 31 31 0 else v
  let v2 := if fld v 15 8 = 0 then putFld v1 15 8 (s.getF Reg.sysTwinCfg 15 8) else v1
  let s1 := s.wr Reg.sysTwinCfg (v2 &&& 0xE000FF00)
  if bit v 28 then s1.dropClaim 2 true else s1

/-- TWIN_RELEASE: a SYS_TWIN_CFG write with release set (R550). -/
def execTwinRelease (ini : Ini) (v : Word) (s : State) : Host.Outcome State Fault Refusal :=
  .next (s.gatedWrite ini Reg.sysTwinCfg (v ||| 0x10000000) (fun s => s.twinCfgWrite (v ||| 0x10000000)))

/-- SYS_TWIN_KEEP (R546). -/
def execSysTwinKeep (ini : Ini) (v : Word) (s : State) : Host.Outcome State Fault Refusal :=
  .next (s.gatedWrite ini Reg.sysTwinKeep v State.keepRestart)

/-- Counts for which TWIN_ACT_IN_N must have been released (R548). -/
def State.claimDelay (s : State) : Nat := if s.twinPrio then 10000 else 110000

/-- Do the conditions of R548 hold, and no random wait of R549? -/
def State.mayClaim (s : State) : Bool :=
  s.flag Reg.sysTwinCfg 31 && !s.claimLost && (s.flag Reg.sysTwinCfg 30 || s.flag Reg.sysTwinCfg 29) && !s.twinIn && !s.claimed
    && !s.sys.backoff && decide (s.sys.inReleasedAt + s.claimDelay ≤ s.now)

/-- The device asserts its claim: the keepalive timer starts, and every enabled channel starts a new epoch (R325, R548). -/
def State.assertClaim (s : State) : State :=
  let s1 := (s.driveTwin true).twinEvent 0x10 (b2n s.sys.afterCollision)
  let s2 := State.keepRestart { s1 with sys := { s1.sys with claimedAt := s.now, afterCollision := false } }
  (List.range 512).foldl State.newEpoch s2

/-- CLAIM (R548, R557). -/
def execClaim (s : State) : Host.Outcome State Fault Refusal := .next (if s.mayClaim then s.assertClaim else s)

/-- A collision (R549): counted, with its event. The device strapped low releases and may claim again; with equal straps both release and wait
a random 10-100 µs; the partner's strap is a constant of the board. -/
def State.collide (s : State) : State :=
  let s1 := (s.addSat Reg.sysTwinSts 15 0 1).raiseEvt Reg.sysTwinEvt
  let s2 := State.twinEvent { s1 with sys := { s1.sys with afterCollision := true } } 0x12 (s1.getF Reg.sysTwinSts 15 0)
  if s.twinPrio = Config.partnerPrio then
    State.bumpFree (State.dropClaim { s2 with
      sys := { s2.sys with backoff := true, backoffUntil := s.now + 10000 + s2.fresh % 90001 } } 5 false)
  else if s.twinPrio then s2
  else s2.dropClaim 5 false

/-- TWIN_IN_ASSERT (R547, R549): the gate closes; within 5 µs of asserting the claim this is a collision. -/
def execTwinInAssert (s : State) : Host.Outcome State Fault Refusal :=
  .next (if s.twinIn then s
  else
    let s1 := s.setB Reg.sysTwinSts 31 true
    if s.claimed && decide (s.now ≤ s.sys.claimedAt + 5000) then s1.collide else s1)

/-- TWIN_IN_RELEASE (R547, R548): the gate opens and the release count starts. -/
def execTwinInRelease (s : State) : Host.Outcome State Fault Refusal :=
  .next (if s.twinIn then
    let s1 := s.setB Reg.sysTwinSts 31 false
    { s1 with sys := { s1.sys with inReleasedAt := s.now } }
  else s)

/-- COLLISION_BACKOFF_EXPIRY (R549). -/
def execCollisionBackoffExpiry (s : State) : Host.Outcome State Fault Refusal :=
  .next (if s.sys.backoff && decide (s.sys.backoffUntil ≤ s.now) then { s with sys := { s.sys with backoff := false } } else s)

/-- KEEPALIVE_EXPIRY (R550): no SYS_TWIN_KEEP write for timeout ms. -/
def execKeepaliveExpiry (s : State) : Host.Outcome State Fault Refusal :=
  .next (if s.sys.keepSet && decide (s.sys.keepAt + s.keepTimeout ≤ s.now) then
    let s1 := { s with sys := { s.sys with keepSet := false } }
    if !s.flag Reg.sysTwinCfg 31 then s1.hostEvent 0x14 0
    else if s.claimed then s1.dropClaim 1 true
    else s1
  else s)

/-- HBM_STACK_FAIL (R550): pseudo-channel p has not been ready for 100 µs. Outside retraining the claim is released. -/
def execHbmStackFail (p : Fin 64) (s : State) : Host.Outcome State Fault Refusal :=
  .next (if s.flag (Reg.hbmPcSts p) 30 then s else (s.setB (Reg.hbmPcSts p) 31 false).dropClaim 3 true)

/-- CORE_SUPPLY_FAULT (R550): VDD_CORE below 0.55 V for 10 µs. -/
def execCoreSupplyFault (s : State) : Host.Outcome State Fault Refusal := .next (s.dropClaim 4 true)

end Sys2Proof.Machine
end

