-- ==== Sys2Proof/Machine/Bus.lean ====
section
/-! DEFINITION. What a write or a read of any register does (R4-R6, R141-R145), the engines' local windows, and REGISTER_WRITE. -/

namespace Sys2Proof.Machine

/-! ### Writes, block by block -/

/-- SYS block. -/
def State.sysWrite (s : State) (off : Nat) (v : Word) : State :=
  if off = Reg.sysMap then s.wr Reg.sysMap (s.rd Reg.sysMap ||| (v &&& 1))
  else if off = Reg.sysTwinCfg then s.twinCfgWrite v
  else if off = Reg.sysTwinKeep then s.keepRestart
  else s.plainWrite off v

/-- HIF block: queues, vectors, moderation and the MSI-X table, whose words are kept and whose control word masks (log entry 15). -/
def State.hifWrite (s : State) (off : Nat) (v : Word) : State :=
  let k := fun base stride => (off - base) / stride
  if off = Reg.hifIdleHint then s.idleHintWrite v
  else if off = Reg.hifEvtCfg then s.evtCfgWrite v
  else if off = Reg.hifEvtMask then s.evtMaskWrite v
  else if inRange off 0x30100 0x30180 || inRange off 0x30200 0x30300 then s.vecRegWrite off v
  else if inRange off 0x31000 0x31800 then
    let q := k 0x31000 0x20
    match off % 0x20 with
    | 0x0 | 0x4 => s.queueBaseWrite (Reg.hifSqCfg q) off v
    | 0x8 => s.sqCfgWrite q v
    | 0xC => s.sqTailWrite q v
    | _ => s.plainWrite off v
  else if inRange off 0x32000 0x32800 then
    let c := k 0x32000 0x20
    match off % 0x20 with
    | 0x0 | 0x4 => s.queueBaseWrite (Reg.hifCqCfg c) off v
    | 0x8 => s.cqCfgWrite c v
    | 0xC => s.cqHeadWrite c v
    | _ => s.plainWrite off v
  else if inRange off 0x33000 0x331E0 then s.modWrite (k 0x33000 4) v
  else if inRange off 0x3E000 0x3E780 then
    let s1 := s.wr off v
    if off % 16 = 12 then s1.maskWrite (k 0x3E000 16) v else s1
  else s.plainWrite off v

/-- A write to QE_FAULT: valid clears, and lost with it (R50). -/
def State.faultWrite (s : State) (off : Nat) (v : Word) : State :=
  if bit v 31 then (s.setB off 31 false).setB off 30 false else s

/-- Gathering blocks: TSU, EVC, power and engine control. Enabling and disabling sources changes which are stranded (R114, R121). -/
def State.gathWrite (s : State) (off : Nat) (v : Word) : State :=
  let g := (off - 0x400000) / 0x10000
  let o := off % 0x10000
  if o = 0 then s.tsuDescWrite g false v
  else if o = 4 then s.tsuDescWrite g true v
  else if inRange o 0x1000 0x1040 then s.evcClear g ((o - 0x1000) / 4) v
  else if inRange o 0x1400 0x1C00 then s.evcRouteWrite g ((o - 0x1400) / 4) v
  else if inRange o 0x1080 0x10C0 then (s.plainWrite off v).represent g
  else if o = 0x7F00 then s.gathPwrWrite g v
  else if inRange o 0x8000 0x9000 && o % 0x100 == 0 then s.enableWrite g ((o - 0x8000) / 0x100) v
  else if inRange o 0x8000 0x9000 && o % 0x100 == 0x10 then s.faultWrite off v
  else s.plainWrite off v

/-- The unit whose COMMIT register `off` is (R27). -/
def commitUnitAt (off : Nat) : Option CommitUnit :=
  if off = 0x900000 then some .couch else if off = 0xA00000 then some .press else if off = 0xB00000 then some .imp
  else if off = 0xC00000 then some .ing else if off = 0xD00000 then some .tm else if off = 0x1000000 then some .time
  else if off = 0x1100000 then some .aud else none

/-- Is `off` a ring control register of R186? -/
def ringCtlAt (off : Nat) : Bool :=
  (inRange off 0x800000 0x900000 && off % 0x10000 == 0x24) || (inRange off 0xA08000 0xB00000 && (off - 0xA08000) % 0x10000 == 0x24)
    || off == Reg.impRingCtl || off == Reg.impBcRingCtl || (inRange off 0xC00800 0xC00900 && off % 0x10 == 4) || off == Reg.tmRingCtl
    || off == Reg.timeRingCtl || off == Reg.timeRxRingCtl || off == Reg.audRingCtl
    || (inRange off 0x1200000 0x1220000 && off % 0x1000 == 0x24)

/-- A write taken only while an enable is 0. -/
def State.idleWrite (s : State) (on : Bool) (off : Nat) (v : Word) : State := if on then s else s.plainWrite off v

/-- Ingest outputs (R215-R218). -/
def State.ingWrite (s : State) (off : Nat) (v : Word) : State :=
  if inRange off 0xC03000 0xC03080 && off % 0x10 == 0 then s.outCfgWrite ((off - 0xC03000) / 0x10) v
  else if inRange off 0xC03400 0xC03800 then s.idleWrite (s.flag (Reg.ingOutCfg ((off - 0xC03400) / 0x80)) 31) off v
  else s.plainWrite off v

/-- Traffic manager: classifier and programme flows (R394, R411). -/
def State.tmWrite (s : State) (off : Nat) (v : Word) : State :=
  if inRange off 0xD70000 0xD78000 then s.clsWrite ((off - 0xD70000) / 0x40) (off % 0x40 / 4) v
  else if inRange off 0xD80000 0xD80800 then
    let f := (off - 0xD80000) / 0x80
    if off % 0x80 = 0 then s.flowWrite f v else s.idleWrite (s.flag (Reg.tmFlowCtrl f) 31) off v
  else s.plainWrite off v

/-- MAC blocks (R383-R391). -/
def State.macWrite (s : State) (off : Nat) (v : Word) : State :=
  let m := (off - 0xE00000) / 0x4000
  let o := (off - 0xE00000) % 0x4000
  if o = 0 then s.macCtrlWrite m v
  else if o = 0x20 then (if s.flag (Reg.macCtrl m) 31 then s else s.wrSh off v)
  else if inRange o 8 0x20 then s.idleWrite (s.flag (Reg.macCtrl m) 31) off v
  else if o = 0x40 then (s.plainWrite off v).settleSa m
  else s.plainWrite off v

/-- Serial lanes (R422-R432). -/
def State.laneWrite (s : State) (off : Nat) (v : Word) : State :=
  let i := (off - 0xF00000) / 0x1000
  if 58 ≤ i then s.plainWrite off v
  else match off % 0x1000 with
    | 0x0 => s.laneCtrlWrite i v
    | 0x4 => s.laneEqWrite i false v
    | 0x8 => s.laneEqWrite i true v
    | 0xC => s.prbsWrite i v ⟨0, []⟩
    | _ => s.plainWrite off v

/-- Time unit (R440, R444). -/
def State.timeWrite (s : State) (off : Nat) (v : Word) : State :=
  if inRange off 0x1001000 0x1001800 && off % 0x100 == 0x20 then (if bit v 0 then s.snapTb ((off - 0x1001000) / 0x100) else s)
  else if inRange off 0x1008000 0x1008A80 && off % 0x40 == 0x10 then s.qualWrite ((off - 0x1008000) / 0x40) v
  else s.plainWrite off v

/-- Check-value units (R179). -/
def State.cvuWrite (s : State) (off : Nat) (v : Word) : State :=
  let o := off % 0x1000
  if inRange o 8 0x18 then s.cvuRunWrite ((off - 0x1200000) / 0x1000) ((o - 8) / 4) v else s.plainWrite off v

/-- Memory matrix: nref_k (R167) and the domain map (R152). -/
def State.memRegWrite (s : State) (off : Nat) (v : Word) : State :=
  if off = Reg.hbmCfg then (if 8 ≤ fld v 4 0 ∧ fld v 4 0 ≤ 16 then s.wr off (v &&& 0x1F) else s)
  else if inRange off 0x1310000 0x1311000 then s.domainWrite false ((off - 0x1310000) / 4) (fld v 23 16) (s.claspFlags off (fld v 23 16) (fld v 3 0))
  else if inRange off 0x1320000 0x1338000 then s.domainWrite true ((off - 0x1320000) / 4) (fld v 23 16) (s.claspFlags off (fld v 23 16) (fld v 3 0))
  else s.plainWrite off v

/-- What a write that the gate lets through does to a register outside the MBX block. -/
def State.actWrite (s : State) (off : Nat) (v : Word) : State :=
  match commitUnitAt off with
  | some u => s.commitWrite u v
  | none =>
    if ringCtlAt off then s.ringCtlWrite off v
    else if off < 0x10000 then s.sysWrite off v
    else if inRange off 0x14000 0x18000 then s.wr off v
    else if inRange off 0x30000 0x40000 then s.hifWrite off v
    else if inRange off 0x400000 0x800000 then s.gathWrite off v
    else if inRange off 0xC00000 0xD00000 then s.ingWrite off v
    else if inRange off 0xD00000 0xE00000 then s.tmWrite off v
    else if inRange off 0xE00000 0xEA8000 then s.macWrite off v
    else if inRange off 0xF00000 0x1000000 then s.laneWrite off v
    else if inRange off 0x1000000 0x1100000 then s.timeWrite off v
    else if inRange off 0x1200000 0x1220000 then s.cvuWrite off v
    else if inRange off 0x1300000 0x1400000 then s.memRegWrite off v
    else s.plainWrite off v

/-- MBX block: every register makes its own checks (R126-R139, R577). -/
def State.mbxWrite (s : State) (ini : Ini) (off : Nat) (v : Word) : State :=
  let n := (off - 0x20000) / 0x80
  if off < 0x21800 then
    if off % 0x80 < 0x40 then s.mbxDataWrite ini n (off % 0x80 / 4) v
    else if off % 0x80 = 0x40 then s.mbxSendWrite ini n v
    else if mbxBarred ini n then s.mbxBar ini n off true
    else (s.plainWrite off v).answer (.ok 0)
  else if off < 0x218C0 then s.mbxCfgWrite ini ((off - 0x21800) / 4) v
  else if inRange off 0x21A00 0x21A08 then s.dbiWrite ini ((off - 0x21A00) / 4) v
  else if inRange off 0x21B00 0x21B08 then s.dboSetWrite ini ((off - 0x21B00) / 4) v
  else if inRange off 0x21B08 0x21B10 then s.dboWrite ini ((off - 0x21B08) / 4) v
  else if inRange off 0x21C00 0x21D00 then s.dbiRouteWrite ini ((off - 0x21C00) / 4) v
  else s.answer (.ok 0)

/-- A register write over the bus: the gate, the register's action, the answer. -/
def State.regWrite (s : State) (ini : Ini) (off : Nat) (v : Word) : State :=
  if off % 4 ≠ 0 then s.answer .busError
  else if inRange off 0x20000 0x30000 then s.gated ini off true v (fun s => s.mbxWrite ini off v)
  else s.gatedWrite ini off v (fun s => s.actWrite off v)

/-- REGISTER_WRITE (R5). -/
def execRegisterWrite (ini : Ini) (off : BitVec 28) (v : Word) (s : State) : Host.Outcome State Fault Refusal :=
  .next (s.regWrite ini off.toNat v)

/-! ### Reads -/

/-- The stored word as a read shows it: SH fields from the shadow copy, WO fields 0 (R5). -/
def State.stored (s : State) (off : Nat) : Word :=
  ((s.rd off &&& ~~~(shMask off)) ||| (s.rdSh off &&& shMask off)) &&& ~~~(accMask off (fun a => a == .wo))

/-- COMMIT_STS of the group COMMIT_SEL names (R28, R29). -/
def State.commitSts (s : State) (u : CommitUnit) : Word :=
  let g := s.getF (unitBase u + 4) 15 0
  let c := s.cstOf u g
  BitVec.ofNat 32 (b2n (s.armOf u g).isSome * 2 ^ 31 + s.getF (unitBase u + 8) 30 30 * 2 ^ 30 + c.reason % 256 * 2 ^ 16 + c.accepted % 65536)

/-- TSU_STS (R107). -/
def State.tsuSts (s : State) (g : Nat) : Word :=
  let x := s.gathAt g
  let lists := ((List.range 8).filter (fun p => x.ready.any (fun t => t.prio == p))).foldl (fun a p => a + 2 ^ p) 0
  putFld (putFld (putFld (s.rd (Reg.tsuSts g)) 22 14 x.occupied) 13 8 (s.cancels g).length) 7 0 lists

/-- QE_STS (R46). -/
def State.qeSts (s : State) (g e : Nat) : Word :=
  let x := s.engAt g e
  let c := x.ctx x.cur
  BitVec.ofNat 32 ((if x.norm.occ then x.norm.tsk.toNat else 0) * 2 ^ 16 + c.inFlight.length * 2 ^ 8 + b2n x.mask * 16 + b2n c.sleep.isSome * 8
    + b2n x.urg.occ * 4 + b2n x.norm.occ * 2 + b2n (!s.enabled g e))

/-- Registers of a gathering block that show what the TSU, the EVC and the engines hold. -/
def State.gathView (s : State) (off : Nat) : Word :=
  let g := (off - 0x400000) / 0x10000
  let o := off % 0x10000
  if o = 8 then s.tsuSts g
  else if o = 0x1C44 then putFld (s.stored off) 25 16 (s.stranded g).length
  else if inRange o 0x8000 0x9000 && o % 0x100 == 4 then s.qeSts g ((o - 0x8000) / 0x100)
  else s.stored off

/-- Registers of the HIF block that show its queues and holding buffer (R507, R508, R512, R521), and the MSI-X pending bits. -/
def State.hifView (s : State) (off : Nat) : Word :=
  if off = Reg.hifHoldSts then BitVec.ofNat 32 (b2n (!s.hif.holding) * 2 ^ 31 + s.hif.held.length)
  else if inRange off 0x31000 0x31800 && off % 0x20 == 0x10 then
    let en := s.flag (Reg.hifSqCfg ((off - 0x31000) / 0x20)) 31
    putFld (putFld (s.stored off) 31 31 (b2n en)) 29 29 (b2n (en && decide (holdingCap ≤ s.hif.held.length)))
  else if inRange off 0x32000 0x32800 && off % 0x20 == 0x10 then
    let c := (off - 0x32000) / 0x20
    let en := s.flag (Reg.hifCqCfg c) 31
    putFld (putFld (s.stored off) 31 31 (b2n en)) 29 29 (b2n (en && !s.cqReady c))
  else if inRange off 0x3E000 0x3E780 then
    if off % 16 = 12 then putFld (s.rd off) 0 0 (b2n (s.hif.masked ((off - 0x3E000) / 16))) else s.rd off
  else if inRange off 0x3F000 0x3F010 then
    BitVec.ofNat 32 (((List.range 32).map (fun b => b2n (s.hif.vecAt ((off - 0x3F000) * 8 + b)).pba * 2 ^ b)).sum)
  else s.stored off

/-- The word a read of register `off` shows the reader, before the read has any effect. -/
def State.regView (s : State) (ini : Ini) (off : Nat) : Word :=
  if off = Reg.sysTwinCfg && s.svcMode then putFld (s.stored off) 31 31 0
  else if inRange off 0x10010 0x10020 then Config.serial ((off - 0x10010) / 4)
  else if inRange off 0x14000 0x18000 then s.rd off
  else if inRange off 0x30000 0x40000 then s.hifView off
  else if inRange off 0x400000 0x800000 then s.gathView off
  else match commitUnitAt (off - 8) with
    | some u => s.commitSts u
    | none =>
      if off = Reg.sysCtrLo then BitVec.ofNat 32 s.now
      else if off = Reg.sysCtrHi then SMap.get (fun _ => (0 : Word)) s.sys.ctrHi (iniKey ini)
      else if off = Reg.sysCtrRate then wordOfInt (s.ctrRate / 2 ^ 24)
      else if off = Reg.impSts then putFld (s.stored off) 31 31 (b2n (!s.flag (Reg.couchSheetCtrl 0) 31))
      else if inRange off 0xB10000 0xB30000 && off % 0x100 == 0x38 then
        let n := (off - 0xB10000) / 0x100
        let up := fun l => b2n (s.flag (Reg.macSts l) 31)
        putFld (putFld (putFld (s.stored off) 31 31 (b2n (s.chSends n))) 30 30 (up (s.getF (Reg.wchCtrl n) 25 20))) 29 29
          (up (s.getF (Reg.wchCtrl n) 19 14))
      else if inRange off 0xF00000 0xF3A000 && off % 0x1000 == 0x10 then
        putFld (s.stored off) 30 30 (b2n (s.prbsLocked ((off - 0xF00000) / 0x1000)))
      else if inRange off 0xA08000 0xB08000 && off % 0x10000 == 0x8000 then s.pipeView ((off - 0xA08000) / 0x10000)
      else if inRange off 0x1200000 0x1220000 && off % 0x1000 == 4 then
        let ds := s.queueOf (0x80 + (off - 0x1200000) / 0x1000)
        putFld (putFld (s.stored off) 31 31 (b2n (ds.any (fun d => d.started)))) 13 8 (ds.filter (fun d => !d.started)).length
      else s.stored off

/-- What reading a register does: RC fields clear (R5), SYS_CTR_LO latches the high half for the reader (R452). -/
def State.readEffect (s : State) (ini : Ini) (off : Nat) : State :=
  if off = Reg.sysCtrLo then s.readCtrLo ini
  else
    let rc := accMask off (fun a => a == .rc)
    if rc = 0 then s else s.wr off (s.rd off &&& ~~~rc)

/-- A register read over the bus (R113, R131, R134, R452). -/
def State.regRead (s : State) (ini : Ini) (off : Nat) : State :=
  let n := (off - 0x20000) / 0x80
  if off % 4 ≠ 0 then s.answer .busError
  else s.gated ini off false 0 (fun s =>
    if inRange off 0x20000 0x21800 then
      if off % 0x80 < 0x40 then s.mbxDataRead ini n (off % 0x80 / 4)
      else if mbxBarred ini n then s.mbxBar ini n off false
      else s.answer (.ok (s.stored off))
    else if inRange off 0x21B00 0x21B08 then s.answer (.ok (s.rd (off + 8)))
    else if inRange off 0x401000 0x800000 && inRange (off % 0x10000) 0x1040 0x1080 then
      let r := s.evcTake ini ((off - 0x400000) / 0x10000) ((off % 0x10000 - 0x1040) / 4)
      r.1.answer (.ok r.2)
    else (s.readEffect ini off).answer (.ok (s.regView ini off)))

/-! ### The whole address map -/

/-- How an answered access ended, as a memory transaction. -/
def Resp.acc : Resp → MemAcc
  | .busError => .error
  | .domain => .domain
  | .stall => .stall
  | _ => .ok

/-- The word an answered read returned. -/
def Resp.word : Resp → Word
  | .ok v => v
  | _ => 0

/-- May this initiator reach the local windows (R141)? -/
def winMay : Ini → Bool
  | .host0 => false
  | .host1 => false
  | _ => true

/-- Read a local window (R143). -/
def State.winRead (s : State) (ini : Ini) (a n : Nat) : State × MemAcc × List Byte :=
  let k := (a - 0x30000000) / 0x10000
  let o := a % 0x10000
  let x := s.engAt (k / 16) (k % 16)
  if !winMay ini then (s.violation (Tx.ofIni ini) false a 1, .domain, [])
  else if s.parked (k / 16) then (s, .error, [])
  else if o + n ≤ 0x6000 then (s, .ok, x.bytes o n)
  else if 0x8000 ≤ o ∧ o + n ≤ 0xA000 then (s, .ok, SMap.getList (fun _ => (0 : Byte)) x.ibuf (o - 0x8000) n)
  else (s, .error, [])

/-- Write a local window. -/
def State.winWrite (s : State) (ini : Ini) (a : Nat) (bs : List Byte) : State × MemAcc :=
  let k := (a - 0x30000000) / 0x10000
  let o := a % 0x10000
  if !winMay ini then (s.violation (Tx.ofIni ini) true a 1, .domain)
  else if s.parked (k / 16) then (s, .error)
  else if o + bs.length ≤ 0x6000 then (s.setEng (k / 16) (k % 16) ((s.engAt (k / 16) (k % 16)).setBytes o bs), .ok)
  else (s, .error)

/-- Read n bytes at far address a (R141-R145). -/
def State.busRead (s : State) (ini : Ini) (a n : Nat) : State × MemAcc × List Byte :=
  match regionOf a n with
  | .regs =>
    if n ≠ 4 then (s, .error, [])
    else
      let r := s.regRead ini (a - 0x20000000)
      (r, r.resp.acc, leBytes 4 r.resp.word.toNat)
  | .win => s.winRead ini a n
  | .table => s.tableRead (Tx.ofIni ini) a n
  | _ => if s.memWaits (Tx.ofIni ini) a n then (s, .stall, []) else s.memRead (Tx.ofIni ini) a n

/-- The 64-bit entries a byte string spells. -/
def leEntries (bs : List Byte) : List (BitVec 64) := (List.range (bs.length / 8)).map (fun k => BitVec.ofNat 64 (leAt bs (8 * k) 8))

/-- Write bytes at far address a. -/
def State.busWrite (s : State) (ini : Ini) (a : Nat) (bs : List Byte) : State × MemAcc :=
  match regionOf a bs.length with
  | .regs =>
    if bs.length ≠ 4 then (s, .error)
    else
      let r := s.regWrite ini (a - 0x20000000) (BitVec.ofNat 32 (ofLe bs))
      (r, r.resp.acc)
  | .win => s.winWrite ini a bs
  | .table =>
    if a % 8 ≠ 0 ∨ bs.length % 8 ≠ 0 then (s, .error)
    else s.tableWrite (Tx.ofIni ini) ((a - 0x40000000) / 8) (leEntries bs)
  | _ => if s.memWaits (Tx.ofIni ini) a bs.length then (s, .stall) else s.memWrite (Tx.ofIni ini) a bs

end Sys2Proof.Machine
end

