-- ==== Sys2Proof/Machine/Clasp.lean ====
section
/-! DEFINITION. Clasp: envelopes, their checks, and every command (R487-R502). -/

namespace Sys2Proof.Machine

/-! ### Envelopes (R493) -/

/-- The bytes of an ASCII string. -/
def ascii (t : String) : List Byte := t.toList.map (fun c => BitVec.ofNat 8 c.toNat)

/-- The fused serial as 16 bytes. -/
def serialBytes : List Byte := (List.range 4).flatMap (fun k => leBytes 4 (Config.serial k).toNat)

/-- The boot nonce as 8 bytes. -/
def State.nonceBytes (s : State) : List Byte := leBytes 4 (s.rd (Reg.clsNonce 0)).toNat ++ leBytes 4 (s.rd (Reg.clsNonce 1)).toNat

/-- A sender's trigger channel, stage window and reply window. -/
def sideChannel : ClaspSide → Nat
  | .pf1 => 32
  | .spine => 34
/-- Unit offset of its stage window. -/
def sideStage : ClaspSide → Nat
  | .pf1 => 0x14000
  | .spine => 0x16000
/-- Unit offset of its reply window. -/
def sideReply : ClaspSide → Nat
  | .pf1 => 0x15000
  | .spine => 0x17000

/-- n bytes of a window. -/
def State.windowBytes (s : State) (base n : Nat) : List Byte :=
  ((List.range (ceilDiv n 4)).flatMap (fun k => leBytes 4 (s.rd (base + 4 * k)).toNat)).take n

/-- Put bytes at the start of a window. -/
def State.putWindow (s : State) (base : Nat) (bs : List Byte) : State :=
  let k := ceilDiv bs.length 4
  let all := bs ++ (s.windowBytes base (4 * k)).drop bs.length
  (List.range k).foldl (fun s i => s.wr (base + 4 * i) (BitVec.ofNat 32 (leAt all (4 * i) 4))) s

/-- An envelope as it is copied. -/
structure Envelope where
  bytes : List Byte
deriving DecidableEq, Repr

/-- Command code. -/
def Envelope.code (e : Envelope) : Nat := byteAt e.bytes 0
/-- Signer's tag; 0xFF: unsigned. -/
def Envelope.signer (e : Envelope) : Nat := byteAt e.bytes 1
/-- Body length. -/
def Envelope.len (e : Envelope) : Nat := leAt e.bytes 2 2
/-- Sequence number. -/
def Envelope.seq (e : Envelope) : Nat := leAt e.bytes 12 4
/-- Body. -/
def Envelope.body (e : Envelope) : List Byte := (e.bytes.drop 32).take e.len
/-- Signature. -/
def Envelope.sig (e : Envelope) : List Byte := (e.bytes.drop (32 + e.len)).take 96

/-- Body lengths of a code: none for an unknown code. SAFETY_WRITE has 16 bytes an entry. -/
def bodyOk (code l : Nat) (body : List Byte) : Option Bool :=
  match code with
  | 0x01 => some (l == 48)
  | 0x02 => some true
  | 0x03 => some (l == 0)
  | 0x04 => some (l == 0)
  | 0x05 => some (l == 0)
  | 0x10 => some (l == 193)
  | 0x11 => some (l == 97 || l == 193)
  | 0x12 => some (l == 98)
  | 0x13 => some (l == 1)
  | 0x14 => some (l == 106)
  | 0x20 => some (l == 138)
  | 0x21 => some (l == 48)
  | 0x30 => some (4 ≤ l && (247 < leAt body 0 2 || l == 4 + 16 * leAt body 0 2))
  | 0x31 => some (l == 4)
  | 0x40 => some (l == 138)
  | 0x41 => some (l == 7)
  | 0x42 => some (l == 171)
  | 0x43 => some true
  | 0x50 => some (l == 58)
  | 0x60 => some (l == 100)
  | 0x61 => some (l == 113)
  | _ => none

/-- Are a command's reserved bits 0? -/
def reservedZero (code : Nat) (b : List Byte) : Bool :=
  match code with
  | 0x14 => byteAt b 9 < 16
  | 0x21 => zeroBytes b 1 3
  | 0x30 => byteAt b 3 == 0 && byteAt b 2 < 32 && (List.range (leAt b 0 2)).all (fun j => byteAt b (4 + 16 * j + 7) == 0)
  | 0x41 => byteAt b 6 < 2
  | 0x60 => leAt b 0 4 < 8
  | _ => true

/-- Is a trigger whose word 0 is n, with words 1-15 as `rest0` says, and its envelope malformed? -/
def Envelope.malformed (e : Envelope) (n : Nat) (rest0 : Bool) : Bool :=
  !rest0 || decide (n < 32) || decide (4096 < n) || decide (3968 < e.len) || n != 32 + e.len + (if e.signer = 0xFF then 0 else 96)
    || bodyOk e.code e.len e.body != some true || !reservedZero e.code e.body

/-- Is a tag a tenant's? -/
def isTenant (tag : Nat) : Bool := decide (0x40 ≤ tag) && decide (tag ≤ 0x7F)

/-- May this signer sign the code (Commands)? -/
def signerOk (code signer : Nat) : Bool :=
  if [0x01, 0x02, 0x03, 0x04, 0x43].contains code then signer == 0xFF
  else if code = 0x05 then isTenant signer
  else if code = 0x20 ∨ code = 0x21 then isTenant signer || signer == 2
  else if code = 0x30 ∨ code = 0x31 then signer == 2
  else signer == 1

/-- A tenant's public key, empty when it is not enrolled. -/
def State.tenantKey (s : State) (tag : Nat) : List Byte := SMap.get (fun _ => []) s.clasp.tenants tag

/-- The key a signer's signature must verify under: ENROL_OWNER is signed by the key it enrols (Commands). -/
def State.signerKey (s : State) (e : Envelope) : Option (List Byte) :=
  if e.signer = 0 then some Config.vendorRoot
  else if e.signer = 1 then (if e.code = 0x10 then some (e.body.take 97) else s.clasp.owner)
  else if e.signer = 2 then s.clasp.safety
  else if isTenant e.signer && !(s.tenantKey e.signer).isEmpty then some (s.tenantKey e.signer)
  else none

/-- One more than the last seq accepted from a signer in this boot; 0: none. -/
def State.nextSeq (s : State) (signer : Nat) : Nat := SMap.get (fun _ => 0) s.clasp.lastSeq signer

/-- The checks of R493: the result of a command that fails one. -/
def State.claspFail (s : State) (side : ClaspSide) (e : Envelope) (n : Nat) (rest0 : Bool) : Option Nat :=
  if e.malformed n rest0 then some 1
  else if e.signer = 0xFF then
    if !signerOk e.code 0xFF || (e.code == 0x43 && side == .pf1) then some 4 else none
  else if (e.bytes.drop 4).take 8 ≠ s.nonceBytes ∨ (e.bytes.drop 16).take 16 ≠ serialBytes ∨ e.seq < s.nextSeq e.signer then some 3
  else match s.signerKey e with
    | none => some 4
    | some k =>
      if !Config.ecdsaVerify k (Config.sha384 (e.bytes.take (32 + e.len))) e.sig then some 2
      else if !signerOk e.code e.signer then some 4
      else none

/-! ### Results -/

/-- How a command ends: the state, the result and the reply bytes; none while it must wait for a Sheet store granule being zeroed. -/
abbrev ClaspEnd := Option (State × Nat × List Byte)

/-- A command that fails changes nothing. -/
def State.refuse (s : State) (r : Nat) : ClaspEnd := some (s, r, [])
/-- A command that is done. -/
def State.done (s : State) : ClaspEnd := some (s, 0, [])

/-- The fields of CLS_STS that follow Clasp's state (R491). -/
def State.showCls (s : State) : State :=
  (((s.setB Reg.clsSts 28 s.clasp.fusedClaimed).setB Reg.clsSts 27 s.clasp.safety.isSome).setB Reg.clsSts 26
    (s.clasp.debugScope != 0)).setF Reg.clsSts 14 8 s.clasp.gen

/-- Is debug access open (R502)? -/
def State.debugOpen (s : State) : Bool := s.clasp.debugScope != 0

/-- Unwrap a key (R496): tenant byte, slot byte, ephemeral key, wrapped key. -/
def unwrapKey (tenant slot : Nat) (eph wrapped : List Byte) : Option (List Byte) :=
  Config.keyUnwrap (Config.hkdf serialBytes (Config.ecdhX eph)
    (ascii "WRAP" ++ [BitVec.ofNat 8 tenant, BitVec.ofNat 8 slot]) 32) wrapped

/-- The tenant byte of a signer's wrapping. -/
def wrapTenant (signer : Nat) : Nat := if signer = 2 then 0x41 else signer - 0x3F

/-! ### Enrolment and tenants (R496, R497) -/

/-- Retire a tag's granules and keys (R496). -/
def State.retireTag (s : State) (tag : Nat) : State :=
  let ks := (s.reg.map Prod.fst).filter (fun k => (inRange k 0x1310000 0x1311000 || inRange k 0x1320000 0x1338000) && s.getF k 23 16 == tag)
  let s1 := ks.foldl (fun s k =>
    if k < 0x1320000 then s.domainWrite false ((k - 0x1310000) / 4) 0 0 else s.domainWrite true ((k - 0x1320000) / 4) 0 0) s
  { s1 with
    hbmGen := s1.hbmGen + 1
    clasp := { s1.clasp with
      hbmKeyGen := SMap.set (fun _ => 0) s1.clasp.hbmKeyGen tag (s1.keyGen tag + 1)
      content := SMap.dropKeys (fun k => decide (k / 4 = tag)) s1.clasp.content
      tenants := SMap.erase s1.clasp.tenants tag } }

/-- ENROL_OWNER. -/
def State.enrolOwner (s : State) (e : Envelope) : ClaspEnd :=
  let new := e.body.take 97
  let root := if s.clasp.fusedClaimed then s.clasp.owner else some Config.vendorRoot
  match root with
  | none => s.refuse 5
  | some k =>
    if !Config.ecdsaVerify k (Config.sha384 (serialBytes ++ new)) ((e.body.drop 97).take 96) then s.refuse 2
    else if 64 ≤ s.clasp.gen then s.refuse 5
    else
      let s1 := (s.clasp.tenants.map Prod.fst).foldl State.retireTag s
      State.done (State.showCls { s1 with clasp := { s1.clasp with
        owner := some new, safety := none, gen := s1.clasp.gen + 1, fusedClaimed := true } })

/-- ENROL_SAFETY. -/
def State.enrolSafety (s : State) (e : Envelope) : ClaspEnd :=
  let new := e.body.take 97
  let put := fun (s : State) =>
    if 64 ≤ s.clasp.gen then s.refuse 5
    else State.done (State.showCls { s with clasp := { s.clasp with safety := some new, gen := s.clasp.gen + 1 } })
  if s.debugOpen then s.refuse 5
  else match s.clasp.safety with
    | none => if e.len ≠ 97 then s.refuse 1 else put s
    | some k =>
      if e.len ≠ 193 then s.refuse 1
      else if !Config.ecdsaVerify k (Config.sha384 (serialBytes ++ s.nonceBytes ++ new)) ((e.body.drop 97).take 96) then s.refuse 2
      else put s

/-- TENANT_ADD. -/
def State.tenantAdd (s : State) (e : Envelope) : ClaspEnd :=
  let t := byteAt e.body 0
  if t = 0 ∨ 64 < t then s.refuse 7
  else if !(s.tenantKey (0x3F + t)).isEmpty then s.refuse 6
  else
    State.done { s with clasp := { s.clasp with
      tenants := SMap.set (fun _ => []) s.clasp.tenants (0x3F + t) ((e.body.drop 1).take 97) } }

/-- TENANT_RETIRE. -/
def State.tenantRetire (s : State) (e : Envelope) : ClaspEnd :=
  let t := byteAt e.body 0
  if t = 0 ∨ 64 < t then s.refuse 7 else (s.retireTag (0x3F + t)).done

/-! ### Memory ownership (R495, R499) -/

/-- Granules that hold bytes o .. o + n - 1 of the Sheet store. -/
def ssGranules (o n : Nat) : List Nat := blocks 0x10000 o n

/-- Is Sheet store granule i part of a region marked owner code? -/
def State.codeGranule (s : State) (i : Nat) : Bool := s.clasp.regions.any (fun r => (ssGranules r.1 r.2).contains i)

/-- Do flags break R153 under a tag? -/
def flagsBad (tag flags : Nat) : Bool :=
  ((tag == 4 || isTenant tag) && flags != 0) || (tag == 2 && 1 < flags)

/-- May GRANULE give a granule this tag? -/
def State.tagOk (s : State) (tag : Nat) : Bool :=
  tag == 1 || tag == 2 || tag == 3 || tag == 4 || (isTenant tag && !(s.tenantKey tag).isEmpty)

/-- GRANULE (R499). -/
def State.granule (s : State) (e : Envelope) : ClaspEnd :=
  let b := e.body
  let hbm := decide (2 ^ 31 ≤ leAt b 0 4)
  let first := leAt b 0 4 % 2 ^ 31
  let count := leAt b 4 4
  let tag := byteAt b 8
  let flags := byteAt b 9
  let co := (b.drop 10).take 96
  let entry := fun i => s.getF (if hbm then Reg.memDomHbm i else Reg.memDomSs i) 23 16
  let run := (List.range count).map (· + first)
  if count = 0 then s.done
  else if (if hbm then 24576 else 1024) < first + count ∨ !s.tagOk tag ∨ flagsBad tag flags then s.refuse 7
  else if !hbm && run.any (fun i => s.clasp.vendorGranules.contains i) then s.refuse 7
  else if !hbm && run.any s.codeGranule then s.refuse 6
  else
    let needs := (tag == 2 && flags % 2 == 1) || run.any (fun i => entry i == 2)
    let write := State.done (run.foldl (fun s i => s.domainWrite hbm i tag flags) s)
    if !needs then write
    else match s.clasp.safety with
      | none => s.refuse 4
      | some k =>
        if co.all (· == 0) then s.refuse 4
        else if Config.ecdsaVerify k (Config.sha384 (e.bytes.take 42)) co then write
        else s.refuse 2

/-- CODE_CHECK (R495): its read corrects the single-bit errors it meets, and an uncorrectable one raises the memory event (R159, R161). -/
def State.codeCheck (s : State) (e : Envelope) : ClaspEnd :=
  let a := leAt e.body 0 6
  let n := leAt e.body 6 4
  let o := a - ssBase
  let gs := ssGranules o n
  if n = 0 then s.done
  else if regionOf a n ≠ .ss ∨ gs.any (fun i => s.clasp.vendorGranules.contains i || s.getF (Reg.memDomSs i) 23 16 == 2) then s.refuse 7
  else if s.scrubbing o n then none
  else
    let s0 := { s with ssErr := s.ssMend false o n }
    if (blocks 8 o n).any (fun w => errAt s.ssErr w == 2) then State.refuse (s0.memEvent 2 0xC1) 9
    else if Config.sha384 ((List.range n).map (fun i => s.ssByte (o + i))) ≠ (e.body.drop 10).take 48 then s0.refuse 2
    else
      let s1 := gs.foldl (fun s i => s.domainWrite false i 1 1) s0
      State.done { s1 with clasp := { s1.clasp with
        regions := if s1.clasp.regions.contains (o, n) then s1.clasp.regions else s1.clasp.regions ++ [(o, n)] } }

/-! ### Content (R496) -/

/-- CONTENT_KEY. -/
def State.contentKey (s : State) (e : Envelope) : ClaspEnd :=
  let slot := byteAt e.body 0
  if s.debugOpen then s.refuse 5
  else if 3 < slot then s.refuse 7
  else match unwrapKey (wrapTenant e.signer) slot ((e.body.drop 1).take 97) ((e.body.drop 98).take 40) with
    | none => s.refuse 8
    | some k => State.done { s with clasp := { s.clasp with
        content := SMap.set (fun _ => []) s.clasp.content (4 * e.signer + slot) k } }

/-- Do bytes a .. a + n - 1 lie wholly in granules of a tag? -/
def State.heldBy (s : State) (tag a n : Nat) : Bool :=
  match regionOf a n with
  | .ss => (ssGranules (a - ssBase) n).all (fun i => s.getF (Reg.memDomSs i) 23 16 == tag)
  | .hbm => (blocks 0x200000 (a - hbmBase) n).all (fun i => s.getF (Reg.memDomHbm i) 23 16 == tag)
  | _ => false

/-- Store what a SEALED_WRITE decrypted, or zeros, and end with result r. -/
def State.sealedStore (s : State) (tag dst : Nat) (bs : List Byte) (r : Nat) : ClaspEnd :=
  let t : Tx := ⟨tag, 0xC1⟩
  if s.memWaits t dst bs.length then none
  else
    let w := s.memWrite t dst bs
    if w.2 = .ok then some (w.1, r, []) else some (w.1, 9, [])

/-- SEALED_WRITE. -/
def State.sealedWrite (s : State) (e : Envelope) : ClaspEnd :=
  let b := e.body
  let slot := byteAt b 0
  let src := leAt b 4 6
  let dst := leAt b 10 6
  let n := leAt b 16 4
  let key := SMap.get (fun _ => []) s.clasp.content (4 * e.signer + slot)
  if s.debugOpen then s.refuse 5
  else if 3 < slot then s.refuse 7
  else if n = 0 then s.done
  else if key.isEmpty then s.refuse 5
  else if !s.heldBy 3 src n || !s.heldBy e.signer dst n then s.refuse 7
  else if s.memWaits ⟨3, 0xC1⟩ src n then none
  else
    let r := s.memRead ⟨3, 0xC1⟩ src n
    match r.2.1 with
    | .ok =>
      match Config.gcmOpen key ((b.drop 20).take 12) [] (r.2.2 ++ (b.drop 32).take 16) with
      | some pt => r.1.sealedStore e.signer dst pt 0
      | none => r.1.sealedStore e.signer dst (List.replicate n 0) 8
    | _ => some (r.1, 9, [])

/-! ### The safety authority (R500, R501) -/

/-- A SAFETY_WRITE entry: far address, size, value. -/
abbrev SafetyEntry := Nat × Nat × Nat

/-- The entries of a body. -/
def safetyEntries (b : List Byte) : List SafetyEntry :=
  (List.range (leAt b 0 2)).map (fun j =>
    let sz := byteAt b (4 + 16 * j + 6)
    (leAt b (4 + 16 * j) 6, sz, leAt b (4 + 16 * j + 8) 8 % 2 ^ (8 * sz)))

/-- Does an entry give layer l the safety domain? -/
def givesSafety (l : Nat) (x : SafetyEntry) : Bool := x.1 == 0x20000000 + Reg.couchLayerCtrl l && x.2.2 / 256 % 256 == 2

/-- May SAFETY_WRITE address this (R500)? -/
def State.safetyMay (s : State) (all : List SafetyEntry) (x : SafetyEntry) : Bool :=
  let o := x.1 - 0x20000000
  if regionOf x.1 8 = .table then x.2.1 == 8 && x.1 % 8 == 0
  else x.2.1 == 4 && x.1 % 4 == 0 && decide (0x20000000 ≤ x.1) &&
    (match layerOf o with
      | some l => (decide (0x902000 ≤ o) || decide (o % 0x40 ≤ 0x34)) &&
          (s.getF (Reg.couchLayerCtrl l) 15 8 == 2 || fld (s.rdSh (Reg.couchLayerCtrl l)) 15 8 == 2 || all.any (givesSafety l))
      | none => (inRange o 0x904040 0x904400 && decide (o % 0x40 ≤ 0x2C)) || o == Reg.impEcho
          || (inRange o 0xB00110 0xB00200 && decide (o % 0x10 ≤ 8)) || inRange o 0xB08000 0xB08800)

/-- Can the staging area take every imposition entry of the command (R308)? -/
def State.stagingRoom (s : State) (xs : List SafetyEntry) : Bool :=
  let idx := ((xs.filter (fun x => regionOf x.1 8 == .table)).map (fun x => (x.1 - 0x40000000) / 8)).eraseDups
  !s.flag (Reg.couchSheetCtrl 0) 31 ||
    decide (s.staged.length + (idx.filter (fun i => (SMap.get (fun _ => (none : Option (BitVec 64))) s.staged i).isNone)).length ≤ 16384)

/-- SAFETY_WRITE: the entries, then COMMIT for each group of arm. -/
def State.safetyWrite (s : State) (e : Envelope) : ClaspEnd :=
  let xs := safetyEntries e.body
  let arm := byteAt e.body 2
  if 247 < leAt e.body 0 2 ∨ xs.any (fun x => !s.safetyMay xs x) ∨ !s.stagingRoom xs then s.refuse 7
  else
    let keep := s.resp
    let s1 := xs.foldl (fun s x => (s.busWrite (.clasp 2) x.1 (leBytes x.2.1 x.2.2)).1) s
    let s2 := (List.range 4).foldl (fun s k => if Nat.testBit arm k then s.commitWrite .couch (BitVec.ofNat 32 k) else s) s1
    State.done (State.answer (if Nat.testBit arm 4 then s2.commitWrite .imp 0 else s2) keep)

/-- ALARM_READ: each record with the identity key's signature over it and the nonce. -/
def State.alarmRead (s : State) : ClaspEnd :=
  some (s, 0, (s.clasp.alarms.take 8).flatMap (fun r => r ++ Config.identitySign (Config.sha384 (r ++ s.nonceBytes))))

/-- ALARM_ACK. -/
def State.alarmAck (s : State) (e : Envelope) : ClaspEnd :=
  let left := s.clasp.alarms.filter (fun r => decide (leAt e.body 0 4 < leAt r 0 4))
  State.done (State.setF { s with clasp := { s.clasp with alarms := left } } Reg.clsAlarm 31 16 left.length)

/-! ### Wall keys and MACsec (R389-R391, R494) -/

/-- WALL_SEED. -/
def State.wallSeed (s : State) (e : Envelope) : ClaspEnd :=
  let k := byteAt e.body 0
  if s.debugOpen then s.refuse 5
  else if 3 < k then s.refuse 7
  else match unwrapKey 0 k ((e.body.drop 1).take 97) ((e.body.drop 98).take 40) with
    | none => s.refuse 8
    | some x => State.done { s with clasp := { s.clasp with seeds := SMap.set (fun _ => []) s.clasp.seeds k x } }

/-- Is a wall slot in use: named by a channel whose active or shadow en is 1, or an inbound assignment while some FOLIO_DEC context runs
(log entry 51)? -/
def State.slotInUse (s : State) (k : Nat) : Bool :=
  (List.range 512).any (fun n =>
      (s.chOn n || bit (s.rdSh (Reg.wchCtrl n)) 31) &&
        (s.getF (Reg.wchKey n) 9 0 == k || fld (s.rdSh (Reg.wchKey n)) 9 0 == k))
    || ((match SMap.get (fun _ => (none : Option WallSlot)) s.clasp.wall k with | some w => w.inbound | none => false)
      && (List.range 64).any (fun c => (ctxCfg s.rd c).en && (ctxCfg s.rd c).kind == 1))

/-- WALL_KEY. -/
def State.wallKey (s : State) (e : Envelope) : ClaspEnd :=
  let b := e.body
  let slot := leAt b 0 2
  let ch := leAt b 2 2
  let id := byteAt b 4
  let seed := SMap.get (fun _ => []) s.clasp.seeds (byteAt b 5)
  if 1023 < slot ∨ 511 < ch ∨ 3 < byteAt b 5 then s.refuse 7
  else if s.slotInUse slot then s.refuse 6
  else if seed.isEmpty then s.refuse 5
  else
    let key := Config.hkdf (ascii "FOLIO-WALL") seed (ascii "FOLIO-WCH" ++ beBytes 2 ch ++ [BitVec.ofNat 8 id]) 32
    State.done { s with clasp := { s.clasp with
      wall := SMap.set (fun _ => none) s.clasp.wall slot (some ⟨key, ch, id, byteAt b 6 % 2 == 1⟩) } }

/-- MACSEC_CAK. -/
def State.macsecCak (s : State) (e : Envelope) : ClaspEnd :=
  let b := e.body
  let m := byteAt b 0
  let n := byteAt b 1
  if s.debugOpen then s.refuse 5
  else if m < 0x20 ∨ 0x29 < m ∨ n = 0 ∨ 32 < n then s.refuse 7
  else match unwrapKey 0 m ((b.drop 34).take 97) ((b.drop 131).take 40) with
    | none => s.refuse 8
    | some k => State.done (s.setPort m { s.portAt m with cak := k, ckn := (b.drop 2).take n })

/-- Install an SAK in the SA named by next_an, both ways, and set next_ready (R390). -/
def State.installSak (s : State) (m : Nat) (k : List Byte) : State :=
  let p := s.portAt m
  let an := s.getF (Reg.macSecCfg m) 30 29
  let now := s.getF (Reg.macSecCfg m) 28 27
  let sa : SaSt := ⟨true, k, 1⟩
  let kept := fun (x : SMap SaSt) => x.filter (fun q => q.1 == now)
  let s1 := s.setPort m { p with
    txSa := SMap.set (fun _ => SaSt.reset) (kept p.txSa) an sa
    rxSa := SMap.set (fun _ => SaSt.reset) (kept p.rxSa) an sa
    rxTop := SMap.erase p.rxTop an }
  (s1.setB (Reg.macSecCfg m) 31 true).settleSa m

/-- The port an MKA operation names. -/
def mkaPort : MkaOp → Nat
  | .icv m _ => m
  | .check m _ _ => m
  | .unwrap m _ => m
  | .generate m => m

/-- The Spine sends the MKPDU it has had signed: an EAPOL frame through subscriber node 1,023, queue 0 (R389, R398; log entry 174). -/
def State.mkaSend (s : State) (m : Nat) (pdu : List Byte) : State :=
  s.spineSend m (ethHeader 0x0180C2000003 (s.portMac m) none 0x888E ++ [3, 5] ++ beBytes 2 pdu.length ++ pdu)

/-- MKA_OP. -/
def State.mkaRun (s : State) (e : Envelope) : ClaspEnd :=
  match Config.mkaOf e.body with
  | none => s.refuse 1
  | some op =>
    let m := mkaPort op
    let p := s.portAt m
    let ick := Config.mkaIck p.cak p.ckn
    let kek := Config.mkaKek p.cak p.ckn
    if m < 32 ∨ 41 < m then s.refuse 7
    else if p.cak.isEmpty then s.refuse 5
    else match op with
      | .icv _ pdu => some (s.mkaSend m (pdu ++ Config.cmac ick pdu), 0, Config.cmac ick pdu)
      | .check _ pdu icv => if Config.cmac ick pdu = icv then s.done else s.refuse 8
      | .unwrap _ w =>
        match Config.keyUnwrap kek w with
        | none => s.refuse 8
        | some k => (s.installSak m k).done
      | .generate _ =>
        let k := Config.random s.free 32
        some (s.bumpFree, 0, Config.keyWrap kek k)

/-! ### Reports, the key book, debug (R488, R495, R498, R502) -/

/-- SHA-384 of a key, nothing when there is none. -/
def keyHash (k : Option (List Byte)) : List Byte := match k with | some b => Config.sha384 b | none => []

/-- ATTEST. -/
def State.attest (s : State) (e : Envelope) : ClaspEnd :=
  let c := s.clasp
  let tenants := ((List.range 64).map (fun i => b2n (!(s.tenantKey (0x40 + i)).isEmpty) * 2 ^ i)).sum
  let report := Config.attestLayout [serialBytes, Config.identityKey, leBytes 2 (s.getF Reg.clsVer 31 16), leBytes 2 (s.getF Reg.clsVer 15 0),
    leBytes 4 c.spineVersion, Config.romHash, c.claspHash, c.spineHash, leBytes 4 (s.rd Reg.clsSts).toNat, leBytes 4 c.debugScope,
    keyHash c.owner, keyHash c.safety, leBytes 8 tenants, c.lastSeq.flatMap (fun p => BitVec.ofNat 8 p.1 :: leBytes 4 (p.2 - 1)), s.nonceBytes,
    e.body]
  some (s, 0, report ++ Config.identitySign (Config.sha384 report))

/-- PLACEMENT: the active registers of every layer whose domain is the signer's tag. -/
def State.placement (s : State) (e : Envelope) : ClaspEnd :=
  let ls := (List.range 64).filter (fun l => s.getF (Reg.couchLayerCtrl l) 15 8 == e.signer)
  let regs := fun l => (List.range 11).map (fun i => s.rd (Reg.couchLayerCtrl l + 4 * i)) ++
    (List.range 16).map (fun i => s.rd (0x902000 + 0x40 * l + 4 * i))
  let body := Config.placementLayout (ls.map (fun l => (l, regs l)))
  some (s, 0, body ++ Config.identitySign (Config.sha384 body))

/-- The key book as it stands. -/
def State.book (s : State) : KeyBook :=
  { owner := s.clasp.owner, safety := s.clasp.safety, tenants := s.clasp.tenants, content := s.clasp.content, seeds := s.clasp.seeds,
    caks := ((List.range 10).map (· + 32)).map (fun m => (m, (s.portAt m).ckn, (s.portAt m).cak)), seqs := s.clasp.lastSeq }

/-- Load a book: every key it holds, and the seq values it carries. -/
def State.loadBook (s : State) (k : KeyBook) : State :=
  let put := fun (m : SMap (List Byte)) (xs : List (Nat × List Byte)) => xs.foldl (fun m x => SMap.set (fun _ => []) m x.1 x.2) m
  let s1 := k.caks.foldl (fun s x => s.setPort x.1 { s.portAt x.1 with ckn := x.2.1, cak := x.2.2 }) s
  let s2 := { s1 with clasp := { s1.clasp with
    owner := k.owner, safety := k.safety, tenants := put [] k.tenants, content := put [] k.content, seeds := put [] k.seeds
    lastSeq := k.seqs.foldl (fun (m : SMap Nat) (x : Nat × Nat) => SMap.set (fun _ => 0) m x.1 (max x.2 (SMap.get (fun _ => 0) m x.1))) s1.clasp.lastSeq
    bookLoaded := true } }
  (s2.setF Reg.clsSts 31 29 3).showCls

/-- The key a twin's book is sealed under. -/
def twinKey (serial shared : List Byte) : List Byte := Config.hkdf serial shared (ascii "TWIN") 32

/-- RESTORE. -/
def State.restore (s : State) (e : Envelope) : ClaspEnd :=
  if s.getF Reg.clsSts 31 29 ≠ 2 ∨ s.debugOpen then s.refuse 5
  else match Config.sealedOf e.body with
    | none => s.refuse 1
    | some b =>
      let key := match b.eph with
        | none => Config.sealingKey
        | some p => twinKey serialBytes (Config.ecdhX p)
      if b.serial ≠ serialBytes ∨ (b.eph = none ∧ b.gen ≠ s.clasp.gen) then s.refuse 5
      else match (Config.gcmOpen key b.iv (Config.bookAad b.serial b.gen) b.body).bind Config.bookOf with
        | none => s.refuse 8
        | some k =>
          if b.eph ≠ none ∧ (k.owner ≠ s.clasp.owner ∨ k.safety ≠ s.clasp.safety) then s.refuse 5
          else (s.loadBook k).done

/-- Seal the book under a key. -/
def State.sealUnder (s : State) (key serial : List Byte) (eph : Option (List Byte)) : ClaspEnd :=
  let iv := Config.random s.free 12
  let body := Config.gcmSeal key iv (Config.bookAad serial s.clasp.gen) (Config.bookBytes s.book)
  some (s.bumpFree, 0, Config.sealedBytes ⟨serial, s.clasp.gen, eph, iv, body⟩)

/-- SEAL. -/
def State.seal (s : State) : ClaspEnd := s.sealUnder Config.sealingKey serialBytes none

/-- TWIN_EXPORT. -/
def State.twinExport (s : State) (e : Envelope) : ClaspEnd :=
  let serial := (e.body.drop 97).take 16
  s.sealUnder (twinKey serial (Config.ephShared s.free (e.body.take 97))) serial (some (Config.ephPublic s.free))

/-- DEBUG_UNLOCK. -/
def State.debugUnlock (s : State) (e : Envelope) : ClaspEnd :=
  let scope := leAt e.body 0 4
  if s.clasp.bookLoaded then s.refuse 5
  else if !Config.ecdsaVerify Config.vendorRoot (Config.sha384 (serialBytes ++ s.nonceBytes ++ e.body.take 4)) ((e.body.drop 4).take 96) then
    s.refuse 2
  else State.done (State.showCls { s with clasp := { s.clasp with debugScope := Nat.lor s.clasp.debugScope scope } })

/-! ### Running a command (R493) -/

/-- The effect of a command that passed the checks. -/
def State.claspEffect (s : State) (e : Envelope) : ClaspEnd :=
  match e.code with
  | 0x01 => s.attest e
  | 0x02 => s.restore e
  | 0x03 => s.seal
  | 0x04 => s.alarmRead
  | 0x05 => s.placement e
  | 0x10 => s.enrolOwner e
  | 0x11 => s.enrolSafety e
  | 0x12 => s.tenantAdd e
  | 0x13 => s.tenantRetire e
  | 0x14 => s.granule e
  | 0x20 => s.contentKey e
  | 0x21 => s.sealedWrite e
  | 0x30 => s.safetyWrite e
  | 0x31 => s.alarmAck e
  | 0x40 => s.wallSeed e
  | 0x41 => s.wallKey e
  | 0x42 => s.macsecCak e
  | 0x43 => s.mkaRun e
  | 0x50 => s.codeCheck e
  | 0x60 => s.debugUnlock e
  | 0x61 => s.twinExport e
  | _ => s.refuse 1

/-- The command with its checks; a signed command that is done consumes its seq. -/
def State.claspRun (s : State) (side : ClaspSide) (e : Envelope) (n : Nat) (rest0 : Bool) : ClaspEnd :=
  match s.claspFail side e n rest0 with
  | some r => s.refuse r
  | none =>
    match s.claspEffect e with
    | none => none
    | some (s1, r, reply) =>
      if r = 0 ∧ e.signer ≠ 0xFF then
        some ({ s1 with clasp := { s1.clasp with lastSeq := SMap.set (fun _ => 0) s1.clasp.lastSeq e.signer (e.seq + 1) } }, r, reply)
      else some (s1, r, reply)

/-- The envelope a side's trigger message names. -/
def State.envelope (s : State) (side : ClaspSide) : Envelope :=
  ⟨s.windowBytes (sideStage side) (Nat.min (s.rd (Reg.mbxData (sideChannel side) 0)).toNat 4096)⟩

/-- Is Clasp free to take this side's trigger next? -/
def State.claspReady (s : State) (side : ClaspSide) : Bool :=
  s.clasp.alive && s.clasp.owed.isNone && decide (s.clasp.trig.head? = some (sideChannel side)) && s.mbxFull (sideChannel side)
    && decide (1 ≤ s.getF Reg.clsSts 31 29) && decide (s.getF Reg.clsSts 31 29 ≤ 3)

/-- Take the trigger of a side, run its command, reply. A command that must wait for memory leaves everything as it was (log entry 22). -/
def State.claspTake (s : State) (side : ClaspSide) : State :=
  let n := (s.rd (Reg.mbxData (sideChannel side) 0)).toNat
  let rest0 := (List.range 15).all (fun k => s.rd (Reg.mbxData (sideChannel side) (k + 1)) == 0)
  let e := s.envelope side
  let s0 := State.mbxDrain { s with clasp := { s.clasp with trig := s.clasp.trig.tail } } (sideChannel side)
  match s0.claspRun side e n rest0 with
  | none => s
  | some (s1, r, reply) =>
    let s2 := s1.putWindow (sideReply side) reply
    State.sendOwed { s2 with clasp := { s2.clasp with
      owed := some ((sideChannel side) + 1, BitVec.ofNat 32 (e.code + r * 2 ^ 8 + reply.length * 2 ^ 16), BitVec.ofNat 32 e.seq) } }

/-- Take the trigger if its command code is the one meant (none: any). -/
def State.claspCommand (s : State) (code : Option Nat) (side : ClaspSide) : State :=
  if s.claspReady side && (match code with | none => true | some c => (s.envelope side).code == c) then s.claspTake side else s

/-! ### The commands -/

/-- CLASP_TRIGGER (R493). -/
def execClaspTrigger (side : ClaspSide) (s : State) : Host.Outcome State Fault Refusal := .next (s.claspCommand none side)

/-- ATTEST (R495). -/
def execAttest (side : ClaspSide) (s : State) : Host.Outcome State Fault Refusal := .next (s.claspCommand (some 0x01) side)

/-- RESTORE (R498). -/
def execRestore (side : ClaspSide) (s : State) : Host.Outcome State Fault Refusal := .next (s.claspCommand (some 0x02) side)

/-- SEAL (R498). -/
def execSeal (side : ClaspSide) (s : State) : Host.Outcome State Fault Refusal := .next (s.claspCommand (some 0x03) side)

/-- ALARM_READ (R501). -/
def execAlarmRead (side : ClaspSide) (s : State) : Host.Outcome State Fault Refusal := .next (s.claspCommand (some 0x04) side)

/-- PLACEMENT (R488). -/
def execPlacement (side : ClaspSide) (s : State) : Host.Outcome State Fault Refusal := .next (s.claspCommand (some 0x05) side)

/-- ENROL_OWNER (R497). -/
def execEnrolOwner (side : ClaspSide) (s : State) : Host.Outcome State Fault Refusal := .next (s.claspCommand (some 0x10) side)

/-- ENROL_SAFETY (R497). -/
def execEnrolSafety (side : ClaspSide) (s : State) : Host.Outcome State Fault Refusal := .next (s.claspCommand (some 0x11) side)

/-- TENANT_ADD (R497). -/
def execTenantAdd (side : ClaspSide) (s : State) : Host.Outcome State Fault Refusal := .next (s.claspCommand (some 0x12) side)

/-- TENANT_RETIRE (R496). -/
def execTenantRetire (side : ClaspSide) (s : State) : Host.Outcome State Fault Refusal := .next (s.claspCommand (some 0x13) side)

/-- GRANULE (R499). -/
def execGranule (side : ClaspSide) (s : State) : Host.Outcome State Fault Refusal := .next (s.claspCommand (some 0x14) side)

/-- CONTENT_KEY (R496). -/
def execContentKey (side : ClaspSide) (s : State) : Host.Outcome State Fault Refusal := .next (s.claspCommand (some 0x20) side)

/-- SEALED_WRITE (R496). -/
def execSealedWrite (side : ClaspSide) (s : State) : Host.Outcome State Fault Refusal := .next (s.claspCommand (some 0x21) side)

/-- SAFETY_WRITE (R500). -/
def execSafetyWrite (side : ClaspSide) (s : State) : Host.Outcome State Fault Refusal := .next (s.claspCommand (some 0x30) side)

/-- ALARM_ACK (R501). -/
def execAlarmAck (side : ClaspSide) (s : State) : Host.Outcome State Fault Refusal := .next (s.claspCommand (some 0x31) side)

/-- WALL_SEED (R494). -/
def execWallSeed (side : ClaspSide) (s : State) : Host.Outcome State Fault Refusal := .next (s.claspCommand (some 0x40) side)

/-- WALL_KEY (R494). -/
def execWallKey (side : ClaspSide) (s : State) : Host.Outcome State Fault Refusal := .next (s.claspCommand (some 0x41) side)

/-- MACSEC_CAK (R389). -/
def execMacsecCak (side : ClaspSide) (s : State) : Host.Outcome State Fault Refusal := .next (s.claspCommand (some 0x42) side)

/-- MKA_OP (R389, R390). -/
def execMkaOp (side : ClaspSide) (s : State) : Host.Outcome State Fault Refusal := .next (s.claspCommand (some 0x43) side)

/-- CODE_CHECK (R495). -/
def execCodeCheck (side : ClaspSide) (s : State) : Host.Outcome State Fault Refusal := .next (s.claspCommand (some 0x50) side)

/-- DEBUG_UNLOCK (R502). -/
def execDebugUnlock (side : ClaspSide) (s : State) : Host.Outcome State Fault Refusal := .next (s.claspCommand (some 0x60) side)

/-- TWIN_EXPORT (R498). -/
def execTwinExport (side : ClaspSide) (s : State) : Host.Outcome State Fault Refusal := .next (s.claspCommand (some 0x61) side)

end Sys2Proof.Machine
end

