-- ==== Sys2Proof/Machine/FarOps.lean ====
section
/-! DEFINITION. Far transfers and fills at issue, FWAIT and the atomics (R59, R67, R71-R78). Their completion is in Far.lean. -/

namespace Sys2Proof.Machine

/-- The lowest free token slot (log entry 23). -/
def Ctx.freeSlot (c : Ctx) : Option Nat := (List.range 16).find? (fun i => (c.slot i).isFree)

/-- Take a slot for a far operation (R73): its generation is incremented and its token goes to rd. With every slot busy the instruction
stalls, or takes the oldest error when every slot holds one. `op` is the operation in flight, none when it is complete at issue. -/
def State.takeSlot (s : State) (q : EngId) (c : Ctx) (rd : Nat) (op : Option FarOp) (after : State → State) : Res :=
  match c.freeSlot with
  | none =>
    if c.inFlight.isEmpty then
      match c.oldestErr (fun _ => true) with
      | some (i, cause, o) => Res.deferred s q c i cause o
      | none => .stall
    else .stall
  | some i =>
    let gen := (c.slot i).gen + 1
    let c1 := (c.setSlot i ⟨gen, match op with | some o => .busy o | none => .idle⟩).setG rd (tokenOf gen i)
    let s1 := s.putCtx q c1
    .next (after (s1.putEng q { s1.engOf q with issue := (s1.engOf q).issue + 1 }))

/-- Does an issued range fault FAR_RANGE (R72)? -/
def farBad (a n : Nat) : Bool :=
  match regionOf a n with
  | .none => true
  | .regs => decide (n ≠ 4) || decide (a % 4 ≠ 0)
  | _ => false

/-- Issue a far transfer (R67, R71, R72, R75). -/
def State.farIssue (q : EngId) (a : TArgs) (kind : FarKind) (s : State) (c : Ctx) : Res :=
  let far := TArgs.far a c
  let loc := (c.gr a.ra.toNat).toNat
  let n := (c.gr a.rc.toNat).toNat
  if n = 0 then s.takeSlot q c a.rd.toNat none id
  else if localBad loc n then .fault s causeLocalRange none loc
  else if farBad far n then .fault s causeFarRange none far
  else if c.interlocked loc n then .stall
  else s.takeSlot q c a.rd.toNat (some ⟨kind, far, loc, n, c.pc.toNat, (s.engOf q).issue⟩) id

/-- FLD: start a far-to-local copy (R67). -/
def execFld (q : EngId) (a : TArgs) (s : State) : Host.Outcome State Fault Refusal :=
  .next (s.instr q (insT (.fld q a) a true) (State.farIssue q a .fld))

/-- FST: start a local-to-far copy (R67). -/
def execFst (q : EngId) (a : TArgs) (s : State) : Host.Outcome State Fault Refusal :=
  .next (s.instr q (insT (.fst q a) a true) (State.farIssue q a .fst))

/-- Wait for one token (R74): a stale generation returns at once, a held error becomes a deferred fault. -/
def State.waitOne (q : EngId) (tok : Word) (s : State) (c : Ctx) : Res :=
  let i := fld tok 3 0
  let t := c.slot i
  if t.gen.toNat ≠ fld tok 7 4 then .next s
  else match t.st with
    | .idle => .next s
    | .busy _ => .stall
    | .err cause o => Res.deferred s q c i cause o

/-- Wait for every token of the context (R67, R77). -/
def State.waitAll (q : EngId) (s : State) (c : Ctx) : Res :=
  if c.inFlight.isEmpty then
    match c.oldestErr (fun _ => true) with
    | some (i, cause, o) => Res.deferred s q c i cause o
    | none => .next s
  else .stall

/-- FWAIT (R67, R74, R77): rd and imm[11:1] must be 0, and with an extension word its bits [31:1]. -/
def execFwait (q : EngId) (a : IArgs) (s : State) : Host.Outcome State Fault Refusal :=
  let imm := IArgs.immZ a
  .next (s.instr q (insI (.fwait q a) a (decide (a.rd = 0)) (fun m => decide (m.toNat < 2))) (fun s c =>
    if bit imm 0 then s.waitAll q c else s.waitOne q (c.gr a.ra.toNat) c))

/-- An atomic on a Sheet store word (R67, R78): after the release wait, range and alignment, then read, compute and write in one
step; rd := old. `f` is what it stores, none when it stores nothing. DEDUCED (log entry 153): an address outside the Sheet store faults
FAR_RANGE whatever its alignment; the read needs owner_rd, and a store alone needs owner_wr. It waits for an earlier transfer of its engine
that overlaps its word (R76, R148). -/
def State.atomic (q : EngId) (a : TArgs) (f : Ctx → Word → Option Word) (s : State) (c : Ctx) : Res :=
  let far := TArgs.far a c
  let o := far - ssBase
  let t : Tx := ⟨1, q.g.val⟩
  let fail := fun (s : State) (acc : MemAcc) =>
    Res.fault s (if acc = .domain then causeDomain else causeFarError) (some c.pc.toNat) far
  Res.afterRelease s q c
    (if regionOf far 1 ≠ .ss then .fault s causeFarRange none far
    else if far % 4 ≠ 0 then .fault s causeAlign none far
    else if (s.engOf q).mustWait (s.engOf q).issue far 4 || s.memWaits t far 4 then .stall
    else
      let r := s.ssRead t far o 4
      let old : Word := BitVec.ofNat 32 (ofLe r.2.2)
      if r.2.1 ≠ .ok then fail r.1 r.2.1
      else match f c old with
        | none => .next (r.1.putCtx q (c.setG a.rd.toNat old))
        | some v =>
          let w := r.1.ssWrite t far o (leBytes 4 v.toNat)
          if w.2 = .ok then .next (w.1.putCtx q (c.setG a.rd.toNat old)) else fail w.1 w.2)

/-- AMOADD (R67). -/
def execAmoadd (q : EngId) (a : TArgs) (s : State) : Host.Outcome State Fault Refusal :=
  .next (s.instr q (insT (.amoadd q a) a true) (State.atomic q a (fun c old => some (old + c.gr a.ra.toNat))))

/-- AMOSWAP (R67). -/
def execAmoswap (q : EngId) (a : TArgs) (s : State) : Host.Outcome State Fault Refusal :=
  .next (s.instr q (insT (.amoswap q a) a true) (State.atomic q a (fun c _ => some (c.gr a.ra.toNat))))

/-- AMOCAS: stores ra when the word equals rc (R67). -/
def execAmocas (q : EngId) (a : TArgs) (s : State) : Host.Outcome State Fault Refusal :=
  .next (s.instr q (insT (.amocas q a) a true) (State.atomic q a
    (fun c old => if old = c.gr a.rc.toNat then some (c.gr a.ra.toNat) else none)))

/-- AMOMIN: signed minimum (R67). -/
def execAmomin (q : EngId) (a : TArgs) (s : State) : Host.Outcome State Fault Refusal :=
  .next (s.instr q (insT (.amomin q a) a true) (State.atomic q a
    (fun c old => some (if old.toInt ≤ (c.gr a.ra.toNat).toInt then old else c.gr a.ra.toNat))))

/-- AMOMAX: signed maximum (R67). -/
def execAmomax (q : EngId) (a : TArgs) (s : State) : Host.Outcome State Fault Refusal :=
  .next (s.instr q (insT (.amomax q a) a true) (State.atomic q a
    (fun c old => some (if old.toInt ≤ (c.gr a.ra.toNat).toInt then c.gr a.ra.toNat else old))))

/-- IFILL: start a 2 KiB fill of page imm[1:0] from fb[imm[3:2]] + ra (R59, R67). -/
def execIfill (q : EngId) (a : IArgs) (s : State) : Host.Outcome State Fault Refusal :=
  let imm := a.imm12.toNat
  .next (s.instr q (insI (.ifill q a) a (!a.x) (fun m => decide (m.toNat < 16))) (fun s c =>
    let far := (c.fbr (imm / 4) + (c.gr a.ra.toNat).zeroExtend 48).toNat
    if regionOf far 2048 ≠ .ss then .fault s causeFarRange none far
    else if far % 32 ≠ 0 then .fault s causeAlign none far
    else s.takeSlot q c a.rd.toNat (some ⟨.ifill, far, imm % 4, 2048, c.pc.toNat, (s.engOf q).issue⟩) (fun s' =>
      s'.putEng q { s'.engOf q with page := SMap.set (fun _ => PageSt.empty) (s'.engOf q).page (imm % 4) .filling })))

end Sys2Proof.Machine
end

