-- ==== Sys2Proof/Machine/Control.lean ====
section
/-! DEFINITION. Branch and control instructions (R53, R68, R79-R90), and the EWAIT events. -/

namespace Sys2Proof.Machine

/-- Jump to a branch target, or fault PC_RANGE for one outside 0x0000-0x1FFC (R63). -/
def Res.branch (s s' : State) (t : Int) : Res :=
  if 0 ≤ t ∧ t ≤ 0x1FFC then .jump s' t.toNat else .fault s causePcRange none (wordOfInt t).toNat

/-- BR (R68). -/
def execBr (q : EngId) (a : BArgs) (s : State) : Host.Outcome State Fault Refusal :=
  .next (s.instr q (insB (.br q a) a) (fun s c => Res.branch s s (BArgs.target a c.pc.toNat)))

/-- CALL: g31 := pc + 4 (R68). -/
def execCall (q : EngId) (a : BArgs) (s : State) : Host.Outcome State Fault Refusal :=
  .next (s.instr q (insB (.call q a) a) (fun s c =>
    Res.branch s (s.putCtx q (c.setG 31 (BitVec.ofNat 32 (c.pc.toNat + 4)))) (BArgs.target a c.pc.toNat)))

/-- JR: rd := pc + 4; pc := ra; fn, rb and pn must be 0 (R63, R68). -/
def execJr (q : EngId) (a : RArgs) (s : State) : Host.Outcome State Fault Refusal :=
  .next (s.instr q (insR (.jr q a) a (decide (a.fn = 0) && decide (a.rb = 0) && !a.pn)) (fun s c =>
    let t := (c.gr a.ra.toNat).toNat
    if t % 4 ≠ 0 then .fault s causePcRange none t
    else if 0x1FFC < t then .fault s causePcRange none t
    else .jump (s.putCtx q (c.setG a.rd.toNat (BitVec.ofNat 32 (c.pc.toNat + 4)))) t))

/-! ### UCALL (R79-R81) -/

/-- Is a queue id listed (R79)? -/
def queueListed (q : Nat) : Bool :=
  decide (q < 0x21) || (decide (0x30 ≤ q) && decide (q < 0x40)) || decide (q = 0x40) || decide (q = 0x50) || decide (q = 0x60)
    || (decide (0x80 ≤ q) && decide (q < 0xA0))

/-- Is the queue absent: not listed, or its check-value unit disabled (R79, R180)? -/
def State.queueAbsent (s : State) (q : Nat) : Bool :=
  !queueListed q || (decide (0x80 ≤ q) && !s.flag (Reg.cvuCtrl (q - 0x80)) 0)

/-- Does a descriptor break the frame of R80, or ask for a record with no ring (R81)? -/
def State.malformed (s : State) (q : Nat) (d : List Byte) : Bool :=
  let w0 := leAt d 0 4
  let w1 := leAt d 4 4
  decide (bitsN w0 31 28 ≠ 1) || decide (bitsN w0 17 16 ≠ 0) || decide (bitsN w1 31 30 ≠ 0) || decide (bitsN w1 14 0 ≠ 0)
    || (decide (bitsN w0 19 19 = 1) && decide (s.getF (queueRing q).2 15 0 = 0))

/-- Post a descriptor to a queue: the state and the result code of R81. -/
def State.post (s : State) (q : Nat) (d : List Byte) : State × Nat :=
  if s.queueAbsent q then (s, 3)
  else if s.malformed q d then (s, 2)
  else if 32 ≤ (s.queueOf q).length then (s, 1)
  else (s.setQueue q (s.queueOf q ++ [⟨d, false, 0⟩]), 0)

/-- UCALL (R68, R75, R77, R81). -/
def execUcall (q : EngId) (a : UArgs) (s : State) : Host.Outcome State Fault Refusal :=
  .next (s.instr q (insU (.ucall q a) a) (fun s c =>
    let loc := (c.gr a.ra.toNat).toNat
    Res.afterRelease s q c
      (if localBad loc 32 then .fault s causeLocalRange none loc
      else if loc % 32 ≠ 0 then .fault s causeAlign none loc
      else if c.interlocked loc 32 then .stall
      else
        let (s1, r) := s.post a.queue.toNat ((s.engOf q).bytes loc 32)
        .next (s1.putCtx q (c.setG a.rd.toNat (BitVec.ofNat 32 r))))))

/-! ### FOLD (R84, R85) -/

/-- Read a fold list of at most n entries from local address a: the entries up to the last, or none when it has no last entry; the
second part is the address of an entry outside local memory, if one is reached first. -/
def foldList (x : Eng) (a : Nat) : Nat → Option (List Nat) × Option Nat
  | 0 => (none, none)
  | n + 1 =>
    if localBad a 4 then (none, some a)
    else
      let w := ofLe (x.bytes a 4)
      if 2 ^ 31 ≤ w then (some [w], none)
      else
        let (r, f) := foldList x (a + 4) n
        (r.map (fun l => w :: l), f)

/-- The mask of the units a list names. -/
def foldUnits (l : List Nat) : Nat := l.foldl (fun m w => Nat.lor m (2 ^ bitsN w 18 16)) 0

/-- Are all groups of a list inside their units' ranges? -/
def foldGroupsOk (l : List Nat) : Bool :=
  l.all (fun w => match unitOfNum (bitsN w 18 16) with | some u => groupInRange u (bitsN w 15 0) | none => false)

/-- Arm every entry of a list at one instant (R85). -/
def State.armList (s : State) (link : Nat) (l : List Nat) : State :=
  l.foldl (fun s w => match unitOfNum (bitsN w 18 16) with | some u => s.arm u (bitsN w 15 0) link | none => s) s

/-- The outcome of FOLD over a list already read: the state and the code of R84. DESIGN CHOICE (log entry 162): a list that is both BAD_LIST
and BAD_GROUP returns BAD_LIST. -/
def State.foldArm (s : State) (mask link : Nat) (l : Option (List Nat)) : State × Nat :=
  match l with
  | none => (s, 1)
  | some l =>
    if l.any (fun w => decide (bitsN w 30 19 ≠ 0)) || decide (128 ≤ mask) || decide (foldUnits l ≠ mask) then (s, 1)
    else if foldGroupsOk l then (s.armList link l, 0)
    else (s, 2)

/-- FOLD (R68, R84): fb must be 0. A list outside local memory faults LOCAL_RANGE whatever its alignment (log entry 63). -/
def execFold (q : EngId) (a : TArgs) (s : State) : Host.Outcome State Fault Refusal :=
  .next (s.instr q (insT (.fold q a) a (decide (a.fb = 0))) (fun s c =>
    let mask := (c.gr a.ra.toNat).toNat
    let loc := (c.gr a.rb.toNat).toNat
    let link := fld (c.gr a.rc.toNat) 7 0
    let put := fun (s : State) (r : Nat) => Res.next (s.putCtx q (c.setG a.rd.toNat (BitVec.ofNat 32 r)))
    Res.afterRelease s q c
      (if mask = 0 then put s 0
      else if localBad loc 4 then .fault s causeLocalRange none loc
      else if loc % 4 ≠ 0 then .fault s causeAlign none loc
      else
        match foldList (s.engOf q) loc 64 with
        | (_, some bad) => .fault s causeLocalRange none bad
        | (l, none) => let (s1, r) := s.foldArm mask link l; put s1 r)))

/-! ### Tasks and events (R86-R90) -/

/-- TREADY (R68, R86). -/
def execTready (q : EngId) (a : RArgs) (s : State) : Host.Outcome State Fault Refusal :=
  .next (s.instr q (insR (.tready q a) a (decide (a.fn = 0) && decide (a.rb = 0))) (fun s c =>
    let w := c.gr a.ra.toNat
    let (s1, r) := if opTaskBad w then (s, 1) else s.tready (opGath w) (opTask w)
    Res.afterRelease s q c (.next (s1.putCtx q ((s1.ctxOf q).setG a.rd.toNat (BitVec.ofNat 32 r))))))

/-- TCANCEL (R68, R86). -/
def execTcancel (q : EngId) (a : RArgs) (s : State) : Host.Outcome State Fault Refusal :=
  .next (s.instr q (insR (.tcancel q a) a (decide (a.fn = 0) && decide (a.rb = 0))) (fun s c =>
    let w := c.gr a.ra.toNat
    let (s1, r) := if opTaskBad w then (s, 3) else s.tcancel (opGath w) (opTask w)
    Res.afterRelease s q c (.next (s1.putCtx q ((s1.ctxOf q).setG a.rd.toNat (BitVec.ofNat 32 r))))))

/-- TDONE: end the task with status ra[15:0], or as CANCELLED when its cancel flag was set, read since or not (R87, R90, R106). -/
def execTdone (q : EngId) (a : RArgs) (s : State) : Host.Outcome State Fault Refusal :=
  .next (s.instr q (insR (.tdone q a) a (decide (a.fn = 0) && decide (a.rd = 0) && decide (a.rb = 0))) (fun s c =>
    Res.afterRelease s q c
      (.over (s.endCtx q.g.val q.e.val (s.urgOf q) (if c.cancelled then 2 else 1)
        (if c.cancelled then 0 else fld (c.gr a.ra.toNat) 15 0)))))

/-- Return the task of a context to the tail of its priority's list (R101); an interrupt handler or the start context just ends. -/
def State.yieldCtx (s : State) (g e : Nat) (urgent : Bool) : State :=
  let s1 := (s.dropRunning g e urgent).freeCtx g e urgent
  let s2 := match s.taskOf g e urgent with
    | some t => s1.setGath g { s1.gathAt g with ready := (s1.gathAt g).ready ++ [t] }
    | none => s1
  s2.dispatch g

/-- TYIELD (R68, R90, R101). -/
def execTyield (q : EngId) (a : RArgs) (s : State) : Host.Outcome State Fault Refusal :=
  .next (s.instr q (insR (.tyield q a) a (decide (a.fn = 0) && decide (a.rd = 0) && decide (a.ra = 0) && decide (a.rb = 0))) (fun s c =>
    Res.afterRelease s q c (.over (s.yieldCtx q.g.val q.e.val (s.urgOf q)))))

/-- TSELF: rd := gathering << 16 | tsk (R68). -/
def execTself (q : EngId) (a : RArgs) (s : State) : Host.Outcome State Fault Refusal :=
  .next (s.instr q (insR (.tself q a) a (decide (a.fn = 0) && decide (a.ra = 0) && decide (a.rb = 0))) (fun s c =>
    .next (s.putCtx q (c.setG a.rd.toNat (BitVec.ofNat 32 (q.g.val * 2 ^ 16 + c.tsk.toNat))))))

/-- EWAIT (R88): at once for a pending source or a poll, else sleep; timeouts count system-counter counts (log entry 24). -/
def execEwait (q : EngId) (a : IArgs) (s : State) : Host.Outcome State Fault Refusal :=
  let imm := IArgs.immZ a
  .next (s.instr q (insI (.ewait q a) a true (fun _ => true)) (fun s c =>
    let put := fun (v : Word) => Res.next (s.putCtx q (c.setG a.rd.toNat v))
    let wait := (c.gr a.ra.toNat).toNat
    if s.wakeable q.g.val q.e.val then put 0
    else if bit imm 0 ∧ wait = 0 then put 1
    else
      .over (s.putCtx q { c with
        sleep := some ⟨a.rd.toNat, if bit imm 0 then some (s.now + wait) else none, IArgs.size a, false⟩ })))

/-- A sleeping EWAIT ends with a reason: rd is written and pc moves on. -/
def State.wakeCtx (s : State) (q : EngId) (reason : Word) : State :=
  let c := s.ctxOf q
  match c.sleep with
  | some sl => s.putCtx q { c.setG sl.rd reason with sleep := none, pc := c.pc + BitVec.ofNat 13 sl.size }
  | none => s

/-- Has a source been presented to the sleeping engine, or is one that is presented to it still there (R88, R116)? -/
def State.wakes (s : State) (q : EngId) : Bool :=
  s.asleep q.g.val q.e.val && (!s.inEwait q.g.val q.e.val ||
    (s.wakeable q.g.val q.e.val && (s.gathAt q.g.val).shown.any (fun t => t.e == q.e.val)))

/-- EWAIT_WAKE: a presented source wakes a sleeping engine whatever its mask, and whoever has cleared the source since (R88, R116). -/
def execEwaitWake (q : EngId) (s : State) : Host.Outcome State Fault Refusal :=
  .next (if s.wakes q then s.wakeCtx q 0 else s)

/-- EWAIT_TIMEOUT: the timeout has passed; while enable is 0 the engine sleeps on (R88). -/
def execEwaitTimeout (q : EngId) (s : State) : Host.Outcome State Fault Refusal :=
  let due := match (s.ctxOf q).sleep with | some ⟨_, some d, _, _⟩ => decide (d ≤ s.now) | _ => false
  .next (if s.asleep q.g.val q.e.val && due then s.wakeCtx q 1 else s)

/-- ESIG: set a software source 448-511 (R68, R89). -/
def execEsig (q : EngId) (a : RArgs) (s : State) : Host.Outcome State Fault Refusal :=
  .next (s.instr q (insR (.esig q a) a (decide (a.fn = 0) && decide (a.rb = 0))) (fun s c =>
    let w := c.gr a.ra.toNat
    let bad := opSrcBad w || decide (opSrc w < 448)
    let s1 := if bad then s else s.evcSet (opGath w) (opSrc w)
    Res.afterRelease s q c (.next (s1.putCtx q (c.setG a.rd.toNat (if bad then 1 else 0))))))

/-- EMASK: rd := old mask; mask := imm[0] (R68). -/
def execEmask (q : EngId) (a : IArgs) (s : State) : Host.Outcome State Fault Refusal :=
  .next (s.instr q (insI (.emask q a) a true (fun _ => true)) (fun s c =>
    let s1 := s.putCtx q (c.setG a.rd.toNat (if (s.engOf q).mask then 1 else 0))
    .next (s1.putEng q { s1.engOf q with mask := bit (IArgs.immZ a) 0 })))

/-- qid: gathering and engine (R53). -/
def qidWord (q : EngId) : Word := BitVec.ofNat 32 (q.g.val * 2 ^ 16 + q.e.val)

/-- The content of special `id`, none when no special has that id (R53). -/
def State.special (s : State) (q : EngId) (c : Ctx) (id : Nat) : Option Word :=
  if id = 0 then some (BitVec.ofNat 32 c.pc.toNat)
  else if id = 1 then some (c.tsk.zeroExtend 32)
  else if id = 2 then some (if s.urgOf q then 1 else 0)
  else if id = 3 then some (qidWord q)
  else if id = 4 then some (BitVec.ofNat 32 s.now)
  else if id = 5 then some c.ctrHi
  else if id = 6 then some (if (s.engOf q).mask then 1 else 0)
  else if id = 7 then some (if c.cancel then 1 else 0)
  else if id ≤ 0x0B then some ((c.fbr (id - 8)).truncate 32)
  else if id ≤ 0x0F then some (BitVec.ofNat 32 ((c.fbr (id - 12)).toNat / 2 ^ 32))
  else none

/-- MFS: rd := special[imm]; sysctr_lo latches the high half, cancel clears (R53, R68). -/
def execMfs (q : EngId) (a : IArgs) (s : State) : Host.Outcome State Fault Refusal :=
  let id := (IArgs.immZ a).toNat
  .next (s.instr q (insI (.mfs q a) a true (fun m => decide (m.toNat ≤ 0x0F))) (fun s c =>
    let c1 := { c with
      ctrHi := if id = 4 then BitVec.ofNat 32 (s.now / 2 ^ 32) else c.ctrHi
      cancel := if id = 7 then false else c.cancel }
    .next (s.putCtx q (c1.setG a.rd.toNat ((s.special q c id).getD 0)))))

/-- May MTS name the special (R53)? The far bases are writable; a write to the RC special has no effect (R5; log entry 25). -/
def mtsLegal (id : Nat) : Bool := decide (7 ≤ id) && decide (id ≤ 0x0F)

/-- MTS: special[imm] := ra; rd must be 0 (R53, R68). -/
def execMts (q : EngId) (a : IArgs) (s : State) : Host.Outcome State Fault Refusal :=
  let id := (IArgs.immZ a).toNat
  .next (s.instr q (insI (.mts q a) a (decide (a.rd = 0)) (fun m => mtsLegal m.toNat)) (fun s c =>
    let v := (c.gr a.ra.toNat).toNat
    let c1 :=
      if id ≤ 7 then c
      else if id ≤ 0x0B then c.setFb (id - 8) (BitVec.ofNat 48 ((c.fbr (id - 8)).toNat / 2 ^ 32 * 2 ^ 32 + v))
      else c.setFb (id - 12) (BitVec.ofNat 48 (v % 2 ^ 16 * 2 ^ 32 + (c.fbr (id - 12)).toNat % 2 ^ 32))
    .next (s.putCtx q c1)))

/-- INTERRUPT_ENTRY (R54): the mask is set, pc := QE_VEC.event × 4, tsk := 0xFFFF, g1 := qid in the urgent context. A normal context asleep
in EWAIT wakes as its engine takes the interrupt (R88, R116). -/
def execInterruptEntry (q : EngId) (s : State) : Host.Outcome State Fault Refusal :=
  let g := q.g.val
  let e := q.e.val
  let x := s.gathAt g
  let ready := fun (t : Shown) => t.e == e && !t.taken && s.evcPending g t.src && s.evcEnabled g t.src
  .next (if s.canInterrupt g e && !s.parked g && x.shown.any ready then
      let n := (if s.asleep g e then s.wakeCtx q 0 else s).engAt g e
      let c := { n.urg.setG 1 (qidWord q) with
        occ := true, pc := BitVec.ofNat 13 (s.getF (Reg.qeVec g e) 12 2 * 4), tsk := 0xFFFF, cancel := false, cancelled := false,
        sleep := none }
      (s.setGath g { x with shown := x.shown.map (fun t => if ready t then { t with taken := true } else t) }).setEng g e
        { n with urg := c, mask := true, maskSaved := n.mask }
    else s)

end Sys2Proof.Machine
end

