-- ==== Sys2Proof/Machine/Far.lean ====
section
/-! DEFINITION. Far transfers and page fills completing (R59, R60, R73, R75, R76), and descriptors of a kind no unit defines (R82). -/

namespace Sys2Proof.Machine

/-- Give a slot of a context its outcome: free, or holding an error of its operation (R73). -/
def State.endSlot (s : State) (q : EngId) (urgent : Bool) (i : Nat) (o : FarOp) (acc : MemAcc) : State :=
  let x := s.engOf q
  let c := x.ctx urgent
  let t := c.slot i
  let st : SlotSt := match acc with
    | .ok => .idle
    | .domain => .err causeDomain o
    | _ => .err causeFarError o
  s.putEng q (x.setCtx urgent (c.setSlot i { t with st := st }))

/-- A far load takes effect: the bytes read go to local memory. A stalled access leaves everything as it was (log entry 22). -/
def State.fldDone (s : State) (q : EngId) (urgent : Bool) (i : Nat) (o : FarOp) : State :=
  let r := s.busRead (.engine q) o.far o.len
  match r.2.1 with
  | .stall => s
  | .ok => State.endSlot (r.1.putEng q ((r.1.engOf q).setBytes o.loc r.2.2)) q urgent i o .ok
  | acc => r.1.endSlot q urgent i o acc

/-- A far store takes effect. One that fails has written no byte at its target (R91's deferred faults): both memories are as they were. -/
def State.fstDone (s : State) (q : EngId) (urgent : Bool) (i : Nat) (o : FarOp) : State :=
  let r := s.busWrite (.engine q) o.far ((s.engOf q).bytes o.loc o.len)
  match r.2 with
  | .stall => s
  | .ok => r.1.endSlot q urgent i o .ok
  | acc => { r.1 with ss := s.ss, ssErr := s.ssErr, hbm := s.hbm, hbmErr := s.hbmErr }.endSlot q urgent i o acc

/-- FAR_COMPLETE (R76). -/
def execFarComplete (q : EngId) (urgent : Bool) (slot : Fin 16) (s : State) : Host.Outcome State Fault Refusal :=
  .next (
    let c := (s.engOf q).ctx urgent
    match (c.slot slot.val).op? with
    | none => s
    | some o =>
      if (s.engOf q).mustWait o.order o.far o.len then s
      else match o.kind with
        | .fld => s.fldDone q urgent slot.val o
        | .fst => s.fstDone q urgent slot.val o
        | .ifill => s)

/-- Is another fill of page k in flight in a context, slot i of context u apart? -/
def Eng.fillBusy (x : Eng) (k i : Nat) (u : Bool) : Bool :=
  [false, true].any (fun w => (List.range 16).any (fun j =>
    !(j == i && w == u) && (match ((x.ctx w).slot j).op? with
      | some o => o.kind == .ifill && o.loc == k
      | none => false)))

/-- A fill ends: the whole new page, or an empty page and an error. A page that another fill in flight is to change goes on filling. -/
def State.fillDone (s : State) (q : EngId) (urgent : Bool) (i : Nat) (o : FarOp) : State :=
  if s.memWaits ⟨1, q.g.val⟩ o.far o.len then s
  else
    let r : State × MemAcc × List Byte :=
      if s.ownerCode (o.far - ssBase) o.len then s.ssRead ⟨1, q.g.val⟩ o.far (o.far - ssBase) o.len else (s, .domain, [])
    let x := r.1.engOf q
    let x1 := if r.2.1 = .ok then x.fillPage o.loc r.2.2 else { x with page := SMap.set (fun _ => PageSt.empty) x.page o.loc .empty }
    let x2 := if x.fillBusy o.loc i urgent then { x1 with page := SMap.set (fun _ => PageSt.empty) x1.page o.loc .filling } else x1
    (r.1.putEng q x2).endSlot q urgent i o r.2.1

/-- IFILL_COMPLETE (R59, R60). -/
def execIfillComplete (q : EngId) (urgent : Bool) (slot : Fin 16) (s : State) : Host.Outcome State Fault Refusal :=
  .next (
    let c := (s.engOf q).ctx urgent
    match (c.slot slot.val).op? with
    | none => s
    | some o => if o.kind = .ifill ∧ !(s.engOf q).mustWait o.order o.far o.len then s.fillDone q urgent slot.val o else s)

/-- The kinds a unit's queue defines (R82): couch, press, imposition, ingest, traffic manager, time unit, audio unit, check-value units. -/
def kindDefined (q k : Nat) : Bool :=
  if q < 0x10 then k == 1
  else if q < 0x20 then k == 1 || k == 2
  else if q = 0x20 then k == 1 || k == 2 || k == 3
  else if q < 0x40 then k == 1 || k == 2
  else if q = 0x50 then k == 1 || k == 2
  else k == 1

/-- DESCRIPTOR_UNDEFINED_KIND (R82): the next descriptor completes with the unit's BAD_FIELD status. -/
def execDescriptorUndefinedKind (queue : BitVec 10) (s : State) : Host.Outcome State Fault Refusal :=
  .next (match s.firstWaiting queue.toNat with
    | none => s
    | some (i, d) =>
      if kindDefined queue.toNat (QDesc.kind d) then s
      else if 0x80 ≤ queue.toNat then s.cvEnd (queue.toNat - 0x80) i 4 none
      else s.completeAt queue.toNat i 1 none)

end Sys2Proof.Machine
end

