-- ==== Sys2Proof/Machine/Integer.lean ====
section
/-! DEFINITION. The integer, compare and immediate instructions (R64, R65). -/

namespace Sys2Proof.Machine

/-- rd := f ra rb (R64). -/
def State.alu (s : State) (q : EngId) (i : Instr) (a : RArgs) (f : Word → Word → Word) : State :=
  s.instr q (insR i a true) (fun s c => .next (s.putCtx q (c.setG a.rd.toNat (f (c.gr a.ra.toNat) (c.gr a.rb.toNat)))))

/-- p[rd[22:20]] := ra cond rb; rd[24:23] must be 0 (R64). -/
def State.pcmp (s : State) (q : EngId) (i : Instr) (a : RArgs) (f : Word → Word → Bool) : State :=
  s.instr q (insR i a (decide (a.rd.toNat < 8)))
    (fun s c => .next (s.putCtx q (c.setP (a.rd.toNat % 8) (f (c.gr a.ra.toNat) (c.gr a.rb.toNat)))))

/-- rd := f ra imm (R65). -/
def State.aluI (s : State) (q : EngId) (i : Instr) (a : IArgs) (imm : Word) (legal : Bool) (f : Word → Word → Word) : State :=
  s.instr q (insI i a legal (fun _ => true)) (fun s c => .next (s.putCtx q (c.setG a.rd.toNat (f (c.gr a.ra.toNat) imm))))

/-- A shift amount in an immediate: imm[11:5] and x must be 0 (R65). -/
def IArgs.shiftLegal (a : IArgs) : Bool := !a.x && decide (a.imm12.toNat < 32)

/-- ADD: rd := ra + rb (R64). -/
def execAdd (q : EngId) (a : RArgs) (s : State) : Host.Outcome State Fault Refusal := .next (s.alu q (.add q a) a (fun a b => a + b))

/-- SUB: rd := ra - rb (R64). -/
def execSub (q : EngId) (a : RArgs) (s : State) : Host.Outcome State Fault Refusal := .next (s.alu q (.sub q a) a (fun a b => a - b))

/-- AND (R64). -/
def execAnd (q : EngId) (a : RArgs) (s : State) : Host.Outcome State Fault Refusal := .next (s.alu q (.and_ q a) a (fun a b => a &&& b))

/-- OR (R64). -/
def execOr (q : EngId) (a : RArgs) (s : State) : Host.Outcome State Fault Refusal := .next (s.alu q (.or_ q a) a (fun a b => a ||| b))

/-- XOR (R64). -/
def execXor (q : EngId) (a : RArgs) (s : State) : Host.Outcome State Fault Refusal := .next (s.alu q (.xor q a) a (fun a b => a ^^^ b))

/-- SHL: shift left by rb[4:0] (R64). -/
def execShl (q : EngId) (a : RArgs) (s : State) : Host.Outcome State Fault Refusal := .next (s.alu q (.shl q a) a (fun a b => a <<< fld b 4 0))

/-- SHR: shift right by rb[4:0], filling with 0 (R64). -/
def execShr (q : EngId) (a : RArgs) (s : State) : Host.Outcome State Fault Refusal := .next (s.alu q (.shr q a) a (fun a b => a >>> fld b 4 0))

/-- SRA: shift right by rb[4:0], filling with the sign (R64). -/
def execSra (q : EngId) (a : RArgs) (s : State) : Host.Outcome State Fault Refusal := .next (s.alu q (.sra q a) a (fun a b => a.sshiftRight (fld b 4 0)))

/-- MUL: low 32 bits of the product (R64). -/
def execMul (q : EngId) (a : RArgs) (s : State) : Host.Outcome State Fault Refusal := .next (s.alu q (.mul q a) a (fun a b => a * b))

/-- MULH: high 32 bits of the signed product (R64). -/
def execMulh (q : EngId) (a : RArgs) (s : State) : Host.Outcome State Fault Refusal := .next (s.alu q (.mulh q a) a (fun a b => BitVec.ofInt 32 (a.toInt * b.toInt / 2 ^ 32)))

/-- MULHU: high 32 bits of the unsigned product (R64). -/
def execMulhu (q : EngId) (a : RArgs) (s : State) : Host.Outcome State Fault Refusal := .next (s.alu q (.mulhu q a) a (fun a b => BitVec.ofNat 32 (a.toNat * b.toNat / 2 ^ 32)))

/-- DIV: quotient rounded towards zero; 0xFFFF_FFFF for division by zero, -2³¹ for -2³¹ by -1 (R64). -/
def execDiv (q : EngId) (a : RArgs) (s : State) : Host.Outcome State Fault Refusal :=
  .next (s.alu q (.div q a) a
    (fun a b => if b = 0 then 0xFFFFFFFF else BitVec.ofInt 32 (a.toInt.tdiv b.toInt)))

/-- DIVU: unsigned quotient; 0xFFFF_FFFF for division by zero (R64). -/
def execDivu (q : EngId) (a : RArgs) (s : State) : Host.Outcome State Fault Refusal :=
  .next (s.alu q (.divu q a) a
    (fun a b => if b = 0 then 0xFFFFFFFF else BitVec.ofNat 32 (a.toNat / b.toNat)))

/-- REM: remainder with the sign of ra; ra for division by zero (R64). -/
def execRem (q : EngId) (a : RArgs) (s : State) : Host.Outcome State Fault Refusal :=
  .next (s.alu q (.rem q a) a
    (fun a b => if b = 0 then a else BitVec.ofInt 32 (a.toInt.tmod b.toInt)))

/-- REMU: unsigned remainder; ra for division by zero (R64). -/
def execRemu (q : EngId) (a : RArgs) (s : State) : Host.Outcome State Fault Refusal :=
  .next (s.alu q (.remu q a) a
    (fun a b => if b = 0 then a else BitVec.ofNat 32 (a.toNat % b.toNat)))

/-- MIN, signed (R64). -/
def execMin (q : EngId) (a : RArgs) (s : State) : Host.Outcome State Fault Refusal := .next (s.alu q (.min q a) a (fun a b => if a.toInt ≤ b.toInt then a else b))

/-- MAX, signed (R64). -/
def execMax (q : EngId) (a : RArgs) (s : State) : Host.Outcome State Fault Refusal := .next (s.alu q (.max q a) a (fun a b => if a.toInt ≤ b.toInt then b else a))

/-- MINU, unsigned (R64). -/
def execMinu (q : EngId) (a : RArgs) (s : State) : Host.Outcome State Fault Refusal := .next (s.alu q (.minu q a) a (fun a b => if a.toNat ≤ b.toNat then a else b))

/-- MAXU, unsigned (R64). -/
def execMaxu (q : EngId) (a : RArgs) (s : State) : Host.Outcome State Fault Refusal := .next (s.alu q (.maxu q a) a (fun a b => if a.toNat ≤ b.toNat then b else a))

/-- PCMP: equal (R64). -/
def execPcmpEq (q : EngId) (a : RArgs) (s : State) : Host.Outcome State Fault Refusal := .next (s.pcmp q (.pcmpEq q a) a condEq)

/-- PCMP: not equal (R64). -/
def execPcmpNe (q : EngId) (a : RArgs) (s : State) : Host.Outcome State Fault Refusal := .next (s.pcmp q (.pcmpNe q a) a condNe)

/-- PCMP: less, signed (R64). -/
def execPcmpLt (q : EngId) (a : RArgs) (s : State) : Host.Outcome State Fault Refusal := .next (s.pcmp q (.pcmpLt q a) a condLt)

/-- PCMP: greater or equal, signed (R64). -/
def execPcmpGe (q : EngId) (a : RArgs) (s : State) : Host.Outcome State Fault Refusal := .next (s.pcmp q (.pcmpGe q a) a condGe)

/-- PCMP: less, unsigned (R64). -/
def execPcmpLtu (q : EngId) (a : RArgs) (s : State) : Host.Outcome State Fault Refusal := .next (s.pcmp q (.pcmpLtu q a) a condLtu)

/-- PCMP: greater or equal, unsigned (R64). -/
def execPcmpGeu (q : EngId) (a : RArgs) (s : State) : Host.Outcome State Fault Refusal := .next (s.pcmp q (.pcmpGeu q a) a condGeu)

/-- ADDI: rd := ra + imm, sign-extended (R65). -/
def execAddi (q : EngId) (a : IArgs) (s : State) : Host.Outcome State Fault Refusal :=
  .next (s.aluI q (.addi q a) a (IArgs.immS a) true (fun a b => a + b))

/-- ANDI (R65). -/
def execAndi (q : EngId) (a : IArgs) (s : State) : Host.Outcome State Fault Refusal :=
  .next (s.aluI q (.andi q a) a (IArgs.immZ a) true (fun a b => a &&& b))

/-- ORI (R65). -/
def execOri (q : EngId) (a : IArgs) (s : State) : Host.Outcome State Fault Refusal :=
  .next (s.aluI q (.ori q a) a (IArgs.immZ a) true (fun a b => a ||| b))

/-- XORI (R65). -/
def execXori (q : EngId) (a : IArgs) (s : State) : Host.Outcome State Fault Refusal :=
  .next (s.aluI q (.xori q a) a (IArgs.immZ a) true (fun a b => a ^^^ b))

/-- SHLI (R65). -/
def execShli (q : EngId) (a : IArgs) (s : State) : Host.Outcome State Fault Refusal :=
  .next (s.aluI q (.shli q a) a (IArgs.immZ a) (IArgs.shiftLegal a) (fun a b => a <<< fld b 4 0))

/-- SHRI (R65). -/
def execShri (q : EngId) (a : IArgs) (s : State) : Host.Outcome State Fault Refusal :=
  .next (s.aluI q (.shri q a) a (IArgs.immZ a) (IArgs.shiftLegal a) (fun a b => a >>> fld b 4 0))

/-- SRAI (R65). -/
def execSrai (q : EngId) (a : IArgs) (s : State) : Host.Outcome State Fault Refusal :=
  .next (s.aluI q (.srai q a) a (IArgs.immZ a) (IArgs.shiftLegal a) (fun a b => a.sshiftRight (fld b 4 0)))

end Sys2Proof.Machine
end

