-- ==== Sys2Proof/Machine/Local.lean ====
section
/-! DEFINITION. The local memory instructions (R57, R66, R75). -/

namespace Sys2Proof.Machine

/-- A local access of n bytes: range, alignment and the interlock of R75, then the access. -/
def State.localAcc (s : State) (a : MArgs) (n : Nat) (c : Ctx) (act : Nat → State) : Res :=
  let addr := MArgs.addr a c
  if localBad addr n then .fault s causeLocalRange none addr
  else if addr % n ≠ 0 then .fault s causeAlign none addr
  else if c.interlocked addr n then .stall
  else .next (act addr)

/-- LD: sign-extended load (R66). -/
def execLd (q : EngId) (a : MArgs) (s : State) : Host.Outcome State Fault Refusal :=
  .next (s.instr q (insM (.ld q a) a (decide (a.sz ≠ 3))) (fun s c => s.localAcc a (MArgs.width a) c (fun addr =>
    s.putCtx q (c.setG a.rd.toNat (wordOfInt
      (signed (8 * MArgs.width a) (ofLe ((s.engOf q).bytes addr (MArgs.width a)))))))))

/-- LDU: zero-extended load (R66). -/
def execLdu (q : EngId) (a : MArgs) (s : State) : Host.Outcome State Fault Refusal :=
  .next (s.instr q (insM (.ldu q a) a (decide (a.sz ≠ 3))) (fun s c => s.localAcc a (MArgs.width a) c (fun addr =>
    s.putCtx q (c.setG a.rd.toNat (BitVec.ofNat 32 (ofLe ((s.engOf q).bytes addr (MArgs.width a))))))))

/-- ST: store the low bytes of rd (R66). -/
def execSt (q : EngId) (a : MArgs) (s : State) : Host.Outcome State Fault Refusal :=
  .next (s.instr q (insM (.st q a) a (decide (a.sz ≠ 3))) (fun s c => s.localAcc a (MArgs.width a) c (fun addr =>
    s.putEng q ((s.engOf q).setBytes addr (leBytes (MArgs.width a) (c.gr a.rd.toNat).toNat)))))

/-- VLD: v[rd] := 32 bytes (R66). -/
def execVld (q : EngId) (a : MArgs) (s : State) : Host.Outcome State Fault Refusal :=
  .next (s.instr q (insM (.vld q a) a (decide (a.sz = 0) && vreg a.rd)) (fun s c => s.localAcc a 32 c (fun addr =>
    s.putCtx q (c.setV a.rd.toNat (BitVec.ofNat 256 (ofLe ((s.engOf q).bytes addr 32)))))))

/-- VST: store v[rd] (R66). -/
def execVst (q : EngId) (a : MArgs) (s : State) : Host.Outcome State Fault Refusal :=
  .next (s.instr q (insM (.vst q a) a (decide (a.sz = 0) && vreg a.rd)) (fun s c => s.localAcc a 32 c (fun addr =>
    s.putEng q ((s.engOf q).setBytes addr (leBytes 32 (c.vr a.rd.toNat).toNat)))))

end Sys2Proof.Machine
end

