-- ==== Sys2Proof/Machine/Pace.lean ====
section
/-! DEFINITION. The management tick, AVS steering and the degradation ladder (R30-R35, R527-R529). -/

namespace Sys2Proof.Machine

/-! ### Readings (R30, R527) -/

/-- Store the readings of a tick in the sensors block. -/
def State.storeReadings (s : State) (t : TickReadings) : State :=
  let s1 := (List.range 64).foldl (fun s i =>
    s.wr (Reg.snsTemp i) (BitVec.ofNat 32 (2 ^ 31 + (t.temps.getD i 0).toNat))) s
  let s2 := (List.range 9).foldl (fun s r => s.wr (Reg.snsVmon r) (BitVec.ofNat 32 (t.vmons.getD r 0).toNat)) s1
  let s3 := (List.range 128).foldl (fun s m =>
    let p := t.pace.getD m 0
    s.wr (Reg.snsPace m) (BitVec.ofNat 32 (b2n p.msb * 2 ^ 31 + p.toNat))) s2
  s3.setB Reg.ladderSts 4 t.critical

/-- The least slack of a tick, in 0.1 %. -/
def tickSlack (t : TickReadings) : Int := (List.range 128).foldl (fun a m => min a (t.pace.getD m 0).toInt) 32767

/-- A sensor's temperature of a tick, in 1/16 °C. -/
def tickTemp (t : TickReadings) (i : Nat) : Int := (t.temps.getD i 0).toInt

/-! ### Thermal events (R529) -/

/-- What is noted of sensor i: bit 0, above warn; bit 1, above crit. -/
def State.noted (s : State) (i : Nat) : Nat := SMap.get (fun _ => 0) s.sys.hot i

/-- One threshold of a sensor: b is its bit. Rising above it raises the event, falling 2 °C below it raises it again with cleared set. -/
def State.thermal (s : State) (i b : Nat) (temp thr : Int) : State :=
  let n := s.noted i
  if decide (thr < temp) && !Nat.testBit n b then
    State.hostEvent { s with sys := { s.sys with hot := SMap.set (fun _ => 0) s.sys.hot i (n + 2 ^ b) } } 0x09 (b * 2 ^ 8 + i)
  else if decide (temp ≤ thr - 32) && Nat.testBit n b then
    State.hostEvent { s with sys := { s.sys with hot := SMap.set (fun _ => 0) s.sys.hot i (n - 2 ^ b) } } 0x09
      (2 ^ 9 + b * 2 ^ 8 + i)
  else s

/-- The signed thresholds of SNS_THERM. -/
def State.warn (s : State) : Int := signed 16 (s.getF Reg.snsTherm 15 0)
/-- The critical threshold. -/
def State.crit (s : State) : Int := signed 16 (s.getF Reg.snsTherm 31 16)

/-- The thermal events of a tick, and AVS_STS.hot. -/
def State.thermalTick (s : State) (t : TickReadings) : State :=
  let s1 := (List.range 64).foldl (fun s i => (s.thermal i 0 (tickTemp t i) s.warn).thermal i 1 (tickTemp t i) s.crit) s
  s1.setB Reg.avsSts 29 ((List.range 64).any (fun i => decide (s1.crit < tickTemp t i)))

/-! ### Steering (R30, R31, R528) -/

/-- Request a core voltage over AVSBus. -/
def State.requestMv (s : State) (mv : Nat) : State := (s.setF Reg.avsSts 15 0 mv).emit (.avs mv)

/-- The request a tick starts from: the last one, or before any the voltage read back, or else the boot voltage, which lies in 750-800 mV
(R531; log entry 47); moved to the nearer limit of the window. -/
def State.mvNow (s : State) (t : TickReadings) : Nat :=
  let mv := s.getF Reg.avsSts 15 0
  let v := if mv ≠ 0 then mv else match t.readback with | some r => r.toNat | none => 750 + s.fresh % 51
  max (s.getF Reg.avsCfg 15 0) (min v (s.getF Reg.avsCfg 31 16))

/-- Count ticks in which the read-back is more than 20 mV off, or the bus fails (R528). -/
def State.countFaults (s : State) (t : TickReadings) : State :=
  let mv := s.getF Reg.avsSts 15 0
  let off := match t.readback with
    | some r => decide (mv ≠ 0) && (decide (mv + 20 < r.toNat) || decide (r.toNat + 20 < mv))
    | none => false
  { s with sys := { s.sys with
      mismatchTicks := if off then s.sys.mismatchTicks + 1 else 0
      busTicks := if t.readback.isNone then s.sys.busTicks + 1 else 0 } }

/-- Has steering to stop (R528)? -/
def State.avsFaultDue (s : State) : Bool := decide (3 ≤ s.sys.mismatchTicks) || decide (3 ≤ s.sys.busTicks)

/-- The tick's steering: up by 10 mV when slack is below lo, unless a sensor is above crit; the count of ticks above hi. The step down is
AVS_STEER_DOWN. -/
def State.steer (s : State) (t : TickReadings) : State :=
  let v := s.mvNow t
  let vmax := s.getF Reg.avsCfg 31 16
  let lo : Int := s.getF Reg.avsThr 7 0 * 10
  let hi : Int := s.getF Reg.avsThr 15 8 * 10
  let up := decide (tickSlack t < lo) && decide (v < vmax)
  let v' := if up && !s.flag Reg.avsSts 29 then min (v + 10) vmax else v
  let s1 := { s.bumpFree with sys := { s.sys with upHold := if !up && decide (hi < tickSlack t) then s.sys.upHold + 1 else 0 } }
  (s1.requestMv v').setB Reg.avsSts 30 (decide (v' = vmax) && decide (tickSlack t < lo))

/-- Note for the ladder's ascent since when slack has been at or above lo on every monitor (R33). -/
def State.noteSlack (s : State) (t : TickReadings) : State :=
  let low := decide (tickSlack t < (s.getF Reg.avsThr 7 0 * 10 : Nat))
  { s with sys := { s.sys with
      slackOkSince := if s.sys.slackLow && !low then s.now else s.sys.slackOkSince
      slackLow := low } }

/-- One management tick of the Spine, 1 ms after the last (R30). -/
def State.managementTick (s : State) (t : TickReadings) : State :=
  if !s.sys.spineUp || decide (s.now < s.sys.spineTick + 1000000) then s
  else
    let s1 := ((((s.storeReadings t).thermalTick t).noteSlack t).countFaults t)
    let s2 := { s1 with sys := { s1.sys with spineTick := s1.now } }
    if s2.flag Reg.avsSts 31 || s2.avsFaultDue then s2 else s2.steer t

/-- MANAGEMENT_TICK (R30, R31, R527-R529). -/
def execManagementTick (t : TickReadings) (s : State) : Host.Outcome State Fault Refusal := .next (s.managementTick t)

/-- The step down of R31, once 64 ticks have had slack above hi. -/
def State.steerDown (s : State) : State :=
  let v := s.getF Reg.avsSts 15 0
  let vmin := s.getF Reg.avsCfg 15 0
  if !s.sys.spineUp || s.flag Reg.avsSts 31 || s.avsFaultDue || decide (s.sys.upHold < 64) || decide (v ≤ vmin) then s
  else (State.requestMv { s with sys := { s.sys with upHold := 0 } } (max (v - 5) vmin)).setB Reg.avsSts 30 false

/-- AVS_STEER_DOWN (R31). -/
def execAvsSteerDown (s : State) : Host.Outcome State Fault Refusal := .next s.steerDown

/-- AVS_FAULT (R528): steering stops and event 0x0A carries the last request. -/
def execAvsFault (s : State) : Host.Outcome State Fault Refusal :=
  .next (if s.avsFaultDue && !s.flag Reg.avsSts 31 then
    (s.setB Reg.avsSts 31 true).hostEvent 0x0A (s.getF Reg.avsSts 15 0) else s)

/-! ### The ladder (R33-R35) -/

/-- Move to a step: gathering 0's event source and the host event. -/
def State.ladderTo (s : State) (step : Nat) : State :=
  ((s.setF Reg.ladderSts 3 0 step).evcSet 0 418).hostEvent 0x01 (s.getF Reg.ladderSts 4 4 * 16 + step)

/-- LADDER_DESCEND (R33): no faster than one step per 16 slices of sheet 0. -/
def execLadderDescend (_mon : Fin 128) (s : State) : Host.Outcome State Fault Refusal :=
  let step := s.getF Reg.ladderSts 3 0
  let s1 := { s with sys := { s.sys with slackLow := true } }
  .next (if step < 5 ∧ 16 ≤ s.sys.ladderSlices then
    (State.addSat { s1 with sys := { s1.sys with ladderSlices := 0 } } Reg.ladderSts 23 8 1).ladderTo (step + 1)
  else s1)

/-- LADDER_ASCEND (R33): slack at or above lo on every monitor for 2 s, and 2 s since the last ascent. -/
def execLadderAscend (s : State) : Host.Outcome State Fault Refusal :=
  let step := s.getF Reg.ladderSts 3 0
  let t := 2000000000
  .next (if 0 < step ∧ !s.sys.slackLow ∧ s.sys.slackOkSince + t ≤ s.now ∧ s.sys.ladderUpAt + t ≤ s.now then
    State.ladderTo { s with sys := { s.sys with ladderUpAt := s.now } } (step - 1)
  else s)

end Sys2Proof.Machine
end

