-- ==== Sys2Proof/Machine/System.lean ====
section
/-! DEFINITION. Device reset, boot, the watchdog, and what stops the Spine or Clasp (R495, R530-R541, R573). -/

namespace Sys2Proof.Machine

/-! ### Device reset (R532) -/

/-- What survives a device reset: the fuses (R497, Keys), the flash, the level of TWIN_ACT_IN_N, and the model's own queue, output record
and counters. Everything else is as right after reset; the claim is released by the output's high impedance (R550). -/
def State.deviceReset (s : State) : State :=
  let c := s.clasp
  let s1 := { State.reset with
    pending := s.pending
    outbox := if s.claimed then .twinOut false :: s.outbox else s.outbox
    free := s.free
    hbmGen := s.hbmGen + 1
    sys := { Sys.reset with flash := s.sys.flash }
    clasp := { Clasp.reset with
      fusedClaimed := c.fusedClaimed, gen := c.gen, minClasp := c.minClasp, minSpine := c.minSpine
      raisesClasp := c.raisesClasp, raisesSpine := c.raisesSpine } }
  (s1.setB Reg.sysTwinSts 31 s.twinIn).showCls

/-- RAIL_INVALID (R532). -/
def execRailInvalid (_r : Fin 9) (s : State) : Host.Outcome State Fault Refusal := .next s.deviceReset

/-- SYS_RESET_ASSERT (R532). -/
def execSysResetAssert (s : State) : Host.Outcome State Fault Refusal := .next s.deviceReset

/-- TEST_EN_HIGH (R573). -/
def execTestEnHigh (s : State) : Host.Outcome State Fault Refusal := .next s.deviceReset

/-- Sheet store granules of the Spine and of the host boot area (R535). -/
def spineGranules : List Nat := (List.range 64).map (· + 0x3C0)
/-- The host boot area's granules. -/
def hostGranules : List Nat := (List.range 64).map (· + 0x380)

/-- Clasp's boot ROM, stage 0 (R495, R535): the nonce and the HBM keys are drawn, the Spine's granules assigned, with BOOT_SRC high the host boot
area opened to the host, and every pseudo-channel trained. -/
def State.claspStage0 (s : State) : State :=
  let host := s.flag Reg.sysStrap 0
  let nonce := Config.random s.free 8
  let s1 := (s.wr (Reg.clsNonce 0) (BitVec.ofNat 32 (leAt nonce 0 4))).wr (Reg.clsNonce 1) (BitVec.ofNat 32 (leAt nonce 4 4))
  let s2 := { s1.bumpFree with
    hbmGen := s1.hbmGen + 1
    clasp := { s1.clasp with vendorGranules := if host then hostGranules ++ spineGranules else spineGranules } }
  let s3 := if host then hostGranules.foldl (fun s i => s.domainWrite false i 0 0xC) s2 else s2
  let s4 := (List.range 64).foldl (fun s p => s.setB (Reg.hbmPcSts p) 31 true) s3
  s4.setF Reg.sysBoot 31 28 (if host then 2 else 1)

/-- DEVICE_RESET_END (R532-R535): 2 ms after the last rail is valid and SYS_RESET_N is released; TEST_EN high holds the reset (R573). -/
def execDeviceResetEnd (st : Straps) (s : State) : Host.Outcome State Fault Refusal :=
  .next (if s.sys.inReset && !st.testEn then
    let s1 := { s with sys := { s.sys with inReset := false } }
    (s1.wr Reg.sysStrap (BitVec.ofNat 32 (b2n st.twinPrio * 4 + b2n st.svcMode * 2 + b2n st.bootSrc))).claspStage0
  else s)

/-! ### Boot directories and images (R495, R536-R538) -/

/-- Bytes of the boot source: the flash, or the host boot area. -/
def State.bootBytes (s : State) (host : Bool) (off n : Nat) : List Byte :=
  (List.range n).map (fun i => if host then s.ssByte (0x380 * 0x10000 + off + i) else s.flashAt (off + i))

/-- Bytes the boot source holds. -/
def bootSize (host : Bool) : Nat := if host then 64 * 0x10000 else Config.flashSize

/-- Is a directory valid (R537): magic, reserved bytes, CRC, every image within the source? -/
def dirValid (host : Bool) (d : List Byte) : Bool :=
  let fits := fun i => decide (leAt d i 4 + leAt d (i + 4) 4 ≤ bootSize host)
  decide (d.take 4 = ascii "CWBD") && zeroBytes d 32 28 && decide (leAt d 60 4 = crc32c (d.take 60)) && fits 8 && fits 16 && fits 24

/-- An image's header, signature and payload (R495). -/
structure Image where
  head : List Byte
  sig : List Byte
  payload : List Byte
deriving DecidableEq, Repr

/-- The image a directory's field at i names: absent when its header does not fit, is of another kind, has reserved bytes in use, or
states a payload that does not fit (log entry 52). -/
def State.imageAt (s : State) (host : Bool) (d : List Byte) (i kind : Nat) : Option Image :=
  let off := leAt d i 4
  let len := leAt d (i + 4) 4
  let h := s.bootBytes host off 160
  let n := leAt h 16 4
  if len < 256 + n ∨ leAt h 0 4 ≠ kind ∨ !zeroBytes h 9 7 ∨ !zeroBytes h 68 92 then none
  else some ⟨h, s.bootBytes host (off + 160) 96, s.bootBytes host (off + 256) n⟩

/-- An image's version. -/
def Image.version (m : Image) : Nat := leAt m.head 4 4
/-- The SHA-384 its header states. -/
def Image.hash (m : Image) : List Byte := (m.head.drop 20).take 48

/-- What is wrong with an image, coded as CLS_STS.error: 0 nothing. -/
def imageErr (m : Option Image) (least : Nat) : Nat :=
  match m with
  | none => 1
  | some i =>
    if !Config.ecdsaVerify Config.vendorRoot (Config.sha384 i.head) i.sig || decide (Config.sha384 i.payload ≠ i.hash) then 2
    else if i.version < least then 3
    else 0

/-- The Clasp and the Spine image of a directory. -/
def State.claspImage (s : State) (host : Bool) (d : List Byte) : Option Image := s.imageAt host d 8 1
/-- The Spine image. -/
def State.spineImage (s : State) (host : Bool) (d : List Byte) : Option Image := s.imageAt host d 16 2

/-- The flash directories in the order R537 tries them, each with its SYS_BOOT.dir code. -/
def State.flashDirs (s : State) : List (Nat × List Byte) :=
  let a := s.bootBytes false 0 64
  let b := s.bootBytes false 0x1000 64
  let da := if dirValid false a then [(1, a)] else []
  let db := if dirValid false b then [(2, b)] else []
  if leAt a 4 4 < leAt b 4 4 then db ++ da else da ++ db

/-- Does a flash boot, or a boot from the host boot area? -/
def State.hostBoot (s : State) : Bool := s.flag Reg.sysStrap 0

/-- The boot fails (R495): CLS_STS.stage 0x7 with the error of the first directory tried. -/
def State.bootFail (s : State) (err : Nat) : State :=
  ((s.setF Reg.clsSts 31 29 7).setF Reg.clsSts 23 16 err).setF Reg.sysBoot 31 28 0xF

/-- Raise the fused minimum of Clasp firmware to an image's version, within 32 steps. -/
def State.raiseClasp (s : State) (i : Image) : State :=
  if byteAt i.head 8 = 1 ∧ s.clasp.minClasp < i.version ∧ s.clasp.raisesClasp < 32 then
    { s with clasp := { s.clasp with minClasp := i.version, raisesClasp := s.clasp.raisesClasp + 1 } }
  else s

/-- The same for Spine firmware. -/
def State.raiseSpine (s : State) (i : Image) : State :=
  if byteAt i.head 8 = 1 ∧ s.clasp.minSpine < i.version ∧ s.clasp.raisesSpine < 32 then
    { s with clasp := { s.clasp with minSpine := i.version, raisesSpine := s.clasp.raisesSpine + 1 } }
  else s

/-- A directory comes into use; the other one failed when `again` is set (R537, R558). -/
def State.useDir (s : State) (code : Nat) (d : List Byte) (again : Bool) : State :=
  let s1 := State.setF { s with sys := { s.sys with bootDir := d } } Reg.sysBoot 27 26 code
  if again then (s1.setB Reg.sysBoot 25 true).hostEvent 0x13 code else s1

/-- Clasp firmware of an image runs: stage 1, its version, and the secure mailbox channels 32-36 (R490, Commands). -/
def State.runClasp (s : State) (i : Image) : State :=
  let s1 := s.raiseClasp i
  let s2 := { s1 with clasp := { s1.clasp with claspHash := i.hash } }
  let cfg := fun (a b : Nat) => (BitVec.ofNat 32 (a * 2 ^ 28 + b * 2 ^ 24 + 1) : Word)
  ((((((((s2.setF Reg.clsVer 15 0 i.version).setF Reg.clsSts 31 29 1).setF Reg.sysBoot 31 28 3).wr (Reg.mbxCfg 32) (cfg 1 3)).wr
    (Reg.mbxCfg 33) (cfg 3 1)).wr (Reg.mbxCfg 34) (cfg 2 3)).wr (Reg.mbxCfg 35) (cfg 3 2)).wr (Reg.mbxCfg 36) (cfg 3 1))

/-- Try the Clasp images of the directories left, in order. -/
def State.tryClasp (s : State) (host again : Bool) : List (Nat × List Byte) → State
  | [] => s.bootFail (if s.sys.bootErr = 0 then 1 else s.sys.bootErr)
  | (code, d) :: ds =>
    let i := s.claspImage host d
    let e := imageErr i s.clasp.minClasp
    match i, e with
    | some m, 0 => (s.useDir code d again).runClasp m
    | _, _ =>
      State.tryClasp { s with sys := { s.sys with bootErr := if s.sys.bootErr = 0 then e else s.sys.bootErr } } host true ds

/-- CLASP_IMAGE_CHECK (R495 stage 1, R537). -/
def execClaspImageCheck (s : State) : Host.Outcome State Fault Refusal :=
  .next (if s.clasp.alive && decide (s.getF Reg.sysBoot 31 28 = 1) then
    s.tryClasp s.hostBoot false (if s.hostBoot then [(3, s.sys.bootDir)] else s.flashDirs)
  else s)

/-- The Spine's firmware is placed and the Spine released: stage 2; the host boot area goes back to the reset state of the map, zeroed (R538). -/
def State.placeSpine (s : State) (i : Image) : State :=
  let s1 := s.raiseSpine i
  let s2 := { s1 with
    ss := SMap.setList (fun _ => (0 : Byte)) s1.ss (0x3C0 * 0x10000) i.payload
    clasp := { s1.clasp with
      spineHash := i.hash, spineVersion := i.version, spineLen := i.payload.length, vendorGranules := spineGranules } }
  let s3 := if s.hostBoot then hostGranules.foldl (fun s g => s.wr (Reg.memDomSs g) 0x10) s2 else s2
  (s3.setF Reg.clsSts 31 29 2).setF Reg.sysBoot 31 28 4

/-- The other flash directory, if it is valid and has not been tried. -/
def State.otherDir (s : State) : Option (Nat × List Byte) :=
  if s.hostBoot || s.flag Reg.sysBoot 25 then none else s.flashDirs.find? (fun p => p.1 != s.getF Reg.sysBoot 27 26)

/-- SPINE_RELEASE (R495 stage 2, R535, R537): the Spine image of the directory in use, or both images of the other one, which restarts Clasp (R135). -/
def State.spineRelease (s : State) : State :=
  let i := s.spineImage s.hostBoot s.sys.bootDir
  let e := imageErr i s.clasp.minSpine
  match i, e with
  | some m, 0 => s.placeSpine m
  | _, _ =>
    let err := if s.sys.bootErr = 0 then e else s.sys.bootErr
    match s.otherDir with
    | none => s.bootFail err
    | some (code, d) =>
      match s.claspImage false d, s.spineImage false d with
      | some c, some m =>
        if imageErr (some c) s.clasp.minClasp = 0 ∧ imageErr (some m) s.clasp.minSpine = 0 then
          (((s.useDir code d true).mbxReset ⟨3, 0⟩).runClasp c).placeSpine m
        else s.bootFail err
      | _, _ => s.bootFail err

/-- SPINE_RELEASE. -/
def execSpineRelease (s : State) : Host.Outcome State Fault Refusal :=
  .next (if s.clasp.alive && decide (s.getF Reg.sysBoot 31 28 = 3) then s.spineRelease else s)

/-- SPINE_READY (R535 step 5, R540): remap is set, commands are accepted; a host command the Spine stopped in completes with STATE. -/
def execSpineReady (s : State) : Host.Outcome State Fault Refusal :=
  .next (if s.getF Reg.sysBoot 31 28 = 4 then
    let s1 := State.setF { (s.setB Reg.sysMap 0 true) with
      sys := { s.sys with spineUp := true, spineTick := s.now }
      hif := { s.hif with running := none } } Reg.sysBoot 31 28 5
    match s.hif.running with
    | some (q, id) => s1.complCmd q id 4 none
    | none => s1
  else s)

/-- BOOT_DIR_POLL (R538): once a millisecond. -/
def execBootDirPoll (s : State) : Host.Outcome State Fault Refusal :=
  .next (
    let d := s.bootBytes true 0 64
    if s.clasp.alive && decide (s.getF Reg.sysBoot 31 28 = 2) && decide (s.sys.polledAt + msNs ≤ s.now) then
      let s1 := { s with sys := { s.sys with polledAt := s.now } }
      if dirValid true d then State.setF { s1 with sys := { s1.sys with bootDir := d } } Reg.sysBoot 31 28 1 else s1
    else s)

/-! ### Watchdog and stops (R540) -/

/-- Does the Spine image placed at boot still have its hash? -/
def State.spineIntact (s : State) : Bool :=
  decide (Config.sha384 ((List.range s.clasp.spineLen).map (fun i => s.ssByte (0x3C0 * 0x10000 + i))) = s.clasp.spineHash)

/-- WATCHDOG_EXPIRY: the tick has been absent for 50 ms. Clasp checks the Spine image again; a bad one fails as at boot (R495). -/
def execWatchdogExpiry (s : State) : Host.Outcome State Fault Refusal :=
  .next (if s.getF Reg.sysBoot 31 28 = 5 ∧ !s.sys.spineUp ∧ s.sys.spineTick + 50 * msNs ≤ s.now then
    let s1 := ((s.addSat Reg.sysBoot 23 16 1).setF Reg.sysBoot 31 28 4).mbxReset ⟨2, 0⟩
    let s2 := s1.sendOwed.hostEvent 0x15 (s1.getF Reg.sysBoot 23 16)
    if s.spineIntact then s2 else s2.bootFail 2
  else s)

/-- SPINE_STOP: management pauses. A command in execution has been fetched (R510) and completes only after the restart. -/
def execSpineStop (cmd : Option (Fin 64 × BitVec 16)) (s : State) : Host.Outcome State Fault Refusal :=
  .next (if s.sys.spineUp then
    let s1 := { s with sys := { s.sys with spineUp := false, spineTick := s.now } }
    match cmd with
    | some (q, id) =>
      if s.mayFetch q.val then { s1.fetched q.val with hif := { (s1.fetched q.val).hif with running := some (q.val, id.toNat) } }
      else s1
    | none => s1
  else s)

/-- CLASP_STOP: keys already loaded stay in use; commands wait until the next device reset. -/
def execClaspStop (s : State) : Host.Outcome State Fault Refusal := .next { s with clasp := { s.clasp with alive := false } }

end Sys2Proof.Machine
end

