-- ==== Sys2Proof/Machine/Vector.lean ====
section
/-! DEFINITION. The vector instructions (R69, R70). -/

namespace Sys2Proof.Machine

/-- Lane by lane: v[rd] := f of the lanes of v[ra] and v[rb] (R69). -/
def State.vec (s : State) (q : EngId) (i : Instr) (a : VArgs) (legal : Bool) (f : Nat → Int → Int → Int) : State :=
  let w := VArgs.width a
  s.instr q (insV i a (vreg a.rd && vreg a.ra && vreg a.rb && legal)) (fun s c =>
    let x := c.vr a.ra.toNat
    let y := c.vr a.rb.toNat
    .next (s.putCtx q (c.setV a.rd.toNat (ofLanes w (fun i => f w (laneS w x i) (laneS w y i))))))

/-- The Q-format product of two lanes, rounded: (a × b + 2^(w-2)) >> (w - 1) (R69). -/
def qProduct (w : Nat) (a b : Int) : Int := (a * b + 2 ^ (w - 2)) / 2 ^ (w - 1)

/-- A shift of every lane by lane 0 of v[rb] modulo w (R69). -/
def State.vshift (s : State) (q : EngId) (i : Instr) (a : VArgs) (f : Nat → Int → Int) : State :=
  let w := VArgs.width a
  s.instr q (insV i a (vreg a.rd && vreg a.ra && vreg a.rb)) (fun s c =>
    let x := c.vr a.ra.toNat
    let n := laneU w (c.vr a.rb.toNat) 0 % w
    .next (s.putCtx q (c.setV a.rd.toNat (ofLanes w (fun i => f n (laneS w x i))))))

/-- Bitwise over the whole register (R69). -/
def State.vbit (s : State) (q : EngId) (i : Instr) (a : VArgs) (f : BitVec 256 → BitVec 256 → BitVec 256) : State :=
  s.instr q (insV i a (vreg a.rd && vreg a.ra && vreg a.rb)) (fun s c =>
    .next (s.putCtx q (c.setV a.rd.toNat (f (c.vr a.ra.toNat) (c.vr a.rb.toNat)))))

/-- VADD: wrap (R69). -/
def execVadd (q : EngId) (a : VArgs) (s : State) : Host.Outcome State Fault Refusal := .next (s.vec q (.vadd q a) a true (fun _ a b => a + b))

/-- VSUB: wrap (R69). -/
def execVsub (q : EngId) (a : VArgs) (s : State) : Host.Outcome State Fault Refusal := .next (s.vec q (.vsub q a) a true (fun _ a b => a - b))

/-- VADDS: saturate (R69). -/
def execVadds (q : EngId) (a : VArgs) (s : State) : Host.Outcome State Fault Refusal := .next (s.vec q (.vadds q a) a true (fun w a b => sat w (a + b)))

/-- VSUBS: saturate (R69). -/
def execVsubs (q : EngId) (a : VArgs) (s : State) : Host.Outcome State Fault Refusal := .next (s.vec q (.vsubs q a) a true (fun w a b => sat w (a - b)))

/-- VMUL: low w bits (R69). -/
def execVmul (q : EngId) (a : VArgs) (s : State) : Host.Outcome State Fault Refusal := .next (s.vec q (.vmul q a) a true (fun _ a b => a * b))

/-- VMULQ (R69). -/
def execVmulq (q : EngId) (a : VArgs) (s : State) : Host.Outcome State Fault Refusal := .next (s.vec q (.vmulq q a) a true (fun w a b => sat w (qProduct w a b)))

/-- VMIN: signed (R69). -/
def execVmin (q : EngId) (a : VArgs) (s : State) : Host.Outcome State Fault Refusal := .next (s.vec q (.vmin q a) a true (fun _ a b => if a ≤ b then a else b))

/-- VMAX: signed (R69). -/
def execVmax (q : EngId) (a : VArgs) (s : State) : Host.Outcome State Fault Refusal := .next (s.vec q (.vmax q a) a true (fun _ a b => if a ≤ b then b else a))

/-- VABS: rb must be 0 (R69). -/
def execVabs (q : EngId) (a : VArgs) (s : State) : Host.Outcome State Fault Refusal := .next (s.vec q (.vabs q a) a (decide (a.rb = 0)) (fun w a _ => sat w (if a < 0 then -a else a)))

/-- VMAC: d := sat(d + the Q-format product) (R69). -/
def execVmac (q : EngId) (a : VArgs) (s : State) : Host.Outcome State Fault Refusal :=
  let w := VArgs.width a
  .next (s.instr q (insV (.vmac q a) a (vreg a.rd && vreg a.ra && vreg a.rb)) (fun s c =>
    let x := c.vr a.ra.toNat
    let y := c.vr a.rb.toNat
    let d := c.vr a.rd.toNat
    .next (s.putCtx q (c.setV a.rd.toNat
      (ofLanes w (fun i => sat w (laneS w d i + qProduct w (laneS w x i) (laneS w y i))))))))

/-- VSHL (R69). -/
def execVshl (q : EngId) (a : VArgs) (s : State) : Host.Outcome State Fault Refusal := .next (s.vshift q (.vshl q a) a (fun n x => x * 2 ^ n))

/-- VSRA: rounding arithmetic shift right (R69). -/
def execVsra (q : EngId) (a : VArgs) (s : State) : Host.Outcome State Fault Refusal :=
  .next (s.vshift q (.vsra q a) a (fun n x => if n = 0 then x else (x + 2 ^ (n - 1)) / 2 ^ n))

/-- VAND (R69). -/
def execVand (q : EngId) (a : VArgs) (s : State) : Host.Outcome State Fault Refusal := .next (s.vbit q (.vand q a) a (fun x y => x &&& y))

/-- VOR (R69). -/
def execVor (q : EngId) (a : VArgs) (s : State) : Host.Outcome State Fault Refusal := .next (s.vbit q (.vor q a) a (fun x y => x ||| y))

/-- VXOR (R69). -/
def execVxor (q : EngId) (a : VArgs) (s : State) : Host.Outcome State Fault Refusal := .next (s.vbit q (.vxor q a) a (fun x y => x ^^^ y))

/-- VSPLAT: every lane of v[rd] := low w bits of g[ra] (R70). DESIGN CHOICE (log entry 163): rb, which the instruction does not use, is not checked. -/
def execVsplat (q : EngId) (a : VArgs) (s : State) : Host.Outcome State Fault Refusal :=
  .next (s.instr q (insV (.vsplat q a) a (vreg a.rd)) (fun s c =>
    .next (s.putCtx q (c.setV a.rd.toNat (ofLanes (VArgs.width a) (fun _ => (c.gr a.ra.toNat).toNat))))))

/-- Lane number named by g[rb] (R70). -/
def VArgs.lane (a : VArgs) (c : Ctx) : Nat := (c.gr a.rb.toNat).toNat % (256 / VArgs.width a)

/-- VEXT: g[rd] := the sign-extended lane of v[ra] (R70). -/
def execVext (q : EngId) (a : VArgs) (s : State) : Host.Outcome State Fault Refusal :=
  .next (s.instr q (insV (.vext q a) a (vreg a.ra)) (fun s c =>
    .next (s.putCtx q (c.setG a.rd.toNat (wordOfInt (laneS (VArgs.width a) (c.vr a.ra.toNat) (VArgs.lane a c)))))))

/-- VINS: the lane of v[rd] := low w bits of g[ra] (R70). -/
def execVins (q : EngId) (a : VArgs) (s : State) : Host.Outcome State Fault Refusal :=
  let w := VArgs.width a
  .next (s.instr q (insV (.vins q a) a (vreg a.rd)) (fun s c =>
    let d := c.vr a.rd.toNat
    .next (s.putCtx q (c.setV a.rd.toNat
      (ofLanes w (fun i => if i = VArgs.lane a c then ((c.gr a.ra.toNat).toNat : Int) else laneS w d i))))))

/-- VSUM: g[rd] := the sum of the sign-extended lanes of v[ra] (R70). DESIGN CHOICE (log entry 163): rb, which the instruction does not use, is not checked. -/
def execVsum (q : EngId) (a : VArgs) (s : State) : Host.Outcome State Fault Refusal :=
  let w := VArgs.width a
  .next (s.instr q (insV (.vsum q a) a (vreg a.ra)) (fun s c =>
    let x := c.vr a.ra.toNat
    .next (s.putCtx q (c.setG a.rd.toNat
      (wordOfInt ((List.range (256 / w)).foldl (fun n i => n + laneS w x i) 0))))))

/-- VMOV (R70). DESIGN CHOICE (log entry 163): rb, which the instruction does not use, is not checked. -/
def execVmov (q : EngId) (a : VArgs) (s : State) : Host.Outcome State Fault Refusal :=
  .next (s.instr q (insV (.vmov q a) a (vreg a.rd && vreg a.ra)) (fun s c => .next (s.putCtx q (c.setV a.rd.toNat (c.vr a.ra.toNat)))))

end Sys2Proof.Machine
end

