-- ==== Sys2Proof/Machine/Dispatch.lean ====
section
/-! DEFINITION. The dispatch of commands to their meanings: one arm per constructor. -/

namespace Sys2Proof.Machine
open Sys2Proof

def exec (i : Instr) (s : State) : Host.Outcome State Fault Refusal :=
  match i with
  | .registerWrite ini off v => Sys2Proof.Machine.execRegisterWrite ini off v s
  | .commit ini u v => Sys2Proof.Machine.execCommit ini u v s
  | .commitPoint u grp => Sys2Proof.Machine.execCommitPoint u grp s
  | .linkTimeout link u also => Sys2Proof.Machine.execLinkTimeout link u also s
  | .idleCommit u grp => Sys2Proof.Machine.execIdleCommit u grp s
  | .managementTick t => Sys2Proof.Machine.execManagementTick t s
  | .avsSteerDown => Sys2Proof.Machine.execAvsSteerDown s
  | .avsFault => Sys2Proof.Machine.execAvsFault s
  | .ladderDescend mon => Sys2Proof.Machine.execLadderDescend mon s
  | .ladderAscend => Sys2Proof.Machine.execLadderAscend s
  | .lineArrival ix line => Sys2Proof.Machine.execLineArrival ix line s
  | .frameBoundary k => Sys2Proof.Machine.execFrameBoundary k s
  | .composeSlice k b slice => Sys2Proof.Machine.execComposeSlice k b slice s
  | .sliceLatestStart k slice => Sys2Proof.Machine.execSliceLatestStart k slice s
  | .couchCmForcedClear ini r v => Sys2Proof.Machine.execCouchCmForcedClear ini r v s
  | .formFolioRow cy => Sys2Proof.Machine.execFormFolioRow cy s
  | .codeSegment ch rx => Sys2Proof.Machine.execCodeSegment ch rx s
  | .pictureBoundary c => Sys2Proof.Machine.execPictureBoundary c s
  | .codePortion b => Sys2Proof.Machine.execCodePortion b s
  | .accessUnitDecode c => Sys2Proof.Machine.execAccessUnitDecode c s
  | .trunkSegmentDecode c => Sys2Proof.Machine.execTrunkSegmentDecode c s
  | .sendPacket ch => Sys2Proof.Machine.execSendPacket ch s
  | .qeEnableWrite ini q v => Sys2Proof.Machine.execQeEnableWrite ini q v s
  | .interruptEntry q => Sys2Proof.Machine.execInterruptEntry q s
  | .add q a => Sys2Proof.Machine.execAdd q a s
  | .sub q a => Sys2Proof.Machine.execSub q a s
  | .and_ q a => Sys2Proof.Machine.execAnd q a s
  | .or_ q a => Sys2Proof.Machine.execOr q a s
  | .xor q a => Sys2Proof.Machine.execXor q a s
  | .shl q a => Sys2Proof.Machine.execShl q a s
  | .shr q a => Sys2Proof.Machine.execShr q a s
  | .sra q a => Sys2Proof.Machine.execSra q a s
  | .mul q a => Sys2Proof.Machine.execMul q a s
  | .mulh q a => Sys2Proof.Machine.execMulh q a s
  | .mulhu q a => Sys2Proof.Machine.execMulhu q a s
  | .div q a => Sys2Proof.Machine.execDiv q a s
  | .divu q a => Sys2Proof.Machine.execDivu q a s
  | .rem q a => Sys2Proof.Machine.execRem q a s
  | .remu q a => Sys2Proof.Machine.execRemu q a s
  | .min q a => Sys2Proof.Machine.execMin q a s
  | .max q a => Sys2Proof.Machine.execMax q a s
  | .minu q a => Sys2Proof.Machine.execMinu q a s
  | .maxu q a => Sys2Proof.Machine.execMaxu q a s
  | .pcmpEq q a => Sys2Proof.Machine.execPcmpEq q a s
  | .pcmpNe q a => Sys2Proof.Machine.execPcmpNe q a s
  | .pcmpLt q a => Sys2Proof.Machine.execPcmpLt q a s
  | .pcmpGe q a => Sys2Proof.Machine.execPcmpGe q a s
  | .pcmpLtu q a => Sys2Proof.Machine.execPcmpLtu q a s
  | .pcmpGeu q a => Sys2Proof.Machine.execPcmpGeu q a s
  | .addi q a => Sys2Proof.Machine.execAddi q a s
  | .andi q a => Sys2Proof.Machine.execAndi q a s
  | .ori q a => Sys2Proof.Machine.execOri q a s
  | .xori q a => Sys2Proof.Machine.execXori q a s
  | .shli q a => Sys2Proof.Machine.execShli q a s
  | .shri q a => Sys2Proof.Machine.execShri q a s
  | .srai q a => Sys2Proof.Machine.execSrai q a s
  | .ld q a => Sys2Proof.Machine.execLd q a s
  | .ldu q a => Sys2Proof.Machine.execLdu q a s
  | .st q a => Sys2Proof.Machine.execSt q a s
  | .vld q a => Sys2Proof.Machine.execVld q a s
  | .vst q a => Sys2Proof.Machine.execVst q a s
  | .fld q a => Sys2Proof.Machine.execFld q a s
  | .fst q a => Sys2Proof.Machine.execFst q a s
  | .farComplete q urgent slot => Sys2Proof.Machine.execFarComplete q urgent slot s
  | .fwait q a => Sys2Proof.Machine.execFwait q a s
  | .amoadd q a => Sys2Proof.Machine.execAmoadd q a s
  | .amoswap q a => Sys2Proof.Machine.execAmoswap q a s
  | .amocas q a => Sys2Proof.Machine.execAmocas q a s
  | .amomin q a => Sys2Proof.Machine.execAmomin q a s
  | .amomax q a => Sys2Proof.Machine.execAmomax q a s
  | .ifill q a => Sys2Proof.Machine.execIfill q a s
  | .ifillComplete q urgent slot => Sys2Proof.Machine.execIfillComplete q urgent slot s
  | .br q a => Sys2Proof.Machine.execBr q a s
  | .call q a => Sys2Proof.Machine.execCall q a s
  | .jr q a => Sys2Proof.Machine.execJr q a s
  | .ucall q a => Sys2Proof.Machine.execUcall q a s
  | .fold q a => Sys2Proof.Machine.execFold q a s
  | .tready q a => Sys2Proof.Machine.execTready q a s
  | .tcancel q a => Sys2Proof.Machine.execTcancel q a s
  | .tdone q a => Sys2Proof.Machine.execTdone q a s
  | .tyield q a => Sys2Proof.Machine.execTyield q a s
  | .tself q a => Sys2Proof.Machine.execTself q a s
  | .ewait q a => Sys2Proof.Machine.execEwait q a s
  | .ewaitWake q => Sys2Proof.Machine.execEwaitWake q s
  | .ewaitTimeout q => Sys2Proof.Machine.execEwaitTimeout q s
  | .esig q a => Sys2Proof.Machine.execEsig q a s
  | .emask q a => Sys2Proof.Machine.execEmask q a s
  | .mfs q a => Sys2Proof.Machine.execMfs q a s
  | .mts q a => Sys2Proof.Machine.execMts q a s
  | .vadd q a => Sys2Proof.Machine.execVadd q a s
  | .vsub q a => Sys2Proof.Machine.execVsub q a s
  | .vadds q a => Sys2Proof.Machine.execVadds q a s
  | .vsubs q a => Sys2Proof.Machine.execVsubs q a s
  | .vmul q a => Sys2Proof.Machine.execVmul q a s
  | .vmulq q a => Sys2Proof.Machine.execVmulq q a s
  | .vmac q a => Sys2Proof.Machine.execVmac q a s
  | .vmin q a => Sys2Proof.Machine.execVmin q a s
  | .vmax q a => Sys2Proof.Machine.execVmax q a s
  | .vabs q a => Sys2Proof.Machine.execVabs q a s
  | .vshl q a => Sys2Proof.Machine.execVshl q a s
  | .vsra q a => Sys2Proof.Machine.execVsra q a s
  | .vand q a => Sys2Proof.Machine.execVand q a s
  | .vor q a => Sys2Proof.Machine.execVor q a s
  | .vxor q a => Sys2Proof.Machine.execVxor q a s
  | .vsplat q a => Sys2Proof.Machine.execVsplat q a s
  | .vext q a => Sys2Proof.Machine.execVext q a s
  | .vins q a => Sys2Proof.Machine.execVins q a s
  | .vsum q a => Sys2Proof.Machine.execVsum q a s
  | .vmov q a => Sys2Proof.Machine.execVmov q a s
  | .descriptorUndefinedKind queue => Sys2Proof.Machine.execDescriptorUndefinedKind queue s
  | .tsuDescWrite ini g count v => Sys2Proof.Machine.execTsuDescWrite ini g count v s
  | .settleExpiry g task => Sys2Proof.Machine.execSettleExpiry g task s
  | .cancelMemoryExpiry g task => Sys2Proof.Machine.execCancelMemoryExpiry g task s
  | .eventPresent g src => Sys2Proof.Machine.execEventPresent g src s
  | .moderationHoldoffExpiry g grp => Sys2Proof.Machine.execModerationHoldoffExpiry g grp s
  | .evcTakeRead ini g w => Sys2Proof.Machine.execEvcTakeRead ini g w s
  | .evcRouteWrite ini g src v => Sys2Proof.Machine.execEvcRouteWrite ini g src v s
  | .strandTimeout g src => Sys2Proof.Machine.execStrandTimeout g src s
  | .gathPwrWrite ini g v => Sys2Proof.Machine.execGathPwrWrite ini g v s
  | .gatheringPark g => Sys2Proof.Machine.execGatheringPark g s
  | .mbxCfgWrite ini n v => Sys2Proof.Machine.execMbxCfgWrite ini n v s
  | .mbxDataWrite ini n k v => Sys2Proof.Machine.execMbxDataWrite ini n k v s
  | .mbxSend ini n v => Sys2Proof.Machine.execMbxSend ini n v s
  | .mbxLastWordRead ini n => Sys2Proof.Machine.execMbxLastWordRead ini n s
  | .mbxDbi ini ix v => Sys2Proof.Machine.execMbxDbi ini ix v s
  | .mbxDboSet ini ix v => Sys2Proof.Machine.execMbxDboSet ini ix v s
  | .mbxDboClear ini ix v => Sys2Proof.Machine.execMbxDboClear ini ix v s
  | .sysMapRemap ini v => Sys2Proof.Machine.execSysMapRemap ini v s
  | .scrubComplete ix => Sys2Proof.Machine.execScrubComplete ix s
  | .sramScrub bank sector => Sys2Proof.Machine.execSramScrub bank sector s
  | .hbmCommandIssue p ready wr => Sys2Proof.Machine.execHbmCommandIssue p ready wr s
  | .hbmRefresh p bank => Sys2Proof.Machine.execHbmRefresh p bank s
  | .hbmCfgWrite ini v => Sys2Proof.Machine.execHbmCfgWrite ini v s
  | .retrainDue p => Sys2Proof.Machine.execRetrainDue p s
  | .retrainStart p => Sys2Proof.Machine.execRetrainStart p s
  | .retrainForced p => Sys2Proof.Machine.execRetrainForced p s
  | .retrainEnd p => Sys2Proof.Machine.execRetrainEnd p s
  | .compute u => Sys2Proof.Machine.execCompute u s
  | .cvuRunWrite ini u r v => Sys2Proof.Machine.execCvuRunWrite ini u r v s
  | .ringCtlWrite ini ring v => Sys2Proof.Machine.execRingCtlWrite ini ring v s
  | .ingestPacket ix legB p => Sys2Proof.Machine.execIngestPacket ix legB p s
  | .sdiLine ix l => Sys2Proof.Machine.execSdiLine ix l s
  | .packetLossDeclare ix seq => Sys2Proof.Machine.execPacketLossDeclare ix seq s
  | .sessionTimeout ix => Sys2Proof.Machine.execSessionTimeout ix s
  | .sdiLockLoss ix => Sys2Proof.Machine.execSdiLockLoss ix s
  | .clipFeed e => Sys2Proof.Machine.execClipFeed e s
  | .clipHandover ix => Sys2Proof.Machine.execClipHandover ix s
  | .stop e => Sys2Proof.Machine.execStop e s
  | .outputEnable ini o v => Sys2Proof.Machine.execOutputEnable ini o v s
  | .outputLineSend o row => Sys2Proof.Machine.execOutputLineSend o row s
  | .sdiOutputSlip o dropped => Sys2Proof.Machine.execSdiOutputSlip o dropped s
  | .bufferPost b => Sys2Proof.Machine.execBufferPost b s
  | .key b => Sys2Proof.Machine.execKey b s
  | .pin b => Sys2Proof.Machine.execPin b s
  | .impTableWrite ini index vals => Sys2Proof.Machine.execImpTableWrite ini index vals s
  | .calLoad => Sys2Proof.Machine.execCalLoad s
  | .join p => Sys2Proof.Machine.execJoin p s
  | .keyRequest p => Sys2Proof.Machine.execKeyRequest p s
  | .status p => Sys2Proof.Machine.execStatus p s
  | .statusTimeout ch rx => Sys2Proof.Machine.execStatusTimeout ch rx s
  | .countermarkEcho p => Sys2Proof.Machine.execCountermarkEcho p s
  | .echoMissing ch rx picture row region => Sys2Proof.Machine.execEchoMissing ch rx picture row region s
  | .controlSend => Sys2Proof.Machine.execControlSend s
  | .serviceReply p => Sys2Proof.Machine.execServiceReply p s
  | .epochLoad => Sys2Proof.Machine.execEpochLoad s
  | .portEnable ini m v => Sys2Proof.Machine.execPortEnable ini m v s
  | .linkChange ix up errs => Sys2Proof.Machine.execLinkChange ix up errs s
  | .macFrameReceive m f => Sys2Proof.Machine.execMacFrameReceive m f s
  | .arpRequest m senderMac senderIp targetIp => Sys2Proof.Machine.execArpRequest m senderMac senderIp targetIp s
  | .neighbourSolicitation m senderMac senderIp target => Sys2Proof.Machine.execNeighbourSolicitation m senderMac senderIp target s
  | .policerRefill ix => Sys2Proof.Machine.execPolicerRefill ix s
  | .classifierWrite ini e w v => Sys2Proof.Machine.execClassifierWrite ini e w v s
  | .shaperRefill n => Sys2Proof.Machine.execShaperRefill n s
  | .subscriberRelease n => Sys2Proof.Machine.execSubscriberRelease n s
  | .portTransmit m => Sys2Proof.Machine.execPortTransmit m s
  | .macsecTxAnWrite ini m v => Sys2Proof.Machine.execMacsecTxAnWrite ini m v s
  | .prpSupervision => Sys2Proof.Machine.execPrpSupervision s
  | .gateEntryAdvance m => Sys2Proof.Machine.execGateEntryAdvance m s
  | .gateListStart m => Sys2Proof.Machine.execGateListStart m s
  | .flowEnable ini f v => Sys2Proof.Machine.execFlowEnable ini f v s
  | .programmeAccessUnitSend f => Sys2Proof.Machine.execProgrammeAccessUnitSend f s
  | .psiInsert f => Sys2Proof.Machine.execPsiInsert f s
  | .frameSend => Sys2Proof.Machine.execFrameSend s
  | .refLoss r ppm => Sys2Proof.Machine.execRefLoss r ppm s
  | .refRegain r ppm fractional => Sys2Proof.Machine.execRefRegain r ppm fractional s
  | .ebufRateMatch ix fill gap => Sys2Proof.Machine.execEbufRateMatch ix fill gap s
  | .laneCtrlWrite ini ix v => Sys2Proof.Machine.execLaneCtrlWrite ini ix v s
  | .laneEqWrite ini ix tx v => Sys2Proof.Machine.execLaneEqWrite ini ix tx v s
  | .lanePrbsWrite ini l v => Sys2Proof.Machine.execLanePrbsWrite ini l v s
  | .prbsClear ini ix v w => Sys2Proof.Machine.execPrbsClear ini ix v w s
  | .prbsInject ini l v => Sys2Proof.Machine.execPrbsInject ini l v s
  | .prbsSnap ini ix v w => Sys2Proof.Machine.execPrbsSnap ini ix v w s
  | .prbsLock l => Sys2Proof.Machine.execPrbsLock l s
  | .prbsLockLoss ix w => Sys2Proof.Machine.execPrbsLockLoss ix w s
  | .servoSample t theta => Sys2Proof.Machine.execServoSample t theta s
  | .holdoverTimeout t => Sys2Proof.Machine.execHoldoverTimeout t s
  | .refSysFail => Sys2Proof.Machine.execRefSysFail s
  | .tbSnap ini t v => Sys2Proof.Machine.execTbSnap ini t v s
  | .syncSend m => Sys2Proof.Machine.execSyncSend m s
  | .delayReqSend m => Sys2Proof.Machine.execDelayReqSend m s
  | .sync m p => Sys2Proof.Machine.execSync m p s
  | .followUp m p => Sys2Proof.Machine.execFollowUp m p s
  | .delayReq m p => Sys2Proof.Machine.execDelayReq m p s
  | .delayResp m p => Sys2Proof.Machine.execDelayResp m p s
  | .pdelayReq m p => Sys2Proof.Machine.execPdelayReq m p s
  | .pdelayResp m p => Sys2Proof.Machine.execPdelayResp m p s
  | .pdelayRespFollowUp m p => Sys2Proof.Machine.execPdelayRespFollowUp m p s
  | .ptpGeneralMessage m p => Sys2Proof.Machine.execPtpGeneralMessage m p s
  | .offset => Sys2Proof.Machine.execOffset s
  | .ptpSend => Sys2Proof.Machine.execPtpSend s
  | .sysCtrLoRead ini => Sys2Proof.Machine.execSysCtrLoRead ini s
  | .ppsInEdge => Sys2Proof.Machine.execPpsInEdge s
  | .ppsOutPulse rise => Sys2Proof.Machine.execPpsOutPulse rise s
  | .timeEcho p => Sys2Proof.Machine.execTimeEcho p s
  | .audioBlockBoundary grp => Sys2Proof.Machine.execAudioBlockBoundary grp s
  | .audioClockStopped grp => Sys2Proof.Machine.execAudioClockStopped grp s
  | .audioFrameSync src onSpacing samples => Sys2Proof.Machine.execAudioFrameSync src onSpacing samples s
  | .aes3Block a b => Sys2Proof.Machine.execAes3Block a b s
  | .nonaudioExit g pair => Sys2Proof.Machine.execNonaudioExit g pair s
  | .audioOutputBlock g => Sys2Proof.Machine.execAudioOutputBlock g s
  | .audioSourceLoss g => Sys2Proof.Machine.execAudioSourceLoss g s
  | .audioOutputSend o => Sys2Proof.Machine.execAudioOutputSend o s
  | .mute => Sys2Proof.Machine.execMute s
  | .claspTrigger side => Sys2Proof.Machine.execClaspTrigger side s
  | .attest side => Sys2Proof.Machine.execAttest side s
  | .restore side => Sys2Proof.Machine.execRestore side s
  | .seal side => Sys2Proof.Machine.execSeal side s
  | .alarmRead side => Sys2Proof.Machine.execAlarmRead side s
  | .placement side => Sys2Proof.Machine.execPlacement side s
  | .enrolOwner side => Sys2Proof.Machine.execEnrolOwner side s
  | .enrolSafety side => Sys2Proof.Machine.execEnrolSafety side s
  | .tenantAdd side => Sys2Proof.Machine.execTenantAdd side s
  | .tenantRetire side => Sys2Proof.Machine.execTenantRetire side s
  | .granule side => Sys2Proof.Machine.execGranule side s
  | .contentKey side => Sys2Proof.Machine.execContentKey side s
  | .sealedWrite side => Sys2Proof.Machine.execSealedWrite side s
  | .safetyWrite side => Sys2Proof.Machine.execSafetyWrite side s
  | .alarmAck side => Sys2Proof.Machine.execAlarmAck side s
  | .wallSeed side => Sys2Proof.Machine.execWallSeed side s
  | .wallKey side => Sys2Proof.Machine.execWallKey side s
  | .macsecCak side => Sys2Proof.Machine.execMacsecCak side s
  | .mkaOp side => Sys2Proof.Machine.execMkaOp side s
  | .codeCheck side => Sys2Proof.Machine.execCodeCheck side s
  | .debugUnlock side => Sys2Proof.Machine.execDebugUnlock side s
  | .twinExport side => Sys2Proof.Machine.execTwinExport side s
  | .hifSqTailWrite ini q v => Sys2Proof.Machine.execHifSqTailWrite ini q v s
  | .hifQueueCfgWrite ini cq q v => Sys2Proof.Machine.execHifQueueCfgWrite ini cq q v s
  | .hifCqHeadWrite ini q v => Sys2Proof.Machine.execHifCqHeadWrite ini q v s
  | .commandFetch q c => Sys2Proof.Machine.execCommandFetch q c s
  | .hifEvtCfgWrite ini v => Sys2Proof.Machine.execHifEvtCfgWrite ini v s
  | .msixTimerExpiry v => Sys2Proof.Machine.execMsixTimerExpiry v s
  | .hifIdleHintWrite ini v => Sys2Proof.Machine.execHifIdleHintWrite ini v s
  | .pmeTurnOff => Sys2Proof.Machine.execPmeTurnOff s
  | .d3hotEntry pf1 pmeEn clr => Sys2Proof.Machine.execD3hotEntry pf1 pmeEn clr s
  | .d0Return pf1 pmeEn clr => Sys2Proof.Machine.execD0Return pf1 pmeEn clr s
  | .pcieLinkLoss back => Sys2Proof.Machine.execPcieLinkLoss back s
  | .pcieConventionalReset => Sys2Proof.Machine.execPcieConventionalReset s
  | .pcieFlrPf0 => Sys2Proof.Machine.execPcieFlrPf0 s
  | .pcieFlrPf1 => Sys2Proof.Machine.execPcieFlrPf1 s
  | .identify q c => Sys2Proof.Machine.execIdentify q c s
  | .negotiate q c => Sys2Proof.Machine.execNegotiate q c s
  | .avsLimits q c => Sys2Proof.Machine.execAvsLimits q c s
  | .thermLimits q c => Sys2Proof.Machine.execThermLimits q c s
  | .sensorDump q c => Sys2Proof.Machine.execSensorDump q c s
  | .programStart q c => Sys2Proof.Machine.execProgramStart q c s
  | .route q c => Sys2Proof.Machine.execRoute q c s
  | .flashRead q c => Sys2Proof.Machine.execFlashRead q c s
  | .flashWrite q c => Sys2Proof.Machine.execFlashWrite q c s
  | .trunkSet q c => Sys2Proof.Machine.execTrunkSet q c s
  | .gpio q c => Sys2Proof.Machine.execGpio q c s
  | .smbus q c => Sys2Proof.Machine.execSmbus q c s
  | .railInvalid r => Sys2Proof.Machine.execRailInvalid r s
  | .sysResetAssert => Sys2Proof.Machine.execSysResetAssert s
  | .deviceResetEnd st => Sys2Proof.Machine.execDeviceResetEnd st s
  | .claspImageCheck => Sys2Proof.Machine.execClaspImageCheck s
  | .spineRelease => Sys2Proof.Machine.execSpineRelease s
  | .spineReady => Sys2Proof.Machine.execSpineReady s
  | .bootDirPoll => Sys2Proof.Machine.execBootDirPoll s
  | .watchdogExpiry => Sys2Proof.Machine.execWatchdogExpiry s
  | .twinInAssert => Sys2Proof.Machine.execTwinInAssert s
  | .claim => Sys2Proof.Machine.execClaim s
  | .collisionBackoffExpiry => Sys2Proof.Machine.execCollisionBackoffExpiry s
  | .sysTwinKeep ini v => Sys2Proof.Machine.execSysTwinKeep ini v s
  | .twinRelease ini v => Sys2Proof.Machine.execTwinRelease ini v s
  | .keepaliveExpiry => Sys2Proof.Machine.execKeepaliveExpiry s
  | .hbmStackFail p => Sys2Proof.Machine.execHbmStackFail p s
  | .coreSupplyFault => Sys2Proof.Machine.execCoreSupplyFault s
  | .twinInRelease => Sys2Proof.Machine.execTwinInRelease s
  | .timePortQualWrite ini m v => Sys2Proof.Machine.execTimePortQualWrite ini m v s
  | .audioPortLockLoss p => Sys2Proof.Machine.execAudioPortLockLoss p s
  | .aes3LockChange a locked rate => Sys2Proof.Machine.execAes3LockChange a locked rate s
  | .testEnHigh => Sys2Proof.Machine.execTestEnHigh s
  | .spineStop cmd => Sys2Proof.Machine.execSpineStop cmd s
  | .claspStop => Sys2Proof.Machine.execClaspStop s

end Sys2Proof.Machine
end

