-- ==== Sys2Proof/Machine/Tick.lean ====
section
/-! DEFINITION. One nanosecond of the time unit (R437, R451): what a step does when no command waits (log entry 18). -/

namespace Sys2Proof.Machine

/-- Advance time base t, if it is enabled. -/
def State.tickTb (s : State) (t : Nat) : State := if s.tbOn t then s.setTb t (s.tbAt t).advance else s

/-- One nanosecond: the system counter counts 1 + its rate, every enabled time base advances (R437, R451). In device reset the counter
stays 0. -/
def State.tick (s : State) : State :=
  if s.sys.inReset then s
  else
    let d : Int := 1000000000 * 2 ^ 32
    let acc := s.ctrFrac + s.ctrRate
    (List.range 8).foldl State.tickTb
      { s with sysctr := s.sysctr + 1 + BitVec.ofInt 64 (acc / d), ctrFrac := acc % d }

end Sys2Proof.Machine
end

