-- ==== Sys2Proof/Safety.lean ====
section
/-! DEFINITION. What a safe run is, and the words claims are made in: an engine that executes an instruction, a change confined to
one engine, a register write that is let through, a state in canonical form. -/

namespace Sys2Proof.Machine

/-- A command that a state answers with a next state: neither a fault nor a refusal. -/
def State.safe (s : State) (c : Instr) : Prop := ∃ t, exec c s = .next t

/-- The words of an engine's next instruction: is an instruction of `size` bytes under predicate `pr` with sense `pn` executed now and to its end
(R45, R60-R63, R88)? The engine runs, the predicate holds, the sequential step stays below 0x2000 and every page fetched from
holds code. -/
def State.executes (s : State) (q : EngId) (size : Nat) (pr : BitVec 3) (pn : Bool) : Prop :=
  s.running q = true ∧ (s.ctxOf q).pred pr.toNat ≠ pn ∧ (s.ctxOf q).pc.toNat + size ≤ 0x1FFC ∧
    s.pageOf q (s.ctxOf q).pc.toNat = .valid ∧ s.pageOf q ((s.ctxOf q).pc.toNat + size - 4) = .valid

/-- Engine q's instruction buffer holds the words of instruction i at the pc (R60, R61). -/
def State.reads (s : State) (q : EngId) (i : Instr) : Prop := s.holdsWords q (s.ctxOf q).pc.toNat i.words = true

/-- `t` is `s` with engine q's record replaced by x: every other engine and everything else is as in s. -/
def State.engStep (s t : State) (q : EngId) (x : Eng) : Prop :=
  t.engOf q = x ∧ (∀ p, p ≠ q → t.engOf p = s.engOf p) ∧ { t with eng := s.eng } = s

/-- `t` is `s` with the current context of engine q replaced by c and nothing else changed. -/
def State.ctxStep (s t : State) (q : EngId) (c : Ctx) : Prop := s.engStep t q ((s.engOf q).setCtx (s.urgOf q) c)

/-- A context after an instruction of n bytes that writes v to general register rd and nothing else. -/
def Ctx.wrote (c : Ctx) (rd : BitVec 5) (v : Word) (n : Nat) : Ctx :=
  { c.setG rd.toNat v with pc := c.pc + BitVec.ofNat 13 n }

/-- A context after an instruction of four bytes that writes v to vector register rd and nothing else. -/
def Ctx.wroteV (c : Ctx) (rd : BitVec 5) (v : BitVec 256) : Ctx := { c.setV rd.toNat v with pc := c.pc + 4 }

/-- Lane i of v[rd] becomes the low bits of `f i` for every lane of the instruction's width; pc moves on; nothing else changes (R69). -/
def State.writesLanes (s t : State) (q : EngId) (a : VArgs) (f : Nat → Int) : Prop :=
  ∃ r, s.ctxStep t q ((s.ctxOf q).wroteV a.rd r) ∧
    ∀ i, i < 256 / VArgs.width a → laneU (VArgs.width a) r i = lowBits (VArgs.width a) (f i)

/-- The release wait of a synchronising instruction is over and left no error (R77): no far store or fill of the context is in flight and
none that has ended holds an error. -/
def Ctx.released (c : Ctx) : Prop := c.inFlight.any FarOp.isStore = false ∧ c.oldestErr FarOp.isStore = none

/-- The engine record x after it changed local bytes a .. a+n-1 to those `f` names and its current context to c (R66). -/
def Eng.stored (x y : Eng) (c : Ctx) (a n : Nat) (f : Nat → Byte) : Prop :=
  { y with ram := x.ram } = x.setCtx x.cur c ∧ ∀ b, y.byte b = if a ≤ b ∧ b < a + n then f (b - a) else x.byte b

/-- Clasp takes the command `code` of a side: its envelope is e, s0 the state with the trigger taken from the queue and its channel drained, and e
passes every check of R493. -/
def State.claspAsks (s : State) (side : ClaspSide) (code : Nat) (e : Envelope) (s0 : State) : Prop :=
  s.claspReady side = true ∧ e = s.envelope side ∧ e.code = code ∧
    s0 = State.mbxDrain { s with clasp := { s.clasp with trig := s.clasp.trig.tail } } (sideChannel side) ∧
    s0.claspFail side e (s.rd (Reg.mbxData (sideChannel side) 0)).toNat
      ((List.range 15).all (fun k => s.rd (Reg.mbxData (sideChannel side) (k + 1)) == 0)) = none

/-- State s1 after the reply to e with result r (R493): the reply bytes in the side's window, the message to its reply channel owed or sent. -/
def Envelope.replied (e : Envelope) (side : ClaspSide) (s1 : State) (r : Nat) (reply : List Byte) : State :=
  let s2 := s1.putWindow (sideReply side) reply
  State.sendOwed { s2 with clasp := { s2.clasp with
    owed := some ((sideChannel side) + 1, BitVec.ofNat 32 (e.code + r * 2 ^ 8 + reply.length * 2 ^ 16), BitVec.ofNat 32 e.seq) } }

/-- State s1 after a command that is done: a signed one has consumed its sequence number (R493). -/
def Envelope.accepted (e : Envelope) (s1 : State) : State :=
  if e.signer = 0xFF then s1
  else { s1 with clasp := { s1.clasp with lastSeq := SMap.set (fun _ => 0) s1.clasp.lastSeq e.signer (e.seq + 1) } }

/-- The Spine fetches command c with opcode op from queue q and may run it (R510, R522, R524): u is the state with the queue's head and the rotation moved on. -/
def State.fetches (s : State) (q op : Nat) (c : HostCmd) (u : State) : Prop :=
  s.mayFetch q = true ∧ byteAt c.entry 0 = op ∧ reservedOk c.entry = true ∧
    (op = 1 ∨ op = 2 ∨ ∃ v, opcodeVersion op = some v ∧ v ≤ s.getF Reg.hifVer 31 24) ∧ u = s.fetched q

/-- A state in canonical form: both memories list rising addresses and no byte an unlisted address reads as; no more enrolment fuses are burned
than there are (R497), no more minimum versions raised than fuses allow (R495). -/
def State.Inv (s : State) : Prop :=
  SMap.wf (fun _ => (0 : Byte)) s.ss = true ∧ SMap.wf (fun _ => (none : Option HbmByte)) s.hbm = true ∧ s.clasp.gen ≤ 64 ∧
    s.clasp.raisesClasp ≤ 32 ∧ s.clasp.raisesSpine ≤ 32

/-- A residual that the syntax of R347 can carry: a QP of six bits, four split flags, as many blocks as the split gives, each with three
components of at most N² levels below 2^24 whose last is not 0, and in a Precision segment alone a clamp within R366. -/
def ResSyn.valid (precision : Bool) (r : ResSyn) : Prop :=
  (∀ q, r.qp = some q → q < 64) ∧ (∀ fs, r.split = some fs → fs.length = 4) ∧
    r.blocks.map List.length = (blockList r.split).map (fun _ => 3) ∧
    (∀ p ∈ (blockList r.split).zip r.blocks, ∀ ls, some ls ∈ p.2 →
      1 ≤ ls.length ∧ ls.length ≤ p.1.2.2 * p.1.2.2 ∧ (∀ l ∈ ls, l.natAbs < 2 ^ 24) ∧ ls.getLast? ≠ some 0) ∧
    (precision = false → r.clamp = none) ∧
    (∀ cs, r.clamp = some cs → cs.length = 3 ∧ ∀ c ∈ cs, (c.map (fun p => p.1 + 1)).sum ≤ 256 ∧ ∀ p ∈ c, p.2 ≠ 0 ∧ p.2.natAbs ≤ 2 ^ 31)

/-- A leaf that a segment with header h of version ver can carry after coding state c (R347-R349, R357). -/
def LeafSyn.valid (h : SegHdr) (ver : Nat) (c : CodeSt) : LeafSyn → Prop
  | .skip r => h.key = false ∧ r ≤ refTop ver
  | .inter r mv res => h.key = false ∧ 2 ≤ ver ∧ r ≤ refTop ver ∧ mv.1.natAbs ≤ 16384 ∧ mv.2.natAbs ≤ 16384 ∧
      (c.mvp r).1.natAbs ≤ 16384 ∧ (c.mvp r).2.natAbs ≤ 16384 ∧ res.valid h.precision
  | .intra m res => m ≤ 9 ∧ res.valid h.precision
  | .fill cs => cs.length = 3 ∧ ∀ v ∈ cs, v < 2 ^ h.depth
  | .raw ss => ss.length = 768 ∧ ∀ v ∈ ss, v < 2 ^ h.depth

end Sys2Proof.Machine
end

