-- ==== Sys2Proof/Certificates/Slice0/Obligations.lean ====
section
/-! DEFINITION. The statements for the provers. -/

open Sys2Proof Sys2Proof.Machine

/-! ### The block -/

/-- A step with a command in front of the queue is that command's effect on the state with the queue's rest. -/
def Obligations.StepRunsFrontCommand : Prop :=
  ∀ (c : Instr) (cs : List Instr) (s : State),
    step { s with pending := c :: cs } = exec c { s with pending := cs }

/-! ### Engines (chapter 2) -/

/-! ### The whole block -/

/-- Right after device reset (R46, R48, R490, R508, R513, R522, R527, R532, R546, R548): nothing is queued, no engine is enabled, nothing is
armed, the claim is released, SYS_BOOT shows device reset, the registers hold their reset values, and the memories list nothing. -/
def Obligations.ResetState : Prop :=
  ∃ s, s = State.reset ∧ s.pending = [] ∧ s.armed = [] ∧ s.outbox = [] ∧ s.ss = [] ∧ s.hbm = [] ∧ s.eng = [] ∧ s.anyEngine = false ∧
    s.sys.inReset = true ∧ s.claimed = false ∧ s.twinIn = false ∧ s.getF Reg.sysBoot 31 28 = 0 ∧ s.getF Reg.sysTwinCfg 15 8 = 8 ∧
    s.rd Reg.clsVer = 0x10000 ∧ s.getF Reg.clsSts 31 29 = 0 ∧ s.rd Reg.hifEvtMask = 0xFFFFFFFF ∧ s.getF Reg.hifVer 31 24 = 0 ∧
    (∀ q : Fin 64, s.flag (Reg.hifSqCfg q) 31 = false ∧ s.flag (Reg.hifCqCfg q) 31 = false ∧ s.getF (Reg.hifCqSts q) 12 12 = 1) ∧
    (∀ k : Fin 4, s.flag (Reg.couchSheetCtrl k) 31 = false) ∧ s.getF Reg.snsTherm 15 0 = 0x5F0 ∧ s.getF Reg.snsTherm 31 16 = 0x690 ∧
    s.getF Reg.avsCfg 15 0 = 550 ∧ s.getF Reg.avsCfg 31 16 = 900 ∧ s.hif.holding = false

/-- The state right after reset is in canonical form. -/
def Obligations.ResetMeetsInvariant : Prop :=
State.reset.Inv

/-- Every step keeps the canonical form of both memories and the bounds of the fuses (R495, R497), from every state that has them. -/
def Obligations.StepKeepsInvariant : Prop :=
∀ s t : State, s.Inv → step s = .next t → t.Inv

/-- Every command is answered with a next state, whatever the state: the spec names no command that stops the block (the model's reading,
log entry 5). -/
def Obligations.EveryCommandCompletes : Prop :=
∀ (c : Instr) (s : State), s.safe c

/-! ### Folio coding (chapter 9) -/

/-- Rice coding (R351): with any parameter, the bits written for a value below 2^31 are read back as that value, and what follows them is
left. -/
def Obligations.RiceCodeRoundTrip : Prop :=
  ∀ (k v : Nat) (rest : List Bool), k ≤ 24 → v < 2 ^ 31 → riceRead k (riceBits k v ++ rest) = some (v, rest)

/-- The leaf syntax (R347-R349, R352, R357, R366): every leaf a segment can carry, with every field at every value it can hold, is parsed
from the bits written for it as that leaf, in its region, with the QP then in force; the coding state of parser and writer agree, and what
follows is left. -/
def Obligations.LeafCodeRoundTrip : Prop :=
  ∀ (h : SegHdr) (ver region : Nat) (l : LeafSyn) (w : Wr) (rest : List Bool), 1 ≤ ver → ver ≤ 3 →
    (if h.regions then region < 16 else region = 0) → l.valid h ver w.2 →
    ∃ bits, (w.leaf h ver region l).1 = w.1 ++ bits ∧
      (rdLeaf h ver).run (bits ++ rest, w.2) = some ((region, l, (w.leaf h ver region l).2.qp), (rest, (w.leaf h ver region l).2))

/-- The integer instructions of R64: an instruction that is executed writes its result to rd, moves pc on by 4 and changes nothing else.
Division of R64: DIV and DIVU round towards zero, REM takes the sign of ra; by zero the quotient is 0xFFFF_FFFF and the remainder ra; DIV of
-2³¹ by -1 gives -2³¹ with remainder 0; none of them faults. Register 0 and predicate 0: reading g0 gives 0 and p0 true in every context,
and writing either changes nothing. -/
def Obligations.IntegerInstructionResults : Prop :=
  (∀ (q : EngId) (a : RArgs) (s : State) (c : Ctx) (x y : Word), s.executes q 4 a.pr a.pn → a.x = false →
     s.ctxOf q = c → c.gr a.ra.toNat = x → c.gr a.rb.toNat = y →
       (s.reads q (.add q a) → ∃ t, exec (.add q a) s = .next t ∧ s.ctxStep t q (c.wrote a.rd (x + y) 4)) ∧
       (s.reads q (.sub q a) → ∃ t, exec (.sub q a) s = .next t ∧ s.ctxStep t q (c.wrote a.rd (x - y) 4)) ∧
       (s.reads q (.and_ q a) → ∃ t, exec (.and_ q a) s = .next t ∧ s.ctxStep t q (c.wrote a.rd (x &&& y) 4)) ∧
       (s.reads q (.or_ q a) → ∃ t, exec (.or_ q a) s = .next t ∧ s.ctxStep t q (c.wrote a.rd (x ||| y) 4)) ∧
       (s.reads q (.xor q a) → ∃ t, exec (.xor q a) s = .next t ∧ s.ctxStep t q (c.wrote a.rd (x ^^^ y) 4)) ∧
       (s.reads q (.shl q a) → ∃ t, exec (.shl q a) s = .next t ∧ s.ctxStep t q (c.wrote a.rd (x <<< (y.toNat % 32)) 4)) ∧
       (s.reads q (.shr q a) → ∃ t, exec (.shr q a) s = .next t ∧ s.ctxStep t q (c.wrote a.rd (x >>> (y.toNat % 32)) 4)) ∧
       (s.reads q (.sra q a) → ∃ t, exec (.sra q a) s = .next t ∧ s.ctxStep t q (c.wrote a.rd (x.sshiftRight (y.toNat % 32)) 4)) ∧
       (s.reads q (.mul q a) → ∃ t, exec (.mul q a) s = .next t ∧ s.ctxStep t q (c.wrote a.rd (BitVec.ofNat 32 (x.toNat * y.toNat)) 4)) ∧
       (s.reads q (.mulh q a) → ∃ t, exec (.mulh q a) s = .next t ∧
         s.ctxStep t q (c.wrote a.rd (BitVec.ofInt 32 (x.toInt * y.toInt / 2 ^ 32)) 4)) ∧
       (s.reads q (.mulhu q a) → ∃ t, exec (.mulhu q a) s = .next t ∧
         s.ctxStep t q (c.wrote a.rd (BitVec.ofNat 32 (x.toNat * y.toNat / 2 ^ 32)) 4)) ∧
       (s.reads q (.min q a) → ∃ t, exec (.min q a) s = .next t ∧ s.ctxStep t q (c.wrote a.rd (if y.slt x then y else x) 4)) ∧
       (s.reads q (.max q a) → ∃ t, exec (.max q a) s = .next t ∧ s.ctxStep t q (c.wrote a.rd (if y.slt x then x else y) 4)) ∧
       (s.reads q (.minu q a) → ∃ t, exec (.minu q a) s = .next t ∧ s.ctxStep t q (c.wrote a.rd (if y < x then y else x) 4)) ∧
       (s.reads q (.maxu q a) → ∃ t, exec (.maxu q a) s = .next t ∧ s.ctxStep t q (c.wrote a.rd (if y < x then x else y) 4))) ∧
  (∀ (q : EngId) (a : RArgs) (s : State) (c : Ctx) (x y : Word), s.executes q 4 a.pr a.pn → a.x = false →
     s.ctxOf q = c → c.gr a.ra.toNat = x → c.gr a.rb.toNat = y →
       ∃ d u r m : Word,
         (s.reads q (.div q a) → ∃ t, exec (.div q a) s = .next t ∧ s.ctxStep t q (c.wrote a.rd d 4)) ∧
         (s.reads q (.divu q a) → ∃ t, exec (.divu q a) s = .next t ∧ s.ctxStep t q (c.wrote a.rd u 4)) ∧
         (s.reads q (.rem q a) → ∃ t, exec (.rem q a) s = .next t ∧ s.ctxStep t q (c.wrote a.rd r 4)) ∧
         (s.reads q (.remu q a) → ∃ t, exec (.remu q a) s = .next t ∧ s.ctxStep t q (c.wrote a.rd m 4)) ∧
         (y = 0 → d = 0xFFFFFFFF ∧ u = 0xFFFFFFFF ∧ r = x ∧ m = x) ∧
         (y ≠ 0 → x = d * y + r ∧ x.toNat = u.toNat * y.toNat + m.toNat ∧ m < y ∧ r.toInt.natAbs < y.toInt.natAbs ∧
           (r = 0 ∨ (r.toInt < 0 ↔ x.toInt < 0))) ∧
         (x = 0x80000000 → y = 0xFFFFFFFF → d = 0x80000000 ∧ r = 0)) ∧
  (∀ (c : Ctx) (v : Word) (b : Bool), c.gr 0 = 0 ∧ c.setG 0 v = c ∧ c.pred 0 = true ∧ c.setP 0 b = c)

/-- The comparisons of R64: PCMP writes predicate rd, a write to p0 being discarded, moves pc on by 4 and changes nothing else. -/
def Obligations.CompareWritesPredicate : Prop :=
  ∀ (q : EngId) (a : RArgs) (s : State) (c : Ctx) (x y : Word), s.executes q 4 a.pr a.pn → a.x = false → a.rd.toNat < 8 →
    s.ctxOf q = c → c.gr a.ra.toNat = x → c.gr a.rb.toNat = y →
      ∀ (i : Instr) (b : Bool),
        (i, b) ∈ [(.pcmpEq q a, x == y), (.pcmpNe q a, x != y), (.pcmpLt q a, x.slt y), (.pcmpGe q a, !x.slt y),
          (.pcmpLtu q a, x.ult y), (.pcmpGeu q a, !x.ult y)] → s.reads q i →
        ∃ t d, exec i s = .next t ∧ s.ctxStep t q d ∧ { d with p := c.p, pc := c.pc } = c ∧ d.pc = c.pc + 4 ∧
          ∀ k, k < 8 → d.pred k = if k = 0 then true else if k = a.rd.toNat then b else c.pred k

/-- The immediate instructions of R65, with and without an extension word. -/
def Obligations.ImmediateInstructionResults : Prop :=
  ∀ (q : EngId) (a : IArgs) (s : State) (c : Ctx) (x m : Word), s.executes q (if a.x then 8 else 4) a.pr false →
    (a.x = true → a.imm12 = 0) → s.ctxOf q = c → c.gr a.ra.toNat = x →
    m = (if a.x then a.ext else a.imm12.zeroExtend 32) →
      (s.reads q (.addi q a) → ∃ t, exec (.addi q a) s = .next t ∧
        s.ctxStep t q (c.wrote a.rd (x + if a.x then a.ext else a.imm12.signExtend 32) (if a.x then 8 else 4))) ∧
      (s.reads q (.andi q a) → ∃ t, exec (.andi q a) s = .next t ∧ s.ctxStep t q (c.wrote a.rd (x &&& m) (if a.x then 8 else 4))) ∧
      (s.reads q (.ori q a) → ∃ t, exec (.ori q a) s = .next t ∧ s.ctxStep t q (c.wrote a.rd (x ||| m) (if a.x then 8 else 4))) ∧
      (s.reads q (.xori q a) → ∃ t, exec (.xori q a) s = .next t ∧ s.ctxStep t q (c.wrote a.rd (x ^^^ m) (if a.x then 8 else 4))) ∧
      (a.x = false → a.imm12.toNat < 32 →
        (s.reads q (.shli q a) → ∃ t, exec (.shli q a) s = .next t ∧ s.ctxStep t q (c.wrote a.rd (x <<< a.imm12.toNat) 4)) ∧
        (s.reads q (.shri q a) → ∃ t, exec (.shri q a) s = .next t ∧ s.ctxStep t q (c.wrote a.rd (x >>> a.imm12.toNat) 4)) ∧
        (s.reads q (.srai q a) → ∃ t, exec (.srai q a) s = .next t ∧ s.ctxStep t q (c.wrote a.rd (x.sshiftRight a.imm12.toNat) 4)))

/-- The local memory instructions of R66: a load writes rd, a store writes the bytes of its width at ra + sext(off10) and no other byte. -/
def Obligations.LocalMemoryInstructions : Prop :=
  ∀ (q : EngId) (a : MArgs) (s : State) (c : Ctx) (x : Eng) (addr : Nat), s.executes q 4 a.pr false → a.x = false →
    s.ctxOf q = c → s.engOf q = x → addr = (c.gr a.ra.toNat + a.off10.signExtend 32).toNat →
      (∀ n, n = 2 ^ a.sz.toNat → a.sz ≠ 3 → addr + n ≤ 0x6000 → addr % n = 0 → c.interlocked addr n = false →
        (s.reads q (.ld q a) → ∃ t, exec (.ld q a) s = .next t ∧
          s.ctxStep t q (c.wrote a.rd (BitVec.ofInt 32 (signed (8 * n) (ofLe (x.bytes addr n)))) 4)) ∧
        (s.reads q (.ldu q a) → ∃ t, exec (.ldu q a) s = .next t ∧
          s.ctxStep t q (c.wrote a.rd (BitVec.ofNat 32 (ofLe (x.bytes addr n))) 4)) ∧
        (s.reads q (.st q a) → ∃ t y, exec (.st q a) s = .next t ∧ s.engStep t q y ∧
          x.stored y { c with pc := c.pc + 4 } addr n (fun i => BitVec.ofNat 8 ((c.gr a.rd.toNat).toNat / 256 ^ i)))) ∧
      (a.sz = 0 → a.rd.toNat < 16 → addr + 32 ≤ 0x6000 → addr % 32 = 0 → c.interlocked addr 32 = false →
        (s.reads q (.vld q a) → ∃ t, exec (.vld q a) s = .next t ∧ s.ctxStep t q (c.wroteV a.rd (BitVec.ofNat 256 (ofLe (x.bytes addr 32))))) ∧
        (s.reads q (.vst q a) → ∃ t y, exec (.vst q a) s = .next t ∧ s.engStep t q y ∧
          x.stored y { c with pc := c.pc + 4 } addr 32 (fun i => BitVec.ofNat 8 ((c.vr a.rd.toNat).toNat / 256 ^ i))))

/-- The vector instructions of R69, lane by lane. The vector-scalar instructions of R70. -/
def Obligations.VectorResults : Prop :=
  (∀ (q : EngId) (a : VArgs) (s : State) (c : Ctx) (w : Nat), s.executes q 4 a.pr a.pn → a.x = false →
     a.rd.toNat < 16 → a.ra.toNat < 16 → a.rb.toNat < 16 → s.ctxOf q = c → w = (if a.w32 then 32 else 16) →
     ∀ (x y d : Nat → Int) (lo hi : Int) (n : Nat),
       (∀ i, x i = laneS w (c.vr a.ra.toNat) i) → (∀ i, y i = laneS w (c.vr a.rb.toNat) i) →
       (∀ i, d i = laneS w (c.vr a.rd.toNat) i) → lo = -(2 : Int) ^ (w - 1) → hi = (2 : Int) ^ (w - 1) - 1 →
       n = laneU w (c.vr a.rb.toNat) 0 % w →
       (s.reads q (.vadd q a) → ∃ t, exec (.vadd q a) s = .next t ∧ s.writesLanes t q a (fun i => x i + y i)) ∧
       (s.reads q (.vsub q a) → ∃ t, exec (.vsub q a) s = .next t ∧ s.writesLanes t q a (fun i => x i - y i)) ∧
       (s.reads q (.vadds q a) → ∃ t, exec (.vadds q a) s = .next t ∧ s.writesLanes t q a (fun i => max lo (min hi (x i + y i)))) ∧
       (s.reads q (.vsubs q a) → ∃ t, exec (.vsubs q a) s = .next t ∧ s.writesLanes t q a (fun i => max lo (min hi (x i - y i)))) ∧
       (s.reads q (.vmul q a) → ∃ t, exec (.vmul q a) s = .next t ∧ s.writesLanes t q a (fun i => x i * y i)) ∧
       (s.reads q (.vmulq q a) → ∃ t, exec (.vmulq q a) s = .next t ∧
         s.writesLanes t q a (fun i => max lo (min hi ((x i * y i + 2 ^ (w - 2)) / 2 ^ (w - 1))))) ∧
       (s.reads q (.vmac q a) → ∃ t, exec (.vmac q a) s = .next t ∧
         s.writesLanes t q a (fun i => max lo (min hi (d i + (x i * y i + 2 ^ (w - 2)) / 2 ^ (w - 1))))) ∧
       (s.reads q (.vmin q a) → ∃ t, exec (.vmin q a) s = .next t ∧ s.writesLanes t q a (fun i => min (x i) (y i))) ∧
       (s.reads q (.vmax q a) → ∃ t, exec (.vmax q a) s = .next t ∧ s.writesLanes t q a (fun i => max (x i) (y i))) ∧
       (a.rb = 0 → s.reads q (.vabs q a) → ∃ t, exec (.vabs q a) s = .next t ∧ s.writesLanes t q a (fun i => max lo (min hi (max (x i) (-x i))))) ∧
       (s.reads q (.vshl q a) → ∃ t, exec (.vshl q a) s = .next t ∧ s.writesLanes t q a (fun i => x i * 2 ^ n)) ∧
       (s.reads q (.vsra q a) → ∃ t, exec (.vsra q a) s = .next t ∧
         s.writesLanes t q a (fun i => if n = 0 then x i else (x i + 2 ^ (n - 1)) / 2 ^ n)) ∧
       (s.reads q (.vand q a) → ∃ t, exec (.vand q a) s = .next t ∧ s.ctxStep t q (c.wroteV a.rd (c.vr a.ra.toNat &&& c.vr a.rb.toNat))) ∧
       (s.reads q (.vor q a) → ∃ t, exec (.vor q a) s = .next t ∧ s.ctxStep t q (c.wroteV a.rd (c.vr a.ra.toNat ||| c.vr a.rb.toNat))) ∧
       (s.reads q (.vxor q a) → ∃ t, exec (.vxor q a) s = .next t ∧ s.ctxStep t q (c.wroteV a.rd (c.vr a.ra.toNat ^^^ c.vr a.rb.toNat)))) ∧
  (∀ (q : EngId) (a : VArgs) (s : State) (c : Ctx) (w l : Nat), s.executes q 4 a.pr a.pn → a.x = false → s.ctxOf q = c →
     w = (if a.w32 then 32 else 16) → l = (c.gr a.rb.toNat).toNat % (256 / w) →
       (a.rd.toNat < 16 →
         (s.reads q (.vsplat q a) → ∃ t, exec (.vsplat q a) s = .next t ∧ s.writesLanes t q a (fun _ => (c.gr a.ra.toNat).toNat)) ∧
         (s.reads q (.vins q a) → ∃ t, exec (.vins q a) s = .next t ∧
           s.writesLanes t q a (fun i => if i = l then (c.gr a.ra.toNat).toNat else laneS w (c.vr a.rd.toNat) i))) ∧
       (a.ra.toNat < 16 →
         (s.reads q (.vext q a) → ∃ t, exec (.vext q a) s = .next t ∧
           s.ctxStep t q (c.wrote a.rd (BitVec.ofInt 32 (laneS w (c.vr a.ra.toNat) l)) 4)) ∧
         (s.reads q (.vsum q a) → ∃ t, exec (.vsum q a) s = .next t ∧
           s.ctxStep t q (c.wrote a.rd
             (BitVec.ofInt 32 (((List.range (256 / w)).map (fun i => laneS w (c.vr a.ra.toNat) i)).sum)) 4))) ∧
       (a.rd.toNat < 16 → a.ra.toNat < 16 →
         s.reads q (.vmov q a) → ∃ t, exec (.vmov q a) s = .next t ∧ s.ctxStep t q (c.wroteV a.rd (c.vr a.ra.toNat))))

/-- Far transfers and overlay fills at issue (R67, R71, R73): a free token slot is taken, its generation counts up, its token goes to rd;
with no bytes to move the token is complete at once, otherwise the operation is in flight. A fill's page is no longer code. Far operations
take effect (R73, R76): a load's bytes arrive in local memory, a store's bytes are written at the target, and the slot is free again with
its generation kept. -/
def Obligations.FarOperations : Prop :=
  (∀ (q : EngId) (s : State) (c : Ctx) (x : Eng) (i : Nat) (gen : BitVec 4), s.ctxOf q = c → s.engOf q = x →
     c.freeSlot = some i → gen = (c.slot i).gen + 1 →
     (∀ (a : TArgs) (far loc n : Nat) (k : FarKind) (ins : Instr), (k, ins) ∈ [(FarKind.fld, Instr.fld q a), (.fst, .fst q a)] →
       s.executes q 4 a.pr false → s.reads q ins → a.x = false →
       far = (c.fbr a.fb.toNat + (c.gr a.rb.toNat).zeroExtend 48).toNat → loc = (c.gr a.ra.toNat).toNat →
       n = (c.gr a.rc.toNat).toNat →
       n = 0 ∨ (loc + n ≤ 0x6000 ∧ farBad far n = false ∧ c.interlocked loc n = false) →
       ∃ t, exec ins s = .next t ∧
         s.engStep t q { x.setCtx x.cur ((c.setSlot i ⟨gen, if n = 0 then .idle else .busy ⟨k, far, loc, n, c.pc.toNat, x.issue⟩⟩).wrote
           a.rd (BitVec.ofNat 32 (gen.toNat * 16 + i)) 4) with issue := x.issue + 1 }) ∧
     (∀ (a : IArgs) (far : Nat), s.executes q 4 a.pr false → a.x = false → a.imm12.toNat < 16 →
       far = (c.fbr (a.imm12.toNat / 4) + (c.gr a.ra.toNat).zeroExtend 48).toNat → regionOf far 2048 = .ss → far % 32 = 0 →
       s.reads q (.ifill q a) → ∃ t y, exec (.ifill q a) s = .next t ∧ s.engStep t q y ∧
         SMap.get (fun _ => PageSt.empty) y.page (a.imm12.toNat % 4) = .filling ∧
         (∀ k, k ≠ a.imm12.toNat % 4 → SMap.get (fun _ => PageSt.empty) y.page k = SMap.get (fun _ => PageSt.empty) x.page k) ∧
         { y with page := x.page } = { x.setCtx x.cur ((c.setSlot i ⟨gen, .busy ⟨.ifill, far, a.imm12.toNat % 4, 2048, c.pc.toNat, x.issue⟩⟩).wrote
           a.rd (BitVec.ofNat 32 (gen.toNat * 16 + i)) 4) with issue := x.issue + 1 })) ∧
  (∀ (q : EngId) (u : Bool) (i : Fin 16) (s s1 : State) (x y : Eng) (c : Ctx) (gen : BitVec 4) (o : FarOp), s.engOf q = x → x.ctx u = c →
     c.slot i.val = ⟨gen, .busy o⟩ → x.mustWait o.order o.far o.len = false →
     (∀ bs, o.kind = .fld → s.busRead (.engine q) o.far o.len = (s1, .ok, bs) → s1.engOf q = y →
       ∃ t, exec (.farComplete q u i) s = .next t ∧
         s1.engStep t q ((y.setBytes o.loc bs).setCtx u ((y.ctx u).setSlot i.val { (y.ctx u).slot i.val with st := .idle }))) ∧
     (o.kind = .fst → s.busWrite (.engine q) o.far (x.bytes o.loc o.len) = (s1, .ok) → s1.engOf q = y →
       ∃ t, exec (.farComplete q u i) s = .next t ∧
         s1.engStep t q (y.setCtx u ((y.ctx u).setSlot i.val { (y.ctx u).slot i.val with st := .idle }))) ∧
     (∀ bs, o.kind = .ifill → s.memWaits ⟨1, q.g.val⟩ o.far o.len = false → s.ownerCode (o.far - ssBase) o.len = true →
       s.ssRead ⟨1, q.g.val⟩ o.far (o.far - ssBase) o.len = (s1, .ok, bs) → s1.engOf q = y → y.fillBusy o.loc i.val u = false →
       ∃ t, exec (.ifillComplete q u i) s = .next t ∧
         s1.engStep t q ((y.fillPage o.loc bs).setCtx u ((y.ctx u).setSlot i.val { (y.ctx u).slot i.val with st := .idle }))))

/-- FWAIT (R67, R74): it goes on when the token's generation no longer matches or its slot is free, stalls while the operation is in flight,
and with imm[0] = 1 goes on only when every slot of the context is free. The atomics (R67, R78): after the release wait the word at a 4-byte
aligned Sheet store address is read and written in one step, rd gets the old value, and the engine changes in nothing else; an AMOCAS whose
comparison fails writes nothing. One waits for an earlier transfer of its engine that overlaps its word (R76, R148). -/
def Obligations.FarWaitsAndAtomics : Prop :=
  (∀ (q : EngId) (a : IArgs) (s : State) (c : Ctx) (m tok : Word), s.executes q (if a.x then 8 else 4) a.pr false →
     (a.x = true → a.imm12 = 0) → a.rd = 0 → m = (if a.x then a.ext else a.imm12.zeroExtend 32) → s.ctxOf q = c →
     c.gr a.ra.toNat = tok →
       (m = 0 → ((c.slot (tok.toNat % 16)).gen.toNat ≠ tok.toNat / 16 % 16 ∨ (c.slot (tok.toNat % 16)).st = .idle) →
         s.reads q (.fwait q a) → ∃ t, exec (.fwait q a) s = .next t ∧ s.ctxStep t q { c with pc := c.pc + BitVec.ofNat 13 (if a.x then 8 else 4) }) ∧
       (m = 0 → ∀ o, c.slot (tok.toNat % 16) = ⟨BitVec.ofNat 4 (tok.toNat / 16), .busy o⟩ → s.reads q (.fwait q a) → exec (.fwait q a) s = .next s) ∧
       (m = 1 → (∀ i, i < 16 → (c.slot i).st = .idle) →
         s.reads q (.fwait q a) → ∃ t, exec (.fwait q a) s = .next t ∧ s.ctxStep t q { c with pc := c.pc + BitVec.ofNat 13 (if a.x then 8 else 4) }) ∧
       (m = 1 → (∃ i o, i < 16 ∧ (c.slot i).st = .busy o) → s.reads q (.fwait q a) → exec (.fwait q a) s = .next s)) ∧
  (∀ (q : EngId) (a : TArgs) (s s1 : State) (c : Ctx) (x z old : Word) (new : Option Word) (far : Nat) (bs : List Byte) (i : Instr),
     s.executes q 4 a.pr false → s.reads q i → a.x = false → s.ctxOf q = c → c.released → c.gr a.ra.toNat = x → c.gr a.rc.toNat = z →
     far = (c.fbr a.fb.toNat + (c.gr a.rb.toNat).zeroExtend 48).toNat → regionOf far 4 = .ss → far % 4 = 0 →
     ((i, new) ∈ [(.amoadd q a, some (old + x)), (.amoswap q a, some x), (.amocas q a, if old = z then some x else none),
       (.amomin q a, some (if x.slt old then x else old)), (.amomax q a, some (if x.slt old then old else x))]) →
     (((s.engOf q).mustWait (s.engOf q).issue far 4 = true ∨ s.memWaits ⟨1, q.g.val⟩ far 4 = true) → exec i s = .next s) ∧
     ((s.engOf q).mustWait (s.engOf q).issue far 4 = false → s.memWaits ⟨1, q.g.val⟩ far 4 = false →
       s.ssRead ⟨1, q.g.val⟩ far (far - ssBase) 4 = (s1, .ok, bs) → old = BitVec.ofNat 32 (ofLe bs) →
       (new = none → ∃ t, exec i s = .next t ∧ s1.ctxStep t q (c.wrote a.rd old 4)) ∧
       (∀ v s2, new = some v → s1.ssWrite ⟨1, q.g.val⟩ far (far - ssBase) (leBytes 4 v.toNat) = (s2, .ok) →
         ∃ t, exec i s = .next t ∧ s2.ctxStep t q (c.wrote a.rd old 4))))

/-- Branches (R63, R68): BR and CALL go to pc + sext(off21) × 4, JR to ra; CALL leaves its link in g31 and JR in rd. A target outside the
instruction buffer, and a misaligned one of JR, faults PC_RANGE with no link written. -/
def Obligations.BranchesJump : Prop :=
  ∀ (q : EngId) (s : State) (c : Ctx) (link : Word), s.ctxOf q = c → link = BitVec.ofNat 32 (c.pc.toNat + 4) →
    (∀ (a : BArgs) (dest : Int), s.executes q 4 a.pr a.pn → a.x = false → dest = (c.pc.toNat : Int) + a.off21.toInt * 4 →
      (0 ≤ dest → dest ≤ 0x1FFC →
        (s.reads q (.br q a) → ∃ t, exec (.br q a) s = .next t ∧ s.ctxStep t q { c with pc := BitVec.ofInt 13 dest }) ∧
        (s.reads q (.call q a) → ∃ t, exec (.call q a) s = .next t ∧ s.ctxStep t q { c.setG 31 link with pc := BitVec.ofInt 13 dest })) ∧
      ((dest < 0 ∨ 0x1FFC < dest) → ∀ i, i ∈ [Instr.br q a, .call q a] → s.reads q i →
        exec i s = .next (s.fault q.g q.e (s.urgOf q) 0x02 c.pc.toNat c.pc.toNat (BitVec.ofInt 32 dest).toNat))) ∧
    (∀ (a : RArgs) (dest : Word), s.executes q 4 a.pr false → a.x = false → a.pn = false → a.fn = 0 → a.rb = 0 →
      c.gr a.ra.toNat = dest →
      (dest.toNat % 4 = 0 → dest.toNat ≤ 0x1FFC →
        s.reads q (.jr q a) → ∃ t, exec (.jr q a) s = .next t ∧ s.ctxStep t q { c.setG a.rd.toNat link with pc := dest.truncate 13 }) ∧
      ((dest.toNat % 4 ≠ 0 ∨ 0x1FFC < dest.toNat) → s.reads q (.jr q a) →
        exec (.jr q a) s = .next (s.fault q.g q.e (s.urgOf q) 0x02 c.pc.toNat c.pc.toNat dest.toNat)))

/-- UCALL (R79-R81): after its release wait it returns ABSENT, MALFORMED, FULL or ACCEPTED, never stalls on a full queue, and posts the 32
bytes at local [ra] only when it returns ACCEPTED. -/
def Obligations.UcallPostsDescriptor : Prop :=
  ∀ (q : EngId) (a : UArgs) (s : State) (c : Ctx) (loc k : Nat) (d : List Byte) (r : Nat),
    s.executes q 4 a.pr false → a.x = false → a.low = 0 → s.ctxOf q = c → c.released → loc = (c.gr a.ra.toNat).toNat →
    loc + 32 ≤ 0x6000 → loc % 32 = 0 → c.interlocked loc 32 = false → k = a.queue.toNat → d = (s.engOf q).bytes loc 32 →
    r = (if s.queueAbsent k then 3 else if s.malformed k d then 2 else if 32 ≤ (s.queueOf k).length then 1 else 0) →
      s.reads q (.ucall q a) → ∃ t, exec (.ucall q a) s = .next t ∧
        t.engOf q = (s.engOf q).setCtx (s.urgOf q) (c.wrote a.rd (BitVec.ofNat 32 r) 4) ∧
        (∀ j, t.queueOf j = s.queueOf j ++ (if r = 0 ∧ j = k then [⟨d, false, 0⟩] else [])) ∧
        (∀ p, p ≠ q → t.engOf p = s.engOf p) ∧ { t with eng := s.eng, queues := s.queues } = s

/-- FOLD (R84, R85): unit mask 0 arms nothing and reads no list, and returns ARMED; a list with no last entry among 64, with a reserved bit in
use or with units other than the mask's returns BAD_LIST, one with a group outside its unit's range BAD_GROUP, and neither arms anything; any
other list returns ARMED and arms every entry at this instant under the link tag, a group already armed being left as it is. -/
def Obligations.FoldArmsList : Prop :=
  ∀ (q : EngId) (a : TArgs) (s : State) (c : Ctx) (mask link loc : Nat),
    s.executes q 4 a.pr false → s.reads q (.fold q a) → a.x = false → a.fb = 0 → s.ctxOf q = c → c.released →
    mask = (c.gr a.ra.toNat).toNat → link = (c.gr a.rc.toNat).toNat % 256 → loc = (c.gr a.rb.toNat).toNat →
      (mask = 0 → ∃ t, exec (.fold q a) s = .next t ∧ s.ctxStep t q (c.wrote a.rd 0 4)) ∧
      (mask ≠ 0 → loc % 4 = 0 → foldList (s.engOf q) loc 64 = (none, none) →
        ∃ t, exec (.fold q a) s = .next t ∧ s.ctxStep t q (c.wrote a.rd 1 4)) ∧
      (∀ es, mask ≠ 0 → loc % 4 = 0 → foldList (s.engOf q) loc 64 = (some es, none) →
        ((∃ w, w ∈ es ∧ w / 2 ^ 19 % 2 ^ 12 ≠ 0) ∨ 128 ≤ mask ∨ foldUnits es ≠ mask →
          ∃ t, exec (.fold q a) s = .next t ∧ s.ctxStep t q (c.wrote a.rd 1 4)) ∧
        ((∀ w, w ∈ es → w / 2 ^ 19 % 2 ^ 12 = 0) → mask < 128 → foldUnits es = mask →
          ((∃ w, w ∈ es ∧ ∀ u, unitOfNum (w / 2 ^ 16 % 8) = some u → groupInRange u (w % 2 ^ 16) = false) →
            ∃ t, exec (.fold q a) s = .next t ∧ s.ctxStep t q (c.wrote a.rd 2 4)) ∧
          ((∀ w, w ∈ es → ∃ u, unitOfNum (w / 2 ^ 16 % 8) = some u ∧ groupInRange u (w % 2 ^ 16) = true) →
            ∃ t, exec (.fold q a) s = .next t ∧
              t.engOf q = (s.engOf q).setCtx (s.urgOf q) (c.wrote a.rd 0 4) ∧ (∀ p, p ≠ q → t.engOf p = s.engOf p) ∧
              { t with eng := s.eng, armed := s.armed } = s ∧
              (∀ w u, w ∈ es → unitOfNum (w / 2 ^ 16 % 8) = some u →
                ∃ m, t.armOf u (w % 2 ^ 16) = some m ∧
                  (s.armOf u (w % 2 ^ 16) = none → m = ⟨u, w % 2 ^ 16, link, false, s.now, s.tbTimes⟩)) ∧
              (∀ m, m ∈ s.armed → m ∈ t.armed) ∧
              (∀ m, m ∈ t.armed → m ∈ s.armed ∨ ∃ w, w ∈ es ∧
                m.grp = w % 2 ^ 16 ∧ unitOfNum (w / 2 ^ 16 % 8) = some m.u ∧ m.link = link ∧ m.mixed = false ∧ m.at_ = s.now))))

/-- TREADY returns the codes of R86: an unbound id and a full ready list are counted and raise their sources, a remembered cancel completes
the task as CANCELLED, a task already held changes nothing, and a new one enters settle stamped with the counter. TCANCEL returns the codes
of R86: a task in settle or ready leaves it and completes as CANCELLED, a running one gets its cancel flag and its engine's cancel source,
and one that is nowhere is remembered unless 32 cancels are held. -/
def Obligations.TaskReleaseReturnsCodes : Prop :=
  (∀ (q : EngId) (a : RArgs) (s s1 : State) (c : Ctx) (w : Word) (g id r : Nat) (x : Gath),
     s.executes q 4 a.pr a.pn → a.x = false → a.fn = 0 → a.rb = 0 → s.ctxOf q = c → c.released → c.gr a.ra.toNat = w →
     g = w.toNat / 2 ^ 16 % 64 → id = w.toNat % 2 ^ 16 → s.gathAt g = x →
     ((2 ^ 22 ≤ w.toNat ∧ r = 1 ∧ s1 = s) ∨
       (w.toNat < 2 ^ 22 ∧ s.parked g = true ∧ r = 4 ∧ s1 = s) ∨
       (w.toNat < 2 ^ 22 ∧ s.parked g = false ∧ s.bound g id = false ∧ r = 1 ∧
         s1 = (s.addSat (Reg.tsuUnbound g) 31 0 1).evcSet g 417) ∨
       (w.toNat < 2 ^ 22 ∧ s.parked g = false ∧ s.bound g id = true ∧ (∃ m, m ∈ x.cancelMem ∧ m.id = id ∧ s.now < m.at_ + 1000) ∧
         r = 2 ∧ s1 = (s.setGath g { x with cancelMem := x.cancelMem.filter (fun m => m.id != id) }).completeTask g id 2 0 none) ∨
       (w.toNat < 2 ^ 22 ∧ s.parked g = false ∧ s.bound g id = true ∧ (∀ m, m ∈ x.cancelMem → m.id = id → m.at_ + 1000 ≤ s.now) ∧
         ((x.holds id = true ∧ r = 3 ∧ s1 = s) ∨
           (x.holds id = false ∧ 224 ≤ x.settle.length + x.ready.length ∧ r = 1 ∧
             s1 = (s.addSat (Reg.tsuRefused g) 31 0 1).evcSet g 416) ∨
           (x.holds id = false ∧ x.settle.length + x.ready.length < 224 ∧ r = 0 ∧
             s1 = s.setGath g { x with settle := x.settle ++ [⟨id, s.now⟩] })))) →
       s.reads q (.tready q a) → ∃ t, exec (.tready q a) s = .next t ∧ s1.ctxStep t q ((s1.ctxOf q).wrote a.rd (BitVec.ofNat 32 r) 4)) ∧
  (∀ (q : EngId) (a : RArgs) (s s1 : State) (c : Ctx) (w : Word) (g id r : Nat) (x : Gath),
     s.executes q 4 a.pr a.pn → a.x = false → a.fn = 0 → a.rb = 0 → s.ctxOf q = c → c.released → c.gr a.ra.toNat = w →
     g = w.toNat / 2 ^ 16 % 64 → id = w.toNat % 2 ^ 16 → s.gathAt g = x →
     ((2 ^ 22 ≤ w.toNat ∧ r = 3 ∧ s1 = s) ∨
       (w.toNat < 2 ^ 22 ∧ s.parked g = true ∧ r = 4 ∧ s1 = s) ∨
       (w.toNat < 2 ^ 22 ∧ s.parked g = false ∧ s.bound g id = false ∧ r = 3 ∧
         s1 = (s.addSat (Reg.tsuUnbound g) 31 0 1).evcSet g 417) ∨
       (w.toNat < 2 ^ 22 ∧ s.parked g = false ∧ s.bound g id = true ∧ (∃ m, m ∈ x.settle ∧ m.id = id) ∧ r = 0 ∧
         s1 = ((s.setGath g { x with settle := x.settle.filter (fun m => m.id != id) }).completeTask g id 2 0 none).retryTasks g) ∨
       (w.toNat < 2 ^ 22 ∧ s.parked g = false ∧ s.bound g id = true ∧ (∀ m, m ∈ x.settle → m.id ≠ id) ∧
         ((∃ k, x.ready.find? (fun k => k.id == id) = some k ∧ r = 0 ∧
             s1 = ((s.setGath g { x with ready := x.ready.filter (fun k => k.id != id) }).completeTask g id 2 0 (some k.cpl)).retryTasks g) ∨
           ((∀ k, k ∈ x.ready → k.id ≠ id) ∧
             ((∃ k n, x.running.find? (fun k => k.task.id == id) = some k ∧ s.engAt g k.e = n ∧ r = 2 ∧
                 s1 = (s.setEng g k.e (n.setCtx k.urgent { n.ctx k.urgent with cancel := true, cancelled := true })).evcSet g (400 + k.e)) ∨
               ((∀ k, k ∈ x.running → k.task.id ≠ id) ∧ (∀ m, m ∈ x.cancelMem → m.id ≠ id ∧ s.now < m.at_ + 1000) ∧
                 ((32 ≤ x.cancelMem.length ∧ r = 3 ∧ s1 = s) ∨
                   (x.cancelMem.length < 32 ∧ r = 1 ∧
                     s1 = s.setGath g { x with cancelMem := x.cancelMem ++ [⟨id, s.now⟩] })))))))) →
       s.reads q (.tcancel q a) → ∃ t, exec (.tcancel q a) s = .next t ∧ s1.ctxStep t q ((s1.ctxOf q).wrote a.rd (BitVec.ofNat 32 r) 4))

/-- TDONE and TYIELD (R55, R87, R90, R101, R106, R525): after the release wait the context is free, an urgent occupant gives the mask back, and
the task leaves its running slot: with TDONE it completes with status ra[15:0], or as CANCELLED when its cancel flag was set, read since or
not; with TYIELD it goes to the tail of the ready list. An interrupt handler and the start context, which are no tasks, just end. Then the
scheduler dispatches. -/
def Obligations.TaskEndFreesContext : Prop :=
  ∀ (q : EngId) (a : RArgs) (s f : State) (c : Ctx) (x : Eng) (y : Gath) (u : Bool), s.executes q 4 a.pr a.pn → a.x = false → a.fn = 0 →
    a.rd = 0 → a.rb = 0 → s.ctxOf q = c → s.engOf q = x → s.urgOf q = u → c.released → s.gathAt q.g = y →
    f = (s.setGath q.g { y with running := y.running.filter (fun k => !(k.e == q.e.val && k.urgent == u)) }).putEng q
      { x.setCtx u { c with occ := false, sleep := none, cancel := false, cancelled := false } with
        mask := if u then x.maskSaved else x.mask } →
      (s.reads q (.tdone q a) →
        (s.taskOf q.g q.e u = none → ∃ t, exec (.tdone q a) s = .next t ∧ t = f.dispatch q.g) ∧
        (∀ k, s.taskOf q.g q.e u = some k → c.cancelled = false →
          ∃ t, exec (.tdone q a) s = .next t ∧
            t = (f.completeTask q.g k.id 1 ((c.gr a.ra.toNat).toNat % 2 ^ 16) (some k.cpl)).dispatch q.g) ∧
        (∀ k, s.taskOf q.g q.e u = some k → c.cancelled = true →
          ∃ t, exec (.tdone q a) s = .next t ∧ t = (f.completeTask q.g k.id 2 0 (some k.cpl)).dispatch q.g)) ∧
      (s.reads q (.tyield q a) → a.ra = 0 →
        (s.taskOf q.g q.e u = none → ∃ t, exec (.tyield q a) s = .next t ∧ t = f.dispatch q.g) ∧
        (∀ k, s.taskOf q.g q.e u = some k →
          ∃ t, exec (.tyield q a) s = .next t ∧
            t = (f.setGath q.g { f.gathAt q.g with ready := y.ready ++ [k] }).dispatch q.g))

/-- Interrupt entry (R54, R88): the mask is set, pc is QE_VEC.event × 4, tsk 0xFFFF and g1 the qid in the urgent context; the normal context
keeps everything but for an EWAIT in it, which ends with 0. Without a clear mask, a free urgent context or a source presented to the engine
nothing changes. EWAIT (R88): it returns 0 at once when a routed, enabled source is pending, 1 at once as a poll, and else sleeps with no end
or until ra ns have passed. A source that was presented to it (R116), or that now is, wakes it with 0 whatever the mask, the timeout with 1;
while enable is 0 neither does. -/
def Obligations.InterruptsAndWaits : Prop :=
  (∀ (q : EngId) (s : State) (x y : Eng), s.engOf q = x →
     y = { x with norm := match x.norm.occ, x.norm.sleep with
       | true, some sl => { x.norm.setG sl.rd 0 with sleep := none, pc := x.norm.pc + BitVec.ofNat 13 sl.size }
       | _, _ => x.norm } →
     (s.enabled q.g q.e = true → x.mask = false → x.urg.occ = false → s.parked q.g = false →
       (∃ p, p ∈ (s.gathAt q.g).shown ∧ p.e = q.e.val ∧ p.taken = false ∧ s.evcPending q.g p.src = true ∧ s.evcEnabled q.g p.src = true) →
       ∃ t, exec (.interruptEntry q) s = .next t ∧
         t.engOf q = { y with mask := true, maskSaved := false, urg := { x.urg.setG 1 (BitVec.ofNat 32 (q.g.val * 2 ^ 16 + q.e.val)) with
           occ := true, pc := BitVec.ofNat 13 (s.getF (Reg.qeVec q.g q.e) 12 2 * 4), tsk := 0xFFFF, cancel := false, cancelled := false,
           sleep := none } } ∧
         (∀ p, p ≠ q → t.engOf p = s.engOf p) ∧ { t with eng := s.eng, gath := s.gath } = s) ∧
     ((s.enabled q.g q.e = false ∨ x.mask = true ∨ x.urg.occ = true ∨ ∀ p, p ∈ (s.gathAt q.g).shown → p.e ≠ q.e.val) →
       exec (.interruptEntry q) s = .next s)) ∧
  (∀ (q : EngId) (s : State) (c : Ctx), s.ctxOf q = c →
     (∀ (a : IArgs) (n : Nat) (m wait : Word), n = (if a.x then 8 else 4) → s.executes q n a.pr false → (a.x = true → a.imm12 = 0) →
       m = (if a.x then a.ext else a.imm12.zeroExtend 32) → wait = c.gr a.ra.toNat →
       (s.wakeable q.g q.e = true → s.reads q (.ewait q a) → ∃ t, exec (.ewait q a) s = .next t ∧ s.ctxStep t q (c.wrote a.rd 0 n)) ∧
       (s.wakeable q.g q.e = false →
         (m.getLsbD 0 = true → wait = 0 → s.reads q (.ewait q a) → ∃ t, exec (.ewait q a) s = .next t ∧ s.ctxStep t q (c.wrote a.rd 1 n)) ∧
         (m.getLsbD 0 = true → wait ≠ 0 → s.reads q (.ewait q a) → ∃ t, exec (.ewait q a) s = .next t ∧
           s.ctxStep t q { c with sleep := some ⟨a.rd.toNat, some (s.now + wait.toNat), n, false⟩ }) ∧
         (m.getLsbD 0 = false → s.reads q (.ewait q a) → ∃ t, exec (.ewait q a) s = .next t ∧
           s.ctxStep t q { c with sleep := some ⟨a.rd.toNat, none, n, false⟩ }))) ∧
     (∀ sl, c.sleep = some sl → c.occ = true →
       (s.enabled q.g q.e = true → (sl.woken = true ∨ (s.wakeable q.g q.e = true ∧ ∃ p, p ∈ (s.gathAt q.g).shown ∧ p.e = q.e.val)) →
         ∃ t, exec (.ewaitWake q) s = .next t ∧
           s.ctxStep t q { c.setG sl.rd 0 with sleep := none, pc := c.pc + BitVec.ofNat 13 sl.size }) ∧
       (s.enabled q.g q.e = true → (∃ d, sl.deadline = some d ∧ d ≤ s.now) →
         ∃ t, exec (.ewaitTimeout q) s = .next t ∧
           s.ctxStep t q { c.setG sl.rd 1 with sleep := none, pc := c.pc + BitVec.ofNat 13 sl.size }) ∧
       (s.enabled q.g q.e = false → exec (.ewaitWake q) s = .next s ∧ exec (.ewaitTimeout q) s = .next s)))

/-- TSELF, EMASK, MFS, MTS (R53, R68) and ESIG (R89): the specials read, the mask, the far bases, and a software source set pending. -/
def Obligations.ControlInstructionResults : Prop :=
  ∀ (q : EngId) (s : State) (c : Ctx) (x : Eng), s.ctxOf q = c → s.engOf q = x →
    (∀ a : RArgs, s.executes q 4 a.pr a.pn → a.x = false → a.fn = 0 → a.rb = 0 →
      (a.ra = 0 → s.reads q (.tself q a) → ∃ t, exec (.tself q a) s = .next t ∧
        s.ctxStep t q (c.wrote a.rd (BitVec.ofNat 32 (q.g.val * 2 ^ 16 + c.tsk.toNat)) 4)) ∧
      (c.released → ∀ (w : Word) (g src : Nat), w = c.gr a.ra.toNat → g = w.toNat / 2 ^ 16 % 64 → src = w.toNat % 512 →
        (w.toNat < 2 ^ 22 → w.toNat / 512 % 128 = 0 → 448 ≤ src →
          s.reads q (.esig q a) → ∃ t, exec (.esig q a) s = .next t ∧ (s.evcSet g src).ctxStep t q (c.wrote a.rd 0 4)) ∧
        ((2 ^ 22 ≤ w.toNat ∨ w.toNat / 512 % 128 ≠ 0 ∨ src < 448) →
          s.reads q (.esig q a) → ∃ t, exec (.esig q a) s = .next t ∧ s.ctxStep t q (c.wrote a.rd 1 4)))) ∧
    (∀ (a : IArgs) (n : Nat) (m : Word), n = (if a.x then 8 else 4) → s.executes q n a.pr false → (a.x = true → a.imm12 = 0) →
      m = (if a.x then a.ext else a.imm12.zeroExtend 32) →
      (s.reads q (.emask q a) → ∃ t, exec (.emask q a) s = .next t ∧
        s.engStep t q { x.setCtx x.cur (c.wrote a.rd (if x.mask then 1 else 0) n) with mask := m.getLsbD 0 }) ∧
      (∀ v : Word, (m.toNat, v) ∈ [(0, c.pc.zeroExtend 32), (1, c.tsk.zeroExtend 32), (2, if s.urgOf q then 1 else 0),
          (3, BitVec.ofNat 32 (q.g.val * 2 ^ 16 + q.e.val)), (5, c.ctrHi), (6, if x.mask then 1 else 0),
          (8, (c.fbr 0).truncate 32), (9, (c.fbr 1).truncate 32), (10, (c.fbr 2).truncate 32), (11, (c.fbr 3).truncate 32),
          (12, ((c.fbr 0) >>> 32).truncate 32), (13, ((c.fbr 1) >>> 32).truncate 32), (14, ((c.fbr 2) >>> 32).truncate 32),
          (15, ((c.fbr 3) >>> 32).truncate 32)] →
        s.reads q (.mfs q a) → ∃ t, exec (.mfs q a) s = .next t ∧ s.ctxStep t q (c.wrote a.rd v n)) ∧
      (m = 4 → s.reads q (.mfs q a) → ∃ t, exec (.mfs q a) s = .next t ∧
        s.ctxStep t q (Ctx.wrote { c with ctrHi := (s.sysctr >>> 32).truncate 32 } a.rd (s.sysctr.truncate 32) n)) ∧
      (m = 7 → s.reads q (.mfs q a) → ∃ t, exec (.mfs q a) s = .next t ∧
        s.ctxStep t q (Ctx.wrote { c with cancel := false } a.rd (if c.cancel then 1 else 0) n)) ∧
      (a.rd = 0 → ∀ k : Fin 4,
        (m.toNat = 8 + k.val → s.reads q (.mts q a) → ∃ t, exec (.mts q a) s = .next t ∧
          s.ctxStep t q { c.setFb k ((((c.fbr k) >>> 32).truncate 16 : BitVec 16) ++ c.gr a.ra.toNat) with
            pc := c.pc + BitVec.ofNat 13 n }) ∧
        (m.toNat = 12 + k.val → s.reads q (.mts q a) → ∃ t, exec (.mts q a) s = .next t ∧
          s.ctxStep t q { c.setFb k (((c.gr a.ra.toNat).truncate 16 : BitVec 16) ++ ((c.fbr k).truncate 32 : BitVec 32)) with
            pc := c.pc + BitVec.ofNat 13 n })))

/-- An instruction whose predicate fails only moves pc on (R61); one with a bit that must be 0 faults ILLEGAL (R62) and has no effect: shown
for an integer, a store, a far and a control instruction. So does a word whose opcode no table gives (R62), and a command that names another
instruction than the engine's next word does nothing (the model's choice, log entry 71). A local access that reaches 0x6000 faults
LOCAL_RANGE and a misaligned one ALIGN, with no effect of its own (R57). A fault (R48-R51, R92) is recorded with its context, task, cause
and addresses; a later one while valid is set only sets lost. The engine's fault source is raised when its gathering's source is set, and
the context is free. -/
def Obligations.EngineSkipsAndFaults : Prop :=
  (∀ (q : EngId) (s : State) (c : Ctx) (b : Bool), s.ctxOf q = c → s.running q = true → s.pageOf q c.pc.toNat = .valid →
     c.pc.toNat + 4 ≤ 0x1FFC →
     (∀ a : RArgs, c.pred a.pr.toNat = a.pn → ∀ i, i ∈ [Instr.add q a, .div q a, .pcmpEq q a, .tready q a, .tdone q a, .esig q a] → s.reads q i →
       ∃ t, exec i s = .next t ∧ s.ctxStep t q { c with pc := c.pc + 4 }) ∧
     (∀ a : MArgs, c.pred a.pr.toNat = false → ∀ i, i ∈ [Instr.ld q a, .st q a, .vst q a] → s.reads q i →
       ∃ t, exec i s = .next t ∧ s.ctxStep t q { c with pc := c.pc + 4 }) ∧
     (∀ a : TArgs, c.pred a.pr.toNat = false → ∀ i, i ∈ [Instr.fld q a, .fst q a, .amoswap q a, .fold q a] → s.reads q i →
       ∃ t, exec i s = .next t ∧ s.ctxStep t q { c with pc := c.pc + 4 }) ∧
     (∀ a : RArgs, a.x = b → c.pred a.pr.toNat ≠ a.pn → b = true → ∀ i, i ∈ [Instr.add q a, .div q a, .tready q a, .tdone q a] → s.reads q i →
       exec i s = .next (s.fault q.g q.e (s.urgOf q) 0x01 c.pc.toNat c.pc.toNat c.pc.toNat)) ∧
     (∀ (a : RArgs) (w : Word), s.codeWord q c.pc.toNat = w → wordOpKnown w = false → exec (.add q a) s =
       .next (s.fault q.g q.e (s.urgOf q) 0x01 c.pc.toNat c.pc.toNat c.pc.toNat)) ∧
     (∀ (a : RArgs) (w : Word), s.codeWord q c.pc.toNat = w → wordOpKnown w = true → wordFnKnown w = true → ¬ s.reads q (.add q a) →
       exec (.add q a) s = .next s)) ∧
  (∀ (q : EngId) (a : MArgs) (s : State) (c : Ctx) (addr n : Nat) (i : Instr), s.executes q 4 a.pr false → a.x = false →
     s.ctxOf q = c → addr = (c.gr a.ra.toNat + a.off10.signExtend 32).toNat →
     s.reads q i →
     ((a.sz ≠ 3 ∧ (i, n) ∈ [(.ld q a, 2 ^ a.sz.toNat), (.ldu q a, 2 ^ a.sz.toNat), (.st q a, 2 ^ a.sz.toNat)]) ∨
       (a.sz = 0 ∧ a.rd.toNat < 16 ∧ (i, n) ∈ [(.vld q a, 32), (.vst q a, 32)])) →
       (0x6000 < addr + n → exec i s = .next (s.fault q.g q.e (s.urgOf q) 0x05 c.pc.toNat c.pc.toNat addr)) ∧
       (addr + n ≤ 0x6000 → addr % n ≠ 0 → exec i s = .next (s.fault q.g q.e (s.urgOf q) 0x04 c.pc.toNat c.pc.toNat addr))) ∧
  (∀ (s : State) (g : Fin 64) (e : Fin 16) (u : Bool) (cause pc issue addr : Nat), cause < 256 → pc < 2 ^ 13 → issue < 2 ^ 13 →
     (s.gathAt g).ready = [] → (∀ w : Fin 16, s.rd (Reg.evcPend g w) = 0) → s.routeMode g (384 + e) ≠ 1 →
     s.taskOf g e u = none →
     ∀ t, t = s.fault g e u cause pc issue addr →
       ((t.engAt g e).ctx u).occ = false ∧
       t.evcPending g (384 + e) = true ∧
       (s.flag (Reg.qeFault g e) 31 = false →
         t.flag (Reg.qeFault g e) 31 = true ∧ t.getF (Reg.qeFault g e) 7 0 = cause ∧
         t.getF (Reg.qeFault g e) 23 8 = ((s.engAt g e).ctx u).tsk.toNat ∧ t.flag (Reg.qeFault g e) 29 = u ∧
         t.getF (Reg.qeFaultPc g e) 12 0 = pc ∧ t.getF (Reg.qeFaultPc g e) 28 16 = issue ∧
         t.rd (Reg.qeFaultAddrLo g e) = BitVec.ofNat 32 addr ∧ t.getF (Reg.qeFaultAddrHi g e) 15 0 = addr / 2 ^ 32 % 2 ^ 16) ∧
       (s.flag (Reg.qeFault g e) 31 = true →
         t.flag (Reg.qeFault g e) 30 = true ∧ t.getF (Reg.qeFault g e) 29 0 = s.getF (Reg.qeFault g e) 29 0 ∧
         t.rd (Reg.qeFaultPc g e) = s.rd (Reg.qeFaultPc g e) ∧ t.rd (Reg.qeFaultAddrLo g e) = s.rd (Reg.qeFaultAddrLo g e)))

/-! ### Tasks, events and mailboxes (chapter 3) -/

/-- A register write that passes the gate (R141, R145, R153, R505) answers OK: writes of QE_CTRL, TSU_DESC_BASE and _COUNT, GATH_PWR and
EVC_ROUTE do what R45, R97, R125 and R120 say, and a requested park happens once every engine is held and no task is left. -/
def Obligations.GatheringRegisterWrites : Prop :=
  ∀ (ini : Ini) (v : Word) (s : State) (g : Fin 64),
    (∀ e : Fin 16, s.regGate ini (Reg.qeCtrl g e) true v = .ok → (s.ctxOf ⟨g, e⟩).sleep = none →
      ∃ b : State, (∀ p, b.engOf p = s.engOf p) ∧ { b with eng := s.eng } = s.wr (Reg.qeCtrl g e) (v &&& 1) ∧
        exec (.qeEnableWrite ini ⟨g, e⟩ v) s = .next
          { (if v.getLsbD 0 then b.dispatch g else b).represent g with resp := .ok 0 }) ∧
    (s.regGate ini (Reg.tsuDescBase g) true v = .ok → ∀ x, s.gathAt g = x →
      (x.settle = [] ∧ x.ready = [] ∧ x.running = [] →
        exec (.tsuDescWrite ini g false v) s = .next { s.wr (Reg.tsuDescBase g) (v &&& 0x3FFFFE0) with resp := .ok 0 }) ∧
      (¬(x.settle = [] ∧ x.ready = [] ∧ x.running = []) →
        exec (.tsuDescWrite ini g false v) s = .next { s.setB (Reg.tsuSts g) 23 true with resp := .ok 0 })) ∧
    (s.regGate ini (Reg.tsuDescCount g) true v = .ok → ∀ x, s.gathAt g = x →
      (x.settle = [] ∧ x.ready = [] ∧ x.running = [] →
        exec (.tsuDescWrite ini g true v) s = .next { s.wr (Reg.tsuDescCount g) (v &&& 0xFFFF) with resp := .ok 0 })) ∧
    (s.regGate ini (Reg.gathPwr g) true v = .ok →
      (v.getLsbD 0 = true → exec (.gathPwrWrite ini g v) s = .next { s.setB (Reg.gathPwr g) 0 true with resp := .ok 0 }) ∧
      (v.getLsbD 0 = false → s.parked g = true → ∃ t, exec (.gathPwrWrite ini g v) s = .next t ∧ t.resp = .ok 0 ∧
        t.parked g = false ∧ (∀ e : Fin 16, t.enabled g e = false ∧ (t.engAt g e).page = [] ∧
          (t.engAt g e).norm.occ = false ∧ (t.engAt g e).urg.occ = false) ∧ (∀ h, h ≠ g.val → t.gathAt h = s.gathAt h) ∧
        (∀ w : Fin 16, t.rd (Reg.evcEn g w) = s.rd (Reg.evcEn g w)))) ∧
    ((s.flag (Reg.gathPwr g) 0 = true ∧ s.parked g = false ∧ (∀ e : Fin 16, s.enabled g e = false) ∧
        (s.gathAt g).settle = [] ∧ (s.gathAt g).ready = [] ∧ (s.gathAt g).running = [] →
      exec (.gatheringPark g) s = .next ((s.setB (Reg.gathPwr g) 1 true).represent g)) ∧
     ((∃ e : Fin 16, s.enabled g e = true) ∨ (s.gathAt g).running ≠ [] → exec (.gatheringPark g) s = .next s))

/-- SETTLE_EXPIRY (R99, R100, R102): once 1,000 counts have passed since its stamp, the first task of settle is read from its descriptor and
goes to the tail of the ready list, and the scheduler dispatches; a descriptor with a reserved bit in use completes it FAULTED, and so does a
refused read; before that nothing changes. CANCEL_MEMORY_EXPIRY (R103) frees an entry as old and keeps every other. The scheduler (R56, R104):
with a task ready and an engine free, the first ready task of highest priority is in the normal context of the first free engine from the
pointer on, its pc, g1-g4 and tsk from its descriptor, and it is no longer ready; a parked gathering dispatches nothing. -/
def Obligations.SettledTasksAreDispatched : Prop :=
  (∀ (g : Fin 64) (id : BitVec 16) (s : State) (x : Gath), s.gathAt g = x →
     (∀ m rest, x.settle = m :: rest → m.id = id.toNat →
       (s.now < m.at_ + 1000 → exec (.settleExpiry g id) s = .next s) ∧
       (∀ s1 d k, m.at_ + 1000 ≤ s.now → s.memRead ⟨1, g⟩ (s.descAddr g id.toNat) 24 = (s1, .ok, d) →
         leAt d 0 4 / 2 ^ 17 = 0 → leAt d 0 4 % 4 = 0 → leAt d 20 4 / 2 ^ 30 % 2 = 0 → leAt d 20 4 % 2 ^ 15 = 0 →
         k = (⟨id.toNat, leAt d 0 4 / 2 ^ 13 % 8, decide (leAt d 0 4 / 2 ^ 16 % 2 = 1), leAt d 0 4 % 2 ^ 13, BitVec.ofNat 32 (leAt d 4 4),
           BitVec.ofNat 32 (leAt d 8 4), BitVec.ofNat 32 (leAt d 12 4), BitVec.ofNat 32 (leAt d 16 4),
           BitVec.ofNat 32 (leAt d 20 4)⟩ : Machine.Task) →
         ∃ t, exec (.settleExpiry g id) s = .next t ∧ ∃ b1 b : State,
           b1 = s1.setGath g { s1.gathAt g with settle := rest } ∧
           b = b1.setGath g { b1.gathAt g with ready := (s1.gathAt g).ready ++ [k] } ∧ t = b.dispatch g) ∧
       (∀ s1 d, m.at_ + 1000 ≤ s.now → s.memRead ⟨1, g⟩ (s.descAddr g id.toNat) 24 = (s1, .ok, d) →
         (leAt d 0 4 % 2 ^ 32 / 2 ^ 17 ≠ 0 ∨ leAt d 0 4 % 4 ≠ 0 ∨ leAt d 20 4 / 2 ^ 30 % 2 ≠ 0 ∨ leAt d 20 4 % 2 ^ 15 ≠ 0) →
         ∃ t, exec (.settleExpiry g id) s = .next t ∧
           t = ((s1.setGath g { s1.gathAt g with settle := rest }).completeTask g id.toNat 3 1
             (some (BitVec.ofNat 32 (leAt d 20 4)))).retryTasks g) ∧
       (∀ s1 d, m.at_ + 1000 ≤ s.now → s.memRead ⟨1, g⟩ (s.descAddr g id.toNat) 24 = (s1, .domain, d) →
         ∃ t, exec (.settleExpiry g id) s = .next t ∧
           t = ((s1.setGath g { s1.gathAt g with settle := rest }).completeTask g id.toNat 3 7 (some 0)).retryTasks g)) ∧
     ((∃ m, m ∈ x.cancelMem ∧ m.id = id.toNat ∧ m.at_ + 1000 ≤ s.now) →
       ∃ t, exec (.cancelMemoryExpiry g id) s = .next t ∧ { t with gath := s.gath } = s ∧ (∀ h, h ≠ g.val → t.gathAt h = s.gathAt h) ∧
         { t.gathAt g with cancelMem := x.cancelMem } = x ∧ (t.gathAt g).cancelMem.length < x.cancelMem.length ∧
         (∀ m, m ∈ (t.gathAt g).cancelMem ↔ m ∈ x.cancelMem ∧ ¬ (m.id = id.toNat ∧ m.at_ + 1000 ≤ s.now))) ∧
     ((∀ m, m ∈ x.cancelMem → m.id = id.toNat → s.now < m.at_ + 1000) →
       ∃ t, exec (.cancelMemoryExpiry g id) s = .next t ∧ { t with gath := s.gath } = s ∧ ∀ h, t.gathAt h = s.gathAt h)) ∧
  (∀ (g : Fin 64) (e : Nat) (s : State) (x : Gath) (n : Eng) (k : Machine.Task), s.gathAt g = x → s.engAt g e = n → s.parked g = false →
     x.ready = [k] → k.prio < 8 →
     (rotFrom x.ptr).find? (fun e => s.engFree g e) = some e →
       (s.dispatchLoops g).engAt g e = { n with norm := { (((n.norm.setG 1 k.g1).setG 2 k.g2).setG 3 k.g3).setG 4 k.g4 with
           occ := true, pc := BitVec.ofNat 13 k.pc, tsk := BitVec.ofNat 16 k.id, cancel := false, cancelled := false, sleep := none } } ∧
       (s.dispatchLoops g).gathAt g = { x with ready := [], running := x.running ++ [⟨k, e, false⟩], ptr := (e + 1) % 16 } ∧
       { s.dispatchLoops g with eng := s.eng, gath := s.gath } = s ∧ s.dispatch g = (s.dispatchLoops g).retryTasks g ∧
       ((∀ w : Fin 16, s.rd (Reg.evcPend g w) = 0) → s.dispatch g = s.dispatchLoops g)) ∧
  (∀ (g : Fin 64) (s : State), s.parked g = true → s.dispatch g = s)

/-- The end of a task (R106): when its descriptor can be read and written, bytes 24-27 hold its result and status and bytes 28-31 one more
than before; its completion event follows. -/
def Obligations.TaskEndWritesDescriptor : Prop :=
  ∀ (g : Fin 64) (id result status : Nat) (cpl : Word) (s s1 s2 : State) (old : List Byte), result < 4 → status < 2 ^ 16 →
    s.memRead ⟨1, g⟩ (s.descAddr g id + 20) 12 = (s1, .ok, old) →
    s1.memWrite ⟨1, g⟩ (s.descAddr g id + 24)
      (leBytes 4 (result * 2 ^ 30 + status) ++ leBytes 4 (leAt old 8 4 + 1)) = (s2, .ok) →
      s.completeTask g id result status (some cpl) =
        if cpl.getLsbD 31 then s2.evcSet (cpl.toNat / 2 ^ 24 % 64) (cpl.toNat / 2 ^ 15 % 512) else s2

/-- Presentation of a source (R116-R118, R121): one that is not pending and enabled, or is held by its moderation group, or already presented,
only leaves the stranded count; one that cannot be delivered is stranded; in interrupt mode it goes to one engine of its target set, and an
engine in EWAIT will wake; in task mode it is a TREADY whose READY or CANCELLED clears the pending bit. -/
def Obligations.SourceIsPresented : Prop :=
  ∀ (g : Fin 64) (src : Fin 512) (s : State) (x : Gath), s.gathAt g = x →
    ((s.evcPending g src = false ∨ s.evcEnabled g src = false ∨
        (s.undeliverable g src = false ∧ (s.moderated g src = true ∨ (∃ p, p ∈ x.shown ∧ p.src = src.val)))) →
      ∃ t, exec (.eventPresent g src) s = .next t ∧ { t with gath := s.gath } = s ∧ (∀ h, h ≠ g.val → t.gathAt h = s.gathAt h) ∧
        t.gathAt g = { x with strand := x.strand.filter (fun p => p.src != src.val) }) ∧
    (s.evcPending g src = true → s.evcEnabled g src = true →
      (s.undeliverable g src = true → (∀ p, p ∈ x.strand → p.src ≠ src.val) → s.getF (Reg.evcStrandTo g) 15 0 ≠ 0 →
        ∃ t, exec (.eventPresent g src) s = .next t ∧
          t.gathAt g = { x with
            strand := x.strand ++ [⟨src.val, s.now, false⟩], shown := x.shown.filter (fun p => p.src != src.val) } ∧
          t.evcPending g src = true ∧
          t.getF (Reg.evcStranded g) 15 0 = min (s.getF (Reg.evcStranded g) 15 0 + 1) 65535) ∧
      (s.undeliverable g src = false → s.routeMode g src = 0 → s.flag (Reg.evcRoute g src) 28 = false →
        (∀ p, p ∈ x.shown → p.src ≠ src.val) → ∀ e, s.presentee g src = some e →
          ∃ t, exec (.eventPresent g src) s = .next t ∧ { t with gath := s.gath, eng := s.eng } = s ∧ e < 16 ∧
            Nat.testBit (s.routeTarget g src) e = true ∧ (∀ k, k ≠ 16 * g.val + e → SMap.get (fun _ => Eng.reset) t.eng k = SMap.get (fun _ => Eng.reset) s.eng k) ∧
            t.engAt g e = (if s.inEwait g e then (s.engAt g e).wakeUp else s.engAt g e) ∧
            t.gathAt g = { x with
              strand := x.strand.filter (fun p => p.src != src.val), shown := x.shown ++ [⟨src.val, e, false⟩], evPtr := (e + 1) % 16 }) ∧
      (s.undeliverable g src = false → s.routeMode g src = 1 → s.moderated g src = false → (∀ p, p ∈ x.shown → p.src ≠ src.val) →
        ∀ s1 code, (s.unstrand g src).tready g (s.routeTarget g src) = (s1, code) →
          ∃ t, exec (.eventPresent g src) s = .next t ∧ (code = 0 ∨ code = 2 → t.evcPending g src = false) ∧
            (code = 3 → t.evcPending g src = true)))

/-- Timers of the event controller (R118, R121): a hold-off that has ended lets the group's pending sources go and restarts, and a source
still stranded after the timeout raises host event 0x02 once. A group that presents nothing holds nothing back afterwards. EVC_TAKE (R113):
an engine of the gathering reads the sources of the word that are pending, enabled and routed to it in interrupt mode, and clears exactly
those; anyone else reads 0. EVC_ROUTE (R120) takes a new route at once and presents the source again. -/
def Obligations.EventTimersAndTakes : Prop :=
  (∀ (g : Fin 64) (s : State) (x : Gath), s.gathAt g = x →
     (∀ (k : Fin 16) (m : Nat), SMap.get (fun _ => none) x.modAt k = some m → s.now < m + 100 * s.getF (Reg.evcMod g k) 15 0 →
       exec (.moderationHoldoffExpiry g k) s = .next s) ∧
     (∀ k : Fin 16, (SMap.get (fun _ => none) x.modAt k = none ∨
         ∃ m, SMap.get (fun _ => none) x.modAt k = some m ∧ m + 100 * s.getF (Reg.evcMod g k) 15 0 ≤ s.now) →
       (∀ src e, s.groupSources g k = [src] → s.evcPending g src = true → s.evcEnabled g src = true → s.undeliverable g src = false →
         s.routeMode g src = 0 → (∀ p, p ∈ x.shown → p.src ≠ src) → s.presentee g src = some e →
         ∃ t, exec (.moderationHoldoffExpiry g k) s = .next t ∧ SMap.get (fun _ => none) (t.gathAt g).modAt k = some s.now ∧
           ⟨src, e, false⟩ ∈ (t.gathAt g).shown) ∧
       ((∀ src, src ∈ s.groupSources g k → s.evcPending g src = false ∨ s.evcEnabled g src = false) →
         ∃ t, exec (.moderationHoldoffExpiry g k) s = .next t ∧ { t with gath := s.gath } = s ∧ t.holding g k = false)) ∧
     (∀ (src : Fin 512) (p : Strand), x.strand.find? (fun p => p.src == src.val) = some p →
       (p.raised = true ∨ s.now < p.at_ + 1000 * s.getF (Reg.evcStrandTo g) 15 0 → exec (.strandTimeout g src) s = .next s) ∧
       (p.raised = false → p.at_ + 1000 * s.getF (Reg.evcStrandTo g) 15 0 ≤ s.now →
         ∃ b : State, b.gathAt g = { x with strand := x.strand.map (fun p => if p.src = src.val then { p with raised := true } else p) } ∧
           { b with gath := s.gath } = s ∧
           exec (.strandTimeout g src) s = .next (b.hostEvent 0x02 (g.val * 2 ^ 16 + src.val))))) ∧
  (∀ (g : Fin 64) (w : Fin 16) (s : State),
     (∀ q : EngId, q.g = g → s.regGate (.engine q) (Reg.evcTake g w) false 0 = .ok →
       ∃ t v, exec (.evcTakeRead (.engine q) g w) s = .next t ∧ t.resp = .ok v ∧
         (∀ b, b < 32 → v.getLsbD b = (s.evcPending g (32 * w + b) && s.evcEnabled g (32 * w + b) && s.routedTo g (32 * w + b) q.e)) ∧
         t.rd (Reg.evcPend g w) = s.rd (Reg.evcPend g w) &&& ~~~v ∧
         (∀ off, off ≠ Reg.evcPend g w → t.rd off = s.rd off) ∧ t.eng = s.eng) ∧
     (∀ ini, (∀ q, ini = .engine q → q.g ≠ g) → s.regGate ini (Reg.evcTake g w) false 0 = .ok →
       exec (.evcTakeRead ini g w) s = .next { s with resp := .ok 0 }) ∧
     (∀ (ini : Ini) (src : Fin 512) (v : Word), s.regGate ini (Reg.evcRoute g src) true v = .ok →
       ∃ b : State, b.gathAt g = { s.gathAt g with shown := (s.gathAt g).shown.filter (fun p => p.src != src.val) } ∧
         { b with gath := s.gath } = s.wr (Reg.evcRoute g src) (v &&& 0xDF00FFFF) ∧
         exec (.evcRouteWrite ini g src v) s = .next { b.present g src with resp := .ok 0 }))

/-- The channel protocol (R126, R127, R130, R131, R133): on a channel in use the sender's data words and MBX_SEND fill an empty channel and
count the message, the receiver's read of word 15 empties it, and a write while full or by another initiator than the sender leaves the
message as it is: a bus error on chip. Doorbells (R136-R140, R577): a host write of MBX_DBI sets the routed source of each bell it rings, an
engine's or the Spine's MBX_DBO_SET sets bells, and a host write of MBX_DBO clears those where it has a 1. Any other writer meets DOMAIN and
changes no bell. -/
def Obligations.MailboxesAndDoorbells : Prop :=
  (∀ (ini : Ini) (n : Fin 48) (k : Fin 16) (v : Word) (s : State), n.val < 32 →
     (s.regGate ini (Reg.mbxData n k) true v = .ok →
       (s.mbxUsed n = true → MbxEnd.ofIni ini = s.mbxSender n → s.mbxFull n = false →
         ∃ t, exec (.mbxDataWrite ini n k v) s = .next t ∧ t.resp = .ok 0 ∧ t.rd (Reg.mbxData n k) = v ∧
           (∀ off, off ≠ Reg.mbxData n k → t.rd off = s.rd off)) ∧
       (s.mbxUsed n = false ∨ MbxEnd.ofIni ini ≠ s.mbxSender n ∨ s.mbxFull n = true → Ini.isHost ini = false →
         exec (.mbxDataWrite ini n k v) s = .next { s with resp := .busError })) ∧
     (s.regGate ini (Reg.mbxSend n) true v = .ok →
       (s.mbxUsed n = true → MbxEnd.ofIni ini = s.mbxSender n → s.mbxFull n = false → v.getLsbD 0 = true →
         ∃ t, exec (.mbxSend ini n v) s = .next t ∧ t.resp = .ok 0 ∧ t.mbxFull n = true ∧
           t.getF (Reg.mbxSts n) 15 0 = (s.getF (Reg.mbxSts n) 15 0 + 1) % 2 ^ 16 ∧
           (∀ k : Fin 16, t.rd (Reg.mbxData n k) = s.rd (Reg.mbxData n k))) ∧
       (s.mbxUsed n = false ∨ MbxEnd.ofIni ini ≠ s.mbxSender n ∨ s.mbxFull n = true → Ini.isHost ini = false →
         exec (.mbxSend ini n v) s = .next { s with resp := .busError })) ∧
     (s.regGate ini (Reg.mbxData n 15) false 0 = .ok → s.mbxUsed n = true → MbxEnd.ofIni ini = s.mbxReceiver n → s.mbxFull n = true →
       ∃ t, exec (.mbxLastWordRead ini n) s = .next t ∧ t.resp = .ok (s.rd (Reg.mbxData n 15)) ∧ t.mbxFull n = false) ∧
     (s.regGate ini (Reg.mbxCfg n) true v = .ok →
       (ini = .spine → v.getLsbD 0 = false ∨ mbxCfgOk n v = true →
         exec (.mbxCfgWrite ini n v) s = .next { s.wr (Reg.mbxCfg n) (v &&& 0xFFFFFE01) with resp := .ok 0 }) ∧
       (ini ≠ .spine → exec (.mbxCfgWrite ini n v) s = .next { s with resp := .ok 0 }))) ∧
  (∀ (ini : Ini) (i : Fin 2) (v : Word) (s : State),
     (s.regGate .host0 (Reg.mbxDbi i) true v = .ok → ∀ b g src, b < 32 → v.toNat = 2 ^ b → s.flag (Reg.mbxDbiRoute (32 * i + b)) 31 = true →
       s.getF (Reg.mbxDbiRoute (32 * i + b)) 29 24 = g → s.getF (Reg.mbxDbiRoute (32 * i + b)) 23 15 = src →
       exec (.mbxDbi .host0 i v) s = .next { s.evcSet g src with resp := .ok 0 }) ∧
     (s.regGate ini (Reg.mbxDboSet i) true v = .ok → Ini.isEngineOrSpine ini = true →
       ∃ t, exec (.mbxDboSet ini i v) s = .next t ∧ t.resp = .ok 0 ∧ t.rd (Reg.mbxDbo i) = s.rd (Reg.mbxDbo i) ||| v) ∧
     (s.regGate .host0 (Reg.mbxDbo i) true v = .ok →
       exec (.mbxDboClear .host0 i v) s = .next { s.wr (Reg.mbxDbo i) (s.rd (Reg.mbxDbo i) &&& ~~~v) with resp := .ok 0 }) ∧
     (ini ≠ .host0 → s.regGate ini (Reg.mbxDbo i) true v = .ok →
       ∃ t, exec (.mbxDboClear ini i v) s = .next t ∧ t.resp = .domain ∧ t.rd (Reg.mbxDbo i) = s.rd (Reg.mbxDbo i)))

/-! ### Memory, matrix and check-value units (chapter 4) -/

/-- The check of R154, over every tag, port, direction and entry; every access of either memory is answered with a domain violation exactly
when a granule it touches fails the check, and then no byte has been read or written. -/
def Obligations.DomainCheckFollowsTable : Prop :=
  (∀ (t : Tx) (wr : Bool) (e : Word),
    domAllowed t wr e =
      (if t.tag = 1 then (if wr then e.getLsbD 1 else e.getLsbD 0)
      else if t.tag = 3 ∧ e.toNat / 2 ^ 16 % 256 ≠ 3 then (if wr then e.getLsbD 3 else e.getLsbD 2)
      else if t.tag ≠ e.toNat / 2 ^ 16 % 256 then false
      else if t.tag = 2 ∧ (0x40 ≤ t.port ∧ t.port ≤ 0x60 ∨ 0x70 ≤ t.port ∧ t.port ≤ 0x7F) ∧ e.getLsbD 0 = true then false
      else true)) ∧
  (∀ (s : State) (t : Tx) (a o n : Nat) (bs : List Byte),
    ((s.ssRead t a o n).2.1 = .domain ↔ ∃ k, k < n ∧ domAllowed t false (s.rd (Reg.memDomSs ((o + k) / 0x10000))) = false) ∧
    ((s.ssWrite t a o bs).2 = .domain ↔ ∃ k, k < bs.length ∧ domAllowed t true (s.rd (Reg.memDomSs ((o + k) / 0x10000))) = false) ∧
    ((s.hbmRead t a o n).2.1 = .domain ↔ ∃ k, k < n ∧ domAllowed t false (s.rd (Reg.memDomHbm ((o + k) / 0x200000))) = false) ∧
    ((s.hbmWrite t a o bs).2 = .domain ↔ ∃ k, k < bs.length ∧ domAllowed t true (s.rd (Reg.memDomHbm ((o + k) / 0x200000))) = false) ∧
    ((s.ssRead t a o n).2.1 = .domain → (s.ssRead t a o n).2.2 = []) ∧ ((s.hbmRead t a o n).2.1 = .domain → (s.hbmRead t a o n).2.2 = []) ∧
    ((s.ssWrite t a o bs).2 = .domain → (s.ssWrite t a o bs).1.ss = s.ss) ∧
    ((s.hbmWrite t a o bs).2 = .domain → (s.hbmWrite t a o bs).1.hbm = s.hbm))

/-- A refused Sheet store write changes no byte and is logged (R155, R158): while valid is 0 with its address, tag, port and the granule's
tag; every one counts. -/
def Obligations.DomainViolationIsLogged : Prop :=
  ∀ (s s1 : State) (t : Tx) (a o : Nat) (bs : List Byte) (e : Word), t.tag < 256 → t.port < 256 → o + bs.length ≤ 0x4000000 →
    s.ssWrite t a o bs = (s1, .domain) → s.refusal t true false o bs.length = some e →
      (∀ k, s1.ssByte k = s.ssByte k) ∧
      s1.rd Reg.memDvCount = BitVec.ofNat 32 (min ((s.rd Reg.memDvCount).toNat + 1) (2 ^ 32 - 1)) ∧
      (s.flag Reg.memDvInfo 31 = true → s1.rd Reg.memDvInfo = s.rd Reg.memDvInfo ∧ s1.rd Reg.memDvAddrLo = s.rd Reg.memDvAddrLo ∧
        s1.rd Reg.memDvAddrHi = s.rd Reg.memDvAddrHi) ∧
      (s.flag Reg.memDvInfo 31 = false → s1.rd Reg.memDvAddrLo = BitVec.ofNat 32 a ∧
        s1.rd Reg.memDvAddrHi = BitVec.ofNat 32 (a / 2 ^ 32 % 2 ^ 16) ∧ s1.flag Reg.memDvInfo 31 = true ∧
        s1.flag Reg.memDvInfo 30 = true ∧ s1.getF Reg.memDvInfo 23 16 = t.tag ∧
        s1.getF Reg.memDvInfo 15 8 = e.toNat / 2 ^ 16 % 256 ∧ s1.getF Reg.memDvInfo 7 0 = t.port)

/-- A write that is answered OK is read back, and leaves every other byte as it was: in the Sheet store, and in HBM, where a byte written
under another domain's key reads as noise before and after (R161, R164, R172). Nothing else of the Sheet store write changes the machine.
The canonical form of the Sheet store and of HBM is kept by every write, whatever its outcome, and by zeroing. -/
def Obligations.MemoryWritesAreReadBack : Prop :=
  (∀ (s s1 : State) (t : Tx) (a o : Nat) (bs : List Byte),
     (s.ssWrite t a o bs = (s1, .ok) → (∀ k, s1.ssByte k = if o ≤ k ∧ k < o + bs.length then bs.getD (k - o) 0 else s.ssByte k) ∧
       { s1 with ss := s.ss, ssErr := s.ssErr } = s) ∧
     (s.hbmWrite t a o bs = (s1, .ok) → (∀ k, s1.hbmByte k = if o ≤ k ∧ k < o + bs.length then bs.getD (k - o) 0 else s.hbmByte k) ∧
       { s1 with hbm := s.hbm, hbmErr := s.hbmErr, hbmc := s.hbmc } = { s with reg := s1.reg })) ∧
  (∀ (s : State) (t : Tx) (a : Nat) (bs : List Byte), SMap.wf (fun _ => (0 : Byte)) s.ss = true →
     SMap.wf (fun _ => (none : Option HbmByte)) s.hbm = true →
       SMap.wf (fun _ => (0 : Byte)) (s.memWrite t a bs).1.ss = true ∧
       SMap.wf (fun _ => (none : Option HbmByte)) (s.memWrite t a bs).1.hbm = true ∧
       ∀ (i : Fin 1024) (u : State), exec (.scrubComplete i) s = .next u → SMap.wf (fun _ => (0 : Byte)) u.ss = true ∧ u.hbm = s.hbm)

/-- Remap is set by the Spine alone and stays set (R146, R147); a change of tag leaves a Sheet store granule all 0 with scrub set, every access
of it waits until zeroing ends, and SCRUB_COMPLETE clears scrub (R156; that the zeroes stand from the write on is log entry 155's choice);
the background pass corrects single-bit errors of its sector, changes no byte, and on a double-bit error raises the memory event (R159, R161).
-/
def Obligations.RemapAndScrub : Prop :=
  ∀ (s : State),
    (∀ v : Word, s.regGate .spine Reg.sysMap true v = .ok ∧
      exec (.sysMapRemap .spine v) s = .next { s.wr Reg.sysMap (s.rd Reg.sysMap ||| (v &&& 1)) with resp := .ok 0 }) ∧
    (∀ (ini : Ini) (v : Word), ini ≠ .spine → ∃ t, exec (.sysMapRemap ini v) s = .next t ∧ t.resp = .domain ∧
      t.rd Reg.sysMap = s.rd Reg.sysMap) ∧
    (∀ i : Fin 1024, (s.flag (Reg.memDomSs i) 4 = false → exec (.scrubComplete i) s = .next s) ∧
      (s.flag (Reg.memDomSs i) 4 = true → ∃ t, exec (.scrubComplete i) s = .next t ∧ t.flag (Reg.memDomSs i) 4 = false ∧
        t.getF (Reg.memDomSs i) 23 16 = s.getF (Reg.memDomSs i) 23 16 ∧
        { t with reg := s.reg } = s ∧ ∀ off, off ≠ Reg.memDomSs i → t.rd off = s.rd off)) ∧
    (∀ (i : Fin 1024) (tag flags : Nat), tag < 256 → tag ≠ s.getF (Reg.memDomSs i) 23 16 →
      (s.domainWrite false i tag flags).flag (Reg.memDomSs i) 4 = true ∧
      (s.domainWrite false i tag flags).getF (Reg.memDomSs i) 23 16 = tag ∧
      (∀ k, (s.domainWrite false i tag flags).ssByte k = if k / 0x10000 = i.val then 0 else s.ssByte k) ∧
      (∀ (t : Tx) (o n : Nat), i.val * 0x10000 ≤ o → 0 < n → o + n ≤ (i.val + 1) * 0x10000 →
        (s.domainWrite false i tag flags).memWaits t (ssBase + o) n = true)) ∧
    (∀ (b : Fin 128) (k : Fin 16384), ∃ t, exec (.sramScrub b k) s = .next t ∧
      (∀ p, p ∈ t.ssErr ↔ p ∈ s.ssErr ∧ ¬(p.2 = 1 ∧ p.1 / 4 = bankSector b k / 32)) ∧ t.ss = s.ss ∧
      ((∀ w, w / 4 = bankSector b k / 32 → errAt s.ssErr w ≠ 2) → { t with ssErr := s.ssErr } = s) ∧
      ((∃ w, w / 4 = bankSector b k / 32 ∧ errAt s.ssErr w = 2) →
        ∃ (a : State) (d : Nat), { a with ssErr := s.ssErr, free := s.free } = s ∧ t = a.memEvent 2 d))

/-- The pseudo-channel controllers (R163, R165-R168): a command slot takes the oldest buffered write, once it may issue, or a ready read and leaves
its row open, and an activation queues refreshes of no rows but the two beside it; a refresh closes the bank's row; nref_k takes 8-16 only;
retraining falls due every 64 ms, starts at a slice boundary or, 1 ms late, at once and counted, holds the channel, and ends with it ready.
-/
def Obligations.HbmControllerCommands : Prop :=
  ∀ (p : Fin 64) (s : State) (c : HbmCtl), s.hbmAt p = c →
    (∀ (rdy : BitVec 16) (wr : Bool),
      (s.flag (Reg.hbmPcSts p) 30 = true → exec (.hbmCommandIssue p rdy wr) s = .next s) ∧
      (s.flag (Reg.hbmPcSts p) 30 = false →
        (∀ b r sec ws, wr = true → c.writes = (b, r, sec) :: ws → c.reads = [] ∨ 48 ≤ c.writes.length →
          ∃ t, exec (.hbmCommandIssue p rdy wr) s = .next t ∧ { t with hbmc := s.hbmc } = s ∧
            (t.hbmAt p).writes = ws ∧ (t.hbmAt p).reads = c.reads ∧ (t.hbmAt p).row b = some r ∧
            ∀ x, x ∈ (t.hbmAt p).nref → x ∈ c.nref ∨ x.1 = b ∧ (x.2 + 1 = r ∨ x.2 = r + 1)) ∧
        (∀ b r, c.reads = [(b, r)] → b < 16 → rdy.getLsbD b = true → c.writes = [] →
          ∃ t, exec (.hbmCommandIssue p rdy wr) s = .next t ∧ { t with hbmc := s.hbmc } = s ∧
            (t.hbmAt p).reads = [] ∧ (t.hbmAt p).row b = some r))) ∧
    (∀ b : Fin 16, ∃ t, exec (.hbmRefresh p b) s = .next t ∧ { t with hbmc := s.hbmc } = s ∧ (t.hbmAt p).row b = none ∧
      (∀ k, k ≠ b.val → (t.hbmAt p).row k = c.row k) ∧ ∀ x, x ∈ (t.hbmAt p).nref ↔ x ∈ c.nref ∧ x.1 ≠ b.val) ∧
    (∀ (ini : Ini) (v : Word), s.regGate ini Reg.hbmCfg true v = .ok →
      exec (.hbmCfgWrite ini v) s = .next
        { (if 8 ≤ v.toNat % 32 ∧ v.toNat % 32 ≤ 16 then s.wr Reg.hbmCfg (v &&& 0x1F) else s) with resp := .ok 0 }) ∧
    (∀ m, s.now = 64000000 * m + 1000000 * p + s.now % 1000000 → c.dueLast ≠ some (64000000 * m + 1000000 * p) →
      s.flag (Reg.hbmPcSts p) 30 = false →
      ∃ t, exec (.retrainDue p) s = .next t ∧ (t.hbmAt p).due = some (64000000 * m + 1000000 * p) ∧ { t with hbmc := s.hbmc } = s) ∧
    (∀ d, c.due = some d → (∀ k : Fin 64, s.flag (Reg.hbmPcSts k) 30 = false) →
      (s.flag (Reg.couchSheetCtrl 0) 31 = true → ∃ t, exec (.retrainStart p) s = .next t ∧ t.flag (Reg.hbmPcSts p) 30 = true ∧
        t.flag (Reg.hbmPcSts p) 31 = false ∧ (t.hbmAt p).due = none ∧ t.getF (Reg.hbmPcSts p) 15 0 = s.getF (Reg.hbmPcSts p) 15 0) ∧
      (d + 1000000 ≤ s.now ∨ s.flag (Reg.couchSheetCtrl 0) 31 = false → ∃ t, exec (.retrainForced p) s = .next t ∧
        t.flag (Reg.hbmPcSts p) 30 = true ∧ t.flag (Reg.hbmPcSts p) 31 = false ∧ (t.hbmAt p).due = none ∧
        t.getF (Reg.hbmPcSts p) 15 0 = min (s.getF (Reg.hbmPcSts p) 15 0 + 1) 65535)) ∧
    ((∃ k : Fin 64, s.flag (Reg.hbmPcSts k) 30 = true) →
      exec (.retrainStart p) s = .next s ∧ exec (.retrainForced p) s = .next s) ∧
    (s.flag (Reg.hbmPcSts p) 30 = true → ∃ t, exec (.retrainEnd p) s = .next t ∧ t.flag (Reg.hbmPcSts p) 30 = false ∧
      t.flag (Reg.hbmPcSts p) 31 = true ∧ (∀ off, off ≠ Reg.hbmPcSts p → t.rd off = s.rd off) ∧ { t with reg := s.reg } = s)

/-- COMPUTE (R174-R178): a descriptor of length 0 reads nothing and leaves the running and sequence values; one of a single block enters its
bytes into the CRC; the status is DONE or, when compare is set and the final value differs, MISMATCH; a reserved field gives BAD_FIELD. Its
place is free. -/
def Obligations.CheckValueOfOneBlock : Prop :=
  ∀ (u : Fin 32) (s : State) (d : QDesc) (rest : List QDesc), s.queueOf (0x80 + u) = d :: rest → d.started = false → d.kind = 1 →
    d.cpl = false → d.evt = false → s.flag (Reg.cvuEvt u) 31 = false →
    (∀ (c : CvDesc) (bs : List Byte) (s1 : State) (final : Nat), CvDesc.parse d.bytes = some c → c.fold = 0 → c.init = true → 0 < c.length →
      c.length ≤ 2 ^ (5 + c.blk) → s.memWaits ⟨1, 0x90 + u⟩ c.addr c.length = false → s.memRead ⟨1, 0x90 + u⟩ c.addr c.length = (s1, .ok, bs) → s1.queues = s.queues →
      s1.flag (Reg.cvuEvt u) 31 = false → final = (crcOf c.poly).final bs →
      ∃ t, exec (.compute u) s = .next t ∧ t.queueOf (0x80 + u) = rest ∧
        t.getF (Reg.cvuSts u) 7 0 = (if c.compare = true ∧ final ≠ c.expected % 2 ^ (crcOf c.poly).width then 1 else 0) ∧
        t.pair (Reg.cvuRun u 0) (Reg.cvuRun u 1) = (crcOf c.poly).run (crcOf c.poly).init bs ∧
        t.rd (Reg.cvuSeq u 0) = s1.rd (Reg.cvuSeq u 0) ∧ t.ss = s1.ss ∧ t.hbm = s1.hbm) ∧
    (∀ c : CvDesc, CvDesc.parse d.bytes = some c → c.length = 0 →
      ∃ t, exec (.compute u) s = .next t ∧ t.queueOf (0x80 + u) = rest ∧ (∀ off, off ≠ Reg.cvuSts u → t.rd off = s.rd off) ∧
        t.ss = s.ss ∧ t.hbm = s.hbm) ∧
    (CvDesc.parse d.bytes = none → ∃ t, exec (.compute u) s = .next t ∧ t.queueOf (0x80 + u) = rest ∧ t.getF (Reg.cvuSts u) 7 0 = 4 ∧
      ∀ off, off ≠ Reg.cvuSts u → t.rd off = s.rd off)

/-- CVU_RUN and CVU_SEQ are taken only while the unit is idle, else run_busy is set (R179); writing a ring's entries returns its write index
to 0 (R186); a descriptor of a kind the unit does not define completes and changes nothing (R82). -/
def Obligations.UnitQueueRegisters : Prop :=
  ∀ (ini : Ini) (v : Word) (s : State),
    (∀ (u : Fin 32) (r : Fin 4) (off : Nat), off = (if r.val < 2 then Reg.cvuRun u r else Reg.cvuSeq u (r - 2)) →
      s.regGate ini off true v = .ok →
      (s.queueOf (0x80 + u) = [] → exec (.cvuRunWrite ini u r v) s = .next { s.wr off v with resp := .ok 0 }) ∧
      (s.queueOf (0x80 + u) ≠ [] → exec (.cvuRunWrite ini u r v) s = .next { s.setB (Reg.cvuSts u) 29 true with resp := .ok 0 })) ∧
    (∀ k : RingId, s.regGate ini (ringCtlOf k) true v = .ok → ∃ t, exec (.ringCtlWrite ini k v) s = .next t ∧ t.resp = .ok 0 ∧
      t.getF (ringCtlOf k) 31 16 = 0 ∧ t.getF (ringCtlOf k) 15 0 = v.toNat % 2 ^ 16 ∧ ∀ off, off ≠ ringCtlOf k → t.rd off = s.rd off) ∧
    (∀ (q : BitVec 10) (d : QDesc) (rest : List QDesc), s.queueOf q.toNat = d :: rest → d.started = false → d.cpl = false → d.evt = false →
      kindDefined q.toNat d.kind = false →
      (q.toNat < 0x80 → ∃ t, exec (.descriptorUndefinedKind q) s = .next t ∧ t.queueOf q.toNat = rest ∧
        { t with queues := s.queues, free := s.free } = s) ∧
      (0x80 ≤ q.toNat → ∃ t, exec (.descriptorUndefinedKind q) s = .next t ∧ t.queueOf q.toNat = rest ∧
        t.getF (Reg.cvuSts (q.toNat - 0x80)) 7 0 = 4 ∧ { t with queues := s.queues, free := s.free, reg := s.reg } = s))

/-! ### Commits, registers and pace (chapter 1) -/

/-- A register write (R5, R6, R145): a shadow field goes to the shadow copy and leaves the active set alone, a live field takes effect at
once, a write-1-to-clear bit clears, read-only fields keep what they hold, and a misaligned or absent offset is a bus error with no effect.
-/
def Obligations.RegisterWriteByAccessType : Prop :=
  ∀ (ini : Ini) (off : BitVec 28) (v : Word) (s : State),
    (off.toNat % 4 ≠ 0 ∨ (RegTable.block? off.toNat = none ∧ (off.toNat < 0x20000 ∨ 0x30000 ≤ off.toNat)) →
      exec (.registerWrite ini off v) s = .next { s with resp := .busError }) ∧
    (∀ (k : Fin 4) (r : Fin 8), off.toNat = 0x900100 + 0x40 * k + 4 * r → s.regGate ini off.toNat true v = .ok →
      ∃ t, exec (.registerWrite ini off v) s = .next t ∧ t.resp = .ok 0 ∧ t.rd off.toNat &&& shMask off.toNat = s.rd off.toNat &&& shMask off.toNat ∧
        (shMask off.toNat ≠ 0 → t.rdSh off.toNat &&& shMask off.toNat = v &&& shMask off.toNat) ∧
        (∀ o, o ≠ off.toNat → t.rd o = s.rd o ∧ t.rdSh o = s.rdSh o) ∧ { t with reg := s.reg, shd := s.shd, resp := s.resp } = s) ∧
    (∀ (g : Fin 64) (w : Fin 16), off.toNat = Reg.evcEn g w → s.regGate ini off.toNat true v = .ok →
      exec (.registerWrite ini off v) s = .next { s.wr off.toNat v with resp := .ok 0 }) ∧
    (off.toNat = Reg.memDvInfo → s.regGate ini off.toNat true v = .ok →
      ∃ t, exec (.registerWrite ini off v) s = .next t ∧ t.flag Reg.memDvInfo 31 = (s.flag Reg.memDvInfo 31 && !v.getLsbD 31) ∧
        t.getF Reg.memDvInfo 30 0 = s.getF Reg.memDvInfo 30 0)

/-- A COMMIT write (R21, R27): a group in range is armed under the link tag, one already armed being left as it is; a group outside the
unit's range or a reserved bit arms nothing, sets COMMIT_STS.bad and raises the unit's refusal event. -/
def Obligations.CommitWriteArms : Prop :=
  ∀ (ini : Ini) (u : CommitUnit) (v : Word) (s : State) (grp : Nat), s.regGate ini (unitBase u) true v = .ok → grp = v.toNat % 2 ^ 16 →
    (v.toNat / 2 ^ 16 % 256 = 0 → groupInRange u grp = true →
      (s.armOf u grp = none → exec (.commit ini u v) s = .next
        { s with armed := s.armed ++ [⟨u, grp, v.toNat / 2 ^ 24, false, s.now, s.tbTimes⟩], resp := .ok 0 }) ∧
      (s.armOf u grp ≠ none → exec (.commit ini u v) s = .next { s with resp := .ok 0 })) ∧
    (v.toNat / 2 ^ 16 % 256 ≠ 0 ∨ groupInRange u grp = false → ∃ t, exec (.commit ini u v) s = .next t ∧ t.armed = s.armed ∧
      t.flag (unitBase u + 8) 30 = true ∧ t = { (s.setB (unitBase u + 8) 30 true).refusalEvent u grp with resp := .ok 0 })

/-- A commit point of an unlinked group (R20, R22): when every check passes the group's registers become their latched words, the arming is
consumed and the accepted count goes up, and the unit takes the set up; when one fails the active set stays and the reason is reported;
unarmed, nothing changes. An unlinked commit of a group whose stream does not run falls without a boundary (R578): an idle couch, imposition
or time group commits as at its point; a couch group of a running sheet waits. -/
def Obligations.CommitPointLatchesOrRefuses : Prop :=
  (∀ (u : CommitUnit) (grp : BitVec 16) (s : State) (a : Arm),
     (s.armOf u grp.toNat = none → exec (.commitPoint u grp) s = .next s) ∧
     (s.armOf u grp.toNat = some a → a.link = 0 →
       (s.checkOf (s.viewOf [(u, grp.toNat)]) u grp.toNat = 0 →
         ∃ b : State, (∀ off, b.rd off = if s.inGroup u grp.toNat off then s.latched off else s.rd off) ∧ b.armOf u grp.toNat = none ∧
           b.cstOf u grp.toNat = ⟨0, ((s.cstOf u grp.toNat).accepted + 1) % 2 ^ 16⟩ ∧
           { b with reg := s.reg, armed := s.armed, cst := s.cst } = s ∧
           exec (.commitPoint u grp) s = .next (b.activate s.rd u grp.toNat)) ∧
       (∀ r, s.checkOf (s.viewOf [(u, grp.toNat)]) u grp.toNat = r → r ≠ 0 → u ≠ .tm →
         ∃ t, exec (.commitPoint u grp) s = .next t ∧ t.armOf u grp.toNat = none ∧ t.cstOf u grp.toNat = ⟨r, (s.cstOf u grp.toNat).accepted⟩ ∧
           (∀ off, s.inGroup u grp.toNat off = true → t.rd off = s.rd off) ∧ { t with reg := s.reg, armed := s.armed, cst := s.cst } = s))) ∧
  (∀ (u : CommitUnit) (g : BitVec 16) (s : State) (a : Arm), s.armOf u g.toNat = some a → a.link = 0 →
     (u = .couch → s.flag (Reg.couchSheetCtrl g.toNat) 31 = false → exec (.idleCommit u g) s = exec (.commitPoint u g) s) ∧
     (u = .imp → s.flag (Reg.couchSheetCtrl 0) 31 = false → exec (.idleCommit u g) s = exec (.commitPoint u g) s) ∧
     (u = .time → exec (.idleCommit u g) s = exec (.commitPoint u g) s) ∧
     (u = .couch → s.flag (Reg.couchSheetCtrl g.toNat) 31 = true → exec (.idleCommit u g) s = .next s))

/-- Linked groups (R24, R25): a link that mixes commit points reports MIXED_POINTS and no set becomes active; in a link of one point one
group's refusal refuses both, the other reporting LINK_PEER; 2 µs after the arming, the groups of a unit that did not vote report LINK_TIMEOUT
and its link's other groups LINK_PEER, and a group armed too lately to have been latched stays armed. -/
def Obligations.LinkIsAllOrNothing : Prop :=
  ∀ (u w : CommitUnit) (g h : BitVec 16) (s : State) (l : Byte) (a b : Arm) (v : Nat → Word), s.armed = [a, b] → (u, g) ≠ (w, h) → l ≠ 0 →
    a.u = u → a.grp = g.toNat → b.u = w → b.grp = h.toNat → a.link = l.toNat → b.link = l.toNat → u ≠ .tm → w ≠ .tm →
    v = s.viewOf [(u, g.toNat), (w, h.toNat)] →
    (s.pointOf u g.toNat ≠ s.pointOf w h.toNat → ∃ t, exec (.commitPoint u g) s = .next t ∧ (t.cstOf u g.toNat).reason = 7 ∧
      (t.cstOf u g.toNat).accepted = (s.cstOf u g.toNat).accepted ∧ t.armOf u g.toNat = none ∧ (t.armOf w h.toNat).isSome = true ∧
      ∀ off, off < 0x400000 ∨ 0x800000 ≤ off → t.rd off = s.rd off) ∧
    (s.pointOf u g.toNat = s.pointOf w h.toNat → a.mixed = false → b.mixed = false → u = .couch → w = .imp →
      (s.checkOf v u g.toNat ≠ 0 → s.checkOf v w h.toNat = 0 →
        ∃ t, exec (.commitPoint u g) s = .next t ∧ (t.cstOf u g.toNat).reason = s.checkOf v u g.toNat ∧ (t.cstOf w h.toNat).reason = 6 ∧
          t.armed = [] ∧ ∀ off, off < 0x400000 ∨ 0x800000 ≤ off → t.rd off = s.rd off) ∧
      (s.checkOf v w h.toNat = 0 → a.at_ + 2000 ≤ s.now → b.at_ + 2000 ≤ s.now →
        ∃ t, exec (.linkTimeout l u []) s = .next t ∧ (t.cstOf u g.toNat).reason = 8 ∧ (t.cstOf w h.toNat).reason = 6 ∧ t.armed = [] ∧
          ∀ off, off < 0x400000 ∨ 0x800000 ≤ off → t.rd off = s.rd off) ∧
      (a.at_ + 2000 ≤ s.now → s.now < b.at_ + 2000 → ∃ t, exec (.linkTimeout l u []) s = .next t ∧ (t.cstOf u g.toNat).reason = 8 ∧
        t.armed = [b] ∧ t.cst = (s.report u g.toNat 8).cst ∧ ∀ off, off < 0x400000 ∨ 0x800000 ≤ off → t.rd off = s.rd off))

/-- A management tick, 1 ms or more after the last (R30, R31, R527-R529): the readings are stored, and unless steering has stopped the
request goes up by 10 mV towards vmax when the least slack is below lo and no sensor is above crit, and else keeps its value; it is sent
over AVSBus and never leaves vmin-vmax. The request never leaves the host's window, and goes down only by the step of 64 ticks above hi
(R31); three bad ticks stop steering with event 0x0A (R528). The degradation ladder (R33): one step down on negative slack, no faster than
one per 16 slices of sheet 0; one step up after 2 s of slack at or above lo and 2 s after the last ascent; each change raises source 418 of
gathering 0. -/
def Obligations.SteeringAndLadder : Prop :=
  (∀ (r : TickReadings) (s : State) (mv vmin vmax lo : Nat) (slack : Int), s.sys.spineUp = true → s.flag Reg.avsSts 31 = false →
     s.getF Reg.avsSts 15 0 = mv → s.getF Reg.avsCfg 15 0 = vmin → s.getF Reg.avsCfg 31 16 = vmax → vmin ≤ mv → mv ≤ vmax → mv ≠ 0 →
     s.getF Reg.avsThr 7 0 = lo → tickSlack r = slack → r.readback = some (BitVec.ofNat 16 mv) → s.sys.spineTick + 1000000 ≤ s.now →
       ∃ t, exec (.managementTick r) s = .next t ∧
         (∀ i : Fin 64, t.rd (Reg.snsTemp i) = BitVec.ofNat 32 (2 ^ 31 + (r.temps.getD i 0).toNat)) ∧
         (∀ i : Fin 9, t.rd (Reg.snsVmon i) = BitVec.ofNat 32 (r.vmons.getD i 0).toNat) ∧
         (∀ m : Fin 128, t.getF (Reg.snsPace m) 15 0 = (r.pace.getD m 0).toNat ∧ t.flag (Reg.snsPace m) 31 = (r.pace.getD m 0).msb) ∧
         t.sys.spineTick = s.now ∧
         t.getF Reg.avsSts 15 0 = (if slack < 10 * lo ∧ ∀ i : Fin 64, tickTemp r i ≤ s.crit then min (mv + 10) vmax else mv) ∧
         t.outbox.head? = some (.avs (t.getF Reg.avsSts 15 0)) ∧ t.flag Reg.avsSts 29 = !decide (∀ i : Fin 64, tickTemp r i ≤ s.crit)) ∧
  (∀ (s : State) (mv vmin vmax : Nat), s.getF Reg.avsSts 15 0 = mv → s.getF Reg.avsCfg 15 0 = vmin → s.getF Reg.avsCfg 31 16 = vmax →
     vmin ≤ vmax →
     (∀ r, s.now < s.sys.spineTick + 1000000 → exec (.managementTick r) s = .next s) ∧
     (∀ r t, exec (.managementTick r) s = .next t → t.getF Reg.avsSts 15 0 = mv ∨ (vmin ≤ t.getF Reg.avsSts 15 0 ∧ t.getF Reg.avsSts 15 0 ≤ vmax)) ∧
     (s.sys.spineUp = true → s.flag Reg.avsSts 31 = false → s.sys.mismatchTicks < 3 → s.sys.busTicks < 3 → vmin < mv →
       (64 ≤ s.sys.upHold → ∃ t, exec .avsSteerDown s = .next t ∧ t.getF Reg.avsSts 15 0 = max (mv - 5) vmin ∧ t.sys.upHold = 0 ∧
         t.outbox = .avs (max (mv - 5) vmin) :: s.outbox ∧ ∀ off, off ≠ Reg.avsSts → t.rd off = s.rd off) ∧
       (s.sys.upHold < 64 → exec .avsSteerDown s = .next s)) ∧
     (s.flag Reg.avsSts 31 = false → (3 ≤ s.sys.mismatchTicks ∨ 3 ≤ s.sys.busTicks) →
       exec .avsFault s = .next ((s.setB Reg.avsSts 31 true).hostEvent 0x0A mv) ∧ exec .avsSteerDown s = .next s)) ∧
  (∀ (m : Fin 128) (s : State) (n : Nat), s.getF Reg.ladderSts 3 0 = n →
     (n < 5 → 16 ≤ s.sys.ladderSlices → ∃ t, exec (.ladderDescend m) s = .next t ∧ t.getF Reg.ladderSts 3 0 = n + 1 ∧
       t.evcPending 0 418 = true ∧ t.sys.ladderSlices = 0 ∧ t.getF Reg.ladderSts 23 8 = min (s.getF Reg.ladderSts 23 8 + 1) 65535) ∧
     (n = 5 ∨ s.sys.ladderSlices < 16 → ∃ t, exec (.ladderDescend m) s = .next t ∧ t.reg = s.reg ∧ t.outbox = s.outbox) ∧
     (0 < n → n ≤ 5 → s.sys.slackLow = false → s.sys.slackOkSince + 2000000000 ≤ s.now → s.sys.ladderUpAt + 2000000000 ≤ s.now →
       ∃ t, exec .ladderAscend s = .next t ∧ t.getF Reg.ladderSts 3 0 = n - 1 ∧ t.evcPending 0 418 = true ∧ t.sys.ladderUpAt = s.now ∧
         { t with reg := s.reg, sys := s.sys, hif := s.hif, outbox := s.outbox } = s) ∧
     (n = 0 ∨ s.sys.slackLow = true ∨ s.now < s.sys.slackOkSince + 2000000000 ∨ s.now < s.sys.ladderUpAt + 2000000000 →
       exec .ladderAscend s = .next s))

/-! ### Receive sessions, outputs and the couch (chapters 5 and 6) -/

/-- Receiving (R205, R206, R208, R209, R211): the first copy of a sequence number is kept and a second leg counts only with merge; a run of
an ST 2110-20 packet goes to its line of the frame's slot, a write its domain refuses putting the session into DOMAIN; a covered line
completes its leaf row with a token and the last line completes the frame; a packet waited for longer than the skew window is lost; a silent
or unlocked source is LOST, its order forgotten and the frames in progress given up. -/
def Obligations.ReceivedDataIsWritten : Prop :=
  ∀ (i : Fin 64) (s : State) (x : Sess) (c : SessCfg), x = s.sessAt i → c = sessCfg s.rd i →
    (∀ legB p, (c.en = false ∨ (legB = true ∧ c.merge = false)) → exec (.ingestPacket i legB p) s = .next s) ∧
    (∀ legB p, c.en = true → (legB = true → c.merge = true) → x.fresh p.seq = false →
      exec (.ingestPacket i legB p) s = .next (s.setSess i { x with lastArrival := s.now })) ∧
    (∀ p e k r, c.en = true → c.kind = 0 → x.top = some (p.seq - 1) → x.lastTs = some p.ts → x.slotOf p.ts = some k → s.sessState i = 2 →
      p.pieces = [e] → p.marker = false →
      pieceOutside (x.slotAt k).w (x.slotAt k).h ((x.slotAt k).cfg.rowBytes (x.slotAt k).w) e = false →
      r = s.memWrite ((x.slotAt k).cfg.tx i) ((x.slotAt k).cfg.lineAddr k e.row + e.offset) e.data →
      ∃ t, exec (.ingestPacket i false p) s = .next t ∧ t.ss = r.1.ss ∧ t.hbm = r.1.hbm ∧ (t.sessAt i).top = some p.seq ∧
        t.sessState i = (if r.2 = .domain then 5 else 2) ∧
        ((t.sessAt i).slotAt k).pk = (p.seq.toNat, e.row * s.sessRow i k + e.offset, e.row * s.sessRow i k + e.offset + e.data.length)
          :: (x.slotAt k).pk) ∧
    (∀ line k v l, l = BitVec.toNat line → x.slot = some k → k < 16 → v = x.slotAt k → s.lineCovered i k l = true → v.lines.contains l = false →
      s.sessState i ≠ 5 → (∀ j, j < 16 → 16 * (l / 16) + j = l ∨ v.h ≤ 16 * (l / 16) + j ∨ v.lines.contains (16 * (l / 16) + j) = true) →
      (v.lines.length + 1 < v.h → ∃ t, exec (.lineArrival i line) s = .next t ∧
        (t.sessAt i).tokens = ⟨k, v.frame, false, l / 16, v.ts, v.start, s.now, v.damaged, v.changed, v.w, v.h⟩ :: x.tokens ∧
        t.getF (Reg.ingSessSts i) 20 11 = (v.rows.length + 1) % 2 ^ 10) ∧
      (v.h ≤ v.lines.length + 1 → ∀ n, n = (s.getF (Reg.ingSessSts i) 10 0 + 1) % 2 ^ 11 → ∃ t, exec (.lineArrival i line) s = .next t ∧
        (t.sessAt i).tokens.head? = some ⟨k, n, true, 0, v.ts, v.start, s.now, v.damaged, v.changed, v.w, v.h⟩ ∧ (t.sessAt i).slot = none ∧
        t.getF (Reg.ingSessSts i) 10 0 = n ∧ t.getF (Reg.ingSessSts i) 24 21 = k)) ∧
    (∀ q w, x.missing.find? (fun m => m.1 == q) = some (q, w) →
      (s.now < w + c.skew * 10000 → exec (.packetLossDeclare i q) s = .next s) ∧
      (w + c.skew * 10000 ≤ s.now → c.kind ≠ 0 ∨ x.slots = [] → x.held = [] → ∃ t, exec (.packetLossDeclare i q) s = .next t ∧
        (t.sessAt i).missing = x.missing.filter (fun m => m.1 != q) ∧
        t.getF (Reg.ingSessCnt i) 31 16 = min (s.getF (Reg.ingSessCnt i) 31 16 + 1) 65535 ∧
        { t with sess := s.sess, reg := s.reg } = s ∧
        (c.kind = 4 ∨ c.kind = 5 → x.missing = [(q, w)] → (t.sessAt i).broken = true))) ∧
    (c.en = true → s.sessState i = 1 ∨ s.sessState i = 2 ∨ s.sessState i = 4 →
      (x.lastArrival + c.timeout * 100000 ≤ s.now → ∃ t, exec (.sessionTimeout i) s = .next t ∧ t.sessState i = 3 ∧ (t.sessAt i).slot = none ∧
        (t.sessAt i).top = none ∧ (t.sessAt i).lastTs = none ∧ ∀ p, p ∈ (t.sessAt i).slots → p.2.whole = true) ∧
      (s.now < x.lastArrival + c.timeout * 100000 → exec (.sessionTimeout i) s = .next s) ∧
      (c.kind = 3 → exec (.sdiLockLoss i) s = .next (s.sessLost i))) ∧
    (∀ l k s0, c.en = true → c.kind = 3 → l.line ≠ 0 →
      s0 = (((s.setSess i { x with lastArrival := s.now }).wr (Reg.ingSessRx i)
        (BitVec.ofNat 32 (l.width.toNat * 0x10000 + l.height.toNat))).feedStatus 3 i none l.nonPcm).feedGroups 3 i none 0 l.audio →
      s0.sessState i = 2 → (s0.sessAt i).slot = some k → s0.sessRaster i = (l.width.toNat, l.height.toNat) → l.line < l.height.toNat →
      exec (.sdiLine i l) s = .next (((if l.crcOk then s0 else s0.addSat (Reg.ingSessCnt i) 31 16 1).writeLine i k l.line 0
        (l.data.take (s0.sessRow i k))).lineDone i k l.line))

/-- Stored clips (R213, R214): CLIP_FEED starts a feed at its index table, or fails malformed; at a unit's instant its entry and bytes are
read and handed to the press, the last unit of a feed without loop completing it; STOP ends the running feed of its session with status 4.
Outputs (R217, R219, R220): enabling an output checks it and then starts it, or leaves it off with the reason; a row that falls due is read
from the sheet's picture and sent, or waits while its node has no room; between two frames, a drift of more than half a frame repeats or drops
one frame and is counted. -/
def Obligations.ClipsAndOutputs : Prop :=
  (∀ (s : State),
     (∀ (e : Fin 16) pos d i, s.firstWaiting (0x30 + e) = some (pos, d) → d.kind = 1 → (s.queueOf (0x30 + e)).any (fun y => y.started) = false →
       i = byteAt d.bytes 15 % 64 →
       (s.clipBad e d = true → exec (.clipFeed e) s = .next (s.completeAt (0x30 + e) pos 1 none)) ∧
       (s.clipBad e d = false → leAt d.bytes 20 4 ≠ 0 → ∃ t f, exec (.clipFeed e) s = .next t ∧ t = (s.startAt (0x30 + e) pos 0).setSess i { s.sessAt i with clip := some f } ∧
         f.index = leAt d.bytes 8 6 ∧ f.first = leAt d.bytes 16 4 ∧ f.count = leAt d.bytes 20 4 ∧ f.pos = 0 ∧ f.start = max (leAt d.bytes 24 8) s.now)) ∧
     (∀ (i : Fin 64) f a b bs, (s.sessAt i).clip = some f →
       (s.now < f.start + clipDue (sessCfg s.rd i).rate f.fed → exec (.clipHandover i) s = .next s) ∧
       (f.start + clipDue (sessCfg s.rd i).rate f.fed ≤ s.now → s.memRead (s.sessTx i) (f.index + 16 * (f.first + f.pos)) 16 = (a, .ok, bs) →
         (∀ c, a.memRead (s.sessTx i) (leAt bs 0 6) (leAt bs 8 4) = (b, .ok, c) → f.pos + 1 < f.count ∨ f.loop = true →
           exec (.clipHandover i) s = .next ((b.clipGive i c).setSess i { (b.clipGive i c).sessAt i with
             clip := some { f with pos := if f.count ≤ f.pos + 1 then 0 else f.pos + 1, fed := f.fed + 1 } })) ∧
         (∀ c, a.memRead (s.sessTx i) (leAt bs 0 6) (leAt bs 8 4) = (b, .domain, c) → exec (.clipHandover i) s = .next (b.endFeed i 2)))) ∧
     (∀ (e : Fin 16) pos d, s.firstWaiting (0x30 + e) = some (pos, d) → d.kind = 2 → zeroBytes d.bytes 8 7 = true → zeroBytes d.bytes 16 16 = true →
       byteAt d.bytes 15 / 64 = 0 → byteAt d.bytes 15 % 16 = e →
       exec (.stop e) s = .next ((s.completeAt (0x30 + e) pos 0 (some 0)).endFeed (byteAt d.bytes 15 % 64) 4))) ∧
  (∀ (o : Fin 8) (s : State) (off : Nat) (v : Word), off = Reg.ingOutCfg o →
     (∀ ini a r, s.regGate ini off true v = .ok → s.flag off 31 = false → v.getLsbD 31 = true → a = s.plainWrite off v → r = a.outCheck o v →
       (r = 0 → exec (.outputEnable ini o v) s = .next { ((a.setF (Reg.ingOutSts o) 31 24 0).setB (Reg.ingOutSts o) 23 true).setOut o
         { OutSt.reset with seq := s.getF (Reg.ingOutRtp o) 15 0 } with resp := .ok 0 }) ∧
       (r ≠ 0 → exec (.outputEnable ini o v) s = .next { (a.setF (Reg.ingOutSts o) 31 24 r).setB off 31 false with resp := .ok 0 })) ∧
     (∀ row k c src r, v = s.rd off → k = fld v 29 28 → c = sheetCfg s.rd k → v.getLsbD 31 = true → s.flag (Reg.ingOutSts o) 23 = true →
       0 < BitVec.toNat row → row.toNat < c.h → src = s.rowSource k (s.outAt o).frame row.toNat → src.2 = false →
       r = (s.setOut o { s.outAt o with again := true, whole := decide (c.h ≤ row.toNat + 1) }).memRead ⟨4, 0x40⟩
         ((s.pictureSet k src.1).rowAddr src.1 row.toNat) (ceilDiv (c.w * 5) 2) →
       (v.getLsbD 30 = false → s.flag Reg.laneRefSts (if fld v 25 16 < 0x14 then 3 else 4) = true →
         exec (.outputLineSend o row) s = .next (r.1.emit (.sdi (sdiIndex (fld v 25 16)) row.toNat r.2.2))) ∧
       (v.getLsbD 30 = true →
         (∀ t, r.1.sendRow o (s.outAt o).frame row.toNat c r.2.2 = some t → exec (.outputLineSend o row) s = .next t) ∧
         (r.1.sendRow o (s.outAt o).frame row.toNat c r.2.2 = none → exec (.outputLineSend o row) s = .next s))) ∧
     (∀ row, s.flag (Reg.ingOutSts o) 23 = false → exec (.outputLineSend o row) s = .next s) ∧
     (∀ dropped c, c = sheetCfg s.rd (s.getF off 29 28) → s.flag (Reg.ingOutSts o) 23 = true → s.flag off 30 = false → (s.outAt o).again = true →
       (s.outAt o).whole = true →
       (frameStart c.rate 1 : Int) < 2 * (if dropped then ((s.outAt o).began : Int) - (frameStart c.rate (s.outAt o).frame + c.lines (s.getF off 13 0) : Nat)
         else ((frameStart c.rate (s.outAt o).frame + c.lines (s.getF off 13 0) : Nat) : Int) - (s.outAt o).began) → ∃ t, exec (.sdiOutputSlip o dropped) s = .next t ∧
       (t.outAt o).frame = (if dropped then (s.outAt o).frame + 1 else (s.outAt o).frame - 1) ∧
       t.getF (Reg.ingOutSts o) 15 8 = (s.getF (Reg.ingOutSts o) 15 8 + 1) % 256) ∧
     (∀ dropped, s.flag (Reg.ingOutSts o) 23 = false ∨ (s.outAt o).whole = false → exec (.sdiOutputSlip o dropped) s = .next s))

/-- The couch (R14, R17, R221, R227, R251, R258): an enabled sheet begins the picture of the grid instant that has come, its number in
COUCH_SHEET_PIC; a band composes its next slice leaf by leaf; a layer still missing rows at a slice's latest start falls back to its last
complete frame and counts a SPLIT; a post waits for its layer's boundary; a forced fallback is cleared by writing 1. -/
def Obligations.CouchComposesPictures : Prop :=
  ∀ (k : Fin 4) (s : State) (sh : SheetCfg), sh = sheetCfg s.rd k →
    (sh.en = true → s.armed = [] → s.getF Reg.ladderSts 3 0 < 4 → (s.sheetAt k).seen < gridIndex sh.rate (s.timeOf sh.tb) →
      ∃ t, exec (.frameBoundary k) s = .next t ∧ (t.sheetAt k).picture = gridIndex sh.rate (s.timeOf sh.tb) ∧ (t.sheetAt k).begun = true ∧
        (t.sheetAt k).composed = [] ∧ (t.sheetAt k).start = s.now ∧ (t.sheetAt k).seen = (t.sheetAt k).picture ∧
        t.rd (Reg.couchSheetPic k) = BitVec.ofNat 32 (gridIndex sh.rate (s.timeOf sh.tb))) ∧
    (sh.en = false ∨ gridIndex sh.rate (s.timeOf sh.tb) ≤ (s.sheetAt k).seen → exec (.frameBoundary k) s = .next s) ∧
    (∀ (b : Fin 16) slice j lo hi, j = BitVec.toNat slice → lo = bandLo k sh.w b → hi = bandHi k sh.w b →
      ((s.sheetAt k).begun = false → exec (.composeSlice k b slice) s = .next s) ∧
      ((s.sheetAt k).begun = true → lo < hi → j < sh.slices → SMap.get (fun _ => 0) (s.sheetAt k).composed b = j → s.sliceReady k b j = true →
        (∃ t, exec (.composeSlice k b slice) s = .next t ∧ ∀ d : Fin 16, SMap.get (fun _ => 0) (t.sheetAt k).composed d =
          if d = b then j + 1 else SMap.get (fun _ => 0) (s.sheetAt k).composed d) ∧
        ((k : Nat) ≠ 0 → ∀ a : State, a = (leafParts (j * 16 * sh.sliceRows) (min sh.h (j * 16 * sh.sliceRows + 16 * sh.sliceRows))).foldl (fun a r =>
            (leafParts lo hi).foldl (fun a c => a.composeLeaf k b c.1 c.2 r.1 r.2) a) s →
          exec (.composeSlice k b slice) s = .next (a.setSheet k { a.sheetAt k with
            composed := SMap.set (fun _ => 0) (a.sheetAt k).composed b (j + 1) })))) ∧
    (∀ slice j (b : Fin 16) p y0 y1, j = BitVec.toNat slice → y0 = j * 16 * sh.sliceRows → y1 = min sh.h (y0 + 16 * sh.sliceRows) →
      (s.sheetAt k).begun = true → sh.prec = false → j < sh.slices → s.latestStart k j ≤ (s.timeOf sh.tb : Int) →
      (∀ d : Fin 16, SMap.get (fun _ => 0) (s.sheetAt k).composed d = j ↔ d = b) → s.liveLayers k b = [p] →
      (s.layerAt p.1.slot).current = true → (s.layerAt p.1.slot).split = false → p.1.outsideBand sh b = false →
      (s.layerAt p.1.slot).lines p.1 sh p.2.2 y0 y1 ≠ [] →
      s.linesReady sh p.1 ((s.layerAt p.1.slot).lines p.1 sh p.2.2 y0 y1) = false →
      exec (.sliceLatestStart k slice) s =
        .next ((s.setLayer p.1.slot { s.layerAt p.1.slot with split := true }).addSat (Reg.couchLayerCnt p.1.slot) 15 0 1)) ∧
    (∀ slice, sh.prec = true ∨ (s.timeOf sh.tb : Int) < s.latestStart k (BitVec.toNat slice) → exec (.sliceLatestStart k slice) s = .next s) ∧
    (∀ (b : Fin 16) i d l, s.firstWaiting b = some (i, d) → d.kind = 1 → l = byteAt d.bytes 8 →
      (l < 64 → byteAt d.bytes 9 < 2 → zeroBytes d.bytes 10 22 = true → (layerCfg s.rd l).kind = 2 → exec (.bufferPost b) s =
        .next ((s.startAt b i 0).setLayer l { s.layerAt l with posts := (s.layerAt l).posts ++ [(byteAt d.bytes 9, b.val)] })) ∧
      (2 ≤ byteAt d.bytes 9 → exec (.bufferPost b) s = .next (s.completeAt b i 1 none))) ∧
    (∀ ini (r : Fin 15) (v : Word), s.regGate ini (Reg.couchCmSts r) true v = .ok → exec (.couchCmForcedClear ini r v) s =
      .next (if v.getLsbD 31 then { s.setB (Reg.couchCmSts r) 31 false with resp := .ok 0 } else { s with resp := .ok 0 }))

/-! ### Imposition, press and back channel (chapters 7 and 8) -/

/-- Imposition (R308, R309, R311, R315, R327, R542, R554): a table entry is staged while sheet 0 runs and stored at once otherwise, a bad
one or one of a safety region being refused; a composed slice's rows are formed for their folios; calibration sets and epochs are loaded
from memory; a control message is sent to a joined receiver; a segment leaves as packets of at most the channel's length. -/
def Obligations.ImpositionFormsAndSends : Prop :=
  ∀ (s : State),
    (∀ ini (index : BitVec 20) (e : BitVec 64), index.toNat < 589824 → tableInitiator (Tx.ofIni ini) = true →
      ((Tx.ofIni ini).tag ≠ 2 → s.entrySafety index.toNat = true ∨ entRegion e ≠ 0 →
        ∃ t, exec (.impTableWrite ini index [e]) s = .next t ∧ t.resp = .domain ∧ t.table = s.table ∧ t.staged = s.staged) ∧
      (((Tx.ofIni ini).tag = 2 ∨ (s.entrySafety index.toNat = false ∧ entRegion e = 0)) →
        SMap.find? s.staged index.toNat = none →
        (s.flag (Reg.couchSheetCtrl 0) 31 = false → entBad s.rd e = false → exec (.impTableWrite ini index [e]) s =
          .next { s with table := SMap.set (fun _ => (0 : BitVec 64)) s.table index.toNat e, resp := .ok 0 }) ∧
        (s.flag (Reg.couchSheetCtrl 0) 31 = false → entBad s.rd e = true → exec (.impTableWrite ini index [e]) s =
          .next { s with resp := .busError }) ∧
        (s.flag (Reg.couchSheetCtrl 0) 31 = true → s.staged.length < 16384 → ∃ t, exec (.impTableWrite ini index [e]) s = .next t ∧
          t.table = s.table ∧ t.tableEntry index.toNat = e ∧ t.getF Reg.impSts 14 0 = s.staged.length + 1))) ∧
    (∀ (cy : Fin 576) sh j lo f y w, sh = sheetCfg s.rd 0 → j = cy / sh.sliceRows → lo = j * sh.sliceRows →
      (cy : Nat) = min (lo + sh.sliceRows) (ceilDiv sh.h 16) - 1 → sh.en = true → (s.sheetAt 0).begun = true → (s.sheetAt 0).imposed = j → j < sh.slices →
      s.sliceComposed 0 j = true → w = (s.sheetAt 0).picture → rowsOfSlice s.mapped lo cy = [(f, y)] → f < 8192 → s.formVersion f w ≠ 0 →
      s.folioCtx ≠ none →
      ∃ t row, exec (.formFolioRow cy) s = .next t ∧ (t.sheetAt 0).imposed = j + 1 ∧ (t.rxAt f).rows = (s.rxAt f).rows ++ [row] ∧ row.y = y ∧
        row.slice = j ∧ row.picture = w ∧ row.ver = s.formVersion f w ∧ (t.rxAt f).formedPic = some (w % 2 ^ 32)) ∧
    (∀ i d lo n r bs, s.firstWaiting 0x20 = some (i, d) → lo = leAt d.bytes 14 2 → n = leAt d.bytes 16 2 → zeroBytes d.bytes 18 14 = true →
      (d.kind = 1 → 0 < n → n ≤ 256 → lo + n ≤ 4032 → leAt d.bytes 8 6 % 32 = 0 → regionOf (leAt d.bytes 8 6) (32 * n) = .ss →
        s.memRead ⟨1, 0x60⟩ (leAt d.bytes 8 6) (32 * n) = (r, .ok, bs) → (∀ k, k < n → zeroBytes (bs.drop (32 * k)) 24 8 = true) → bs.length = 32 * n →
        exec .calLoad s = .next (State.completeAt { r with
          calShd := SMap.setList (fun _ => calIdentity) r.calShd lo ((List.range n).map (fun k => (bs.drop (32 * k)).take 32)) } 0x20 i 0 none)) ∧
      (d.kind = 3 → 512 < lo + n → exec .epochLoad s = .next (s.completeAt 0x20 i 1 none)) ∧
      (d.kind = 3 → n = 1 → lo < 512 → s.chOn lo = false → (s.rdSh (Reg.wchCtrl lo)).getLsbD 31 = false →
        regionOf (leAt d.bytes 8 6) 2 = .ss → s.memRead ⟨1, 0x60⟩ (leAt d.bytes 8 6) 2 = (r, .ok, bs) → bs.length = 2 →
        exec .epochLoad s = .next ((r.setF (Reg.wchEpoch lo) 15 0 (leAt bs 0 2)).completeAt 0x20 i 0 none))) ∧
    (∀ i d n r f len, s.firstWaiting 0x20 = some (i, d) → d.kind = 2 → n = leAt d.bytes 8 2 → r = byteAt d.bytes 10 → f = n * 16 + r →
      len = byteAt d.bytes 11 → n < 512 → r < 16 → 0 < len → len ≤ 16 → 0x90 ≤ byteAt d.bytes 12 → byteAt d.bytes 12 ≤ 0x9F →
      zeroBytes d.bytes 28 4 = true →
      (s.chSends n = true → s.rxState f = 1 →
        exec .controlSend s = .next ((s.sendControl f ((d.bytes.drop 12).take len)).completeAt 0x20 i 0 none)) ∧
      (s.chSends n = false ∨ s.rxState f ≠ 1 → exec .controlSend s = .next (s.completeAt 0x20 i 4 none))) ∧
    (∀ (ch : Fin 512) g rest, (s.chAt ch).segs = g :: rest →
      (s.chSends ch = false → exec (.sendPacket ch) s = .next (s.setCh ch { s.chAt ch with segs := [] })) ∧
      (∀ n data last p, s.chSends ch = true → data = (g.bytes.drop g.sent).take (s.chMax ch) → last = decide (g.bytes.length ≤ g.sent + data.length) →
        p = s.folioPkt ch 2 ⟨g.version, b2n last + 2 * b2n g.key + 4 * b2n g.safety, ch, g.rx, 0, g.picture, g.ptS, g.ptNs, g.row, g.sent⟩ data
          (s.chLanes ch) (some g.deadline) → n = s.getF (Reg.wchTm ch) 9 0 →
        (s.hasRoom n p = false → exec (.sendPacket ch) s = .next s) ∧
        (s.hasRoom n p = true → last = true → exec (.sendPacket ch) s = .next ((s.enqueue n p).setCh ch { s.chAt ch with segs := rest })) ∧
        (s.hasRoom n p = true → last = false → exec (.sendPacket ch) s = .next ((s.enqueue n p).setCh ch { s.chAt ch with
          segs := { g with sent := g.sent + data.length } :: rest }))))

/-- The press (R267, R277, R279, R281, R302, R304, R340): a row waiting of a folio becomes a segment of its channel; KEY and PIN wait with
their context for the folios they name; a context begins its source's picture; a pipe codes or decodes the portion due first; an access unit
handed over is spread over the context's pipes; a whole segment of an inbound folio is decoded and its row recorded. -/
def Obligations.PressCodesAndDecodes : Prop :=
  ∀ (s : State),
    (∀ (ch : Fin 512) (rx : Fin 16) f row rest, f = 16 * (ch : Nat) + rx → s.folioCtx ≠ none → (s.rxAt f).rows = row :: rest →
      ∃ t g, exec (.codeSegment ch rx) s = .next t ∧ (t.rxAt f).rows = rest ∧ (t.chAt ch).segs = (s.chAt ch).segs ++ [g] ∧ g.rx = rx.val ∧
        g.row = row.y ∧ g.picture = row.picture % 2 ^ 32 ∧ g.version = row.ver ∧ g.sent = 0) ∧
    (∀ (ch : Fin 512) (rx : Fin 16), (s.rxAt (16 * (ch : Nat) + rx)).rows = [] → exec (.codeSegment ch rx) s = .next s) ∧
    (∀ (b : Fin 16) i d c n, s.firstWaiting (0x10 + b) = some (i, d) → c = byteAt d.bytes 8 → c < 64 → n = leAt d.bytes 12 2 →
      zeroBytes d.bytes 14 18 = true → leAt d.bytes 10 2 + n ≤ 8192 → 0 < n → (ctxCfg s.rd c).en = true → (ctxCfg s.rd c).kind = 0 →
      (d.kind = 1 → byteAt d.bytes 9 = 0 ∨ byteAt d.bytes 9 = 16 → exec (.key b) s = .next { s.startAt (0x10 + b) i 0 with
        keyReqs := s.keyReqs ++ [⟨c, 0x10 + b.val, false, 0, false, decide (byteAt d.bytes 9 = 16), (List.range n).map (· + leAt d.bytes 10 2),
          d.bytes⟩] }) ∧
      (∀ j, d.kind = 2 → 1 ≤ j → j ≤ 4 → byteAt d.bytes 9 = j ∨ byteAt d.bytes 9 = j + 8 → exec (.pin b) s = .next { s.startAt (0x10 + b) i 0 with
        keyReqs := s.keyReqs ++ [⟨c, 0x10 + b.val, true, j, decide (8 ≤ byteAt d.bytes 9), false, (List.range n).map (· + leAt d.bytes 10 2),
          d.bytes⟩] })) ∧
    (∀ (b : Fin 16) i d, s.firstWaiting (0x10 + b) = some (i, d) → 64 ≤ byteAt d.bytes 8 →
      (d.kind = 1 → exec (.key b) s = .next (s.completeAt (0x10 + b) i 1 none)) ∧
      (d.kind = 2 → exec (.pin b) s = .next (s.completeAt (0x10 + b) i 1 none))) ∧
    (∀ (c : Fin 64) z n, s.armed = [] → z = ctxCfg s.rd c → z.en = true → z.kind = 0 → n = (s.sheetAt 0).picture →
      (∀ (b : Fin 16) p, p ∈ s.portionsAt b → p.ctx ≠ c.val) →
      ((s.sheetAt 0).begun = false → exec (.pictureBoundary c) s = .next s) ∧
      ((s.sheetAt 0).begun = true → (s.ctxAt c).begun = false ∨ (s.ctxAt c).picture ≠ n →
        ∃ t, exec (.pictureBoundary c) s = .next t ∧ (t.ctxAt c).begun = true ∧ (t.ctxAt c).picture = n ∧
          t.rd (Reg.pressCtxPic c) = BitVec.ofNat 32 n)) ∧
    (∀ (b : Fin 16), s.nextPortion b = none → exec (.codePortion b) s = .next s) ∧
    (∀ (b : Fin 16) p, s.nextPortion b = some p → p.ctx < 64 →
      (p.decode = false → (s.ctxAt p.ctx).picture = p.picture → (s.ctxAt p.ctx).coded.length + 1 < (ctxCfg s.rd p.ctx).portionCount →
        ∃ t bs, exec (.codePortion b) s = .next t ∧ (t.ctxAt p.ctx).coded = (s.ctxAt p.ctx).coded ++ [(p.picture, p.index, bs)] ∧
          t.portionsAt b = (s.portionsAt b).erase p ∧ t.getF (Reg.pressPipeSts b) 5 0 = p.ctx) ∧
      (∀ au, p.decode = true → (s.ctxAt p.ctx).dec = some au → au.at_ = p.picture → au.left.contains p.index = true →
        au.left.filter (fun j => j != p.index) ≠ [] → ∃ t, exec (.codePortion b) s = .next t ∧
          (t.ctxAt p.ctx).dec = some { au with left := au.left.filter (fun j => j != p.index) } ∧ t.portionsAt b = (s.portionsAt b).erase p)) ∧
    (∀ (c : Fin 64) z x a rest, z = ctxCfg s.rd c → x = s.ctxAt c → z.en = true → z.kind = 3 → x.dec = none → x.aus = a :: rest →
      ((sessCfg s.rd z.src).en = false → exec (.accessUnitDecode c) s = .next (s.setCtxSt c { x with aus := rest })) ∧
      ((sessCfg s.rd z.src).en = true → s.sessState z.src ≠ 5 →
        (a.bytes ≠ [] → Config.hevcSupported a.params = true → Config.hevcDecodable a.params a.bytes = true → Config.hevcWidth a.params ≤ z.w →
          Config.hevcHeight a.params ≤ z.h → Config.hevcDpb a.params ≤ z.outSize * 0x10000 →
          ∃ t au, exec (.accessUnitDecode c) s = .next t ∧ (t.ctxAt c).aus = rest ∧ (t.ctxAt c).dec = some au ∧ au.bytes = a.bytes ∧ au.at_ = a.at_ ∧
            au.slot = s.freeSlot z.src ∧ au.left = List.range (au.bounds.length - 1) ∧
            t.getF (Reg.pressCtxPic c) 31 0 = (s.getF (Reg.pressCtxPic c) 31 0 + 1) % 2 ^ 32) ∧
        (a.bytes = [] ∨ Config.hevcSupported a.params = false ∨ Config.hevcDecodable a.params a.bytes = false → ∃ t, exec (.accessUnitDecode c) s = .next t ∧ (t.ctxAt c).aus = rest ∧ (t.ctxAt c).dec = none ∧
          (t.ctxAt c).marked = true))) ∧
    (∀ (c : Fin 64) z x g i bytes u m, z = ctxCfg s.rd c → x = s.ctxAt c → z.en = true → z.kind = 1 →
      x.segs.zipIdx.findSome? (fun p => p.1.whole.map (fun b => (p.1, p.2, b))) = some (g, i, bytes) →
      (s.setCtxSt c { x with segs := x.segs.eraseIdx i }).inbound c = (u, m) →
      (m.find? (fun e => e.f == g.f) = none → ∃ t, exec (.trunkSegmentDecode c) s = .next t ∧ (t.ctxAt c).segs = x.segs.eraseIdx i ∧
        (t.ctxAt c).lost = x.lost + 1) ∧
      (∀ e h k ls d, m.find? (fun e => e.f == g.f) = some e → parseSegment g.version g.row bytes = some (h, ls) → d = x.folioAt e.i →
        d.isOpen = true → d.picture = some g.picture → SegHdr.ofWord d.fields = some k → k.pictureFields = h.pictureFields →
        d.rows.any (fun r => r.1 == g.row) = false →
        d.lost.contains g.row = false → (∃ y, y < d.h ∧ y ≠ g.row ∧ d.rows.any (fun r => r.1 == y) = false ∧ d.lost.contains y = false) →
        ∃ t, exec (.trunkSegmentDecode c) s = .next t ∧ ((t.ctxAt c).folioAt e.i).rows = (g.row, intraFree ls) :: d.rows ∧
          ((t.ctxAt c).folioAt e.i).isOpen = true ∧ (t.ctxAt c).segs = x.segs.eraseIdx i))

/-- The back channel (R328, R330-R336): a packet whose tag fails or that R331 does not accept is discarded and counted; JOIN is answered
with the highest common version and makes the receiver JOINED; KEY_REQUEST of a folio with auto_key requests a key; STATUS ends SILENT and
its absence for 3 s begins it; an echo that agrees changes no region, one that does not forces its fallback, and so does one that never
comes, with strict set; a service reply is only written to the ring. -/
def Obligations.BackChannelMessages : Prop :=
  ∀ (u : UpFrame) (s : State),
    (∀ t, s.accepts u = none → t = s.addSat (Reg.wchCnt (messageOf u []).channel.val) 15 8 1 →
      ((messageOf u []).ptype = 2 → exec (.serviceReply u) s = .next t ∧ exec (.join u) s = .next t ∧ exec (.keyRequest u) s = .next t ∧
        exec (.status u) s = .next t) ∧
      ((messageOf u []).ptype = 3 → exec (.countermarkEcho u) s = .next t)) ∧
    (∀ p, s.accepts u = some p → ∃ data, s.upOpen u = some data ∧ p = messageOf u data ∧ s.upGood (messageOf u []) = true) ∧
    (∀ p f, s.accepts u = some p → p.ptype = 2 → f = upFolio p →
      (upCode p = 1 → (∀ at_, (s.rxAt f).lastJoin = some at_ → at_ + 250000000 ≤ s.now) →
        ∀ common, common = Nat.land (byteAt p.data 1 % 8) (2 ^ s.getF (Reg.wchRx (f / 16) (f % 16)) 27 26 - 1) → common ≠ 0 →
          (beAt p.data 2 2).testBit (if s.getF (Reg.couchSheetCtrl 0) 26 24 = 1 then 1 else 0) = true →
          ∃ t, exec (.join u) s = .next t ∧ t.rxState f = 1 ∧ t.rxVersion f = topVersion common ∧ (t.rxAt f).lastJoin = some s.now ∧
            (t.rxAt f).keyPending = true) ∧
      (upCode p = 2 → ((s.rxAt f).entry.getD 5 0).getLsbD 1 = true → ∃ t, exec (.keyRequest u) s = .next t ∧ (t.rxAt f).keyPending = true) ∧
      (upCode p = 3 → ∃ t, exec (.status u) s = .next t ∧ (t.rxAt f).lastStatus = s.now ∧
        t.rxState f = (if s.rxState f = 4 then 1 else s.rxState f)) ∧
      (upCode p = 0x10 → exec (.serviceReply u) s = .next ((s.noteSeq p).bcRing p))) ∧
    (∀ (ch : Fin 512) (rx : Fin 16) f, f = 16 * ch.val + rx.val →
      (s.rxState f = 1 → (s.rxAt f).lastStatus + 3000000000 ≤ s.now →
        ∃ t, exec (.statusTimeout ch rx) s = .next t ∧ t.rxState f = 4 ∧ t.rxVersion f = s.rxVersion f) ∧
      (s.rxState f ≠ 1 ∨ s.now < (s.rxAt f).lastStatus + 3000000000 → exec (.statusTimeout ch rx) s = .next s)) ∧
    (∀ p f k, s.accepts u = some p → p.ptype = 3 → f = upFolio p → byteAt p.data 0 = 1 → p.data.length = 12 →
      ((s.rxAt f).keptOf p.picture.toNat p.row.toNat).find? (fun q => q.region == byteAt p.data 4) = some k →
      (k.crc = beAt p.data 8 4 → exec (.countermarkEcho u) s =
        .next (((s.noteSeq p).bcRing p).setEchoed f k.picture k.row k.region)) ∧
      (k.crc ≠ beAt p.data 8 4 → 1 ≤ byteAt p.data 4 → byteAt p.data 4 ≤ 15 →
        ∃ t, exec (.countermarkEcho u) s = .next t ∧ t.flag (Reg.couchCmSts (byteAt p.data 4 - 1)) 31 = true ∧
          t.flag (Reg.couchCmSts (byteAt p.data 4 - 1)) 29 = true)) ∧
    (∀ (ch : Fin 512) (rx : Fin 16) f (pic : Word) (row : Byte) (reg : Fin 15) k, f = 16 * ch.val + rx.val →
      (s.rxAt f).kept.find? (fun q => decide (q.picture = pic.toNat) && decide (q.row = row.toNat) && decide (q.region = reg.val + 1) && !q.echoed) = some k →
      (s.flag Reg.impEcho 31 = true → s.rxVersion f = 3 →
        k.due + frameStart (sheetCfg s.rd 0).rate 8 ≤ s.timeOf (sheetCfg s.rd 0).tb →
        ∃ t, exec (.echoMissing ch rx pic row reg) s = .next t ∧ t.flag (Reg.couchCmSts reg) 31 = true ∧ t.flag (Reg.couchCmSts reg) 30 = false) ∧
      (s.flag Reg.impEcho 31 = false → exec (.echoMissing ch rx pic row reg) s = .next s))

/-! ### The network (chapter 10) -/

/-- Ports and ingress (R383, R384, R386, R393-R397): a port is enabled when its settings agree and else reports AGREE; a frame with a wrong
FCS is counted and dropped, a pause frame only counted, any other handed to the first classifier entry it matches, or dropped at a wall or
trunk port; ARP and neighbour solicitations for the port's own address are answered; an enabled classifier entry takes no write but the one
that clears en; once for each 1,000 counts a policer's buckets gain their rates up to their bursts. -/
def Obligations.PortsReceiveFrames : Prop :=
  ∀ (m : Fin 42) (s : State),
    (∀ ini (v : Word) a, s.regGate ini (Reg.macCtrl m) true v = .ok → s.flag (Reg.macCtrl m) 31 = false → v.getLsbD 31 = true →
      a = (s.plainWrite (Reg.macCtrl m) v).setB (Reg.macCtrl m) 31 false →
      (s.portWrong m v = false → (m : Nat) ≠ 40 → exec (.portEnable ini m v) s =
        .next { (((a.setB (Reg.macCtrl m) 31 true).setB (Reg.macSts m) 30 true).setF (Reg.macSts m) 23 16 0) with resp := .ok 0 }) ∧
      (s.portWrong m v = true → exec (.portEnable ini m v) s = .next { a.setF (Reg.macSts m) 23 16 2 with resp := .ok 0 })) ∧
    (∀ f h u, h = rxHdr f.bytes → u = s.addSat (Reg.macCntRx m) 31 0 1 →
      (s.portRuns m = false ∨ s.flag (Reg.macSts m) 31 = false → exec (.macFrameReceive m f) s = .next s) ∧
      (s.portRuns m = true → s.flag (Reg.macSts m) 31 = true →
        (f.fcsOk = false → exec (.macFrameReceive m f) s = .next (s.addSat (Reg.macCntErr m) 31 0 1)) ∧
        (f.fcsOk = true → h.etype = 0x8808 → s.prpOn m = false → exec (.macFrameReceive m f) s = .next (u.addSat (Reg.macCntPause m) 31 0 1)) ∧
        (f.fcsOk = true → h.etype ≠ 0x8808 → s.secOn m = true → h.etype ≠ 0x888E → s.secOpen m f.bytes = none →
          exec (.macFrameReceive m f) s = .next (s.addSat (Reg.macCntErr m) 31 0 1)) ∧
        (f.fcsOk = true → f.bytes.length + 4 ≤ s.frameLimit m → s.secOn m = false → s.prpOn m = false →
          (h.etype = 0x888E ∨ h.etype = 0x88FB → exec (.macFrameReceive m f) s = .next (u.toSpine m f.bytes)) ∧
          (∀ a, a = (u.answerAddress m h).answerQuery m h → h.ptp = none → u.folioIn m h = none → h.etype ≠ 0x8808 → h.etype ≠ 0x888E → h.etype ≠ 0x88FB →
            (∀ e, (List.range 512).find? (fun e => a.clsMatch e m h) = some e →
              exec (.macFrameReceive m f) s = .next (a.classified m e h f.bytes)) ∧
            ((List.range 512).find? (fun e => a.clsMatch e m h) = none →
              exec (.macFrameReceive m f) s = .next (if (m : Nat) < 40 then a.addSat (Reg.macCntDrop m) 31 0 1 else a.toSpine m f.bytes)))))) ∧
    (∀ (mac : BitVec 48) (ip target : Word),
      (s.portRuns m = true → s.rd (Reg.macIp4 m) ≠ 0 → target = s.rd (Reg.macIp4 m) → ∃ fr, exec (.arpRequest m mac ip target) s = .next (s.sendNow m fr) ∧
        beAt fr 0 6 = mac.toNat ∧ beAt fr 6 6 = s.portMac m ∧ frameType fr = 0x0806 ∧ beAt fr 20 2 = 2 ∧ beAt fr 28 4 = target.toNat) ∧
      (target ≠ s.rd (Reg.macIp4 m) → exec (.arpRequest m mac ip target) s = .next s)) ∧
    (∀ (mac : BitVec 48) (ip target : BitVec 128),
      (s.portRuns m = true → beBytes 16 target.toNat = s.portLinkLocal m → ∃ fr, exec (.neighbourSolicitation m mac ip target) s = .next (s.sendNow m fr) ∧
        beAt fr 6 6 = s.portMac m ∧ frameType fr = 0x86DD) ∧
      (beBytes 16 target.toNat ≠ s.portLinkLocal m → beBytes 16 target.toNat ≠ s.portIp6 m →
        exec (.neighbourSolicitation m mac ip target) s = .next s)) ∧
    (∀ i : Fin 512, s.now / 1000 ≤ (s.polAt i).refills → exec (.policerRefill i) s = .next s) ∧
    (∀ i : Fin 512, (s.polAt i).refills < s.now / 1000 → ∃ t, exec (.policerRefill i) s = .next t ∧ (t.polAt i).refills = (s.polAt i).refills + 1 ∧
      (t.polAt i).tc = min ((s.polAt i).tc + rateCredit (s.rd (Reg.tmPolCir i))) (s.getF (Reg.tmPolCbs i) 23 0 * 65536) ∧
      (t.polAt i).te = min ((s.polAt i).te + rateCredit (s.rd (Reg.tmPolEir i))) (s.getF (Reg.tmPolEbs i) 23 0 * 65536) ∧
      (∀ j, j ≠ i.val → t.polAt j = s.polAt j) ∧ { t with pol := s.pol } = s) ∧
    (∀ ini (e : Fin 512) (w : Fin 16) (v : Word), s.regGate ini (Reg.tmClsCtrl e + 4 * w) true v = .ok →
      (s.flag (Reg.tmClsCtrl e) 31 = true → (w : Nat) ≠ 0 ∨ v.getLsbD 31 = true → exec (.classifierWrite ini e w v) s =
        .next { (s.setB Reg.tmSts 31 true).raiseEvt Reg.tmEvt with resp := .ok 0 }) ∧
      (s.flag (Reg.tmClsCtrl e) 31 = true → (w : Nat) = 0 → v.getLsbD 31 = false → ∃ t, exec (.classifierWrite ini e w v) s = .next t ∧
        t.flag (Reg.tmClsCtrl e) 31 = false) ∧
      (s.flag (Reg.tmClsCtrl e) 31 = false → (w : Nat) ≠ 0 → exec (.classifierWrite ini e w v) s =
        .next { s.plainWrite (Reg.tmClsCtrl e + 4 * w) v with resp := .ok 0 }))

/-- Transmission (R387, R391, R392, R399-R401, R404, R407, R409, R410, R413): a shaper's tokens gain its rate up to its burst; a node
releases its head packet when its shaper allows, a channel that does not send dropping it; a port sends the frame it chooses and takes it
from its FIFO; a frame from memory enters its node or waits for room; a gate list shows the entry in force and starts at its start; a link
that falls empties its port's FIFO. Programme flows (R411, R412): a flow is enabled when its settings agree; its oldest access unit leaves
encapsulated, all its packets or none; PAT, PMT and PCR leave in one packet of a transport stream flow. -/
def Obligations.PortsTransmitFrames : Prop :=
  (∀ (s : State),
     (∀ (n : ShaperId) g x b, s.armed = [] → g = shaperNo n → x = s.shAt g → b = shBase g → x.old = none →
       (s.now / 1000 ≤ x.refills → exec (.shaperRefill n) s = .next s) ∧
       (x.refills < s.now / 1000 → exec (.shaperRefill n) s = .next ((s.setSh g { x with refills := x.refills + 1 }).setTokens g
         (min (x.tokens + (rateCredit (s.rd (b + 4)) : Nat)) ((fld (s.rd (b + 8)) 23 0 * 65536 : Nat) : Int))))) ∧
     (∀ n : Fin 1024, (headPkt (s.nodeAt n) = none → exec (.subscriberRelease n) s = .next s) ∧
       (∀ p rest, headPkt (s.nodeAt n) = some (p, rest) → p.desc = none →
         (s.mayRelease n p.queue = false → exec (.subscriberRelease n) s = .next s) ∧
         (s.mayRelease n p.queue = true →
           (p.folio = none → exec (.subscriberRelease n) s = .next (((s.setNode n rest).placeCopies n p p.payload).showUsed)) ∧
           (∀ c, p.folio = some c → s.chSends c = false → exec (.subscriberRelease n) s = .next ((s.setNode n rest).showUsed)) ∧
           (∀ c q, p.folio = some c → s.chSends c = true → (s.chAt c).wrapped = false → q = (s.setNode n rest).sealFolio c p.payload →
             exec (.subscriberRelease n) s = .next ((q.2.placeCopies n p q.1).showUsed)) ∧
           (∀ c, p.folio = some c → c < 512 → s.chSends c = true → (s.chAt c).wrapped = true →
             (s.chAt c).keyEpoch = some ((s.getF (Reg.wchEpoch c) 15 0 + 1) % 65536) →
             ∃ t, exec (.subscriberRelease n) s = .next t ∧ t.flag (Reg.wchSts c) 28 = true ∧ t.nodeAt n = rest ∧ t.outbox = s.outbox)))) ∧
     (∀ m : Fin 42, (s.choose m = none → exec (.portTransmit m) s = .next s) ∧
       (∀ f p, s.choose m = some (f, p) → f.ch = none → f.stamp = Stamp.none → s.secOn m = false →
         ∃ t, exec (.portTransmit m) s = .next t ∧ t.outbox = .frame m f.bytes :: s.outbox ∧ (t.portAt m).fifo = p.fifo.erase f)) ∧
     (∀ ini (m : Fin 42) (v : Word), s.regGate ini (Reg.macSecCfg m) true v = .ok →
       exec (.macsecTxAnWrite ini m v) s = .next { (s.plainWrite (Reg.macSecCfg m) v).settleSa m with resp := .ok 0 }) ∧
     (s.flag (Reg.macCtrl 40) 24 = true → s.portRuns 40 = true → (∀ t, s.sys.prpLast = some t → t + 2000000000 ≤ s.now) → exec .prpSupervision s =
       .next (State.sendNow { s with sys := { s.sys with prpLast := some s.now } } 40 s.supervision)) ∧
     (s.flag (Reg.macCtrl 40) 24 = false ∨ (∃ t, s.sys.prpLast = some t ∧ s.now < t + 2000000000) → exec .prpSupervision s = .next s) ∧
     (∀ m : Fin 42, (s.gateRuns m = none → exec (.gateEntryAdvance m) s = .next s) ∧
       (∀ l, s.gateRuns m = some l → s.armed = [] → ∃ t, exec (.gateEntryAdvance m) s = .next t ∧
         t.getF (Reg.tmGateSts m) 7 0 = (gateEntryAt (max 1 l.cycle * 65536) l.entries 0 0 (l.at (s.timeOf l.tb)).1).1 % 256 ∧
         (t.portAt m).gateCycle = (l.at (s.timeOf l.tb)).2.toNat) ∧
       (∀ st, (s.portAt m).gateNew = some st →
         (st * 65536 ≤ s.timeOf (s.getF (Reg.tmGateCtrl m) 29 27) → ∃ t, exec (.gateListStart m) s = .next t ∧ (t.portAt m).gateNew = none ∧
           t.flag (Reg.tmGateSts m) 31 = true) ∧
         (s.timeOf (s.getF (Reg.tmGateCtrl m) 29 27) < st * 65536 → exec (.gateListStart m) s = .next s))) ∧
     (∀ i d m len node, s.firstWaiting 0x40 = some (i, d) → d.kind = 1 → m = byteAt d.bytes 16 → len = leAt d.bytes 14 2 → node = leAt d.bytes 18 2 →
       (42 ≤ m → exec .frameSend s = .next (s.completeAt 0x40 i 1 none)) ∧
       (∀ r bs p, m < 42 → byteAt d.bytes 17 < 4 → node < 1024 → zeroBytes d.bytes 20 12 = true → len + 4 ≤ s.frameLimit m → 0 < len →
         s.memRead ⟨1, 0x80⟩ (leAt d.bytes 8 6) len = (r, .ok, bs) →
         p = { queue := byteAt d.bytes 17, dests := [(m, ⟨3, 0, 0, none, [], 0, 0⟩)], payload := bs, folio := none, deadline := none, desc := some d.bytes } →
         (r.hasRoom node p = true → exec .frameSend s = .next ((r.startAt 0x40 i 0).enqueue node p)) ∧
         (r.hasRoom node p = false → exec .frameSend s = .next s))) ∧
     (∀ (i : Fin 58) errs, (∃ t, exec (.linkChange i true errs) s = .next t ∧ t.flag (Reg.laneSts i) 31 = true ∧
         ((i : Nat) < 42 → t.flag (Reg.macSts i) 31 = s.refOk (laneRef i))) ∧
       (∃ t, exec (.linkChange i false errs) s = .next t ∧ t.flag (Reg.laneSts i) 31 = false ∧
         ((i : Nat) < 42 → t.flag (Reg.macSts i) 31 = false ∧ (t.portAt i).fifo = [])))) ∧
  (∀ (f : Fin 16) (s : State),
     (∀ ini (v : Word) a, s.regGate ini (Reg.tmFlowCtrl f) true v = .ok → s.flag (Reg.tmFlowCtrl f) 31 = false → v.getLsbD 31 = true →
       a = (s.plainWrite (Reg.tmFlowCtrl f) v).setB (Reg.tmFlowCtrl f) 31 false →
       (a.flowWrong f v = false → exec (.flowEnable ini f v) s = .next { (a.setB (Reg.tmFlowCtrl f) 31 true).setFlow f
         { FlowSt.reset with seq := s.getF (Reg.tmFlowRtp f) 15 0 } with resp := .ok 0 }) ∧
       (a.flowWrong f v = true → exec (.flowEnable ini f v) s = .next { a with resp := .ok 0 })) ∧
     ((s.flowAt f).aus = [] → exec (.programmeAccessUnitSend f) s = .next s) ∧
     (∀ n au rest t pk, (s.flowAt f).aus = (n, au) :: rest → s.flag (Reg.tmFlowCtrl f) 31 = true → s.flag (Reg.tmFlowCtrl f) 30 = true →
       t = (sheetCfg s.rd (ctxCfg s.rd (s.getF (Reg.tmFlowCtrl f) 15 10)).src).presents n 0 →
       pk = s.flowPkts f (rtpTsOf t) true ((nalUnits au []).flatMap (nalPayloads (s.flowCap f))) →
       (s.roomFor (s.getF (Reg.tmFlowCtrl f) 9 0) pk = false → exec (.programmeAccessUnitSend f) s = .next s) ∧
       (s.roomFor (s.getF (Reg.tmFlowCtrl f) 9 0) pk = true → ∃ u, exec (.programmeAccessUnitSend f) s = .next u ∧ (u.flowAt f).aus = rest ∧
         (u.flowAt f).seq = ((s.flowAt f).seq + pk.length) % 2 ^ 16 ∧
         u.nodeAt (s.getF (Reg.tmFlowCtrl f) 9 0) = s.nodeAt (s.getF (Reg.tmFlowCtrl f) 9 0) ++ pk)) ∧
     (s.flag (Reg.tmFlowCtrl f) 31 = true → s.flag (Reg.tmFlowCtrl f) 30 = false → ∃ p, p.queue = 2 ∧ p.dests = s.flowDests f ∧
       (s.roomFor (s.getF (Reg.tmFlowCtrl f) 9 0) [p] = true → ∃ u, exec (.psiInsert f) s = .next u ∧
         (u.flowAt f).ccPat = ((s.flowAt f).ccPat + 1) % 16 ∧ (u.flowAt f).ccPmt = ((s.flowAt f).ccPmt + 1) % 16 ∧
         u.nodeAt (s.getF (Reg.tmFlowCtrl f) 9 0) = s.nodeAt (s.getF (Reg.tmFlowCtrl f) 9 0) ++ [p])) ∧
     (s.flag (Reg.tmFlowCtrl f) 31 = false ∨ s.flag (Reg.tmFlowCtrl f) 30 = true → exec (.psiInsert f) s = .next s))

/-! ### Serial lanes (chapter 11) -/

/-- References and lanes (R416, R418, R420, R422, R424, R430-R434): the loss of a reference is recorded and takes its ports' links, its
return recorded; a lane's buffer is kept between its marks in gaps and an overflow counted; LANE_CTRL is taken only while the lane is
unused; clear, snap and inject act when they are written; a pattern's bits obey its polynomial; a checker locks at 1,024 bits in a row without
error, counts bits and errors while it is locked, and loses lock at 64 wrong of 1,024, each loss counting a relock. -/
def Obligations.LanesAndPatterns : Prop :=
  ∀ (s : State),
    (∀ (r : Fin 7) ppm, (s.flag Reg.laneRefSts r = false → exec (.refLoss r ppm) s = .next s) ∧
      (s.flag Reg.laneRefSts r = true → ∃ t, exec (.refLoss r ppm) s = .next t ∧ t.flag Reg.laneRefSts r = false ∧
        t.flag Reg.laneRefSts (8 + r) = true ∧ t.rd (Reg.laneRefPpm r) = ppm.zeroExtend 32 ∧
        ∀ m : Fin 42, laneRef m = r → t.flag (Reg.macSts m) 31 = false) ∧
      (∀ fr, s.flag Reg.laneRefSts r = false → (r = 6 ∨ ppm.toInt.natAbs ≤ 2000) →
        (∀ t, SMap.find? s.sys.refLost r.val = some t → t + 1000000 ≤ s.now) → ∃ t, exec (.refRegain r ppm fr) s = .next t ∧ t.flag Reg.laneRefSts r = true ∧
        t.rd (Reg.laneRefPpm r) = ppm.zeroExtend 32) ∧
      (∀ fr t, SMap.find? s.sys.refLost r.val = some t → s.now < t + 1000000 → exec (.refRegain r ppm fr) s = .next s) ∧
      (∀ fr, s.flag Reg.laneRefSts r = true → exec (.refRegain r ppm fr) s = .next s)) ∧
    (∀ (i : Fin 58) (fill : BitVec 6) gap, ((42 : Nat) ≤ i → exec (.ebufRateMatch i fill gap) s = .next s) ∧
      ((i : Nat) < 42 →
        (fill.toNat ≤ 32 → 24 ≤ fill.toNat → exec (.ebufRateMatch i fill true) s =
          .next (s.setLane i { s.laneAt i with ebuf := fill.toNat - 1 })) ∧
        (fill.toNat ≤ 8 → exec (.ebufRateMatch i fill true) s = .next (s.setLane i { s.laneAt i with ebuf := fill.toNat + 1 })) ∧
        (32 < fill.toNat → ∃ t, exec (.ebufRateMatch i fill gap) s = .next t ∧ t.flag (Reg.laneSts i) 28 = true ∧
          t.getF (Reg.macCntErr i) 31 0 = min (s.getF (Reg.macCntErr i) 31 0 + 1) (2 ^ 32 - 1)))) ∧
    (∀ ini (i : Fin 58) (v : Word), s.regGate ini (Reg.laneCtrl i) true v = .ok →
      (s.laneUsed i = true → exec (.laneCtrlWrite ini i v) s = .next { s.setB (Reg.laneSts i) 29 true with resp := .ok 0 }) ∧
      (s.laneUsed i = false → fld v 3 2 < 2 → exec (.laneCtrlWrite ini i v) s = .next { s.plainWrite (Reg.laneCtrl i) v with resp := .ok 0 })) ∧
    (∀ ini (i : Fin 58) (v : Word), (i : Nat) < 42 →
      (s.regGate ini (Reg.laneTx i) true v = .ok → exec (.laneEqWrite ini i true v) s = .next { s.plainWrite (Reg.laneTx i) v with resp := .ok 0 }) ∧
      (s.regGate ini (Reg.laneRx i) true v = .ok → v.getLsbD 5 = false → ∃ t, exec (.laneEqWrite ini i false v) s = .next t ∧
        t.getF (Reg.laneSts i) 20 16 = fld v 4 0)) ∧
    (∀ ini (i : Fin 58) (v : Word) w, s.laneUsed i = false → fld v 28 26 < 5 →
      (s.regGate ini (Reg.lanePrbs i) true v = .ok → s.flag (Reg.lanePrbs i) 30 = false → v.getLsbD 30 = true →
        ∃ t, exec (.lanePrbsWrite ini ⟨i, w⟩ v) s = .next t ∧ t.rd (Reg.lanePrbs i) = v &&& 0xFC000000 ∧ (t.laneAt i).errors = 0 ∧ (t.laneAt i).bits = 0) ∧
      (s.regGate ini (Reg.lanePrbs i) true (v ||| 0x2000000) = .ok → ∃ t, exec (.prbsClear ini i v w) s = .next t ∧ (t.laneAt i).errors = 0 ∧
        (t.laneAt i).bits = 0 ∧ t.getF (Reg.laneSts i) 15 0 = 0) ∧
      (s.regGate ini (Reg.lanePrbs i) true (v ||| 0x1000000) = .ok → v.getLsbD 31 = true → ∃ t b, exec (.prbsInject ini ⟨i, w⟩ v) s = .next t ∧
        t.outbox.head? = some (.prbs i [b]) ∧ (s.flag (Reg.lanePrbs i) 31 = true → s.getF (Reg.lanePrbs i) 28 26 = fld v 28 26 → w.sent = 0 →
          b = ((!(prbsNext (fld v 28 26) (s.laneAt i).gen ^^ v.getLsbD 29)) ^^ s.flag (Reg.laneCtrl i) 0))) ∧
      (s.regGate ini (Reg.lanePrbs i) true (v ||| 0x800000) = .ok → s.flag (Reg.lanePrbs i) 30 = true →
        v.getLsbD 25 = false → ∃ t, exec (.prbsSnap ini i v w) s = .next t ∧
          t.rd (Reg.laneSnapErrLo i) = BitVec.ofNat 32 ((s.prbsCarry i w).laneAt i).errors ∧
          t.rd (Reg.laneSnapBitsHi i) = BitVec.ofNat 32 (((s.prbsCarry i w).laneAt i).bits / 2 ^ 32))) ∧
    (∀ (p : Fin 5) (inv : Bool) (n k : Nat) (r : BitVec 31), (prbsTaps p).1 ≤ k → k < n →
      (((prbsBits p inv n r).1.getD k false ^^ inv) = (((prbsBits p inv n r).1.getD (k - (prbsTaps p).1) false ^^ inv) ^^
        ((prbsBits p inv n r).1.getD (k - (prbsTaps p).2) false ^^ inv)))) ∧
    (∀ (i : Fin 58) w c, c = .prbsLock ⟨i, w⟩ ∨ c = .prbsLockLoss i w → s.flag (Reg.lanePrbs i) 31 = false →
      (s.flag (Reg.lanePrbs i) 30 = false → exec c s = .next s) ∧
      (s.flag (Reg.lanePrbs i) 30 = true → s.laneUsed i = true → exec c s = .next ((s.setB (Reg.laneSts i) 30 false).prbsReseed i)) ∧
      (∀ b x d, s.flag (Reg.lanePrbs i) 30 = true → s.laneUsed i = false → s.getF (Reg.laneCtrl i) 3 2 ≠ 1 → w.got = [b] → x = s.laneAt i →
        d = (((b ^^ s.flag (Reg.laneCtrl i) 1) ^^ s.flag (Reg.lanePrbs i) 29) ^^ prbsNext (s.getF (Reg.lanePrbs i) 28 26) x.chk) →
        (s.flag (Reg.laneSts i) 30 = false → d = false → (prbsTaps (s.getF (Reg.lanePrbs i) 28 26)).1 ≤ x.seeded → prbsLive (s.getF (Reg.lanePrbs i) 28 26) x.chk = true →
          x.run = 1023 → ∃ t, exec c s = .next t ∧ t.flag (Reg.laneSts i) 30 = true ∧ (t.laneAt i).errors = x.errors ∧ (t.laneAt i).bits = x.bits) ∧
        (s.flag (Reg.laneSts i) 30 = true → ∃ t, exec c s = .next t ∧ (t.laneAt i).bits = min (2 ^ 48 - 1) (x.bits + 1) ∧
          (t.laneAt i).errors = min (2 ^ 48 - 1) (x.errors + b2n d) ∧
          (64 ≤ ((d :: x.wrong).take 1024).count true → t.flag (Reg.laneSts i) 30 = false ∧
            t.getF (Reg.laneSts i) 15 0 = min (s.getF (Reg.laneSts i) 15 0 + 1) 65535) ∧
          (((d :: x.wrong).take 1024).count true < 64 → t.flag (Reg.laneSts i) 30 = true ∧
            t.getF (Reg.laneSts i) 15 0 = s.getF (Reg.laneSts i) 15 0))))

/-! ### Time (chapter 12) -/

/-- Time bases (R440, R443, R444, R447, R450, R452-R454): a sample corrects the base's rate by kp and ki within its limit; sixteen good
samples lock it; silence for 2 s is HOLDOVER and 1 s without REF_SYS FAILED; a snapshot and the counter are captured whole; an OFFSET
descriptor reaches the servo of a base that takes descriptors; PPS_IN is stamped and PPS_OUT driven; a change of qualified forgets the
accepted sender. -/
def Obligations.TimeBasesFollowSamples : Prop :=
  ∀ (s : State),
    (∀ (t : Fin 8) (x : Int) b (mx i' r' : Int), b = s.tbAt t → mx = (s.getF (Reg.tbLimit t) 9 0 * 1000 * 2 ^ 32 : Nat) →
      i' = clampI (-mx) mx (b.i + ((s.rd (Reg.tbKi t)).toNat : Int) * x) → r' = clampI (-mx) mx (-(((s.rd (Reg.tbKp t)).toNat : Int) * x + i')) →
      (s.tbOn t = false → exec (.servoSample t x) s = .next s) ∧
      (s.tbOn t = true → s.getF (Reg.tbCtrl t) 30 29 ≠ 0 → s.sys.refSysLostAt = none → s.getF (Reg.tbLimit t) 31 16 = 0 →
        ∃ u, exec (.servoSample t x) s = .next u ∧ (u.tbAt t).i = i' ∧ (u.tbAt t).r = r' ∧ (u.tbAt t).time = b.time ∧ (u.tbAt t).lastSample = s.now ∧
          u.rd (Reg.tbOff t) = satWord (x / 256) ∧ u.rd (Reg.tbRate t) = satWord (r' / 2 ^ 24) ∧
          (s.tbState t = 2 → 15 ≤ b.good → x.natAbs ≤ 50 * 65536 → u.tbState t = 3))) ∧
    (∀ t : Fin 8, (s.tbState t = 2 ∨ s.tbState t = 3 → (s.tbAt t).lastSample + 2000000000 ≤ s.now →
        ∃ u, exec (.holdoverTimeout t) s = .next u ∧ u.tbState t = 4) ∧
      (s.now < (s.tbAt t).lastSample + 2000000000 → exec (.holdoverTimeout t) s = .next s)) ∧
    (∀ at_, s.sys.refSysLostAt = some at_ →
      (at_ + 1000000000 ≤ s.now → ∃ u, exec .refSysFail s = .next u ∧ ∀ t : Fin 8, s.tbOn t = true → u.tbState t = 5) ∧
      (s.now < at_ + 1000000000 → exec .refSysFail s = .next s)) ∧
    (∀ ini (t : Fin 8) (v : Word), s.regGate ini (Reg.tbSnap t) true v = .ok → v.getLsbD 0 = true → ∃ u, exec (.tbSnap ini t v) s = .next u ∧
      u.rd (Reg.tbNowNs t) = BitVec.ofNat 32 (ptNs (s.timeOf t)) ∧ u.rd (Reg.tbNowSLo t) = BitVec.ofNat 32 (s.timeOf t / secT) ∧
      u.rd (Reg.tbNowFrac t) = BitVec.ofNat 32 (s.timeOf t % 65536) ∧ u.rd (Reg.tbSnapCtrLo t) = BitVec.ofNat 32 s.now) ∧
    (∀ i d t, s.firstWaiting 0x50 = some (i, d) → d.kind = 1 → t = byteAt d.bytes 8 → zeroBytes d.bytes 9 7 = true → zeroBytes d.bytes 24 8 = true →
      (t < 8 → s.takesSamples t 2 = true → exec .offset s =
        .next ((s.servo t (BitVec.ofNat 64 (leAt d.bytes 16 8)).toInt).completeAt 0x50 i 0 none)) ∧
      (t < 8 → s.takesSamples t 2 = false → exec .offset s = .next (s.completeAt 0x50 i 4 none)) ∧
      (8 ≤ t → exec .offset s = .next (s.completeAt 0x50 i 1 none))) ∧
    (∀ ini, s.regGate ini Reg.sysCtrLo false 0 = .ok → ∃ u, exec (.sysCtrLoRead ini) s = .next u ∧ u.resp = .ok (BitVec.ofNat 32 s.now) ∧
      SMap.get (fun _ => (0 : Word)) u.sys.ctrHi (iniKey ini) = BitVec.ofNat 32 (s.now / 2 ^ 32)) ∧
    (∀ b x, b = s.getF Reg.ppsInCfg 2 0 → x = (stampRes (s.timeOf b)).toNat →
      (s.flag Reg.ppsInCfg 31 = true → s.takesSamples b 3 = false → ∃ u, exec .ppsInEdge s = .next u ∧ u.rd Reg.ppsInNs = BitVec.ofNat 32 (ptNs x) ∧
        u.rd Reg.ppsInS = BitVec.ofNat 32 (x / secT) ∧ u.rd Reg.ppsInFrac = BitVec.ofNat 32 (x % 65536)) ∧
      (s.flag Reg.ppsInCfg 31 = false → exec .ppsInEdge s = .next s)) ∧
    (∀ c x, c = s.rd Reg.ppsOutCfg → x = s.timeOf (fld c 30 28) →
      (c.getLsbD 31 = true → s.tbOn (fld c 30 28) = true → fld c 15 0 ≠ 0 → s.sys.ppsHigh = false → ((x : Int) - (s.rd Reg.ppsOutPhase).toInt * 65536) % (secT : Nat) < 65569 →
        exec (.ppsOutPulse true) s = .next { s with sys := { s.sys with ppsHigh := true, ppsAt := x }, outbox := .pps true :: s.outbox }) ∧
      (s.sys.ppsHigh = true → s.sys.ppsAt + fld c 15 0 * 1000 * 65536 ≤ x →
        exec (.ppsOutPulse false) s = .next { s with sys := { s.sys with ppsHigh := false }, outbox := .pps false :: s.outbox }) ∧
      (s.tbOn (fld c 30 28) = false → exec (.ppsOutPulse true) s = .next s) ∧
      (s.sys.ppsHigh = false → exec (.ppsOutPulse false) s = .next s)) ∧
    (∀ ini (m : Fin 42) (v : Word), s.regGate ini (Reg.timePortQual m) true v = .ok →
      (v.getLsbD 0 = s.qualified m → exec (.timePortQualWrite ini m v) s = .next { s.plainWrite (Reg.timePortQual m) v with resp := .ok 0 }) ∧
      (v.getLsbD 0 = true → s.qualified m = false → ∃ u, exec (.timePortQualWrite ini m v) s = .next u ∧ u.qualified m = true ∧ (u.tpAt m).master = none))

/-- PTP (R446-R450, R459-R461): masters send Sync and answer Delay_Req, slaves send requests, each once its interval has passed; a Sync and
its Follow_Up give t1 and t2, a Delay_Resp gives the path delay and the offset; peer delay works alike with Pdelay messages; general
messages go to the ring, PTP_SEND sends one; a TIME_ECHO beyond 64 a second is only counted. -/
def Obligations.PtpExchanges : Prop :=
  ∀ (m : Fin 42) (s : State) (x : TpSt) (pf : Nat), x = s.tpAt m → pf = s.getF (Reg.timePortCfg m) 29 28 →
    (s.portRuns m = true → s.ptpRole m = 1 →
      ((∀ t, x.syncAt = some t → t + intervalNs (s.getF (Reg.timePortIntv m) 23 16) ≤ s.now) → ∃ a g st, exec (.syncSend m) s =
          .next ((s.setTp m { x with syncSeq := (x.syncSeq + 1) % 2 ^ 16, syncAt := some s.now }).sendTime m a g st) ∧
        byteAt g 0 % 16 = 0 ∧ beAt g 30 2 = x.syncSeq % 2 ^ 16) ∧
      (∀ t, x.syncAt = some t → s.now < t + intervalNs (s.getF (Reg.timePortIntv m) 23 16) → exec (.syncSend m) s = .next s)) ∧
    (s.ptpRole m ≠ 1 → exec (.syncSend m) s = .next s) ∧
    (∀ n, n = intervalNs (if pf = 1 ∨ pf = 2 then s.getF (Reg.timePortIntv m) 7 0 else s.getF (Reg.timePortIntv m) 15 8) →
      s.portRuns m = true → s.ptpRole m = 2 →
      ((∀ t, x.reqAt = some t → t + n ≤ s.now) → ∃ a g st, exec (.delayReqSend m) s = .next ((s.setTp m { x with
          reqSeq := (x.reqSeq + 1) % 2 ^ 16, reqAt := some s.now, req := some (x.reqSeq, none), peer := none }).sendTime m a g st) ∧
        byteAt g 0 % 16 = (if pf = 1 ∨ pf = 2 then 2 else 1) ∧ beAt g 30 2 = x.reqSeq % 2 ^ 16) ∧
      (∀ t, x.reqAt = some t → s.now < t + n → exec (.delayReqSend m) s = .next s)) ∧
    (∀ p t2, s.ptpHears m p = true → s.qualified m = false → t2 = s.ingress m p.crossing →
      (s.ptpRole m = 2 →
        (p.twoStep = true → exec (.sync m p) s = .next (s.setTp m { x with sync := some (p.source, p.seqId.toNat, t2, p.correction) })) ∧
        (p.twoStep = false → pf = 0 ∨ pf = 3 → exec (.sync m p) s =
          .next (s.setTp m { x with sync := none, meas := some (p.carried + p.correction, t2) })) ∧
        (∀ r c, x.sync = some (p.source, p.seqId.toNat, r, c) → pf = 0 ∨ pf = 3 → exec (.followUp m p) s =
          .next (s.setTp m { x with sync := none, meas := some (p.carried + p.correction + c, r) })) ∧
        (∀ t3 a b d, x.req = some (p.seqId.toNat, some t3) → x.meas = some (a, b) → pf = 0 ∨ pf = 3 → p.answers = s.portIdentity m →
          d = ((b - a) + (p.carried - p.correction - t3)) / 2 →
          exec (.delayResp m p) s = .next (((s.setTp m { x with req := none }).setMpd m d).deliver m (b - a - d))) ∧
        (∀ t1, x.req = some (p.seqId.toNat, some t1) → pf = 1 ∨ pf = 2 → p.answers = s.portIdentity m →
          (p.twoStep = true → exec (.pdelayResp m p) s = .next (s.setTp m { x with peer := some (p.carried, t2, p.correction) })) ∧
          (p.twoStep = false → exec (.pdelayResp m p) s = .next (s.peerDone m t1 t2 p.correction none)) ∧
          (∀ a t4 c, x.peer = some (a, t4, c) → exec (.pdelayRespFollowUp m p) s =
            .next (s.peerDone m t1 t4 (p.carried - a + p.correction + c) (some (p.carried + p.correction)))))) ∧
      (s.ptpRole m = 1 →
        (pf = 0 ∨ pf = 3 → ∃ a g, exec (.delayReq m p) s = .next (s.sendTime m a g (.ptp .general 0 a g)) ∧ byteAt g 0 % 16 = 9 ∧
          beAt g 30 2 = p.seqId.toNat) ∧
        (pf = 1 ∨ pf = 2 → ∃ a g st, exec (.pdelayReq m p) s = .next (s.sendTime m a g st) ∧ byteAt g 0 % 16 = 3 ∧ beAt g 30 2 = p.seqId.toNat)) ∧
      (s.ptpRole m = 3 → exec (.sync m p) s = .next s ∧ exec (.delayReq m p) s = .next s ∧ exec (.pdelayReq m p) s = .next s ∧
        exec (.pdelayResp m p) s = .next s)) ∧
    (∀ p, s.portRuns m = true → s.ptpRole m ≠ 0 → exec (.ptpGeneralMessage m p) s =
      .next (s.ringWrite ⟨1, 0x81⟩ Reg.timeRxRing Reg.timeRxRingCtl 128
        (leBytes 4 m ++ leBytes 8 ((s.ingress m p.crossing).toNat / secT) ++ leBytes 4 (ptNs (s.ingress m p.crossing).toNat) ++ padTo 112 (p.bytes.take 112)))) ∧
    (∀ p, s.ptpRole m = 0 → exec (.ptpGeneralMessage m p) s = .next s) ∧
    (∀ i d r bs a, s.firstWaiting 0x50 = some (i, d) → d.kind = 2 → byteAt d.bytes 16 = m → 0 < leAt d.bytes 14 2 → leAt d.bytes 14 2 ≤ 1024 →
      zeroBytes d.bytes 17 15 = true → a = s.ptpAddr m false false →
      s.memRead ⟨1, 0x81⟩ (leAt d.bytes 8 6) (leAt d.bytes 14 2) = (r, .ok, bs) →
      exec .ptpSend s = .next ((r.sendTime m a bs (.ptp .general 0 a bs)).completeAt 0x50 i 0 none)) ∧
    (∀ u : UpFrame, (messageOf u []).ptype = 2 →
      (s.accepts u = none → exec (.timeEcho u) s = .next (s.addSat (Reg.wchCnt (messageOf u []).channel.val) 15 8 1)) ∧
      (∀ p, s.accepts u = some p → upCode p = 5 → 64 ≤ ((s.rxAt (upFolio p)).echoTimes.filter (fun t => decide (s.now < t + 1000000000))).length →
        exec (.timeEcho u) s = .next ((s.noteSeq p).addSat Reg.timeEchoCnt 31 16 1)) ∧
      (∀ p, s.accepts u = some p → upCode p = 5 → ((s.rxAt (upFolio p)).echoTimes.filter (fun t => decide (s.now < t + 1000000000))).length < 64 → p.lane.toNat < 42 →
        ((s.noteSeq p).turnEpoch p.channel.val).chSends p.channel.val = true →
        ∃ t, exec (.timeEcho u) s = .next t ∧ (t.rxAt (upFolio p)).echoTimes =
          s.now :: (s.rxAt (upFolio p)).echoTimes.filter (fun t => decide (s.now < t + 1000000000))))

/-! ### Audio (chapter 13) -/

/-- Audio (R465-R480): a block boundary, or a stopped clock, is its group's commit point; a locked port's slots enter the groups that take
them; an AES3 block is captured whole, a bad CRCC counting instead; lock is taken after 16 frame syncs and lost; a non-audio pair leaves
after 4,096 frames without a burst once its channel status allows; a group begins and writes its output blocks; a silent source is lost; a
mute waits for the next block; an output sends the oldest block not yet sent. -/
def Obligations.AudioBlocks : Prop :=
  ∀ (s : State),
    (∀ (g : BitVec 16) a, s.armOf .aud g.toNat = some a → a.link = 0 →
      (s.audBoundary g.toNat = true → exec (.audioBlockBoundary g) s = .next (s.commitTogether [(.aud, g.toNat)])) ∧
      ((s.audClock g.toNat).1 + 128 * 1000000000 / max 1 (s.audClock g.toNat).2 ≤ s.now →
        exec (.audioClockStopped g) s = .next (s.commitTogether [(.aud, g.toNat)])) ∧
      (s.now < (s.audClock g.toNat).1 + 128 * 1000000000 / max 1 (s.audClock g.toNat).2 → exec (.audioClockStopped g) s = .next s)) ∧
    (∀ (p : Fin 16) c x smp, c = s.rd (Reg.audSpCfg p) → x = s.spAt p →
      (s.flag (Reg.audSpSts p) 31 = true → c.getLsbD 30 = false →
        (s.flag (Reg.audSpSts p) 30 = true → exec (.audioFrameSync (.serial p) true smp) s =
          .next ((s.setSp p { x with good := x.good + 1, lastAt := s.now }).feedGroups 0 p none 0
            [(List.range (fld c 21 17)).map (fun i => smp.getD i 0 &&& slotMask (fld c 16 15))])) ∧
        (s.flag (Reg.audSpSts p) 30 = false → 15 ≤ x.good → exec (.audioFrameSync (.serial p) true smp) s =
          .next (State.feedGroups (((s.setSp p { x with good := x.good + 1, lastAt := s.now }).setB (Reg.audSpSts p) 30 true).raiseEvt Reg.audEvt) 0 p none 0
            [(List.range (fld c 21 17)).map (fun i => smp.getD i 0 &&& slotMask (fld c 16 15))])) ∧
        (s.flag (Reg.audSpSts p) 30 = false → x.good < 15 → exec (.audioFrameSync (.serial p) true smp) s =
          .next (s.setSp p { x with good := x.good + 1, lastAt := s.now })) ∧
        (c.getLsbD 27 = false → s.flag (Reg.audSpSts p) 30 = true → exec (.audioFrameSync (.serial p) false smp) s =
          .next (((((s.setSp p { x with good := 0, lastAt := s.now }).addSat (Reg.audSpCnt p) 31 0 1)).setB (Reg.audSpSts p) 30 false).raiseEvt Reg.audEvt))) ∧
      (s.flag (Reg.audSpSts p) 31 = false → exec (.audioFrameSync (.serial p) true smp) s = .next s) ∧
      (s.flag (Reg.audSpSts p) 31 = true → c.getLsbD 27 = false → s.flag (Reg.audSpSts p) 30 = true →
        x.lastAt + 2 * 1000000000 / max 1 (audRate (fld c 25 22)) ≤ s.now → ∃ t, exec (.audioPortLockLoss p) s = .next t ∧
          t.flag (Reg.audSpSts p) 30 = false ∧ (t.spAt p).good = 0) ∧
      (c.getLsbD 27 = true → exec (.audioPortLockLoss p) s = .next s)) ∧
    (∀ (a : Fin 4) b v s1 s2, s.flag (Reg.audArCfg a) 31 = true → s.flag (Reg.audArSts a) 31 = true → v = s.spAt (0x10 + a) →
      s1 = (if v.anyV then (s.setSp (0x10 + a) { v with anyV := false }).addSat (Reg.audArCnt a) 15 0 1 else s) →
      s2 = ((((s1.putWords (Reg.audArCs0 a 0) b.csA).putWords (Reg.audArCs1 a 0) b.csB).putWords (Reg.audArU0 a 0) b.uA).putWords
          (Reg.audArU1 a 0) b.uB).addWrap (Reg.audArSeq a) 31 0 1 →
      (badStatus b.csA = false → badStatus b.csB = false →
        ((b.csA.getD 0 0).getLsbD 1 = false → exec (.aes3Block a b) s = .next ((s2.arSettle a).feedStatus 1 a none [])) ∧
        ((b.csA.getD 0 0).getLsbD 1 = true → exec (.aes3Block a b) s = .next ((s2.setArNonaudio a true).feedStatus 1 a none [0]))) ∧
      (badStatus b.csA = true ∨ badStatus b.csB = true →
        exec (.aes3Block a b) s = .next ((s1.addSat (Reg.audArCnt a) 31 16 1).raiseEvt Reg.audEvt))) ∧
    (∀ (a : Fin 4) (r : BitVec 4), s.flag (Reg.audArCfg a) 31 = true →
      ∃ t, exec (.aes3LockChange a true r) s = .next t ∧ t.flag (Reg.audArSts a) 31 = true ∧ t.getF (Reg.audArSts a) 3 0 = r.toNat) ∧
    (∀ (a : Fin 4) (r : BitVec 4), ∃ t, exec (.aes3LockChange a false r) s = .next t ∧ t.flag (Reg.audArSts a) 31 = false ∧
      t.getF (Reg.audArSts a) 3 0 = 15) ∧
    (∀ (g : Fin 16) (pr : Fin 8) x, x = s.grpAt g →
      (x.nonaudio.contains pr.val = true → 4096 ≤ SMap.get (fun _ => 0) x.quiet pr.val → x.coded.contains pr.val = false → ∃ t, exec (.nonaudioExit g pr) s = .next t ∧
        (t.grpAt g).nonaudio = x.nonaudio.filter (fun k => k != pr.val) ∧
        t.flag (Reg.audGrpSts g) 30 = !(x.nonaudio.filter (fun k => k != pr.val)).isEmpty) ∧
      (SMap.get (fun _ => 0) x.quiet pr.val < 4096 ∨ x.coded.contains pr.val = true → exec (.nonaudioExit g pr) s = .next s)) ∧
    (∀ (g : Fin 16) x n, x = s.grpAt g → s.flag (Reg.audGrpOut g) 31 = false → n = s.grpIndex g / 64 →
      (s.grpOn g = false → exec (.audioOutputBlock g) s = .next s) ∧
      (s.grpOn g = true → x.blk = none → (∀ w, x.written = some w → w < n) → exec (.audioOutputBlock g) s = .next (s.beginBlock g n)) ∧
      (∀ b r, s.grpOn g = true → r = s.grpRun g → (r.grpAt g).blk = some b → r.grpIndex g / 64 = b + 1 →
        exec (.audioOutputBlock g) s = .next ((r.writeBlock g b).beginBlock g (b + 1))) ∧
      (s.grpOn g = true → x.lost = false → x.lastFrameAt + 128 * 1000000000 / max 1 (s.grpRate g) ≤ s.now →
        ∃ t, exec (.audioSourceLoss g) s = .next t ∧ (t.grpAt g).lost = true ∧ (t.grpAt g).fifo = [] ∧ t.grpLocked g = false) ∧
      (s.now < x.lastFrameAt + 128 * 1000000000 / max 1 (s.grpRate g) → exec (.audioSourceLoss g) s = .next s)) ∧
    (∀ i d g, s.firstWaiting 0x60 = some (i, d) → d.kind = 1 → g = byteAt d.bytes 8 → zeroBytes d.bytes 10 22 = true →
      (g < 16 → byteAt d.bytes 9 < 2 → exec .mute s =
        .next ((s.startAt 0x60 i (g + 1)).setGrp g { s.grpAt g with muteNext := some (byteAt d.bytes 9 == 1) })) ∧
      (16 ≤ g ∨ 2 ≤ byteAt d.bytes 9 → exec .mute s = .next (s.completeAt 0x60 i 1 none))) ∧
    (∀ (o : Fin 16) c g w lo b r stamp fs, c = s.rd (Reg.audOutCfg o) → g = fld c 27 24 → (s.grpAt g).written = some w →
      lo = max (s.aoAt o).blk (w + 1 - s.getF (Reg.audGrpRingCtl g) 5 0) → c.getLsbD 31 = true →
      ((List.range (w + 1 - lo)).map (· + lo)).find? (fun b => (s.readBlock g b (fld c 23 19) (fld c 18 14)).2.isSome) = some b →
      s.readBlock g b (fld c 23 19) (fld c 18 14) = (r, some (stamp, fs)) →
      exec (.audioOutputSend o) s = .next (r.sendBlock o g b stamp fs)) ∧
    (∀ o : Fin 16, s.flag (Reg.audOutCfg o) 31 = false → exec (.audioOutputSend o) s = .next s)

/-! ### Clasp (chapter 14) -/

/-- Clasp takes triggers one at a time (R493): while it is not ready, or the trigger in front is of another command, a command changes
nothing; one that fails a check is answered with the check's result and no effect; one that passes has its effect, is answered, and a signed
one that is done consumes its sequence number. Malformed is 1, a wrong nonce, serial number or sequence 3, an unknown signer 4, a wrong
signature 2. -/
def Obligations.ClaspChecksCommands : Prop :=
  ∀ (side : ClaspSide) (s : State) (e : Envelope) (s0 : State) (n : Nat) (rest0 : Bool), e = s.envelope side →
    n = (s.rd (Reg.mbxData (sideChannel side) 0)).toNat →
    rest0 = (List.range 15).all (fun k => s.rd (Reg.mbxData (sideChannel side) (k + 1)) == 0) →
    s0 = State.mbxDrain { s with clasp := { s.clasp with trig := s.clasp.trig.tail } } (sideChannel side) →
    (s.claspReady side = false → exec (.claspTrigger side) s = .next s) ∧
    (s.claspReady side = true →
      (∀ r, s0.claspFail side e n rest0 = some r → exec (.claspTrigger side) s = .next (e.replied side s0 r [])) ∧
      (∀ s1 r bs, s0.claspFail side e n rest0 = none → s0.claspEffect e = some (s1, r, bs) → exec (.claspTrigger side) s =
        .next (e.replied side (if r = 0 then e.accepted s1 else s1) r bs)) ∧
      (e.code ≠ 4 → exec (.alarmRead side) s = .next s)) ∧
    (e.malformed n rest0 = true → s0.claspFail side e n rest0 = some 1) ∧
    (e.malformed n rest0 = false → e.signer ≠ 0xFF →
      ((e.bytes.drop 4).take 8 ≠ s0.nonceBytes ∨ (e.bytes.drop 16).take 16 ≠ serialBytes ∨ e.seq < s0.nextSeq e.signer →
        s0.claspFail side e n rest0 = some 3) ∧
      ((e.bytes.drop 4).take 8 = s0.nonceBytes → (e.bytes.drop 16).take 16 = serialBytes → s0.nextSeq e.signer ≤ e.seq →
        (s0.signerKey e = none → s0.claspFail side e n rest0 = some 4) ∧
        (∀ k, s0.signerKey e = some k → Config.ecdsaVerify k (Config.sha384 (e.bytes.take (32 + e.len))) e.sig = false →
          s0.claspFail side e n rest0 = some 2)))

/-- Clasp's reports and keys (R390, R494-R498, R501, R502): what each command that passes its checks leaves and replies. -/
def Obligations.ClaspKeysAndReports : Prop :=
  ∀ (side : ClaspSide) (s : State) (e : Envelope) (s0 : State) (b : List Byte), b = e.body →
    (s.claspAsks side 0x01 e s0 → ∃ rep, exec (.attest side) s =
      .next (e.replied side (e.accepted s0) 0 (rep ++ Config.identitySign (Config.sha384 rep)))) ∧
    (∀ sb k, s.claspAsks side 0x02 e s0 → s0.getF Reg.clsSts 31 29 = 2 → s0.debugOpen = false → Config.sealedOf b = some sb → sb.eph = none →
      sb.serial = serialBytes → sb.gen = s0.clasp.gen →
      (Config.gcmOpen Config.sealingKey sb.iv (Config.bookAad sb.serial sb.gen) sb.body).bind Config.bookOf = some k →
      exec (.restore side) s = .next (e.replied side (e.accepted (s0.loadBook k)) 0 []) ∧ (s0.loadBook k).clasp.owner = k.owner ∧
        (s0.loadBook k).getF Reg.clsSts 31 29 = 3) ∧
    (s.claspAsks side 0x03 e s0 → ∃ iv body, exec (.seal side) s = .next (e.replied side (e.accepted s0.bumpFree) 0
      (Config.sealedBytes ⟨serialBytes, s0.clasp.gen, none, iv, body⟩)) ∧
      body = Config.gcmSeal Config.sealingKey iv (Config.bookAad serialBytes s0.clasp.gen) (Config.bookBytes s0.book)) ∧
    (s.claspAsks side 0x04 e s0 → exec (.alarmRead side) s = .next (e.replied side (e.accepted s0) 0
      ((s0.clasp.alarms.take 8).flatMap (fun r => r ++ Config.identitySign (Config.sha384 (r ++ s0.nonceBytes)))))) ∧
    (s.claspAsks side 0x05 e s0 → ∃ rep, exec (.placement side) s =
      .next (e.replied side (e.accepted s0) 0 (rep ++ Config.identitySign (Config.sha384 rep)))) ∧
    (∀ k, s.claspAsks side 0x10 e s0 → (if s0.clasp.fusedClaimed then s0.clasp.owner else some Config.vendorRoot) = some k → s0.clasp.gen < 64 →
      Config.ecdsaVerify k (Config.sha384 (serialBytes ++ b.take 97)) ((b.drop 97).take 96) = true →
      ∃ t, exec (.enrolOwner side) s = .next t ∧ t.clasp.owner = some (b.take 97) ∧ t.clasp.safety = none ∧ t.clasp.gen = s0.clasp.gen + 1 ∧
        t.clasp.fusedClaimed = true) ∧
    (s.claspAsks side 0x11 e s0 → s0.debugOpen = false → s0.clasp.safety = none → s0.clasp.gen < 64 →
      (e.len = 97 → ∃ t, exec (.enrolSafety side) s = .next t ∧ t.clasp.safety = some (b.take 97) ∧ t.clasp.gen = s0.clasp.gen + 1) ∧
      (e.len = 193 → exec (.enrolSafety side) s = .next (e.replied side s0 1 []))) ∧
    (s.claspAsks side 0x12 e s0 → 1 ≤ byteAt b 0 → byteAt b 0 ≤ 64 →
      (s0.tenantKey (0x3F + byteAt b 0) = [] → ∃ t, exec (.tenantAdd side) s = .next t ∧ t.tenantKey (0x3F + byteAt b 0) = (b.drop 1).take 97) ∧
      (s0.tenantKey (0x3F + byteAt b 0) ≠ [] → exec (.tenantAdd side) s = .next (e.replied side s0 6 []))) ∧
    (s.claspAsks side 0x13 e s0 → 1 ≤ byteAt b 0 → byteAt b 0 ≤ 64 → ∃ t, exec (.tenantRetire side) s = .next t ∧
      t.tenantKey (0x3F + byteAt b 0) = [] ∧ ∀ j : Fin 4, SMap.get (fun _ => []) t.clasp.content (4 * (0x3F + byteAt b 0) + j) = []) ∧
    (s.claspAsks side 0x20 e s0 → s0.debugOpen = false →
      (3 < byteAt b 0 → exec (.contentKey side) s = .next (e.replied side s0 7 [])) ∧
      (∀ k, byteAt b 0 ≤ 3 → unwrapKey (wrapTenant e.signer) (byteAt b 0) ((b.drop 1).take 97) ((b.drop 98).take 40) = some k →
        ∃ t, exec (.contentKey side) s = .next t ∧ SMap.get (fun _ => []) t.clasp.content (4 * e.signer + byteAt b 0) = k)) ∧
    (∀ k, s.claspAsks side 0x40 e s0 → s0.debugOpen = false → byteAt b 0 ≤ 3 →
      unwrapKey 0 (byteAt b 0) ((b.drop 1).take 97) ((b.drop 98).take 40) = some k →
      ∃ t, exec (.wallSeed side) s = .next t ∧ SMap.get (fun _ => []) t.clasp.seeds (byteAt b 0) = k) ∧
    (s.claspAsks side 0x41 e s0 → leAt b 0 2 ≤ 1023 → leAt b 2 2 ≤ 511 → byteAt b 5 ≤ 3 →
      (s0.slotInUse (leAt b 0 2) = true → exec (.wallKey side) s = .next (e.replied side s0 6 [])) ∧
      (s0.slotInUse (leAt b 0 2) = false → SMap.get (fun _ => []) s0.clasp.seeds (byteAt b 5) = [] →
        exec (.wallKey side) s = .next (e.replied side s0 5 [])) ∧
      (s0.slotInUse (leAt b 0 2) = false → SMap.get (fun _ => []) s0.clasp.seeds (byteAt b 5) ≠ [] → ∃ t, exec (.wallKey side) s = .next t ∧
        SMap.get (fun _ => none) t.clasp.wall (leAt b 0 2) = some ⟨Config.hkdf (ascii "FOLIO-WALL") (SMap.get (fun _ => []) s0.clasp.seeds (byteAt b 5))
          (ascii "FOLIO-WCH" ++ beBytes 2 (leAt b 2 2) ++ [BitVec.ofNat 8 (byteAt b 4)]) 32, leAt b 2 2, byteAt b 4, byteAt b 6 % 2 == 1⟩)) ∧
    (∀ k, s.claspAsks side 0x42 e s0 → s0.debugOpen = false → 0x20 ≤ byteAt b 0 → byteAt b 0 ≤ 0x29 → 1 ≤ byteAt b 1 → byteAt b 1 ≤ 32 →
      unwrapKey 0 (byteAt b 0) ((b.drop 34).take 97) ((b.drop 131).take 40) = some k →
      ∃ t, exec (.macsecCak side) s = .next t ∧ (t.portAt (byteAt b 0)).cak = k ∧ (t.portAt (byteAt b 0)).ckn = (b.drop 2).take (byteAt b 1)) ∧
    (∀ m w, s.claspAsks side 0x43 e s0 → 32 ≤ m → m ≤ 41 → (s0.portAt m).cak ≠ [] →
      (∀ icv, icv = Config.cmac (Config.mkaIck (s0.portAt m).cak (s0.portAt m).ckn) w → Config.mkaOf b = some (.icv m w) →
        exec (.mkaOp side) s = .next (e.replied side (e.accepted (s0.mkaSend m (w ++ icv))) 0 icv)) ∧
      (∀ k, Config.mkaOf b = some (.unwrap m w) → Config.keyUnwrap (Config.mkaKek (s0.portAt m).cak (s0.portAt m).ckn) w = some k →
        exec (.mkaOp side) s = .next (e.replied side (e.accepted (s0.installSak m k)) 0 []))) ∧
    (s.claspAsks side 0x60 e s0 → s0.clasp.bookLoaded = false →
      Config.ecdsaVerify Config.vendorRoot (Config.sha384 (serialBytes ++ s0.nonceBytes ++ b.take 4)) ((b.drop 4).take 96) = true →
      ∃ t, exec (.debugUnlock side) s = .next t ∧ t.clasp.debugScope = Nat.lor s0.clasp.debugScope (leAt b 0 4)) ∧
    (s.claspAsks side 0x61 e s0 → ∃ iv body, exec (.twinExport side) s = .next (e.replied side (e.accepted s0.bumpFree) 0
      (Config.sealedBytes ⟨(b.drop 97).take 16, s0.clasp.gen, some (Config.ephPublic s0.free), iv, body⟩)))

/-- Clasp's writes (R495, R499-R501): GRANULE gives a granule a new tag, a safety granule only with the safety authority's signature;
CODE_CHECK marks a region whose hash agrees, and ends with 9 and the memory event at a word it cannot correct; SEALED_WRITE stores what
opens, or zeros; SAFETY_WRITE writes what the safety authority may; ALARM_ACK drops the records up to its number. -/
def Obligations.ClaspWritesMemory : Prop :=
  ∀ (side : ClaspSide) (s : State) (e : Envelope) (s0 : State) (b : List Byte), b = e.body →
    (∀ i tag, s.claspAsks side 0x14 e s0 → i = leAt b 0 4 → i < 1024 → leAt b 4 4 = 1 → tag = byteAt b 8 → byteAt b 9 = 0 → s0.tagOk tag = true →
      s0.clasp.vendorGranules.contains i = false → s0.codeGranule i = false →
      (s0.getF (Reg.memDomSs i) 23 16 ≠ 2 → exec (.granule side) s = .next (e.replied side (e.accepted (s0.domainWrite false i tag 0)) 0 [])) ∧
      (s0.getF (Reg.memDomSs i) 23 16 = 2 → s0.clasp.safety = none → exec (.granule side) s = .next (e.replied side s0 4 [])) ∧
      (∀ k, s0.getF (Reg.memDomSs i) 23 16 = 2 → s0.clasp.safety = some k → ((b.drop 10).take 96).all (· == 0) = false →
        Config.ecdsaVerify k (Config.sha384 (e.bytes.take 42)) ((b.drop 10).take 96) = true →
        exec (.granule side) s = .next (e.replied side (e.accepted (s0.domainWrite false i tag 0)) 0 []))) ∧
    (∀ o n, s.claspAsks side 0x50 e s0 → o = leAt b 0 6 - ssBase → n = leAt b 6 4 → 0 < n → regionOf (leAt b 0 6) n = .ss →
      (ssGranules o n).any (fun i => s0.clasp.vendorGranules.contains i || s0.getF (Reg.memDomSs i) 23 16 == 2) = false →
      (s0.scrubbing o n = true → exec (.codeCheck side) s = .next s) ∧
      (∀ m, s0.scrubbing o n = false → m = { s0 with ssErr := s0.ssMend false o n } →
        ((blocks 8 o n).any (fun w => errAt s0.ssErr w == 2) = true → exec (.codeCheck side) s = .next (e.replied side (m.memEvent 2 0xC1) 9 [])) ∧
        ((blocks 8 o n).any (fun w => errAt s0.ssErr w == 2) = false →
          (Config.sha384 ((List.range n).map (fun i => s0.ssByte (o + i))) = (b.drop 10).take 48 →
            ∃ t, exec (.codeCheck side) s = .next t ∧ t.clasp.regions.contains (o, n) = true) ∧
          (Config.sha384 ((List.range n).map (fun i => s0.ssByte (o + i))) ≠ (b.drop 10).take 48 →
            exec (.codeCheck side) s = .next (e.replied side m 2 []))))) ∧
    (∀ key n src dst r ct w, s.claspAsks side 0x21 e s0 → s0.debugOpen = false → byteAt b 0 ≤ 3 → n = leAt b 16 4 → 0 < n → src = leAt b 4 6 →
      dst = leAt b 10 6 → key = SMap.get (fun _ => []) s0.clasp.content (4 * e.signer + byteAt b 0) → key ≠ [] → s0.heldBy 3 src n = true →
      s0.heldBy e.signer dst n = true → s0.memWaits ⟨3, 0xC1⟩ src n = false → s0.memRead ⟨3, 0xC1⟩ src n = (r, .ok, ct) →
      (∀ pt, Config.gcmOpen key ((b.drop 20).take 12) [] (ct ++ (b.drop 32).take 16) = some pt →
        r.memWaits ⟨e.signer, 0xC1⟩ dst pt.length = false → r.memWrite ⟨e.signer, 0xC1⟩ dst pt = (w, .ok) →
        exec (.sealedWrite side) s = .next (e.replied side (e.accepted w) 0 [])) ∧
      (Config.gcmOpen key ((b.drop 20).take 12) [] (ct ++ (b.drop 32).take 16) = none → r.memWaits ⟨e.signer, 0xC1⟩ dst n = false →
        r.memWrite ⟨e.signer, 0xC1⟩ dst (List.replicate n 0) = (w, .ok) →
        exec (.sealedWrite side) s = .next (e.replied side w 8 []))) ∧
    (∀ x, s.claspAsks side 0x30 e s0 → safetyEntries b = [x] → leAt b 0 2 = 1 → byteAt b 2 = 0 → s0.stagingRoom [x] = true →
      (s0.safetyMay [x] x = true → exec (.safetyWrite side) s = .next (e.replied side (e.accepted
        { (s0.busWrite (.clasp 2) x.1 (leBytes x.2.1 x.2.2)).1 with resp := s0.resp }) 0 [])) ∧
      (s0.safetyMay [x] x = false → exec (.safetyWrite side) s = .next (e.replied side s0 7 []))) ∧
    (s.claspAsks side 0x31 e s0 → ∃ t, exec (.alarmAck side) s = .next t ∧
      t.clasp.alarms = s0.clasp.alarms.filter (fun r => decide (leAt b 0 4 < leAt r 0 4)))

/-! ### Host interface (chapter 15) -/

/-- Queues (R507-R513): a tail or head inside the queue is taken, one outside is ignored and flagged; while a queue is enabled only en
changes; a queue enabled within its limits is emptied, one outside them stays off with err. A fetch moves the head, runs the command and
completes it, and passes over no queue that has waited 50 µs; a command outside the negotiated version ends with VERSION, an unknown one
with MALFORMED. Vectors (R515-R517): a vector fires when its timer has run out after its first counted request, or when the host sets idle;
a masked one sets its PBA bit in place of sending. Nothing fires while the function holds its writes. -/
def Obligations.HostQueuesAndVectors : Prop :=
  (∀ (ini : Ini) (q : Fin 64) (v : Word) (c : HostCmd) (s u : State), u = s.fetched q →
     (u.getF (Reg.hifSqSts q) 11 0 = s.nextHead q % 2 ^ 12 ∧ u.hif.turn = q) ∧
     (s.regGate ini (Reg.hifSqTail q) true v = .ok →
       (s.getF (Reg.hifSqCfg q) 12 0 ≤ fld v 11 0 →
         exec (.hifSqTailWrite ini q v) s = .next { s.setB (Reg.hifSqSts q) 30 true with resp := .ok 0 }) ∧
       (fld v 11 0 < s.getF (Reg.hifSqCfg q) 12 0 → exec (.hifSqTailWrite ini q v) s = .next { s.setF (Reg.hifSqTail q) 11 0 (fld v 11 0) with
         hif := { s.hif with sqSince := if s.sqWaits q then s.hif.sqSince else SMap.set (fun _ => 0) s.hif.sqSince q s.now }, resp := .ok 0 })) ∧
     (s.regGate ini (Reg.hifSqCfg q) true v = .ok → s.flag (Reg.hifSqCfg q) 31 = true →
       exec (.hifQueueCfgWrite ini false q v) s = .next { s.setB (Reg.hifSqCfg q) 31 (v.getLsbD 31) with resp := .ok 0 }) ∧
     (s.regGate ini (Reg.hifSqCfg q) true v = .ok → s.flag (Reg.hifSqCfg q) 31 = false → v.getLsbD 31 = true →
       ∃ t, exec (.hifQueueCfgWrite ini false q v) s = .next t ∧ t.resp = .ok 0 ∧
         (1 ≤ fld v 12 0 ∧ fld v 12 0 ≤ 4096 ∧ s.flag (Reg.hifCqCfg (fld v 21 16)) 31 = true →
           t.flag (Reg.hifSqCfg q) 31 = true ∧ t.getF (Reg.hifSqSts q) 11 0 = 0 ∧ t.rd (Reg.hifSqTail q) = 0) ∧
         (fld v 12 0 = 0 ∨ 4096 < fld v 12 0 ∨ s.flag (Reg.hifCqCfg (fld v 21 16)) 31 = false →
           t.flag (Reg.hifSqCfg q) 31 = false ∧ t.flag (Reg.hifSqSts q) 28 = true)) ∧
     (s.regGate ini (Reg.hifCqCfg q) true v = .ok → s.flag (Reg.hifCqCfg q) 31 = true → v.getLsbD 31 = false →
       exec (.hifQueueCfgWrite ini true q v) s = .next { (if s.cqNamed q then s.setB (Reg.hifCqSts q) 28 true
         else s.setB (Reg.hifCqCfg q) 31 false) with resp := .ok 0 }) ∧
     (s.regGate ini (Reg.hifCqCfg q) true v = .ok → s.flag (Reg.hifCqCfg q) 31 = false → v.getLsbD 31 = true →
       ∃ t, exec (.hifQueueCfgWrite ini true q v) s = .next t ∧
         (fld v 12 0 < 2 ∨ 4096 < fld v 12 0 → t.flag (Reg.hifCqCfg q) 31 = false ∧ t.flag (Reg.hifCqSts q) 28 = true) ∧
         (2 ≤ fld v 12 0 → fld v 12 0 ≤ 4096 → t.getF (Reg.hifCqCfg q) 12 0 = fld v 12 0 ∧ t.flag (Reg.hifCqCfg q) 31 = true ∧
           t.rd (Reg.hifCqHead q) = 0)) ∧
     (s.regGate ini (Reg.hifCqHead q) true v = .ok →
       (s.getF (Reg.hifCqCfg q) 12 0 ≤ fld v 11 0 →
         exec (.hifCqHeadWrite ini q v) s = .next { s.setB (Reg.hifCqSts q) 30 true with resp := .ok 0 }) ∧
       (fld v 11 0 < s.getF (Reg.hifCqCfg q) 12 0 →
         ∃ t, exec (.hifCqHeadWrite ini q v) s = .next t ∧ t.getF (Reg.hifCqHead q) 11 0 = fld v 11 0 ∧
           (s.hif.holding = false → ∀ e ∈ t.hif.held, t.cqReady e.cq = false))) ∧
     (s.regGate ini Reg.hifEvtCfg true v = .ok → ∃ t, exec (.hifEvtCfgWrite ini v) s = .next t ∧
       t.flag Reg.hifEvtCfg 31 = (v.getLsbD 31 && s.flag (Reg.hifCqCfg (fld v 5 0)) 31) ∧ t.getF Reg.hifEvtCfg 5 0 = fld v 5 0 ∧
       (t.flag Reg.hifEvtCfg 31 = true → t.hif.held.length < holdingCap →
         ∀ e, e < 32 → t.flag Reg.hifEvtMask e = true → t.flag Reg.hifEvtPend e = false)) ∧
     (s.mayFetch q = false → exec (.commandFetch q c) s = .next s) ∧
     (∀ k, k < 64 → s.inTurn q = true → s.sqWaits k = true → SMap.get (fun _ => 0) s.hif.sqSince k + 50000 ≤ s.now →
       (q.val + 63 - s.hif.turn % 64) % 64 ≤ (k + 63 - s.hif.turn % 64) % 64) ∧
     (s.mayFetch q = true →
       (∀ op, s.fetches q op c u → exec (.commandFetch q c) s =
         .next ((u.runCommand c).1.complCmd q (leAt c.entry 2 2) (u.runCommand c).2.1 (u.runCommand c).2.2)) ∧
       (s.getF Reg.hifVer 31 24 = 0 → byteAt c.entry 0 ≠ 1 → byteAt c.entry 0 ≠ 2 →
         exec (.commandFetch q c) s = .next (u.complCmd q (leAt c.entry 2 2) 2 none)) ∧
       (s.getF Reg.hifVer 31 24 ≠ 0 → opcodeVersion (byteAt c.entry 0) = none →
         exec (.commandFetch q c) s = .next (u.complCmd q (leAt c.entry 2 2) 1 none)))) ∧
  (∀ (ini : Ini) (n : Fin 120) (v : Word) (s : State),
     ((s.hif.vecAt n).count = 0 ∨ s.hif.holding = true ∨ s.now < (s.hif.vecAt n).since + 1000 * s.getF (Reg.hifMod n) 31 16 →
       exec (.msixTimerExpiry n) s = .next s) ∧
     ((s.hif.vecAt n).count ≠ 0 → s.hif.holding = false → (s.hif.vecAt n).since + 1000 * s.getF (Reg.hifMod n) 31 16 ≤ s.now →
       ∃ t, exec (.msixTimerExpiry n) s = .next t ∧ t.hif.vecAt n = ⟨0, 0, (s.hif.vecAt n).pba || s.hif.masked n⟩ ∧
         (∀ m, m ≠ n.val → t.hif.vecAt m = s.hif.vecAt m) ∧
         t.outbox = if s.hif.masked n then s.outbox else .msix false n :: s.outbox) ∧
     (s.regGate ini Reg.hifIdleHint true v = .ok → ∃ t, exec (.hifIdleHintWrite ini v) s = .next t ∧ t.resp = .ok 0 ∧
       t.flag Reg.hifIdleHint 0 = v.getLsbD 0 ∧
       (v.getLsbD 0 = false ∨ s.hif.holding = true → t.hif = s.hif ∧ t.outbox = s.outbox) ∧
       (v.getLsbD 0 = true → s.hif.holding = false → (t.hif.vecAt n).count = 0 ∧
         (s.hif.masked n = false → (s.hif.vecAt n).count ≠ 0 → .msix false n ∈ t.outbox))))

/-- Power states and resets (R519, R520): what each holds, what a return sends, what a reset of a function clears. -/
def Obligations.PowerStatesHoldAndResets : Prop :=
  ∀ (s : State) (en clr : Bool),
    exec .pmeTurnOff s = .next { s with hif := { s.hif with turnedOff := true, l2 := true }, outbox := .pmeToAck :: s.outbox } ∧
    exec (.d3hotEntry true en clr) s = .next { s with hif := { s.hif with d3Pf1 := true } } ∧
    exec (.d3hotEntry false en clr) s = .next { s with
      hif := { s.hif with d3Pf0 := true, pmeEn := en, pmeStatus := s.hif.pmeStatus && !clr } } ∧
    (∃ t, exec (.d0Return false en clr) s = .next t ∧ t.hif.holding = false ∧ (∀ e ∈ t.hif.held, t.cqReady e.cq = false) ∧
      (∀ v, v < 120 → (t.hif.vecAt v).count = 0) ∧ t.hif.pmeEn = en) ∧
    (∃ t, exec (.d0Return true en clr) s = .next t ∧ t.hif.d3Pf1 = false ∧ t.hif.d3Pf0 = s.hif.d3Pf0) ∧
    exec (.pcieLinkLoss false) s = .next { s with hif := { s.hif with linkDown := true } } ∧
    (∃ t, exec (.pcieLinkLoss true) s = .next t ∧ t.hif.linkDown = false ∧ t.hif.d3Pf0 = s.hif.d3Pf0) ∧
    (∃ t, exec .pcieFlrPf0 s = .next t ∧ t.getF Reg.hifVer 31 24 = 0 ∧ t.rd Reg.hifEvtPend = s.rd Reg.hifEvtPend ∧
      (∀ q, q < 64 → t.flag (Reg.hifSqCfg q) 31 = false ∧ t.flag (Reg.hifCqCfg q) 31 = false) ∧
      (∀ e ∈ t.hif.held, e.isEvent = true) ∧ t.ss = s.ss ∧ t.hbm = s.hbm ∧ t.eng = s.eng) ∧
    (∃ t, exec .pcieFlrPf1 s = .next t ∧ t.hif.d3Pf1 = false ∧ (∀ o ∈ t.clasp.owed, o.1 ≠ 33) ∧ t.ss = s.ss ∧ t.hbm = s.hbm ∧ t.eng = s.eng) ∧
    (∃ t, exec .pcieConventionalReset s = .next t ∧ t.getF Reg.hifVer 31 24 = 0 ∧ t.hif.d3Pf0 = false ∧ t.hif.d3Pf1 = false ∧
      t.hif.linkDown = false ∧ t.ss = s.ss ∧ t.hbm = s.hbm ∧ t.eng = s.eng)

/-- The Spine's commands (R522-R528): each one fetched has its effect and is completed with its command id, its status and its result. -/
def Obligations.HostCommandsTakeEffect : Prop :=
  ∀ (q : Fin 64) (c : HostCmd) (s u : State) (done : State → Nat → Option Nat → Host.Outcome State Fault Refusal) (e : List Byte),
    e = c.entry → (done = fun w st r => .next (w.complCmd q (leAt e 2 2) st r)) →
    (s.fetches q 0x01 c u → exec (.identify q c) s =
      if c.pcieFail then done u 6 none else done (u.emit (.hostWrite (leAt e 8 8) u.identityRecord)) 0 none) ∧
    (s.fetches q 0x02 c u → exec (.negotiate q c) s = if byteAt e 8 % 4 = 0 then done u 2 none
      else done (u.setF Reg.hifVer 31 24 (byteAt e 8 % 4 / 2 + 1)) 0 (some (byteAt e 8 % 4 / 2 + 1))) ∧
    (s.fetches q 0x10 c u →
      (550 ≤ leAt e 8 2 ∧ leAt e 10 2 ≤ 900 ∧ leAt e 8 2 ≤ leAt e 10 2 ∧ leAt e 8 2 % 5 = 0 ∧ leAt e 10 2 % 5 = 0 ∧
          byteAt e 12 < byteAt e 13 ∧ byteAt e 13 ≤ 100 →
        ∃ w, exec (.avsLimits q c) s = done w 0 none ∧ w.getF Reg.avsCfg 15 0 = leAt e 8 2 ∧ w.getF Reg.avsCfg 31 16 = leAt e 10 2 ∧
          w.getF Reg.avsThr 7 0 = byteAt e 12 ∧ w.getF Reg.avsThr 15 8 = byteAt e 13 ∧ w.flag Reg.avsSts 31 = false) ∧
      (leAt e 8 2 < 550 ∨ 900 < leAt e 10 2 ∨ leAt e 10 2 < leAt e 8 2 ∨ leAt e 8 2 % 5 ≠ 0 ∨ leAt e 10 2 % 5 ≠ 0 ∨
          byteAt e 13 ≤ byteAt e 12 ∨ 100 < byteAt e 13 → exec (.avsLimits q c) s = done u 3 none)) ∧
    (s.fetches q 0x11 c u → ∃ w, exec (.thermLimits q c) s = done w 0 none ∧ w.getF Reg.snsTherm 15 0 = leAt e 8 2 ∧
      w.getF Reg.snsTherm 31 16 = leAt e 10 2) ∧
    (s.fetches q 0x12 c u → if c.pcieFail then exec (.sensorDump q c) s = done u 6 none
      else ∃ bs : List Byte, exec (.sensorDump q c) s = done (u.emit (.hostWrite (leAt e 8 8) bs)) 0 none ∧ bs.length = 0x814 ∧
        ∀ i, i < 0x205 → (bs.drop (4 * i)).take 4 = leBytes 4 (u.rd (0x1400000 + 4 * i)).toNat) ∧
    (s.fetches q 0x20 c u → leAt e 14 4 = 0 → exec (.programStart q c) s = done u 0 none) ∧
    (s.fetches q 0x20 c u → leAt e 14 4 ≠ 0 → u.sys.programStarted = true ∨ u.anyEngine = true → exec (.programStart q c) s = done u 4 none) ∧
    (∀ r bs, s.fetches q 0x20 c u → u.sys.programStarted = false → u.anyEngine = false → regionOf (leAt e 8 6) (leAt e 14 4) = .ss →
      u.ownerCode (leAt e 8 6 - ssBase) (leAt e 14 4) = true → leAt e 18 2 < 512 → 2048 ≤ leAt e 14 4 → byteAt e 20 % 4 ≠ 0 →
      u.ssRead ⟨1, 0⟩ (leAt e 8 6) (leAt e 8 6 - ssBase) 2048 = (r, .ok, bs) →
      ∃ w, exec (.programStart q c) s = done w 0 (some (byteAt e 20 % 4 / 2 + 1)) ∧ w.sys.programStarted = true ∧
        w.getF Reg.hifVer 15 8 = byteAt e 20 % 4 / 2 + 1) ∧
    (s.fetches q 0x21 c u →
      (∀ n : Fin 32, byteAt e 8 = 0 → byteAt e 9 = n.val → byteAt e 12 % 2 = 0 →
        exec (.route q c) s = done (u.mbxCfgWrite .spine n (BitVec.ofNat 32 (leAt e 12 4))) 0 none) ∧
      (∀ n : Fin 64, byteAt e 8 = 1 → byteAt e 9 = n.val →
        exec (.route q c) s = done (u.dbiRouteWrite .spine n (BitVec.ofNat 32 (leAt e 12 4))) 0 none) ∧
      (2 ≤ byteAt e 8 ∨ byteAt e 8 = 0 ∧ 32 ≤ byteAt e 9 ∨ byteAt e 8 = 1 ∧ 64 ≤ byteAt e 9 → exec (.route q c) s = done u 3 none)) ∧
    (s.fetches q 0x30 c u → leAt e 20 4 ≠ 0 →
      (Config.flashSize < leAt e 16 4 + leAt e 20 4 → exec (.flashRead q c) s = done u 3 none) ∧
      (leAt e 16 4 + leAt e 20 4 ≤ Config.flashSize → c.flashFail = true → exec (.flashRead q c) s = done u 7 none) ∧
      (leAt e 16 4 + leAt e 20 4 ≤ Config.flashSize → c.flashFail = false → c.pcieFail = false → exec (.flashRead q c) s =
        done (u.emit (.hostWrite (leAt e 8 8) ((List.range (leAt e 20 4)).map (fun i => u.flashAt (leAt e 16 4 + i))))) 0 none)) ∧
    (s.fetches q 0x31 c u → leAt e 20 4 ≠ 0 →
      (Config.flashSize < leAt e 16 4 + leAt e 20 4 → exec (.flashWrite q c) s = done u 3 none) ∧
      (leAt e 16 4 + leAt e 20 4 ≤ Config.flashSize → c.flashFail = false → c.pcieFail = false →
        ∃ w, exec (.flashWrite q c) s = done w 0 none ∧
          (∀ i, i < leAt e 20 4 → w.flashAt (leAt e 16 4 + i) = c.hostData.getD i 0) ∧
          (∀ a, leAt e 16 4 / 4096 ≤ a / 4096 → a < leAt e 16 4 ∨ leAt e 16 4 + leAt e 20 4 ≤ a →
            a / 4096 ≤ (leAt e 16 4 + leAt e 20 4 - 1) / 4096 → w.flashAt a = 0xFF) ∧
          (∀ a, a / 4096 < leAt e 16 4 / 4096 ∨ (leAt e 16 4 + leAt e 20 4 - 1) / 4096 < a / 4096 → w.flashAt a = u.flashAt a))) ∧
    (s.fetches q 0x40 c u → exec (.trunkSet q c) s =
      if byteAt e 8 ≠ 1 ∧ byteAt e 8 ≠ 2 then done u 3 none
      else if u.trunkFree = false then done u 4 none else done (u.setF Reg.hifVer 23 16 (byteAt e 8)) 0 none) ∧
    (s.fetches q 0x50 c u → ∃ w r, exec (.gpio q c) s = done w 0 (some r) ∧ w.sys.gpioDir.toNat = leAt e 8 4 ∧
      ∀ b, b < 32 →
        w.sys.gpioOut.getLsbD b = (if (leAt e 12 4).testBit b then (leAt e 16 4).testBit b else u.sys.gpioOut.getLsbD b) ∧
        r.testBit b = if (leAt e 8 4).testBit b then w.sys.gpioOut.getLsbD b else c.pins.getLsbD b) ∧
    (s.fetches q 0x51 c u →
      (32 < byteAt e 9 ∨ 32 < byteAt e 10 → exec (.smbus q c) s = done u 3 none) ∧
      (byteAt e 9 ≤ 32 → byteAt e 10 ≤ 32 → byteAt e 9 ≠ 0 ∨ byteAt e 10 ≠ 0 →
        (∀ i, c.smbusNack = some i →
          exec (.smbus q c) s = done (u.emit (.smbus (byteAt e 8) ((e.drop 16).take (byteAt e 9)))) 0 (some (i + 1))) ∧
        (c.smbusNack = none → byteAt e 10 = 0 →
          exec (.smbus q c) s = done (u.emit (.smbus (byteAt e 8) ((e.drop 16).take (byteAt e 9)))) 0 (some 0)) ∧
        (c.smbusNack = none → byteAt e 10 ≠ 0 → c.pcieFail = false → exec (.smbus q c) s =
          done ((u.emit (.smbus (byteAt e 8) ((e.drop 16).take (byteAt e 9)))).emit
            (.hostWrite (leAt e 48 8) (padTo (byteAt e 10) (c.smbusData.take (byteAt e 10))))) 0 (some 0))))

/-! ### Start-up, the twin and recovery (chapter 16) -/

/-- Reset and boot (R495, R530-R541, R573): a rail, SYS_RESET_N or TEST_EN brings device reset, which keeps fuses and flash; its end reads
the straps and runs stage 0; the Clasp image, the directory, the Spine image and the Spine's tick move SYS_BOOT.step; a stopped tick
restarts the Spine. -/
def Obligations.BootSequence : Prop :=
  ∀ (r : Fin 9) (s : State),
    (∃ t, exec (.railInvalid r) s = .next t ∧ exec .sysResetAssert s = .next t ∧ exec .testEnHigh s = .next t ∧
      t.sys.inReset = true ∧ t.eng = [] ∧ t.ss = [] ∧ t.sys.flash = s.sys.flash ∧ t.clasp.gen = s.clasp.gen ∧
      t.clasp.fusedClaimed = s.clasp.fusedClaimed ∧ t.clasp.owner = none ∧ t.claimed = false ∧ t.twinIn = s.twinIn) ∧
    (∀ st : Straps, s.sys.inReset = false ∨ st.testEn = true → exec (.deviceResetEnd st) s = .next s) ∧
    (∀ st : Straps, s.sys.inReset = true → st.testEn = false → ∃ t, exec (.deviceResetEnd st) s = .next t ∧ t.sys.inReset = false ∧
      t.hostBoot = st.bootSrc ∧ t.svcMode = st.svcMode ∧ t.twinPrio = st.twinPrio ∧
      t.getF Reg.sysBoot 31 28 = (if st.bootSrc then 2 else 1) ∧ ∀ p, p < 64 → t.flag (Reg.hbmPcSts p) 31 = true) ∧
    (∃ t, exec .claspImageCheck s = .next t ∧
      (s.clasp.alive = false ∨ s.getF Reg.sysBoot 31 28 ≠ 1 → t = s) ∧
      (∀ i, s.clasp.alive = true → s.getF Reg.sysBoot 31 28 = 1 → s.hostBoot = true → s.claspImage true s.sys.bootDir = some i →
        (imageErr (some i) s.clasp.minClasp = 0 → t.getF Reg.sysBoot 31 28 = 3 ∧ t.getF Reg.clsVer 15 0 = i.version % 2 ^ 16 ∧ t.getF Reg.clsSts 31 29 = 1) ∧
        (imageErr (some i) s.clasp.minClasp ≠ 0 → s.sys.bootErr = 0 → t.getF Reg.sysBoot 31 28 = 0xF ∧
          t.getF Reg.clsSts 23 16 = imageErr (some i) s.clasp.minClasp))) ∧
    (∃ t, exec .spineRelease s = .next t ∧
      (s.clasp.alive = false ∨ s.getF Reg.sysBoot 31 28 ≠ 3 → t = s) ∧
      (∀ i, s.clasp.alive = true → s.getF Reg.sysBoot 31 28 = 3 → s.spineImage s.hostBoot s.sys.bootDir = some i →
        imageErr (some i) s.clasp.minSpine = 0 → t.getF Reg.sysBoot 31 28 = 4 ∧ t.getF Reg.clsSts 31 29 = 2 ∧ t.clasp.spineHash = i.hash)) ∧
    (∃ t, exec .spineReady s = .next t ∧ (s.getF Reg.sysBoot 31 28 ≠ 4 → t = s) ∧
      (s.getF Reg.sysBoot 31 28 = 4 → s.hif.running = none → t.sys.spineUp = true ∧ t.getF Reg.sysBoot 31 28 = 5 ∧ t.flag Reg.sysMap 0 = true)) ∧
    (∃ t, exec .bootDirPoll s = .next t ∧
      (s.getF Reg.sysBoot 31 28 ≠ 2 ∨ s.now < s.sys.polledAt + msNs → t = s) ∧
      (s.clasp.alive = true → s.getF Reg.sysBoot 31 28 = 2 → s.sys.polledAt + msNs ≤ s.now → dirValid true (s.bootBytes true 0 64) = false →
        t = { s with sys := { s.sys with polledAt := s.now } }) ∧
      (s.clasp.alive = true → s.getF Reg.sysBoot 31 28 = 2 → s.sys.polledAt + msNs ≤ s.now → dirValid true (s.bootBytes true 0 64) = true →
        t.getF Reg.sysBoot 31 28 = 1 ∧ t.sys.bootDir = s.bootBytes true 0 64)) ∧
    (∃ t, exec .watchdogExpiry s = .next t ∧
      (s.sys.spineUp = true ∨ s.getF Reg.sysBoot 31 28 ≠ 5 ∨ s.now < s.sys.spineTick + 50 * msNs → t = s) ∧
      (s.sys.spineUp = false → s.getF Reg.sysBoot 31 28 = 5 → s.sys.spineTick + 50 * msNs ≤ s.now →
        t.getF Reg.sysBoot 31 28 = (if s.spineIntact then 4 else 0xF) ∧
        t.getF Reg.sysBoot 23 16 = min 255 (s.getF Reg.sysBoot 23 16 + 1))) ∧
    (∀ cmd, ∃ t, exec (.spineStop cmd) s = .next t ∧ t.sys.spineUp = false ∧ t.eng = s.eng ∧ t.ss = s.ss ∧ t.outbox = s.outbox) ∧
    exec .claspStop s = .next { s with clasp := { s.clasp with alive := false } }

/-- The claim (R546-R550, R557): made when the input has been released long enough and nothing forbids it, dropped with its cause and for
good at a release, a missing keepalive, a dead stack or a supply fault, tried again after a collision; the input only gates the
transmitters. -/
def Obligations.TwinClaim : Prop :=
  ∀ (ini : Ini) (v : Word) (p : Fin 64) (s : State),
    (s.mayClaim = false → exec .claim s = .next s) ∧
    (s.mayClaim = true → ∃ t, exec .claim s = .next t ∧ t.claimed = true ∧ .twinOut true ∈ t.outbox ∧ t.sys.claimedAt = s.now ∧
      t.sys.keepAt = s.now) ∧
    (s.mayClaim = true ↔ s.flag Reg.sysTwinCfg 31 = true ∧ s.claimLost = false ∧
      (s.flag Reg.sysTwinCfg 30 = true ∨ s.flag Reg.sysTwinCfg 29 = true) ∧ s.twinIn = false ∧ s.claimed = false ∧ s.sys.backoff = false ∧
      s.sys.inReleasedAt + (if s.twinPrio then 10000 else 110000) ≤ s.now) ∧
    (∃ t, exec .twinInAssert s = .next t ∧ t.twinIn = true ∧
      (s.claimed = false ∨ s.twinIn = true → t.claimed = s.claimed ∧ t.getF Reg.sysTwinSts 15 0 = s.getF Reg.sysTwinSts 15 0) ∧
      (s.twinIn = false → s.claimed = true → s.sys.claimedAt + 5000 < s.now →
        t.claimed = true ∧ t.getF Reg.sysTwinSts 15 0 = s.getF Reg.sysTwinSts 15 0) ∧
      (s.twinIn = false → s.claimed = true → s.now ≤ s.sys.claimedAt + 5000 →
        t.getF Reg.sysTwinSts 15 0 = min 65535 (s.getF Reg.sysTwinSts 15 0 + 1) ∧ t.claimLost = s.claimLost ∧
        (s.twinPrio = true → Config.partnerPrio = false → t.claimed = true) ∧
        (s.twinPrio = false → t.claimed = false ∧ t.getF Reg.sysTwinSts 28 26 = 5))) ∧
    (∃ t, exec .twinInRelease s = .next t ∧ t.twinIn = false ∧ (s.twinIn = true → t.sys.inReleasedAt = s.now) ∧ t.claimed = s.claimed) ∧
    (∃ t, exec .collisionBackoffExpiry s = .next t ∧
      t.sys.backoff = (s.sys.backoff && decide (s.now < s.sys.backoffUntil)) ∧ { t with sys := s.sys } = s) ∧
    (s.regGate ini Reg.sysTwinKeep true v = .ok →
      exec (.sysTwinKeep ini v) s = .next { s with sys := { s.sys with keepAt := s.now, keepSet := true }, resp := .ok 0 }) ∧
    (s.regGate ini Reg.sysTwinCfg true (v ||| 0x10000000) = .ok → ∃ t, exec (.twinRelease ini v) s = .next t ∧ t.resp = .ok 0 ∧
      t.claimed = false ∧ t.claimLost = true ∧ t.getF Reg.sysTwinSts 28 26 = 2 ∧ t.flag Reg.sysTwinCfg 28 = false ∧
      (s.svcMode = true → t.flag Reg.sysTwinCfg 31 = false) ∧
      (fld v 15 8 = 0 → t.getF Reg.sysTwinCfg 15 8 = s.getF Reg.sysTwinCfg 15 8)) ∧
    (∃ t, exec .keepaliveExpiry s = .next t ∧
      (s.sys.keepSet = false ∨ s.now < s.sys.keepAt + s.getF Reg.sysTwinCfg 15 8 * 1000000 → t = s) ∧
      (s.sys.keepSet = true → s.sys.keepAt + s.getF Reg.sysTwinCfg 15 8 * 1000000 ≤ s.now → s.flag Reg.sysTwinCfg 31 = true → s.claimed = true →
        t.claimed = false ∧ t.claimLost = true ∧ t.getF Reg.sysTwinSts 28 26 = 1)) ∧
    (∃ t, exec (.hbmStackFail p) s = .next t ∧ (s.flag (Reg.hbmPcSts p) 30 = true → t = s) ∧
      (s.flag (Reg.hbmPcSts p) 30 = false → t.flag (Reg.hbmPcSts p) 31 = false ∧ t.claimed = false ∧ t.claimLost = true ∧
        t.getF Reg.sysTwinSts 28 26 = 3)) ∧
    (∃ t, exec .coreSupplyFault s = .next t ∧ t.claimed = false ∧ t.claimLost = true ∧ t.getF Reg.sysTwinSts 28 26 = 4)
end

