-- ==== Sys2Proof/Laws/Map.lean ====
section
/-! SUPPORT. The laws of the canonical sparse maps: read after write, writes elsewhere, the canonical form kept. -/

namespace Sys2Proof.Machine

@[simp] theorem SMap.find?_put_same {α : Type} (m : SMap α) (k : Nat) (v : α) :
    SMap.find? (SMap.put m k v) k = some v := by
  induction m with
  | nil => simp [SMap.put, SMap.find?]
  | cons p m ih =>
    obtain ⟨j, w⟩ := p
    by_cases h1 : k = j
    · simp [SMap.put, SMap.find?, h1]
    · by_cases h2 : k < j
      · simp [SMap.put, SMap.find?, h1, h2]
      · simp [SMap.put, SMap.find?, h1, h2, ih]

theorem SMap.find?_put_ne {α : Type} (m : SMap α) (k i : Nat) (v : α) (h : i ≠ k) :
    SMap.find? (SMap.put m k v) i = SMap.find? m i := by
  induction m with
  | nil => simp [SMap.put, SMap.find?, h]
  | cons p m ih =>
    obtain ⟨j, w⟩ := p
    by_cases h1 : k = j
    · subst h1; simp [SMap.put, SMap.find?, h]
    · by_cases h2 : k < j
      · simp [SMap.put, SMap.find?, h1, h2, h]
      · simp only [SMap.put, h1, h2, if_false, SMap.find?, ih]

@[simp] theorem SMap.find?_erase_same {α : Type} (m : SMap α) (k : Nat) :
    SMap.find? (SMap.erase m k) k = none := by
  induction m with
  | nil => rfl
  | cons p m ih =>
    obtain ⟨j, w⟩ := p
    by_cases h : j = k
    · simpa [SMap.erase, List.filter_cons, h] using ih
    · simpa [SMap.erase, List.filter_cons, h, SMap.find?, Ne.symm h] using ih

theorem SMap.find?_erase_ne {α : Type} (m : SMap α) (k i : Nat) (h : i ≠ k) :
    SMap.find? (SMap.erase m k) i = SMap.find? m i := by
  induction m with
  | nil => rfl
  | cons p m ih =>
    obtain ⟨j, w⟩ := p
    by_cases h1 : j = k
    · subst h1; simpa [SMap.erase, List.filter_cons, SMap.find?, h] using ih
    · by_cases h2 : i = j
      · simp [SMap.erase, List.filter_cons, h1, SMap.find?, h2]
      · simpa [SMap.erase, List.filter_cons, h1, SMap.find?, h2] using ih

@[simp] theorem SMap.get_set_same {α : Type} [DecidableEq α] (d : Nat → α) (m : SMap α) (k : Nat) (v : α) :
    SMap.get d (SMap.set d m k v) k = v := by
  unfold SMap.set
  split
  · next h => simp [SMap.get, h]
  · simp [SMap.get]

theorem SMap.get_set_ne {α : Type} [DecidableEq α] (d : Nat → α) (m : SMap α) (k i : Nat) (v : α)
    (h : i ≠ k) : SMap.get d (SMap.set d m k v) i = SMap.get d m i := by
  unfold SMap.set
  split
  · simp [SMap.get, SMap.find?_erase_ne m k i h]
  · simp [SMap.get, SMap.find?_put_ne m k i v h]

theorem SMap.get_set {α : Type} [DecidableEq α] (d : Nat → α) (m : SMap α) (k i : Nat) (v : α) :
    SMap.get d (SMap.set d m k v) i = if i = k then v else SMap.get d m i := by
  by_cases h : i = k
  · subst h; simp
  · simp [h, SMap.get_set_ne d m k i v h]

@[simp] theorem SMap.get_nil {α : Type} (d : Nat → α) (k : Nat) : SMap.get d [] k = d k := rfl

/-- Strictly rising keys, as a pairwise relation. -/
theorem SMap.sorted_iff {α : Type} (m : SMap α) :
    SMap.sorted m = true ↔ m.Pairwise (fun p q => p.1 < q.1) := by
  induction m with
  | nil => simp [SMap.sorted]
  | cons p m ih =>
    obtain ⟨j, v⟩ := p
    cases m with
    | nil => simp [SMap.sorted]
    | cons q m =>
      obtain ⟨k, w⟩ := q
      simp only [SMap.sorted, Bool.and_eq_true, decide_eq_true_eq, ih, List.pairwise_cons, List.mem_cons,
        forall_eq_or_imp]
      constructor
      · rintro ⟨h, h1, h2⟩
        exact ⟨⟨h, fun a ha => Nat.lt_trans h (h1 a ha)⟩, h1, h2⟩
      · rintro ⟨⟨h, _⟩, h1, h2⟩
        exact ⟨h, h1, h2⟩

theorem SMap.mem_put {α : Type} (m : SMap α) (k : Nat) (v : α) (p : Nat × α) (h : p ∈ SMap.put m k v) :
    p = (k, v) ∨ p ∈ m := by
  induction m with
  | nil => simpa [SMap.put] using h
  | cons q m ih =>
    obtain ⟨j, w⟩ := q
    by_cases h1 : k = j
    · simp [SMap.put, h1] at h; simp [h1]; tauto
    · by_cases h2 : k < j
      · simp [SMap.put, h1, h2] at h; simp; tauto
      · simp [SMap.put, h1, h2] at h
        rcases h with h | h
        · simp [h]
        · have := ih h; simp; tauto

theorem SMap.sorted_put {α : Type} (m : SMap α) (k : Nat) (v : α) (hs : SMap.sorted m = true) :
    SMap.sorted (SMap.put m k v) = true := by
  rw [SMap.sorted_iff] at *
  induction m with
  | nil => simp [SMap.put]
  | cons q m ih =>
    obtain ⟨j, w⟩ := q
    rw [List.pairwise_cons] at hs
    by_cases h1 : k = j
    · subst h1; simpa [SMap.put] using hs
    · by_cases h2 : k < j
      · simp only [SMap.put, h1, h2, if_true, if_false, List.pairwise_cons]
        refine ⟨?_, hs⟩
        intro a ha
        rcases List.mem_cons.1 ha with rfl | ha
        · exact h2
        · exact Nat.lt_trans h2 (hs.1 a ha)
      · simp only [SMap.put, h1, h2, if_false, List.pairwise_cons]
        refine ⟨?_, ih hs.2⟩
        intro a ha
        rcases SMap.mem_put m k v a ha with rfl | ha
        · simp; omega
        · exact hs.1 a ha

/-- Every write keeps the canonical form. -/
theorem SMap.wf_set {α : Type} [DecidableEq α] (d : Nat → α) (m : SMap α) (k : Nat) (v : α)
    (h : SMap.wf d m = true) : SMap.wf d (SMap.set d m k v) = true := by
  simp only [SMap.wf, Bool.and_eq_true, List.all_eq_true, decide_eq_true_eq] at *
  obtain ⟨hs, ha⟩ := h
  unfold SMap.set
  split
  · refine ⟨?_, fun p hp => ha p (List.mem_filter.1 hp).1⟩
    rw [SMap.sorted_iff] at *
    exact hs.filter _
  · next hv =>
    refine ⟨SMap.sorted_put m k v hs, fun p hp => ?_⟩
    rcases SMap.mem_put m k v p hp with rfl | hp
    · exact hv
    · exact ha p hp

/-- Dropping keys keeps the canonical form. -/
theorem SMap.wf_dropKeys {α : Type} [DecidableEq α] (d : Nat → α) (p : Nat → Bool) (m : SMap α)
    (h : SMap.wf d m = true) : SMap.wf d (SMap.dropKeys p m) = true := by
  simp only [SMap.wf, Bool.and_eq_true, List.all_eq_true, decide_eq_true_eq] at *
  obtain ⟨hs, ha⟩ := h
  refine ⟨?_, fun q hq => ha q (List.mem_filter.1 hq).1⟩
  rw [SMap.sorted_iff] at *
  exact hs.filter _

/-- Writing a run of values keeps the canonical form. -/
theorem SMap.wf_setList {α : Type} [DecidableEq α] (d : Nat → α) (vs : List α) (m : SMap α) (k : Nat)
    (h : SMap.wf d m = true) : SMap.wf d (SMap.setList d m k vs) = true := by
  induction vs generalizing m k with
  | nil => exact h
  | cons v vs ih => exact ih _ _ (SMap.wf_set d m k v h)

/-- A run of values changes no key outside it. -/
theorem SMap.get_setList_ne {α : Type} [DecidableEq α] (d : Nat → α) (vs : List α) (m : SMap α) (k i : Nat)
    (h : i < k ∨ k + vs.length ≤ i) : SMap.get d (SMap.setList d m k vs) i = SMap.get d m i := by
  induction vs generalizing m k with
  | nil => rfl
  | cons v vs ih =>
    simp only [List.length_cons] at h
    simp only [SMap.setList]
    rw [ih _ _ (by omega), SMap.get_set_ne _ _ _ _ _ (by omega)]

end Sys2Proof.Machine
end

