-- ==== Sys2Proof/Laws/Engine.lean ====
section
/-! SUPPORT. What the engine operations can do: an engine's record read back, contexts, and one instruction executed. -/

namespace Sys2Proof.Machine

@[simp] theorem State.engAt_setEng (s : State) (g e : Nat) (x : Eng) : (s.setEng g e x).engAt g e = x := by
  simp [State.engAt, State.setEng]

theorem State.engAt_setEng_ne (s : State) (g e g' e' : Nat) (x : Eng) (h : 16 * g' + e' ≠ 16 * g + e) :
    (s.setEng g e x).engAt g' e' = s.engAt g' e' := by
  simp [State.engAt, State.setEng, SMap.get_set_ne _ _ _ _ _ h]

/-- Different engines have different places. -/
theorem EngId.place_ne (p q : EngId) (h : p ≠ q) : 16 * p.g.val + p.e.val ≠ 16 * q.g.val + q.e.val := by
  obtain ⟨⟨pg, _⟩, ⟨pe, _⟩⟩ := p
  obtain ⟨⟨qg, _⟩, ⟨qe, _⟩⟩ := q
  simp only [ne_eq, EngId.mk.injEq, Fin.mk.injEq] at h ⊢
  omega

@[simp] theorem State.engOf_putEng (s : State) (q : EngId) (x : Eng) : (s.putEng q x).engOf q = x := by
  simp [State.engOf, State.putEng]

theorem State.engOf_putEng_ne (s : State) (p q : EngId) (x : Eng) (h : p ≠ q) :
    (s.putEng q x).engOf p = s.engOf p := by
  simp [State.engOf, State.putEng, State.engAt_setEng_ne _ _ _ _ _ _ (EngId.place_ne p q h)]

@[simp] theorem State.putEng_rest (s : State) (q : EngId) (x : Eng) : { s.putEng q x with eng := s.eng } = s := rfl

/-- Replacing an engine's record is a step of that engine alone. -/
theorem State.engStep_putEng (s : State) (q : EngId) (x : Eng) : s.engStep (s.putEng q x) q x :=
  ⟨s.engOf_putEng q x, fun p h => s.engOf_putEng_ne p q x h, rfl⟩

/-- A second change of the same engine leaves a step of that engine alone. -/
theorem State.engStep_again (s t : State) (q : EngId) (x y : Eng) (h : s.engStep t q x) :
    s.engStep (t.putEng q y) q y := by
  obtain ⟨_, h2, h3⟩ := h
  refine ⟨t.engOf_putEng q y, fun p hp => ?_, ?_⟩
  · rw [State.engOf_putEng_ne _ _ _ _ hp, h2 p hp]
  · rw [← h3]; rfl

theorem State.putCtx_eq (s : State) (q : EngId) (c : Ctx) :
    s.putCtx q c = s.putEng q ((s.engOf q).setCtx (s.urgOf q) c) := rfl

@[simp] theorem Eng.ctx_setCtx (x : Eng) (u : Bool) (c : Ctx) : (x.setCtx u c).ctx u = c := by
  cases u <;> rfl

@[simp] theorem Eng.setCtx_setCtx (x : Eng) (u : Bool) (c d : Ctx) : (x.setCtx u c).setCtx u d = x.setCtx u d := by
  cases u <;> rfl

/-- Replacing the current context by one that is occupied keeps it the current one. -/
theorem Eng.cur_setCtx (x : Eng) (c : Ctx) (h : c.occ = (x.ctx x.cur).occ) : (x.setCtx x.cur c).cur = x.cur := by
  unfold Eng.cur Eng.setCtx Eng.ctx at *
  cases hu : x.urg.occ <;> simp_all [Eng.cur]

theorem State.urgOf_putCtx (s : State) (q : EngId) (c : Ctx) (h : c.occ = (s.ctxOf q).occ) :
    (s.putCtx q c).urgOf q = s.urgOf q := by
  have := Eng.cur_setCtx (s.engOf q) c h
  simpa [State.urgOf, State.putCtx_eq, State.engOf, State.putEng] using this

theorem State.ctxOf_putCtx (s : State) (q : EngId) (c : Ctx) (h : c.occ = (s.ctxOf q).occ) :
    (s.putCtx q c).ctxOf q = c := by
  have h1 := Eng.cur_setCtx (s.engOf q) c h
  have : (s.putCtx q c).ctxOf q = ((s.engOf q).setCtx (s.engOf q).cur c).ctx ((s.engOf q).setCtx (s.engOf q).cur c).cur := by
    simp only [State.ctxOf, State.putCtx, State.engAt_setEng, State.engOf]
  rw [this, h1]; simp

/-- Words held from an address on start with the first of them. -/
theorem State.holdsWords_take (s : State) (q : EngId) (a : Nat) (ws : List Word) (h : s.holdsWords q a ws = true) :
    s.holdsWords q a (ws.take 1) = true := by
  cases ws with
  | nil => exact h
  | cons w ws => simp_all [State.holdsWords]

/-- An instruction that stands at the pc and is executed reaches its body (R60-R63). -/
theorem State.instr_runs (s : State) (q : EngId) (i : Ins) (body : State → Ctx → Res) (pr : BitVec 3)
    (hx : s.executes q i.size pr i.pn) (hp : i.pr = pr.toNat) (hl : i.legal = true) (he : i.extOk = true)
    (hw : s.holdsWords q (s.ctxOf q).pc.toNat i.words = true) :
    s.instr q i body = s.finish q (s.ctxOf q).pc.toNat i.size (body s (s.ctxOf q)) := by
  obtain ⟨h1, h2, h3, h4, h5⟩ := hx
  have h6 : ¬ (8188 < (s.ctxOf q).pc.toNat + i.size) := by omega
  simp [State.instr, h1, h4, h5, Ins.holds, hp, hl, he, hw, s.holdsWords_take q _ _ hw, h2, h6]

/-- An instruction that is executed, legal and ends normally leaves its body's state with pc moved on. -/
theorem State.instr_next (s t : State) (q : EngId) (i : Ins) (body : State → Ctx → Res) (pr : BitVec 3)
    (hx : s.executes q i.size pr i.pn) (hp : i.pr = pr.toNat) (hl : i.legal = true) (he : i.extOk = true)
    (hw : s.holdsWords q (s.ctxOf q).pc.toNat i.words = true) (hb : body s (s.ctxOf q) = .next t) :
    s.instr q i body = t.stepPc q i.size := by
  simp [s.instr_runs q i body pr hx hp hl he hw, hb, State.finish]

/-- An instruction whose body only replaces its context by one that stays occupied is a step of that context alone. -/
theorem State.instr_ctx (s : State) (q : EngId) (i : Ins) (body : State → Ctx → Res) (pr : BitVec 3) (d : Ctx)
    (hx : s.executes q i.size pr i.pn) (hp : i.pr = pr.toNat) (hl : i.legal = true) (he : i.extOk = true)
    (hw : s.holdsWords q (s.ctxOf q).pc.toNat i.words = true) (hb : body s (s.ctxOf q) = .next (s.putCtx q d)) (ho : d.occ = (s.ctxOf q).occ) :
    s.ctxStep (s.instr q i body) q { d with pc := d.pc + BitVec.ofNat 13 i.size } := by
  rw [s.instr_next _ q i body pr hx hp hl he hw hb, State.stepPc, s.ctxOf_putCtx q d ho]
  rw [State.putCtx_eq, s.urgOf_putCtx q d ho]
  have := s.engStep_again (s.putCtx q d) q _ (((s.putCtx q d).engOf q).setCtx (s.urgOf q)
    { d with pc := d.pc + BitVec.ofNat 13 i.size }) (s.engStep_putEng q _)
  simpa [State.ctxStep, State.putCtx_eq] using this

end Sys2Proof.Machine
end

