-- ==== Sys2Proof/Laws/State.lean ====
section
/-! SUPPORT. What the plain updates of State leave alone, field by field, and the shared operations' footprints: which fields an event, a host
entry or a violation can change. -/

namespace Sys2Proof.Machine

/-! ### Reading back a register -/

@[simp] theorem State.rd_wr_same (s : State) (off : Nat) (v : Word) : (s.wr off v).rd off = v := by
  simp [State.rd, State.wr]

theorem State.rd_wr_ne (s : State) (off i : Nat) (v : Word) (h : i ≠ off) : (s.wr off v).rd i = s.rd i := by
  simp [State.rd, State.wr, SMap.get_set_ne _ _ _ _ _ h]

@[simp] theorem State.rdSh_wrSh_same (s : State) (off : Nat) (v : Word) : (s.wrSh off v).rdSh off = v := by
  simp [State.rdSh, State.wrSh]

theorem State.rdSh_wrSh_ne (s : State) (off i : Nat) (v : Word) (h : i ≠ off) : (s.wrSh off v).rdSh i = s.rdSh i := by
  simp [State.rdSh, State.wrSh, SMap.get_set_ne _ _ _ _ _ h]

@[simp] theorem State.rdSh_wr (s : State) (off i : Nat) (v : Word) : (s.wr off v).rdSh i = s.rdSh i := rfl
@[simp] theorem State.rd_wrSh (s : State) (off i : Nat) (v : Word) : (s.wrSh off v).rd i = s.rd i := rfl
@[simp] theorem State.rd_emit (s : State) (o : Output) (i : Nat) : (s.emit o).rd i = s.rd i := rfl
@[simp] theorem State.rd_bumpFree (s : State) (i : Nat) : s.bumpFree.rd i = s.rd i := rfl

/-- A field written in one register leaves every other register. -/
theorem State.rd_setF_ne (s : State) (off hi lo v i : Nat) (h : i ≠ off) : (s.setF off hi lo v).rd i = s.rd i :=
  s.rd_wr_ne off i _ h

/-- The same for one bit. -/
theorem State.rd_setB_ne (s : State) (off b i : Nat) (v : Bool) (h : i ≠ off) : (s.setB off b v).rd i = s.rd i :=
  s.rd_wr_ne off i _ h

/-! ### wr -/

@[simp] theorem State.wr_pending (s : State) (off : Nat) (v : Word) : (s.wr off v).pending = s.pending := rfl
@[simp] theorem State.wr_shd (s : State) (off : Nat) (v : Word) : (s.wr off v).shd = s.shd := rfl
@[simp] theorem State.wr_resp (s : State) (off : Nat) (v : Word) : (s.wr off v).resp = s.resp := rfl
@[simp] theorem State.wr_ss (s : State) (off : Nat) (v : Word) : (s.wr off v).ss = s.ss := rfl
@[simp] theorem State.wr_hbm (s : State) (off : Nat) (v : Word) : (s.wr off v).hbm = s.hbm := rfl
@[simp] theorem State.wr_hbmGen (s : State) (off : Nat) (v : Word) : (s.wr off v).hbmGen = s.hbmGen := rfl
@[simp] theorem State.wr_ssErr (s : State) (off : Nat) (v : Word) : (s.wr off v).ssErr = s.ssErr := rfl
@[simp] theorem State.wr_hbmErr (s : State) (off : Nat) (v : Word) : (s.wr off v).hbmErr = s.hbmErr := rfl
@[simp] theorem State.wr_hbmc (s : State) (off : Nat) (v : Word) : (s.wr off v).hbmc = s.hbmc := rfl
@[simp] theorem State.wr_armed (s : State) (off : Nat) (v : Word) : (s.wr off v).armed = s.armed := rfl
@[simp] theorem State.wr_cst (s : State) (off : Nat) (v : Word) : (s.wr off v).cst = s.cst := rfl
@[simp] theorem State.wr_eng (s : State) (off : Nat) (v : Word) : (s.wr off v).eng = s.eng := rfl
@[simp] theorem State.wr_gath (s : State) (off : Nat) (v : Word) : (s.wr off v).gath = s.gath := rfl
@[simp] theorem State.wr_queues (s : State) (off : Nat) (v : Word) : (s.wr off v).queues = s.queues := rfl
@[simp] theorem State.wr_mbxTouched (s : State) (off : Nat) (v : Word) : (s.wr off v).mbxTouched = s.mbxTouched := rfl
@[simp] theorem State.wr_sess (s : State) (off : Nat) (v : Word) : (s.wr off v).sess = s.sess := rfl
@[simp] theorem State.wr_out (s : State) (off : Nat) (v : Word) : (s.wr off v).out = s.out := rfl
@[simp] theorem State.wr_sheet (s : State) (off : Nat) (v : Word) : (s.wr off v).sheet = s.sheet := rfl
@[simp] theorem State.wr_layer (s : State) (off : Nat) (v : Word) : (s.wr off v).layer = s.layer := rfl
@[simp] theorem State.wr_cm (s : State) (off : Nat) (v : Word) : (s.wr off v).cm = s.cm := rfl
@[simp] theorem State.wr_table (s : State) (off : Nat) (v : Word) : (s.wr off v).table = s.table := rfl
@[simp] theorem State.wr_staged (s : State) (off : Nat) (v : Word) : (s.wr off v).staged = s.staged := rfl
@[simp] theorem State.wr_calAct (s : State) (off : Nat) (v : Word) : (s.wr off v).calAct = s.calAct := rfl
@[simp] theorem State.wr_calShd (s : State) (off : Nat) (v : Word) : (s.wr off v).calShd = s.calShd := rfl
@[simp] theorem State.wr_rx (s : State) (off : Nat) (v : Word) : (s.wr off v).rx = s.rx := rfl
@[simp] theorem State.wr_ch (s : State) (off : Nat) (v : Word) : (s.wr off v).ch = s.ch := rfl
@[simp] theorem State.wr_ctx (s : State) (off : Nat) (v : Word) : (s.wr off v).ctx = s.ctx := rfl
@[simp] theorem State.wr_portions (s : State) (off : Nat) (v : Word) : (s.wr off v).portions = s.portions := rfl
@[simp] theorem State.wr_keyReqs (s : State) (off : Nat) (v : Word) : (s.wr off v).keyReqs = s.keyReqs := rfl
@[simp] theorem State.wr_node (s : State) (off : Nat) (v : Word) : (s.wr off v).node = s.node := rfl
@[simp] theorem State.wr_sh (s : State) (off : Nat) (v : Word) : (s.wr off v).sh = s.sh := rfl
@[simp] theorem State.wr_port (s : State) (off : Nat) (v : Word) : (s.wr off v).port = s.port := rfl
@[simp] theorem State.wr_pol (s : State) (off : Nat) (v : Word) : (s.wr off v).pol = s.pol := rfl
@[simp] theorem State.wr_flow (s : State) (off : Nat) (v : Word) : (s.wr off v).flow = s.flow := rfl
@[simp] theorem State.wr_lane (s : State) (off : Nat) (v : Word) : (s.wr off v).lane = s.lane := rfl
@[simp] theorem State.wr_sysctr (s : State) (off : Nat) (v : Word) : (s.wr off v).sysctr = s.sysctr := rfl
@[simp] theorem State.wr_ctrFrac (s : State) (off : Nat) (v : Word) : (s.wr off v).ctrFrac = s.ctrFrac := rfl
@[simp] theorem State.wr_tb (s : State) (off : Nat) (v : Word) : (s.wr off v).tb = s.tb := rfl
@[simp] theorem State.wr_tp (s : State) (off : Nat) (v : Word) : (s.wr off v).tp = s.tp := rfl
@[simp] theorem State.wr_sp (s : State) (off : Nat) (v : Word) : (s.wr off v).sp = s.sp := rfl
@[simp] theorem State.wr_grp (s : State) (off : Nat) (v : Word) : (s.wr off v).grp = s.grp := rfl
@[simp] theorem State.wr_ao (s : State) (off : Nat) (v : Word) : (s.wr off v).ao = s.ao := rfl
@[simp] theorem State.wr_clasp (s : State) (off : Nat) (v : Word) : (s.wr off v).clasp = s.clasp := rfl
@[simp] theorem State.wr_hif (s : State) (off : Nat) (v : Word) : (s.wr off v).hif = s.hif := rfl
@[simp] theorem State.wr_sys (s : State) (off : Nat) (v : Word) : (s.wr off v).sys = s.sys := rfl
@[simp] theorem State.wr_outbox (s : State) (off : Nat) (v : Word) : (s.wr off v).outbox = s.outbox := rfl
@[simp] theorem State.wr_free (s : State) (off : Nat) (v : Word) : (s.wr off v).free = s.free := rfl

/-! ### wrSh -/

@[simp] theorem State.wrSh_pending (s : State) (off : Nat) (v : Word) : (s.wrSh off v).pending = s.pending := rfl
@[simp] theorem State.wrSh_reg (s : State) (off : Nat) (v : Word) : (s.wrSh off v).reg = s.reg := rfl
@[simp] theorem State.wrSh_resp (s : State) (off : Nat) (v : Word) : (s.wrSh off v).resp = s.resp := rfl
@[simp] theorem State.wrSh_ss (s : State) (off : Nat) (v : Word) : (s.wrSh off v).ss = s.ss := rfl
@[simp] theorem State.wrSh_hbm (s : State) (off : Nat) (v : Word) : (s.wrSh off v).hbm = s.hbm := rfl
@[simp] theorem State.wrSh_hbmGen (s : State) (off : Nat) (v : Word) : (s.wrSh off v).hbmGen = s.hbmGen := rfl
@[simp] theorem State.wrSh_ssErr (s : State) (off : Nat) (v : Word) : (s.wrSh off v).ssErr = s.ssErr := rfl
@[simp] theorem State.wrSh_hbmErr (s : State) (off : Nat) (v : Word) : (s.wrSh off v).hbmErr = s.hbmErr := rfl
@[simp] theorem State.wrSh_hbmc (s : State) (off : Nat) (v : Word) : (s.wrSh off v).hbmc = s.hbmc := rfl
@[simp] theorem State.wrSh_armed (s : State) (off : Nat) (v : Word) : (s.wrSh off v).armed = s.armed := rfl
@[simp] theorem State.wrSh_cst (s : State) (off : Nat) (v : Word) : (s.wrSh off v).cst = s.cst := rfl
@[simp] theorem State.wrSh_eng (s : State) (off : Nat) (v : Word) : (s.wrSh off v).eng = s.eng := rfl
@[simp] theorem State.wrSh_gath (s : State) (off : Nat) (v : Word) : (s.wrSh off v).gath = s.gath := rfl
@[simp] theorem State.wrSh_queues (s : State) (off : Nat) (v : Word) : (s.wrSh off v).queues = s.queues := rfl
@[simp] theorem State.wrSh_mbxTouched (s : State) (off : Nat) (v : Word) : (s.wrSh off v).mbxTouched = s.mbxTouched := rfl
@[simp] theorem State.wrSh_sess (s : State) (off : Nat) (v : Word) : (s.wrSh off v).sess = s.sess := rfl
@[simp] theorem State.wrSh_out (s : State) (off : Nat) (v : Word) : (s.wrSh off v).out = s.out := rfl
@[simp] theorem State.wrSh_sheet (s : State) (off : Nat) (v : Word) : (s.wrSh off v).sheet = s.sheet := rfl
@[simp] theorem State.wrSh_layer (s : State) (off : Nat) (v : Word) : (s.wrSh off v).layer = s.layer := rfl
@[simp] theorem State.wrSh_cm (s : State) (off : Nat) (v : Word) : (s.wrSh off v).cm = s.cm := rfl
@[simp] theorem State.wrSh_table (s : State) (off : Nat) (v : Word) : (s.wrSh off v).table = s.table := rfl
@[simp] theorem State.wrSh_staged (s : State) (off : Nat) (v : Word) : (s.wrSh off v).staged = s.staged := rfl
@[simp] theorem State.wrSh_calAct (s : State) (off : Nat) (v : Word) : (s.wrSh off v).calAct = s.calAct := rfl
@[simp] theorem State.wrSh_calShd (s : State) (off : Nat) (v : Word) : (s.wrSh off v).calShd = s.calShd := rfl
@[simp] theorem State.wrSh_rx (s : State) (off : Nat) (v : Word) : (s.wrSh off v).rx = s.rx := rfl
@[simp] theorem State.wrSh_ch (s : State) (off : Nat) (v : Word) : (s.wrSh off v).ch = s.ch := rfl
@[simp] theorem State.wrSh_ctx (s : State) (off : Nat) (v : Word) : (s.wrSh off v).ctx = s.ctx := rfl
@[simp] theorem State.wrSh_portions (s : State) (off : Nat) (v : Word) : (s.wrSh off v).portions = s.portions := rfl
@[simp] theorem State.wrSh_keyReqs (s : State) (off : Nat) (v : Word) : (s.wrSh off v).keyReqs = s.keyReqs := rfl
@[simp] theorem State.wrSh_node (s : State) (off : Nat) (v : Word) : (s.wrSh off v).node = s.node := rfl
@[simp] theorem State.wrSh_sh (s : State) (off : Nat) (v : Word) : (s.wrSh off v).sh = s.sh := rfl
@[simp] theorem State.wrSh_port (s : State) (off : Nat) (v : Word) : (s.wrSh off v).port = s.port := rfl
@[simp] theorem State.wrSh_pol (s : State) (off : Nat) (v : Word) : (s.wrSh off v).pol = s.pol := rfl
@[simp] theorem State.wrSh_flow (s : State) (off : Nat) (v : Word) : (s.wrSh off v).flow = s.flow := rfl
@[simp] theorem State.wrSh_lane (s : State) (off : Nat) (v : Word) : (s.wrSh off v).lane = s.lane := rfl
@[simp] theorem State.wrSh_sysctr (s : State) (off : Nat) (v : Word) : (s.wrSh off v).sysctr = s.sysctr := rfl
@[simp] theorem State.wrSh_ctrFrac (s : State) (off : Nat) (v : Word) : (s.wrSh off v).ctrFrac = s.ctrFrac := rfl
@[simp] theorem State.wrSh_tb (s : State) (off : Nat) (v : Word) : (s.wrSh off v).tb = s.tb := rfl
@[simp] theorem State.wrSh_tp (s : State) (off : Nat) (v : Word) : (s.wrSh off v).tp = s.tp := rfl
@[simp] theorem State.wrSh_sp (s : State) (off : Nat) (v : Word) : (s.wrSh off v).sp = s.sp := rfl
@[simp] theorem State.wrSh_grp (s : State) (off : Nat) (v : Word) : (s.wrSh off v).grp = s.grp := rfl
@[simp] theorem State.wrSh_ao (s : State) (off : Nat) (v : Word) : (s.wrSh off v).ao = s.ao := rfl
@[simp] theorem State.wrSh_clasp (s : State) (off : Nat) (v : Word) : (s.wrSh off v).clasp = s.clasp := rfl
@[simp] theorem State.wrSh_hif (s : State) (off : Nat) (v : Word) : (s.wrSh off v).hif = s.hif := rfl
@[simp] theorem State.wrSh_sys (s : State) (off : Nat) (v : Word) : (s.wrSh off v).sys = s.sys := rfl
@[simp] theorem State.wrSh_outbox (s : State) (off : Nat) (v : Word) : (s.wrSh off v).outbox = s.outbox := rfl
@[simp] theorem State.wrSh_free (s : State) (off : Nat) (v : Word) : (s.wrSh off v).free = s.free := rfl

/-! ### setF -/

@[simp] theorem State.setF_pending (s : State) (off hi lo v : Nat) : (s.setF off hi lo v).pending = s.pending := rfl
@[simp] theorem State.setF_shd (s : State) (off hi lo v : Nat) : (s.setF off hi lo v).shd = s.shd := rfl
@[simp] theorem State.setF_resp (s : State) (off hi lo v : Nat) : (s.setF off hi lo v).resp = s.resp := rfl
@[simp] theorem State.setF_ss (s : State) (off hi lo v : Nat) : (s.setF off hi lo v).ss = s.ss := rfl
@[simp] theorem State.setF_hbm (s : State) (off hi lo v : Nat) : (s.setF off hi lo v).hbm = s.hbm := rfl
@[simp] theorem State.setF_hbmGen (s : State) (off hi lo v : Nat) : (s.setF off hi lo v).hbmGen = s.hbmGen := rfl
@[simp] theorem State.setF_ssErr (s : State) (off hi lo v : Nat) : (s.setF off hi lo v).ssErr = s.ssErr := rfl
@[simp] theorem State.setF_hbmErr (s : State) (off hi lo v : Nat) : (s.setF off hi lo v).hbmErr = s.hbmErr := rfl
@[simp] theorem State.setF_hbmc (s : State) (off hi lo v : Nat) : (s.setF off hi lo v).hbmc = s.hbmc := rfl
@[simp] theorem State.setF_armed (s : State) (off hi lo v : Nat) : (s.setF off hi lo v).armed = s.armed := rfl
@[simp] theorem State.setF_cst (s : State) (off hi lo v : Nat) : (s.setF off hi lo v).cst = s.cst := rfl
@[simp] theorem State.setF_eng (s : State) (off hi lo v : Nat) : (s.setF off hi lo v).eng = s.eng := rfl
@[simp] theorem State.setF_gath (s : State) (off hi lo v : Nat) : (s.setF off hi lo v).gath = s.gath := rfl
@[simp] theorem State.setF_queues (s : State) (off hi lo v : Nat) : (s.setF off hi lo v).queues = s.queues := rfl
@[simp] theorem State.setF_mbxTouched (s : State) (off hi lo v : Nat) : (s.setF off hi lo v).mbxTouched = s.mbxTouched := rfl
@[simp] theorem State.setF_sess (s : State) (off hi lo v : Nat) : (s.setF off hi lo v).sess = s.sess := rfl
@[simp] theorem State.setF_out (s : State) (off hi lo v : Nat) : (s.setF off hi lo v).out = s.out := rfl
@[simp] theorem State.setF_sheet (s : State) (off hi lo v : Nat) : (s.setF off hi lo v).sheet = s.sheet := rfl
@[simp] theorem State.setF_layer (s : State) (off hi lo v : Nat) : (s.setF off hi lo v).layer = s.layer := rfl
@[simp] theorem State.setF_cm (s : State) (off hi lo v : Nat) : (s.setF off hi lo v).cm = s.cm := rfl
@[simp] theorem State.setF_table (s : State) (off hi lo v : Nat) : (s.setF off hi lo v).table = s.table := rfl
@[simp] theorem State.setF_staged (s : State) (off hi lo v : Nat) : (s.setF off hi lo v).staged = s.staged := rfl
@[simp] theorem State.setF_calAct (s : State) (off hi lo v : Nat) : (s.setF off hi lo v).calAct = s.calAct := rfl
@[simp] theorem State.setF_calShd (s : State) (off hi lo v : Nat) : (s.setF off hi lo v).calShd = s.calShd := rfl
@[simp] theorem State.setF_rx (s : State) (off hi lo v : Nat) : (s.setF off hi lo v).rx = s.rx := rfl
@[simp] theorem State.setF_ch (s : State) (off hi lo v : Nat) : (s.setF off hi lo v).ch = s.ch := rfl
@[simp] theorem State.setF_ctx (s : State) (off hi lo v : Nat) : (s.setF off hi lo v).ctx = s.ctx := rfl
@[simp] theorem State.setF_portions (s : State) (off hi lo v : Nat) : (s.setF off hi lo v).portions = s.portions := rfl
@[simp] theorem State.setF_keyReqs (s : State) (off hi lo v : Nat) : (s.setF off hi lo v).keyReqs = s.keyReqs := rfl
@[simp] theorem State.setF_node (s : State) (off hi lo v : Nat) : (s.setF off hi lo v).node = s.node := rfl
@[simp] theorem State.setF_sh (s : State) (off hi lo v : Nat) : (s.setF off hi lo v).sh = s.sh := rfl
@[simp] theorem State.setF_port (s : State) (off hi lo v : Nat) : (s.setF off hi lo v).port = s.port := rfl
@[simp] theorem State.setF_pol (s : State) (off hi lo v : Nat) : (s.setF off hi lo v).pol = s.pol := rfl
@[simp] theorem State.setF_flow (s : State) (off hi lo v : Nat) : (s.setF off hi lo v).flow = s.flow := rfl
@[simp] theorem State.setF_lane (s : State) (off hi lo v : Nat) : (s.setF off hi lo v).lane = s.lane := rfl
@[simp] theorem State.setF_sysctr (s : State) (off hi lo v : Nat) : (s.setF off hi lo v).sysctr = s.sysctr := rfl
@[simp] theorem State.setF_ctrFrac (s : State) (off hi lo v : Nat) : (s.setF off hi lo v).ctrFrac = s.ctrFrac := rfl
@[simp] theorem State.setF_tb (s : State) (off hi lo v : Nat) : (s.setF off hi lo v).tb = s.tb := rfl
@[simp] theorem State.setF_tp (s : State) (off hi lo v : Nat) : (s.setF off hi lo v).tp = s.tp := rfl
@[simp] theorem State.setF_sp (s : State) (off hi lo v : Nat) : (s.setF off hi lo v).sp = s.sp := rfl
@[simp] theorem State.setF_grp (s : State) (off hi lo v : Nat) : (s.setF off hi lo v).grp = s.grp := rfl
@[simp] theorem State.setF_ao (s : State) (off hi lo v : Nat) : (s.setF off hi lo v).ao = s.ao := rfl
@[simp] theorem State.setF_clasp (s : State) (off hi lo v : Nat) : (s.setF off hi lo v).clasp = s.clasp := rfl
@[simp] theorem State.setF_hif (s : State) (off hi lo v : Nat) : (s.setF off hi lo v).hif = s.hif := rfl
@[simp] theorem State.setF_sys (s : State) (off hi lo v : Nat) : (s.setF off hi lo v).sys = s.sys := rfl
@[simp] theorem State.setF_outbox (s : State) (off hi lo v : Nat) : (s.setF off hi lo v).outbox = s.outbox := rfl
@[simp] theorem State.setF_free (s : State) (off hi lo v : Nat) : (s.setF off hi lo v).free = s.free := rfl

/-! ### setB -/

@[simp] theorem State.setB_pending (s : State) (off b : Nat) (v : Bool) : (s.setB off b v).pending = s.pending := rfl
@[simp] theorem State.setB_shd (s : State) (off b : Nat) (v : Bool) : (s.setB off b v).shd = s.shd := rfl
@[simp] theorem State.setB_resp (s : State) (off b : Nat) (v : Bool) : (s.setB off b v).resp = s.resp := rfl
@[simp] theorem State.setB_ss (s : State) (off b : Nat) (v : Bool) : (s.setB off b v).ss = s.ss := rfl
@[simp] theorem State.setB_hbm (s : State) (off b : Nat) (v : Bool) : (s.setB off b v).hbm = s.hbm := rfl
@[simp] theorem State.setB_hbmGen (s : State) (off b : Nat) (v : Bool) : (s.setB off b v).hbmGen = s.hbmGen := rfl
@[simp] theorem State.setB_ssErr (s : State) (off b : Nat) (v : Bool) : (s.setB off b v).ssErr = s.ssErr := rfl
@[simp] theorem State.setB_hbmErr (s : State) (off b : Nat) (v : Bool) : (s.setB off b v).hbmErr = s.hbmErr := rfl
@[simp] theorem State.setB_hbmc (s : State) (off b : Nat) (v : Bool) : (s.setB off b v).hbmc = s.hbmc := rfl
@[simp] theorem State.setB_armed (s : State) (off b : Nat) (v : Bool) : (s.setB off b v).armed = s.armed := rfl
@[simp] theorem State.setB_cst (s : State) (off b : Nat) (v : Bool) : (s.setB off b v).cst = s.cst := rfl
@[simp] theorem State.setB_eng (s : State) (off b : Nat) (v : Bool) : (s.setB off b v).eng = s.eng := rfl
@[simp] theorem State.setB_gath (s : State) (off b : Nat) (v : Bool) : (s.setB off b v).gath = s.gath := rfl
@[simp] theorem State.setB_queues (s : State) (off b : Nat) (v : Bool) : (s.setB off b v).queues = s.queues := rfl
@[simp] theorem State.setB_mbxTouched (s : State) (off b : Nat) (v : Bool) : (s.setB off b v).mbxTouched = s.mbxTouched := rfl
@[simp] theorem State.setB_sess (s : State) (off b : Nat) (v : Bool) : (s.setB off b v).sess = s.sess := rfl
@[simp] theorem State.setB_out (s : State) (off b : Nat) (v : Bool) : (s.setB off b v).out = s.out := rfl
@[simp] theorem State.setB_sheet (s : State) (off b : Nat) (v : Bool) : (s.setB off b v).sheet = s.sheet := rfl
@[simp] theorem State.setB_layer (s : State) (off b : Nat) (v : Bool) : (s.setB off b v).layer = s.layer := rfl
@[simp] theorem State.setB_cm (s : State) (off b : Nat) (v : Bool) : (s.setB off b v).cm = s.cm := rfl
@[simp] theorem State.setB_table (s : State) (off b : Nat) (v : Bool) : (s.setB off b v).table = s.table := rfl
@[simp] theorem State.setB_staged (s : State) (off b : Nat) (v : Bool) : (s.setB off b v).staged = s.staged := rfl
@[simp] theorem State.setB_calAct (s : State) (off b : Nat) (v : Bool) : (s.setB off b v).calAct = s.calAct := rfl
@[simp] theorem State.setB_calShd (s : State) (off b : Nat) (v : Bool) : (s.setB off b v).calShd = s.calShd := rfl
@[simp] theorem State.setB_rx (s : State) (off b : Nat) (v : Bool) : (s.setB off b v).rx = s.rx := rfl
@[simp] theorem State.setB_ch (s : State) (off b : Nat) (v : Bool) : (s.setB off b v).ch = s.ch := rfl
@[simp] theorem State.setB_ctx (s : State) (off b : Nat) (v : Bool) : (s.setB off b v).ctx = s.ctx := rfl
@[simp] theorem State.setB_portions (s : State) (off b : Nat) (v : Bool) : (s.setB off b v).portions = s.portions := rfl
@[simp] theorem State.setB_keyReqs (s : State) (off b : Nat) (v : Bool) : (s.setB off b v).keyReqs = s.keyReqs := rfl
@[simp] theorem State.setB_node (s : State) (off b : Nat) (v : Bool) : (s.setB off b v).node = s.node := rfl
@[simp] theorem State.setB_sh (s : State) (off b : Nat) (v : Bool) : (s.setB off b v).sh = s.sh := rfl
@[simp] theorem State.setB_port (s : State) (off b : Nat) (v : Bool) : (s.setB off b v).port = s.port := rfl
@[simp] theorem State.setB_pol (s : State) (off b : Nat) (v : Bool) : (s.setB off b v).pol = s.pol := rfl
@[simp] theorem State.setB_flow (s : State) (off b : Nat) (v : Bool) : (s.setB off b v).flow = s.flow := rfl
@[simp] theorem State.setB_lane (s : State) (off b : Nat) (v : Bool) : (s.setB off b v).lane = s.lane := rfl
@[simp] theorem State.setB_sysctr (s : State) (off b : Nat) (v : Bool) : (s.setB off b v).sysctr = s.sysctr := rfl
@[simp] theorem State.setB_ctrFrac (s : State) (off b : Nat) (v : Bool) : (s.setB off b v).ctrFrac = s.ctrFrac := rfl
@[simp] theorem State.setB_tb (s : State) (off b : Nat) (v : Bool) : (s.setB off b v).tb = s.tb := rfl
@[simp] theorem State.setB_tp (s : State) (off b : Nat) (v : Bool) : (s.setB off b v).tp = s.tp := rfl
@[simp] theorem State.setB_sp (s : State) (off b : Nat) (v : Bool) : (s.setB off b v).sp = s.sp := rfl
@[simp] theorem State.setB_grp (s : State) (off b : Nat) (v : Bool) : (s.setB off b v).grp = s.grp := rfl
@[simp] theorem State.setB_ao (s : State) (off b : Nat) (v : Bool) : (s.setB off b v).ao = s.ao := rfl
@[simp] theorem State.setB_clasp (s : State) (off b : Nat) (v : Bool) : (s.setB off b v).clasp = s.clasp := rfl
@[simp] theorem State.setB_hif (s : State) (off b : Nat) (v : Bool) : (s.setB off b v).hif = s.hif := rfl
@[simp] theorem State.setB_sys (s : State) (off b : Nat) (v : Bool) : (s.setB off b v).sys = s.sys := rfl
@[simp] theorem State.setB_outbox (s : State) (off b : Nat) (v : Bool) : (s.setB off b v).outbox = s.outbox := rfl
@[simp] theorem State.setB_free (s : State) (off b : Nat) (v : Bool) : (s.setB off b v).free = s.free := rfl

/-! ### addSat -/

@[simp] theorem State.addSat_pending (s : State) (off hi lo n : Nat) : (s.addSat off hi lo n).pending = s.pending := rfl
@[simp] theorem State.addSat_shd (s : State) (off hi lo n : Nat) : (s.addSat off hi lo n).shd = s.shd := rfl
@[simp] theorem State.addSat_resp (s : State) (off hi lo n : Nat) : (s.addSat off hi lo n).resp = s.resp := rfl
@[simp] theorem State.addSat_ss (s : State) (off hi lo n : Nat) : (s.addSat off hi lo n).ss = s.ss := rfl
@[simp] theorem State.addSat_hbm (s : State) (off hi lo n : Nat) : (s.addSat off hi lo n).hbm = s.hbm := rfl
@[simp] theorem State.addSat_hbmGen (s : State) (off hi lo n : Nat) : (s.addSat off hi lo n).hbmGen = s.hbmGen := rfl
@[simp] theorem State.addSat_ssErr (s : State) (off hi lo n : Nat) : (s.addSat off hi lo n).ssErr = s.ssErr := rfl
@[simp] theorem State.addSat_hbmErr (s : State) (off hi lo n : Nat) : (s.addSat off hi lo n).hbmErr = s.hbmErr := rfl
@[simp] theorem State.addSat_hbmc (s : State) (off hi lo n : Nat) : (s.addSat off hi lo n).hbmc = s.hbmc := rfl
@[simp] theorem State.addSat_armed (s : State) (off hi lo n : Nat) : (s.addSat off hi lo n).armed = s.armed := rfl
@[simp] theorem State.addSat_cst (s : State) (off hi lo n : Nat) : (s.addSat off hi lo n).cst = s.cst := rfl
@[simp] theorem State.addSat_eng (s : State) (off hi lo n : Nat) : (s.addSat off hi lo n).eng = s.eng := rfl
@[simp] theorem State.addSat_gath (s : State) (off hi lo n : Nat) : (s.addSat off hi lo n).gath = s.gath := rfl
@[simp] theorem State.addSat_queues (s : State) (off hi lo n : Nat) : (s.addSat off hi lo n).queues = s.queues := rfl
@[simp] theorem State.addSat_mbxTouched (s : State) (off hi lo n : Nat) : (s.addSat off hi lo n).mbxTouched = s.mbxTouched := rfl
@[simp] theorem State.addSat_sess (s : State) (off hi lo n : Nat) : (s.addSat off hi lo n).sess = s.sess := rfl
@[simp] theorem State.addSat_out (s : State) (off hi lo n : Nat) : (s.addSat off hi lo n).out = s.out := rfl
@[simp] theorem State.addSat_sheet (s : State) (off hi lo n : Nat) : (s.addSat off hi lo n).sheet = s.sheet := rfl
@[simp] theorem State.addSat_layer (s : State) (off hi lo n : Nat) : (s.addSat off hi lo n).layer = s.layer := rfl
@[simp] theorem State.addSat_cm (s : State) (off hi lo n : Nat) : (s.addSat off hi lo n).cm = s.cm := rfl
@[simp] theorem State.addSat_table (s : State) (off hi lo n : Nat) : (s.addSat off hi lo n).table = s.table := rfl
@[simp] theorem State.addSat_staged (s : State) (off hi lo n : Nat) : (s.addSat off hi lo n).staged = s.staged := rfl
@[simp] theorem State.addSat_calAct (s : State) (off hi lo n : Nat) : (s.addSat off hi lo n).calAct = s.calAct := rfl
@[simp] theorem State.addSat_calShd (s : State) (off hi lo n : Nat) : (s.addSat off hi lo n).calShd = s.calShd := rfl
@[simp] theorem State.addSat_rx (s : State) (off hi lo n : Nat) : (s.addSat off hi lo n).rx = s.rx := rfl
@[simp] theorem State.addSat_ch (s : State) (off hi lo n : Nat) : (s.addSat off hi lo n).ch = s.ch := rfl
@[simp] theorem State.addSat_ctx (s : State) (off hi lo n : Nat) : (s.addSat off hi lo n).ctx = s.ctx := rfl
@[simp] theorem State.addSat_portions (s : State) (off hi lo n : Nat) : (s.addSat off hi lo n).portions = s.portions := rfl
@[simp] theorem State.addSat_keyReqs (s : State) (off hi lo n : Nat) : (s.addSat off hi lo n).keyReqs = s.keyReqs := rfl
@[simp] theorem State.addSat_node (s : State) (off hi lo n : Nat) : (s.addSat off hi lo n).node = s.node := rfl
@[simp] theorem State.addSat_sh (s : State) (off hi lo n : Nat) : (s.addSat off hi lo n).sh = s.sh := rfl
@[simp] theorem State.addSat_port (s : State) (off hi lo n : Nat) : (s.addSat off hi lo n).port = s.port := rfl
@[simp] theorem State.addSat_pol (s : State) (off hi lo n : Nat) : (s.addSat off hi lo n).pol = s.pol := rfl
@[simp] theorem State.addSat_flow (s : State) (off hi lo n : Nat) : (s.addSat off hi lo n).flow = s.flow := rfl
@[simp] theorem State.addSat_lane (s : State) (off hi lo n : Nat) : (s.addSat off hi lo n).lane = s.lane := rfl
@[simp] theorem State.addSat_sysctr (s : State) (off hi lo n : Nat) : (s.addSat off hi lo n).sysctr = s.sysctr := rfl
@[simp] theorem State.addSat_ctrFrac (s : State) (off hi lo n : Nat) : (s.addSat off hi lo n).ctrFrac = s.ctrFrac := rfl
@[simp] theorem State.addSat_tb (s : State) (off hi lo n : Nat) : (s.addSat off hi lo n).tb = s.tb := rfl
@[simp] theorem State.addSat_tp (s : State) (off hi lo n : Nat) : (s.addSat off hi lo n).tp = s.tp := rfl
@[simp] theorem State.addSat_sp (s : State) (off hi lo n : Nat) : (s.addSat off hi lo n).sp = s.sp := rfl
@[simp] theorem State.addSat_grp (s : State) (off hi lo n : Nat) : (s.addSat off hi lo n).grp = s.grp := rfl
@[simp] theorem State.addSat_ao (s : State) (off hi lo n : Nat) : (s.addSat off hi lo n).ao = s.ao := rfl
@[simp] theorem State.addSat_clasp (s : State) (off hi lo n : Nat) : (s.addSat off hi lo n).clasp = s.clasp := rfl
@[simp] theorem State.addSat_hif (s : State) (off hi lo n : Nat) : (s.addSat off hi lo n).hif = s.hif := rfl
@[simp] theorem State.addSat_sys (s : State) (off hi lo n : Nat) : (s.addSat off hi lo n).sys = s.sys := rfl
@[simp] theorem State.addSat_outbox (s : State) (off hi lo n : Nat) : (s.addSat off hi lo n).outbox = s.outbox := rfl
@[simp] theorem State.addSat_free (s : State) (off hi lo n : Nat) : (s.addSat off hi lo n).free = s.free := rfl

/-! ### bumpFree -/

@[simp] theorem State.bumpFree_pending (s : State) : (s.bumpFree).pending = s.pending := rfl
@[simp] theorem State.bumpFree_reg (s : State) : (s.bumpFree).reg = s.reg := rfl
@[simp] theorem State.bumpFree_shd (s : State) : (s.bumpFree).shd = s.shd := rfl
@[simp] theorem State.bumpFree_resp (s : State) : (s.bumpFree).resp = s.resp := rfl
@[simp] theorem State.bumpFree_ss (s : State) : (s.bumpFree).ss = s.ss := rfl
@[simp] theorem State.bumpFree_hbm (s : State) : (s.bumpFree).hbm = s.hbm := rfl
@[simp] theorem State.bumpFree_hbmGen (s : State) : (s.bumpFree).hbmGen = s.hbmGen := rfl
@[simp] theorem State.bumpFree_ssErr (s : State) : (s.bumpFree).ssErr = s.ssErr := rfl
@[simp] theorem State.bumpFree_hbmErr (s : State) : (s.bumpFree).hbmErr = s.hbmErr := rfl
@[simp] theorem State.bumpFree_hbmc (s : State) : (s.bumpFree).hbmc = s.hbmc := rfl
@[simp] theorem State.bumpFree_armed (s : State) : (s.bumpFree).armed = s.armed := rfl
@[simp] theorem State.bumpFree_cst (s : State) : (s.bumpFree).cst = s.cst := rfl
@[simp] theorem State.bumpFree_eng (s : State) : (s.bumpFree).eng = s.eng := rfl
@[simp] theorem State.bumpFree_gath (s : State) : (s.bumpFree).gath = s.gath := rfl
@[simp] theorem State.bumpFree_queues (s : State) : (s.bumpFree).queues = s.queues := rfl
@[simp] theorem State.bumpFree_mbxTouched (s : State) : (s.bumpFree).mbxTouched = s.mbxTouched := rfl
@[simp] theorem State.bumpFree_sess (s : State) : (s.bumpFree).sess = s.sess := rfl
@[simp] theorem State.bumpFree_out (s : State) : (s.bumpFree).out = s.out := rfl
@[simp] theorem State.bumpFree_sheet (s : State) : (s.bumpFree).sheet = s.sheet := rfl
@[simp] theorem State.bumpFree_layer (s : State) : (s.bumpFree).layer = s.layer := rfl
@[simp] theorem State.bumpFree_cm (s : State) : (s.bumpFree).cm = s.cm := rfl
@[simp] theorem State.bumpFree_table (s : State) : (s.bumpFree).table = s.table := rfl
@[simp] theorem State.bumpFree_staged (s : State) : (s.bumpFree).staged = s.staged := rfl
@[simp] theorem State.bumpFree_calAct (s : State) : (s.bumpFree).calAct = s.calAct := rfl
@[simp] theorem State.bumpFree_calShd (s : State) : (s.bumpFree).calShd = s.calShd := rfl
@[simp] theorem State.bumpFree_rx (s : State) : (s.bumpFree).rx = s.rx := rfl
@[simp] theorem State.bumpFree_ch (s : State) : (s.bumpFree).ch = s.ch := rfl
@[simp] theorem State.bumpFree_ctx (s : State) : (s.bumpFree).ctx = s.ctx := rfl
@[simp] theorem State.bumpFree_portions (s : State) : (s.bumpFree).portions = s.portions := rfl
@[simp] theorem State.bumpFree_keyReqs (s : State) : (s.bumpFree).keyReqs = s.keyReqs := rfl
@[simp] theorem State.bumpFree_node (s : State) : (s.bumpFree).node = s.node := rfl
@[simp] theorem State.bumpFree_sh (s : State) : (s.bumpFree).sh = s.sh := rfl
@[simp] theorem State.bumpFree_port (s : State) : (s.bumpFree).port = s.port := rfl
@[simp] theorem State.bumpFree_pol (s : State) : (s.bumpFree).pol = s.pol := rfl
@[simp] theorem State.bumpFree_flow (s : State) : (s.bumpFree).flow = s.flow := rfl
@[simp] theorem State.bumpFree_lane (s : State) : (s.bumpFree).lane = s.lane := rfl
@[simp] theorem State.bumpFree_sysctr (s : State) : (s.bumpFree).sysctr = s.sysctr := rfl
@[simp] theorem State.bumpFree_ctrFrac (s : State) : (s.bumpFree).ctrFrac = s.ctrFrac := rfl
@[simp] theorem State.bumpFree_tb (s : State) : (s.bumpFree).tb = s.tb := rfl
@[simp] theorem State.bumpFree_tp (s : State) : (s.bumpFree).tp = s.tp := rfl
@[simp] theorem State.bumpFree_sp (s : State) : (s.bumpFree).sp = s.sp := rfl
@[simp] theorem State.bumpFree_grp (s : State) : (s.bumpFree).grp = s.grp := rfl
@[simp] theorem State.bumpFree_ao (s : State) : (s.bumpFree).ao = s.ao := rfl
@[simp] theorem State.bumpFree_clasp (s : State) : (s.bumpFree).clasp = s.clasp := rfl
@[simp] theorem State.bumpFree_hif (s : State) : (s.bumpFree).hif = s.hif := rfl
@[simp] theorem State.bumpFree_sys (s : State) : (s.bumpFree).sys = s.sys := rfl
@[simp] theorem State.bumpFree_outbox (s : State) : (s.bumpFree).outbox = s.outbox := rfl

/-! ### emit -/

@[simp] theorem State.emit_pending (s : State) (o : Output) : (s.emit o).pending = s.pending := rfl
@[simp] theorem State.emit_reg (s : State) (o : Output) : (s.emit o).reg = s.reg := rfl
@[simp] theorem State.emit_shd (s : State) (o : Output) : (s.emit o).shd = s.shd := rfl
@[simp] theorem State.emit_resp (s : State) (o : Output) : (s.emit o).resp = s.resp := rfl
@[simp] theorem State.emit_ss (s : State) (o : Output) : (s.emit o).ss = s.ss := rfl
@[simp] theorem State.emit_hbm (s : State) (o : Output) : (s.emit o).hbm = s.hbm := rfl
@[simp] theorem State.emit_hbmGen (s : State) (o : Output) : (s.emit o).hbmGen = s.hbmGen := rfl
@[simp] theorem State.emit_ssErr (s : State) (o : Output) : (s.emit o).ssErr = s.ssErr := rfl
@[simp] theorem State.emit_hbmErr (s : State) (o : Output) : (s.emit o).hbmErr = s.hbmErr := rfl
@[simp] theorem State.emit_hbmc (s : State) (o : Output) : (s.emit o).hbmc = s.hbmc := rfl
@[simp] theorem State.emit_armed (s : State) (o : Output) : (s.emit o).armed = s.armed := rfl
@[simp] theorem State.emit_cst (s : State) (o : Output) : (s.emit o).cst = s.cst := rfl
@[simp] theorem State.emit_eng (s : State) (o : Output) : (s.emit o).eng = s.eng := rfl
@[simp] theorem State.emit_gath (s : State) (o : Output) : (s.emit o).gath = s.gath := rfl
@[simp] theorem State.emit_queues (s : State) (o : Output) : (s.emit o).queues = s.queues := rfl
@[simp] theorem State.emit_mbxTouched (s : State) (o : Output) : (s.emit o).mbxTouched = s.mbxTouched := rfl
@[simp] theorem State.emit_sess (s : State) (o : Output) : (s.emit o).sess = s.sess := rfl
@[simp] theorem State.emit_out (s : State) (o : Output) : (s.emit o).out = s.out := rfl
@[simp] theorem State.emit_sheet (s : State) (o : Output) : (s.emit o).sheet = s.sheet := rfl
@[simp] theorem State.emit_layer (s : State) (o : Output) : (s.emit o).layer = s.layer := rfl
@[simp] theorem State.emit_cm (s : State) (o : Output) : (s.emit o).cm = s.cm := rfl
@[simp] theorem State.emit_table (s : State) (o : Output) : (s.emit o).table = s.table := rfl
@[simp] theorem State.emit_staged (s : State) (o : Output) : (s.emit o).staged = s.staged := rfl
@[simp] theorem State.emit_calAct (s : State) (o : Output) : (s.emit o).calAct = s.calAct := rfl
@[simp] theorem State.emit_calShd (s : State) (o : Output) : (s.emit o).calShd = s.calShd := rfl
@[simp] theorem State.emit_rx (s : State) (o : Output) : (s.emit o).rx = s.rx := rfl
@[simp] theorem State.emit_ch (s : State) (o : Output) : (s.emit o).ch = s.ch := rfl
@[simp] theorem State.emit_ctx (s : State) (o : Output) : (s.emit o).ctx = s.ctx := rfl
@[simp] theorem State.emit_portions (s : State) (o : Output) : (s.emit o).portions = s.portions := rfl
@[simp] theorem State.emit_keyReqs (s : State) (o : Output) : (s.emit o).keyReqs = s.keyReqs := rfl
@[simp] theorem State.emit_node (s : State) (o : Output) : (s.emit o).node = s.node := rfl
@[simp] theorem State.emit_sh (s : State) (o : Output) : (s.emit o).sh = s.sh := rfl
@[simp] theorem State.emit_port (s : State) (o : Output) : (s.emit o).port = s.port := rfl
@[simp] theorem State.emit_pol (s : State) (o : Output) : (s.emit o).pol = s.pol := rfl
@[simp] theorem State.emit_flow (s : State) (o : Output) : (s.emit o).flow = s.flow := rfl
@[simp] theorem State.emit_lane (s : State) (o : Output) : (s.emit o).lane = s.lane := rfl
@[simp] theorem State.emit_sysctr (s : State) (o : Output) : (s.emit o).sysctr = s.sysctr := rfl
@[simp] theorem State.emit_ctrFrac (s : State) (o : Output) : (s.emit o).ctrFrac = s.ctrFrac := rfl
@[simp] theorem State.emit_tb (s : State) (o : Output) : (s.emit o).tb = s.tb := rfl
@[simp] theorem State.emit_tp (s : State) (o : Output) : (s.emit o).tp = s.tp := rfl
@[simp] theorem State.emit_sp (s : State) (o : Output) : (s.emit o).sp = s.sp := rfl
@[simp] theorem State.emit_grp (s : State) (o : Output) : (s.emit o).grp = s.grp := rfl
@[simp] theorem State.emit_ao (s : State) (o : Output) : (s.emit o).ao = s.ao := rfl
@[simp] theorem State.emit_clasp (s : State) (o : Output) : (s.emit o).clasp = s.clasp := rfl
@[simp] theorem State.emit_hif (s : State) (o : Output) : (s.emit o).hif = s.hif := rfl
@[simp] theorem State.emit_sys (s : State) (o : Output) : (s.emit o).sys = s.sys := rfl
@[simp] theorem State.emit_free (s : State) (o : Output) : (s.emit o).free = s.free := rfl

/-! ### Footprints of the shared operations -/

/-- Setting an event source pending changes registers only (R111). -/
theorem State.evcSet_rest (s : State) (g src : Nat) : { s.evcSet g src with reg := s.reg } = s := by
  unfold State.evcSet; split <;> rfl

/-- A source that no unit may set changes nothing (R110). -/
theorem State.evcSet_not (s : State) (g src : Nat) (h : evcSettable g src = false) : s.evcSet g src = s := by
  simp [State.evcSet, h]

/-- A unit's event changes registers only (R159, R183). -/
theorem State.raiseEvt_rest (s : State) (off : Nat) : { s.raiseEvt off with reg := s.reg } = s := by
  unfold State.raiseEvt; split
  · exact s.evcSet_rest _ _
  · rfl

/-- t differs from s at most in the registers, the host interface's record and what was sent out. -/
def State.hostStep (s t : State) : Prop :=
  ∃ (r : SMap Word) (h : Hif) (o : List Output), t = { s with reg := r, hif := h, outbox := o }

theorem State.hostStep_refl (s : State) : s.hostStep s := ⟨s.reg, s.hif, s.outbox, rfl⟩

theorem State.hostStep_trans {s t u : State} (h1 : s.hostStep t) (h2 : t.hostStep u) : s.hostStep u := by
  obtain ⟨_, _, _, rfl⟩ := h1
  obtain ⟨r, h, o, rfl⟩ := h2
  exact ⟨r, h, o, rfl⟩

theorem State.hostStep_foldl {α : Type} (f : State → α → State) (hf : ∀ (s : State) a, s.hostStep (f s a)) (l : List α) (s : State) :
    s.hostStep (l.foldl f s) := by
  induction l generalizing s with
  | nil => exact s.hostStep_refl
  | cons a l ih => exact State.hostStep_trans (hf s a) (ih _)

theorem State.hostStep_setF (s : State) (off hi lo v : Nat) : s.hostStep (s.setF off hi lo v) := ⟨_, s.hif, s.outbox, rfl⟩

theorem State.hostStep_raiseEvt (s : State) (off : Nat) : s.hostStep (s.raiseEvt off) := by
  unfold State.raiseEvt State.evcSet
  split
  · split
    · exact State.hostStep_setF _ _ _ _ _
    · exact s.hostStep_refl
  · exact s.hostStep_refl

/-- Firing a vector (R516). -/
theorem State.hostStep_fireVec (s : State) (v : Nat) : s.hostStep (s.fireVec v) := ⟨s.reg, _, _, rfl⟩

/-- Requesting a vector (R516). -/
theorem State.hostStep_requestVec (s : State) (v : Nat) : s.hostStep (s.requestVec v) := by
  have h : ∀ r : Vec, s.hostStep
      { s with hif := { s.hif with vec := SMap.set (fun _ => Vec.reset) s.hif.vec v r } } := fun r => ⟨s.reg, _, s.outbox, rfl⟩
  unfold State.requestVec
  extract_lets r r' s' cnt tmr
  split
  · exact s.hostStep_refl
  · split
    · exact h _
    · split
      · exact State.hostStep_trans (h r') (State.hostStep_fireVec _ v)
      · exact h _

/-- Writing an entry (R509, R511). -/
theorem State.hostStep_writeEntry (s : State) (e : Entry) : s.hostStep (s.writeEntry e) :=
  State.hostStep_trans ⟨_, s.hif, _, rfl⟩ (State.hostStep_requestVec _ _)

/-- Writing or holding an entry (R512, R519). -/
theorem State.hostStep_putEntry (s : State) (e : Entry) : s.hostStep (s.putEntry e) := by
  unfold State.putEntry
  split
  · unfold State.pmeOnHold
    split
    · exact ⟨s.reg, _, _, rfl⟩
    · exact ⟨s.reg, _, s.outbox, rfl⟩
  · exact s.hostStep_writeEntry e

/-- Placing one pending code (R513). -/
theorem State.hostStep_placeEvent (s : State) (e : Nat) : s.hostStep (s.placeEvent e) := by
  unfold State.placeEvent
  split
  · exact State.hostStep_trans ⟨_, _, s.outbox, rfl⟩ (State.hostStep_putEntry _ _)
  · exact s.hostStep_refl

/-- A host management event changes the registers, the host interface's record and what was sent out, and nothing else (R513). -/
theorem State.hostStep_hostEvent (s : State) (code detail : Nat) : s.hostStep (s.hostEvent code detail) :=
  State.hostStep_trans ⟨_, _, s.outbox, rfl⟩ (State.hostStep_foldl _ State.hostStep_placeEvent _ _)

/-- The same of a memory event, which sets an event source as well (R159). -/
theorem State.hostStep_memEvent (s : State) (kind detail : Nat) : s.hostStep (s.memEvent kind detail) :=
  State.hostStep_trans (s.hostStep_raiseEvt _) (State.hostStep_hostEvent _ _ _)

/-- A domain violation: logged, counted and reported, and nothing else changes (R155, R158). -/
theorem State.hostStep_violation (s : State) (t : Tx) (wr : Bool) (addr target : Nat) :
    s.hostStep (s.violation t wr addr target) := by
  unfold State.violation
  refine State.hostStep_trans (State.hostStep_trans ?_ (State.hostStep_setF _ _ _ _ _)) (State.hostStep_memEvent _ _ _)
  split
  · exact s.hostStep_refl
  · exact ⟨_, s.hif, s.outbox, rfl⟩

/-- A host step leaves the memories alone. -/
theorem State.hostStep_mem {s t : State} (h : s.hostStep t) : t.ss = s.ss ∧ t.hbm = s.hbm ∧ t.shd = s.shd ∧ t.eng = s.eng := by
  obtain ⟨_, _, _, rfl⟩ := h
  exact ⟨rfl, rfl, rfl, rfl⟩

end Sys2Proof.Machine
end

