-- ==== Sys2Proof/WellFormed.lean ====
section
/-! DEFINITION. When a command is well formed: its lists have the lengths the spec gives what they stand for. Numbers are
kept in range by their types. `exec` is total all the same: it reads 0 past the end of a list. -/

namespace Sys2Proof

/-- One management tick: 64 temperatures, 9 rails, 128 pace monitors (R527). -/
def TickReadings.wf (t : TickReadings) : Bool :=
  t.temps.length == 64 && t.vmons.length == 9 && t.pace.length == 128

/-- The length parameter of FLASH_READ and FLASH_WRITE: bytes 20-23 of the entry (R523). -/
def HostCmd.flashLen (c : HostCmd) : Nat :=
  (c.entry.getD 20 0).toNat + 0x100 * (c.entry.getD 21 0).toNat + 0x10000 * (c.entry.getD 22 0).toNat + 0x1000000 * (c.entry.getD 23 0).toNat

/-- A host command entry: 64 bytes (R511), at most 32 SMBus bytes back, host bytes read for FLASH_WRITE alone and no more than its length (R523). -/
def HostCmd.wf (c : HostCmd) : Bool :=
  c.entry.length == 64 && decide (c.smbusData.length ≤ 32)
    && decide (c.hostData.length ≤ if c.entry.getD 0 0 = 0x31 then c.flashLen else 0)

/-- An AES3 block: 24 channel status and 24 user bytes of each subframe (R468). -/
def Aes3Block.wf (b : Aes3Block) : Bool :=
  b.csA.length == 24 && b.csB.length == 24 && b.uA.length == 24 && b.uB.length == 24

/-- An RTP packet fits a UDP datagram. -/
def RtpPacket.wf (p : RtpPacket) : Bool :=
  decide (p.payload.length ≤ 65507) && p.pieces.all (fun r => decide (r.data.length ≤ 65507))

/-- A frame as a MAC can carry it: at least the two addresses and the type (a longer one is received and discarded under
R393). -/
def RxFrame.wf (f : RxFrame) : Bool := decide (14 ≤ f.bytes.length)

/-- An upstream Folio packet: a 32-byte header and at least the tag (R326, R328). -/
def UpFrame.wf (p : UpFrame) : Bool := p.header.length == 32 && decide (16 ≤ p.body.length)

/-- Well-formedness of a command. -/
def Instr.wf : Instr → Bool
  | .managementTick t => t.wf
  | .ingestPacket _ _ p => p.wf
  | .impTableWrite _ _ vals => decide (0 < vals.length)
  | .linkChange _ _ errs => errs.length == 0 || errs.length == 32
  | .macFrameReceive _ f => f.wf
  | .join p => p.wf
  | .keyRequest p => p.wf
  | .status p => p.wf
  | .countermarkEcho p => p.wf
  | .serviceReply p => p.wf
  | .timeEcho p => p.wf
  | .aes3Block _ b => b.wf
  | .commandFetch _ c => c.wf
  | .identify _ c => c.wf
  | .negotiate _ c => c.wf
  | .avsLimits _ c => c.wf
  | .thermLimits _ c => c.wf
  | .sensorDump _ c => c.wf
  | .programStart _ c => c.wf
  | .route _ c => c.wf
  | .flashRead _ c => c.wf
  | .flashWrite _ c => c.wf
  | .trunkSet _ c => c.wf
  | .gpio _ c => c.wf
  | .smbus _ c => c.wf
  | _ => true

end Sys2Proof
end

