-- ==== Sys2Proof/Tests/Slice0.lean ====
section
/-! SUPPORT. The modeller's own tests: an ill-formed term for each check of WellFormed, a few results from the spec's own tables and examples,
and for every statement with hypotheses a concrete state and operands that meet them. -/

namespace Sys2Proof.Tests

open Sys2Proof Sys2Proof.Machine

set_option Elab.async false

/-! ### Small states -/

/-- Engine 0 of gathering 0, and its neighbour. -/
def q0 : EngId := ⟨0, 0⟩

/-- A context that runs at pc with general registers as listed, no token issued. -/
def ctx0 (pc : Nat) (g : List (Nat × Word)) : Ctx := { Ctx.reset with occ := true, pc := BitVec.ofNat 13 pc, g := g }

/-- Engine 0 of gathering 0 enabled, its four pages code, in context c. -/
def run0 (c : Ctx) : State :=
  { State.reset.wr (Reg.qeCtrl 0 0) 1 with
    eng := [(0, { Eng.reset with norm := c, page := [(0, .valid), (1, .valid), (2, .valid), (3, .valid)] })] }

/-- An R-format operand: destination, sources, predicate p0 true. -/
def rA (rd ra rb : BitVec 5) : RArgs := { rd := rd, ra := ra, rb := rb, fn := 0, x := false, pr := 0, pn := false }

/-- An I-format operand. -/
def iA (x : Bool) (rd ra : BitVec 5) (imm : BitVec 12) (ext : Word) : IArgs := { x := x, rd := rd, ra := ra, pr := 0, imm12 := imm, ext := ext }

/-- A T-format operand with all registers 0. -/
def tA : TArgs := { x := false, rd := 0, ra := 0, rb := 0, rc := 0, pr := 0, fb := 0 }

/-- A state whose engine 0 of gathering 0 holds an instruction's words at byte `pc` of its buffer. -/
def fed (s : State) (pc : Nat) (i : Instr) : State :=
  s.setEng 0 0 { s.engAt 0 0 with ibuf := SMap.setList (fun _ => (0 : Byte)) [] pc (i.words.flatMap (fun w => leBytes 4 w.toNat)) }

/-! ### Engines: a state and operands for every clause -/

/-- Every statement about an instruction that asks for its words: an instruction of each format, plain and with an extension word, that the engine reads and
executes. -/
theorem witness_reads : ∀ i ∈ ([.add q0 (rA 3 1 2), .div q0 (rA 3 1 2), .pcmpEq q0 (rA 7 1 2), .addi q0 (iA true 3 1 0 0x12345), .ld q0 ⟨false, 3, 1, 0, 2, 0x3FF⟩,
      .vst q0 ⟨false, 15, 1, 0, 0, 0⟩, .vadds q0 ⟨false, 15, 1, 2, 0, false, true⟩, .vsplat q0 ⟨false, 15, 1, 0, 0, false, false⟩, .fld q0 tA, .fst q0 tA,
      .amocas q0 tA, .fold q0 tA, .ifill q0 (iA false 3 1 15 0), .fwait q0 (iA true 0 1 0 1), .ewait q0 (iA false 3 1 1 0), .mfs q0 (iA false 3 0 15 0),
      .mts q0 (iA true 0 1 0 12), .emask q0 (iA false 3 0 1 0), .br q0 ⟨false, 0, false, 0x100000⟩, .call q0 ⟨false, 0, false, 1⟩, .jr q0 (rA 31 1 0),
      .ucall q0 ⟨false, 3, 1, 0x3FF, 0, 0⟩, .tready q0 (rA 3 1 0), .tcancel q0 (rA 3 1 0), .tdone q0 (rA 0 1 0), .tyield q0 (rA 0 0 0), .tself q0 (rA 3 0 0),
      .esig q0 (rA 3 1 0)] : List Instr),
    (fed (run0 (ctx0 0 [])) 0 i).holdsWords q0 0 i.words = true ∧ (fed (run0 (ctx0 0 [])) 0 i).running q0 = true ∧
      ((fed (run0 (ctx0 0 [])) 0 i).ctxOf q0).pc = 0 := by decide +kernel

/-- "Four instructions of the fragment encode as follows": PCMP.LT, ADDI twice, and ADDI with its extension word (chapter 2, worked example). -/
theorem test_words : (Instr.pcmpLt q0 ⟨false, 1, 11, 7, 0, false, 0⟩).words = [0x00159C1A] ∧ (Instr.addi q0 ⟨false, 9, 9, 1, 1, 0⟩).words = [0x04949001] ∧
    (Instr.addi q0 ⟨false, 9, 9, 2, 0xFFF, 0⟩).words = [0x0494AFFF] ∧ (Instr.addi q0 (iA true 17 0 0 0x80010000)).words = [0x07100000, 0x80010000] := by
  decide +kernel

/-- IntegerInstructionResults: a general and the corner of R64, division by 0 and -2³¹ ÷ -1. -/
theorem witness_IntegerInstructionResults :
    (run0 (ctx0 0 [(1, 7), (2, 3)])).executes q0 4 0 false ∧ (ctx0 0 [(1, 7), (2, 3)]).gr 1 = 7 ∧
    (run0 (ctx0 0x1FF8 [(1, 0x80000000), (2, 0xFFFFFFFF)])).executes q0 4 0 false ∧ (run0 (ctx0 4 [(1, 7)])).executes q0 4 0 false ∧
    (ctx0 4 [(1, 7)]).gr 2 = 0 := by
  unfold State.executes; and_intros <;> decide +kernel

/-- CompareWritesPredicate: equal operands, and predicates 7 and 0 as destination. -/
theorem witness_CompareWritesPredicate :
    (run0 (ctx0 0 [(1, 5), (2, 5)])).executes q0 4 (rA 7 1 2).pr false ∧ (rA 7 1 2).rd.toNat < 8 ∧ (rA 0 1 2).rd.toNat < 8 := by
  unfold State.executes; and_intros <;> decide +kernel

/-- ImmediateInstructionResults: both forms, and the greatest shift. -/
theorem witness_ImmediateInstructionResults :
    (run0 (ctx0 0 [(1, 5)])).executes q0 4 0 false ∧ (run0 (ctx0 0x1FF4 [(1, 5)])).executes q0 8 0 false ∧
    ((iA true 3 1 0 0x12345).x = true → (iA true 3 1 0 0x12345).imm12 = 0) ∧ (iA false 3 1 31 0).imm12.toNat < 32 := by
  unfold State.executes; and_intros <;> decide +kernel

/-- LocalMemoryInstructions: the last byte, word and vector of local memory, and none interlocked. -/
theorem witness_LocalMemoryInstructions :
    (run0 (ctx0 0 [(1, 0x5FFF)])).executes q0 4 0 false ∧ 0x5FFF + 1 ≤ 0x6000 ∧ (ctx0 0 [(1, 0x5FFF)]).interlocked 0x5FFF 1 = false ∧
    0x5FFC + 4 ≤ 0x6000 ∧ 0x5FFC % 4 = 0 ∧ (ctx0 0 [(1, 0x5FFC)]).interlocked 0x5FFC 4 = false ∧
    ((ctx0 0 [(1, 0x5FE0)]).gr 1 + (0 : BitVec 10).signExtend 32).toNat = 0x5FE0 ∧ 0x5FE0 + 32 ≤ 0x6000 ∧
    (ctx0 0 [(1, 0x5FE0)]).interlocked 0x5FE0 32 = false := by
  unfold State.executes; and_intros <;> decide +kernel

/-- VectorResults: registers 15, a lane index of 15 in 16-bit lanes and of 7 in 32-bit lanes. -/
theorem witness_VectorResults :
    (run0 (ctx0 0 [(2, 0xFFFF)])).executes q0 4 0 false ∧ (15 : BitVec 5).toNat < 16 ∧
    ((ctx0 0 [(2, 0xFFFF)]).gr 2).toNat % (256 / 16) = 15 ∧ ((ctx0 0 [(2, 0xFFFF)]).gr 2).toNat % (256 / 32) = 7 := by
  unfold State.executes; and_intros <;> decide +kernel

/-- A context with its oldest token slot busy. -/
def ctxBusy (o : FarOp) : Ctx := { ctx0 0 [] with tok := [(0, ⟨1, .busy o⟩)] }

/-- A far transfer of n bytes between far address 0x10_0000_0000 and local byte 0. -/
def farOp (k : FarKind) (n : Nat) : FarOp := ⟨k, ssBase, 0, n, 0, 0⟩

/-- The Sheet store's first granule owner data with code, its code bytes marked. -/
def ssOpen (s : State) : State :=
  State.wr { s with clasp := { s.clasp with regions := [(0, 0x10000)] } } (Reg.memDomSs 0) 0x10001

/-- The Sheet store's first granule owner data, readable and writable. -/
def ssData (s : State) : State := s.wr (Reg.memDomSs 0) 0x10003

/-- FarOperations: at issue no byte and the most bytes, a fill into page 3; completions of a load, a store and a fill. -/
theorem witness_FarOperations :
    (ctx0 0 []).freeSlot = some 0 ∧ (run0 (ctx0 0 [])).executes q0 4 0 false ∧
    farBad ssBase 0x6000 = false ∧ (ctx0 0 [(3, 0x6000)]).interlocked 0 0x6000 = false ∧
    regionOf ssBase 2048 = .ss ∧ ssBase % 32 = 0 ∧
    ((run0 (ctxBusy (farOp .fld 8))).engOf q0).mustWait 0 ssBase 8 = false ∧
    ((ssOpen (run0 (ctxBusy (farOp .fld 8)))).busRead (.engine q0) ssBase 8).2.1 = .ok ∧
    ((ssData (run0 (ctxBusy (farOp .fst 8)))).busWrite (.engine q0) ssBase (List.replicate 8 1)).2 = .ok ∧
    (ssOpen (run0 (ctxBusy (farOp .ifill 2048)))).ownerCode 0 2048 = true ∧
    ((ssOpen (run0 (ctxBusy (farOp .ifill 2048)))).engOf q0).fillBusy 0 0 false = false := by
  unfold State.executes; and_intros <;> decide +kernel

/-- FarWaitsAndAtomics: a token of another generation, of a free slot and of a busy one; the release wait over and an access let through. -/
theorem witness_FarWaitsAndAtomics :
    (run0 (ctx0 0 [(1, 0x10)])).executes q0 4 0 false ∧ ((ctx0 0 [(1, 0x10)]).slot 0).gen.toNat ≠ 0x10 / 16 % 16 ∧
    ((ctx0 0 []).slot 0).st = .idle ∧ (ctxBusy (farOp .fld 8)).slot 0 = ⟨BitVec.ofNat 4 (0x10 / 16), .busy (farOp .fld 8)⟩ ∧
    (ctx0 0 []).inFlight.any FarOp.isStore = false ∧ ((ctx0 0 []).oldestErr FarOp.isStore).isNone = true ∧ regionOf ssBase 4 = .ss ∧
    ((run0 (ctx0 0 [])).engOf q0).mustWait ((run0 (ctx0 0 [])).engOf q0).issue ssBase 4 = false ∧
    ((run0 (ctxBusy (farOp .fld 8))).engOf q0).mustWait 9 ssBase 4 = true ∧ (ssData (run0 (ctx0 0 []))).memWaits ⟨1, 0⟩ ssBase 4 = false ∧
    ((ssData (run0 (ctx0 0 []))).wr (Reg.memDomSs 0) 0x10013).memWaits ⟨1, 0⟩ ssBase 4 = true ∧
    ((ssData (run0 (ctx0 0 []))).ssRead ⟨1, 0⟩ ssBase 0 4).2.1 = .ok ∧
    ((ssData (run0 (ctx0 0 []))).ssWrite ⟨1, 0⟩ ssBase 0 (leBytes 4 1)).2 = .ok := by
  unfold State.executes; and_intros <;> decide +kernel

/-- BranchesJump: the last word of the buffer and the first target outside it, both ways; an aligned and a misaligned register. -/
theorem witness_BranchesJump :
    (run0 (ctx0 0x1FF8 [])).executes q0 4 0 false ∧ (0x1FF8 : Int) + (1 : BitVec 21).toInt * 4 ≤ 0x1FFC ∧
    0x1FFC < (0x1FF8 : Int) + (2 : BitVec 21).toInt * 4 ∧ (0 : Int) + (-1 : BitVec 21).toInt * 4 < 0 ∧
    (0x1FFC : Word).toNat % 4 = 0 ∧ (0x1FFD : Word).toNat % 4 ≠ 0 ∧ 0x1FFC < (0x2000 : Word).toNat := by
  unfold State.executes; and_intros <;> decide +kernel

/-- UcallPostsDescriptor: an absent queue, a malformed descriptor, a full queue and an accepted one. -/
theorem witness_UcallPostsDescriptor :
    (run0 (ctx0 0 [])).executes q0 4 0 false ∧ (ctx0 0 []).interlocked 0 32 = false ∧ (run0 (ctx0 0 [])).queueAbsent 0x3FF = true ∧
    (run0 (ctx0 0 [])).queueAbsent 0x10 = false ∧ (run0 (ctx0 0 [])).malformed 0x10 (List.replicate 32 0) = true ∧
    (run0 (ctx0 0 [])).malformed 0x10 ([0, 0, 0, 0x10] ++ List.replicate 28 0) = false := by
  unfold State.executes; and_intros <;> decide +kernel

/-- FoldArmsList: an empty mask, a list of one couch group at the end of local memory, one with no last entry. -/
theorem witness_FoldArmsList :
    (run0 (ctx0 0 [])).executes q0 4 0 false ∧ (ctx0 0 []).inFlight.any FarOp.isStore = false ∧
    foldList ({ Eng.reset with ram := [(0x5FFF, 0x80)] }) 0x5FFC 64 = (some [0x80000000], none) ∧
    (foldList Eng.reset 0 64).2 = none ∧ (foldList Eng.reset 0 64).1 = none ∧ foldUnits [0x80000000] = 1 ∧ 0x80000000 / 2 ^ 19 % 2 ^ 12 = 0 ∧
    unitOfNum (0x80000000 / 2 ^ 16 % 8) = some .couch ∧ groupInRange .couch 0 = true ∧ groupInRange .couch 4 = false := by
  unfold State.executes; and_intros <;> decide +kernel

/-- Task 5 bound in gathering 0, with the TSU of gathering 0 as given. -/
def tsu0 (c : Ctx) (x : Gath) : State :=
  State.wr { run0 c with gath := [(0, x)] } (Reg.tsuDescCount 0) 16

/-- TaskReleaseReturnsCodes: every code of both instructions; word 0x40_0000 names no gathering, and 0x3F_0000 the last. -/
theorem witness_TaskReleaseReturnsCodes :
    (run0 (ctx0 0 [(1, 5)])).executes q0 4 0 false ∧ 2 ^ 22 ≤ (0x400000 : Word).toNat ∧ (0x3FFFFF : Word).toNat < 2 ^ 22 ∧
    ((run0 (ctx0 0 [])).wr (Reg.gathPwr 0) 2).parked 0 = true ∧ (tsu0 (ctx0 0 []) Gath.reset).parked 0 = false ∧
    (tsu0 (ctx0 0 []) Gath.reset).bound 0 16 = false ∧ (tsu0 (ctx0 0 []) Gath.reset).bound 0 15 = true ∧
    (∃ m, m ∈ [(⟨5, 0⟩ : Stamped)] ∧ m.id = 5) ∧ Gath.holds { Gath.reset with settle := [⟨5, 0⟩] } 5 = true ∧
    Gath.holds Gath.reset 5 = false ∧ 224 ≤ (List.range 224).length := by
  unfold State.executes; and_intros <;> decide +kernel

/-- TaskEndFreesContext: engine 0 runs nothing of the TSU, or task 5. -/
theorem witness_TaskEndFreesContext :
    (tsu0 (ctx0 0 []) Gath.reset).executes q0 4 0 false ∧ (tsu0 (ctx0 0 []) Gath.reset).taskOf 0 0 false = none ∧
    (tsu0 { ctx0 0 [] with cancelled := true } Gath.reset).executes q0 4 0 false ∧
    (tsu0 (ctx0 0 []) { Gath.reset with running := [⟨⟨5, 0, false, 0, 0, 0, 0, 0, 0⟩, 0, false⟩] }).taskOf 0 0 false =
      some ⟨5, 0, false, 0, 0, 0, 0, 0, 0⟩ := by
  unfold State.executes; and_intros <;> decide +kernel

/-- Engine 0 with software source 448 of gathering 0 pending, enabled and presented to it. -/
def shown0 (c : Ctx) (m : Bool) : State :=
  let s := run0 c
  let x := s.engAt 0 0
  ({ (s.setEng 0 0 { x with mask := m }) with gath := [(0, { Gath.reset with shown := [⟨448, 0, false⟩] })] }.wr (Reg.evcEn 0 14) 1).wr
    (Reg.evcPend 0 14) 1

/-- InterruptsAndWaits: an engine that may be interrupted, one that is masked; a wake at once, a poll, a timed and an endless sleep; a sleeper
whose source is there, whose time is up. -/
theorem witness_InterruptsAndWaits :
    (shown0 (ctx0 0 []) false).enabled 0 0 = true ∧ (shown0 (ctx0 0 []) false).parked 0 = false ∧
    ((shown0 (ctx0 0 []) false).engOf q0).mask = false ∧ ((shown0 (ctx0 0 []) false).engOf q0).urg.occ = false ∧
    (shown0 (ctx0 0 []) false).evcPending 0 448 = true ∧ (shown0 (ctx0 0 []) false).evcEnabled 0 448 = true ∧
    ((shown0 (ctx0 0 []) true).engOf q0).mask = true ∧ (run0 (ctx0 0 [])).executes q0 8 0 false ∧
    (run0 (ctx0 0 [])).wakeable 0 0 = false ∧ ((shown0 (ctx0 0 []) true).wr (Reg.evcRoute 0 448) 1).wakeable 0 0 = true ∧
    (1 : Word).getLsbD 0 = true ∧ (0 : Word).getLsbD 0 = false ∧
    (shown0 { ctx0 0 [] with sleep := some ⟨1, some 0, 4, false⟩ } true).enabled 0 0 = true ∧
    ((shown0 { ctx0 0 [] with sleep := some ⟨1, none, 4, true⟩ } true).ctxOf q0).occ = true ∧
    (State.reset).enabled 0 0 = false := by
  unfold State.executes; and_intros <;> decide +kernel

/-- ControlInstructionResults: ESIG of source 448 and 447, each special, the last far base. -/
theorem witness_ControlInstructionResults :
    (run0 (ctx0 0 [(1, 448)])).executes q0 4 0 false ∧ (run0 (ctx0 0 [])).executes q0 8 0 false ∧
    (ctx0 0 []).inFlight.any FarOp.isStore = false ∧ (448 : Word).toNat / 512 % 128 = 0 ∧ 448 ≤ (448 : Word).toNat % 512 ∧
    (447 : Word).toNat % 512 < 448 ∧ (15 : Word).toNat = 12 + (3 : Fin 4).val ∧ (11 : Word).toNat = 8 + (3 : Fin 4).val := by
  unfold State.executes; and_intros <;> decide +kernel

/-- EngineSkipsAndFaults: a failed predicate, a bad bit, an access that just fits, one too far and one misaligned; QE_FAULT free and taken. -/
theorem witness_EngineSkipsAndFaults :
    (run0 (ctx0 0x1FF8 [])).running q0 = true ∧ (run0 (ctx0 0x1FF8 [])).pageOf q0 0x1FF8 = .valid ∧ (ctx0 0 []).pred 7 = false ∧
    (ctx0 0 []).pred 0 ≠ false ∧ 0x6000 < 0x5FFD + 4 ∧ 0x5FFC + 4 ≤ 0x6000 ∧ 0x5FF9 % 4 ≠ 0 ∧ (State.reset.gathAt 0).ready = [] ∧
    State.reset.taskOf 0 0 false = none ∧ State.reset.flag (Reg.qeFault 0 0) 31 = false ∧
    (State.reset.wr (Reg.qeFault 0 0) 0x80000001).flag (Reg.qeFault 0 0) 31 = true ∧ wordOpKnown 0xFC000000 = false ∧
    wordOpKnown 0 = true ∧ wordFnKnown 0 = true := by
  and_intros <;> decide +kernel

/-! ### Tasks, events and mailboxes -/

/-- The Spine ready, so that the host reaches the registers. -/
def up : State := { State.reset.wr Reg.sysBoot 0x50000000 with sys := { Sys.reset with inReset := false, spineUp := true } }

/-- GatheringRegisterWrites: the gate, a sleeping-free engine, an idle and a held TSU, a parked gathering and one that may park. -/
theorem witness_GatheringRegisterWrites :
    up.regGate (.engine q0) (Reg.qeCtrl 63 15) true 1 = .ok ∧ (up.ctxOf ⟨63, 15⟩).sleep = none ∧ up.regGate (.engine q0) (Reg.tsuDescBase 63) true 0 = .ok ∧
    up.regGate (.engine q0) (Reg.tsuDescCount 63) true 0 = .ok ∧ up.regGate (.engine q0) (Reg.gathPwr 63) true 1 = .ok ∧
    (up.gathAt 63).settle = [] ∧ { Gath.reset with settle := [⟨1, 0⟩] }.settle ≠ [] ∧ (up.wr (Reg.gathPwr 63) 2).parked 63 = true ∧
    (up.wr (Reg.gathPwr 63) 2).regGate (.engine q0) (Reg.gathPwr 63) true 0 = .ok ∧
    (up.wr (Reg.gathPwr 63) 1).flag (Reg.gathPwr 63) 0 = true ∧ (∀ e : Fin 16, up.enabled 63 e = false) := by
  and_intros <;> decide +kernel

/-- A gathering whose task 5 settles, its descriptor readable. -/
def settling (now : Nat) (d : List Byte) : State :=
  { ssData (tsu0 (ctx0 0 []) { Gath.reset with settle := [⟨5, 0⟩] }) with sysctr := BitVec.ofNat 64 now, ss := SMap.setList (fun _ => 0) [] 160 d }

/-- SettledTasksAreDispatched: one count early and on time; a descriptor that holds and one with a reserved bit; one ready task, a free engine. -/
theorem witness_SettledTasksAreDispatched :
    (settling 999 []).now < 0 + 1000 ∧ 0 + 1000 ≤ (settling 1000 []).now ∧
    ((settling 1000 []).memRead ⟨1, 0⟩ ((settling 1000 []).descAddr 0 5) 24).2.1 = .ok ∧
    leAt ((settling 1000 []).memRead ⟨1, 0⟩ ((settling 1000 []).descAddr 0 5) 24).2.2 0 4 / 2 ^ 17 = 0 ∧
    leAt ((settling 1000 [0, 0, 2]).memRead ⟨1, 0⟩ ((settling 1000 []).descAddr 0 5) 24).2.2 0 4 / 2 ^ 17 ≠ 0 ∧
    (∃ m, m ∈ [(⟨5, 0⟩ : Stamped)] ∧ m.id = (5 : BitVec 16).toNat ∧ m.at_ + 1000 ≤ (settling 1000 []).now) ∧
    ((tsu0 (ctx0 0 []) Gath.reset).memRead ⟨1, 0⟩ ((tsu0 (ctx0 0 []) Gath.reset).descAddr 0 5) 24).2.1 = .domain ∧
    State.reset.parked 0 = false ∧
    (rotFrom 0).find? (fun e => ((State.reset.wr (Reg.qeCtrl 0 0) 1).engFree 0 e)) = some 0 := by
  and_intros <;> decide +kernel

/-- TaskEndWritesDescriptor: a descriptor that can be read and written. -/
theorem witness_TaskEndWritesDescriptor :
    ((settling 0 []).memRead ⟨1, 0⟩ ((settling 0 []).descAddr 0 5 + 20) 12).2.1 = .ok ∧
    ((settling 0 []).memWrite ⟨1, 0⟩ ((settling 0 []).descAddr 0 5 + 24) (leBytes 4 (3 * 2 ^ 30 + 65535) ++ leBytes 4 1)).2 = .ok := by
  and_intros <;> decide +kernel

/-- Source 448 of gathering 0 pending and enabled, its route as given, engine 0 enabled or not. -/
def srcUp (route ctrl : Word) : State :=
  ((((State.reset.wr (Reg.evcEn 0 14) 1).wr (Reg.evcPend 0 14) 1).wr (Reg.evcRoute 0 448) route).wr (Reg.qeCtrl 0 0) ctrl)

/-- SourceIsPresented: not pending; stranded with no engine; presented to engine 0; routed as a task. -/
theorem witness_SourceIsPresented :
    State.reset.evcPending 0 448 = false ∧ (srcUp 0 0).evcPending 0 448 = true ∧ (srcUp 0 0).evcEnabled 0 448 = true ∧
    (srcUp 0 0).moderated 0 448 = false ∧ (srcUp 0 0).undeliverable 0 448 = true ∧ (srcUp 0 0).getF (Reg.evcStrandTo 0) 15 0 ≠ 0 ∧
    (srcUp 1 1).undeliverable 0 448 = false ∧ (srcUp 1 1).routeMode 0 448 = 0 ∧ (srcUp 1 1).flag (Reg.evcRoute 0 448) 28 = false ∧
    (srcUp 1 1).presentee 0 448 = some 0 ∧ (srcUp 0x40000005 1).routeMode 0 448 = 1 ∧
    (srcUp 0x40000005 1).undeliverable 0 448 = false := by
  and_intros <;> decide +kernel

/-- EventTimersAndTakes: a hold-off that runs and one that has ended; a stranded source one count early and on time; the gates. -/
theorem witness_EventTimersAndTakes :
    { State.reset with sysctr := 99 }.now < SMap.get (fun _ => 0) [(0, 100)] 0 ∧ SMap.get (fun _ => 0) [(0, 100)] 0 ≤ { State.reset with sysctr := 100 }.now ∧
    (srcUp 0x10000000 1).modGroup 0 448 = some 0 ∧ State.reset.getF (Reg.evcStrandTo 0) 15 0 = 1000 ∧
    up.regGate (.engine q0) (Reg.evcTake 0 15) false 0 = .ok ∧ up.regGate (.engine q0) (Reg.evcTake 0 15) false 0 = .ok ∧
    up.regGate (.engine q0) (Reg.evcRoute 0 511) true 0 = .ok := by
  and_intros <;> decide +kernel

/-- Channel 31 from engine 0 of gathering 0 to the host. -/
def chan : State := up.wr (Reg.mbxCfg 31) 0x40036001

/-- MailboxesAndDoorbells: the last channel and word; sender, stranger, receiver; empty and full; bell 31. -/
theorem witness_MailboxesAndDoorbells :
    chan.mbxSender 31 = MbxEnd.ofIni (.engine q0) ∧ chan.mbxFull 31 = false ∧ MbxEnd.ofIni .spine ≠ chan.mbxSender 31 ∧
    (chan.wr (Reg.mbxSts 31) 0x80000000).mbxFull 31 = true ∧ chan.regGate (.engine q0) (Reg.mbxData 31 15) true 0 = .ok ∧
    chan.regGate (.engine q0) (Reg.mbxSend 31) true 1 = .ok ∧ chan.regGate .host0 (Reg.mbxData 31 15) false 0 = .ok ∧
    MbxEnd.ofIni .host0 = chan.mbxReceiver 31 ∧ up.regGate .spine (Reg.mbxCfg 31) true 0 = .ok ∧ mbxCfgOk 31 0x40036001 = true ∧
    up.regGate .host0 (Reg.mbxDbi 1) true 0x80000000 = .ok ∧ (0x80000000 : Word).toNat = 2 ^ 31 ∧
    (up.wr (Reg.mbxDbiRoute 63) 0x80D88000).flag (Reg.mbxDbiRoute (32 * 1 + 31)) 31 = true ∧
    up.regGate .spine (Reg.mbxDboSet 1) true 1 = .ok ∧ Ini.isEngineOrSpine .spine = true ∧
    chan.mbxUsed 31 = true ∧ up.mbxUsed 31 = false ∧
    up.regGate .host0 (Reg.mbxDbo 1) true 1 = .ok ∧ up.regGate .spine (Reg.mbxDbo 1) true 1 = .ok := by
  and_intros <;> decide +kernel

/-! ### Memory -/

/-- DomainViolationIsLogged: a vendor granule refuses an owner write, first and again. -/
theorem witness_DomainViolationIsLogged :
    (State.reset.ssWrite ⟨1, 0⟩ ssBase 0 [1]).2 = .domain ∧ (State.reset.refusal ⟨1, 0⟩ true false 0 1).isSome = true ∧
    State.reset.flag Reg.memDvInfo 31 = false ∧ (State.reset.ssWrite ⟨1, 0⟩ ssBase 0 [1]).1.flag Reg.memDvInfo 31 = true := by
  and_intros <;> decide +kernel

/-- MemoryWritesAreReadBack: a write into the first granule of each memory that is answered OK, and canonical memories. -/
theorem witness_MemoryWritesAreReadBack :
    ((ssData State.reset).ssWrite ⟨1, 0⟩ ssBase 0xFFFF [1]).2 = .ok ∧
    (((State.reset.wr (Reg.memDomHbm 0) 0x10003).wr (Reg.hbmPcSts 0) 0x80000000).hbmWrite ⟨1, 0⟩ hbmBase 0 [1]).2 = .ok ∧
    SMap.wf (fun _ => (0 : Byte)) State.reset.ss = true ∧ SMap.wf (fun _ => (none : Option HbmByte)) State.reset.hbm = true := by
  and_intros <;> decide +kernel

/-- RemapAndScrub: a granule being zeroed and one that is not. -/
theorem witness_RemapAndScrub :
    (State.reset.wr (Reg.memDomSs 1023) 0x10).flag (Reg.memDomSs 1023) 4 = true ∧ State.reset.flag (Reg.memDomSs 0) 4 = false ∧
    (1 : Nat) ≠ State.reset.getF (Reg.memDomSs 1023) 23 16 ∧ 1023 * 0x10000 ≤ 0x3FFFFFF ∧ 0x3FFFFFF + 1 ≤ (1023 + 1) * 0x10000 ∧
    errAt [(7, 2)] 7 = 2 ∧ bankSector 0 0 / 32 = 7 / 4 - 1 := by
  and_intros <;> decide +kernel

/-- Pseudo-channel 63 with a write and a read buffered, and a retraining due. -/
def hbm63 (rd : List (Nat × Nat)) (wr : List (Nat × Nat × Nat)) (due : Option Nat) : State :=
  { State.reset with hbmc := [(63, { HbmCtl.reset with reads := rd, writes := wr, due := due })] }

/-- HbmControllerCommands: a write and a read to issue, nref at 8, 16 and outside, retraining due, at its last moment, running. -/
theorem witness_HbmControllerCommands :
    (hbm63 [] [(15, 7, 0)] none).flag (Reg.hbmPcSts 63) 30 = false ∧ (hbm63 [(15, 7)] [] none).hbmAt 63 = { HbmCtl.reset with reads := [(15, 7)] } ∧
    (0x8000 : BitVec 16).getLsbD 15 = true ∧ up.regGate (.engine q0) Reg.hbmCfg true 8 = .ok ∧ (8 : Word).toNat % 32 = 8 ∧ (16 : Word).toNat % 32 = 16 ∧
    (63000000 : Nat) = 64000000 * 0 + 1000000 * 63 + 63000000 % 1000000 ∧ HbmCtl.reset.dueLast ≠ some 63000000 ∧
    ((hbm63 [] [] (some 0)).hbmAt 63).due = some 0 ∧ (∀ k : Fin 64, (hbm63 [] [] (some 0)).flag (Reg.hbmPcSts k) 30 = false) ∧
    ((hbm63 [] [] (some 0)).wr (Reg.couchSheetCtrl 0) 0x80000000).flag (Reg.couchSheetCtrl 0) 31 = true ∧
    (hbm63 [] [] (some 0)).flag (Reg.couchSheetCtrl 0) 31 = false ∧
    ((hbm63 [] [] none).wr (Reg.hbmPcSts 63) 0x40000000).flag (Reg.hbmPcSts 63) 30 = true := by
  and_intros <;> decide +kernel

/-- A descriptor of a check-value unit: kind, length, the byte of blk, fold and poly, the byte of its flags. -/
def cvD (kind len b20 b21 : Byte) : List Byte :=
  ([0, 0, kind <<< 4, 0x10 + (kind >>> 4)] : List Byte) ++ List.replicate 12 0 ++ [len, 0, 0, 0, b20, b21] ++ List.replicate 10 0

/-- Check-value unit 31 with a descriptor at the front of its queue, HBM's first granule readable. -/
def cv31 (d : List Byte) : State :=
  { ((State.reset.wr (Reg.memDomHbm 0) 0x10003).wr (Reg.hbmPcSts 0) 0x80000000) with queues := [(0x9F, [⟨d, false, 0⟩])] }

/-- CheckValueOfOneBlock: a descriptor of 32 bytes, of none, and one with a reserved fold. -/
theorem witness_CheckValueOfOneBlock :
    (cv31 (cvD 1 32 1 1)).queueOf (0x80 + 31) = [⟨cvD 1 32 1 1, false, 0⟩] ∧ (⟨cvD 1 32 1 1, false, 0⟩ : QDesc).kind = 1 ∧
    (⟨cvD 1 32 1 1, false, 0⟩ : QDesc).cpl = false ∧ (⟨cvD 1 32 1 1, false, 0⟩ : QDesc).evt = false ∧
    CvDesc.parse (cvD 1 32 1 1) = some ⟨0, 32, 0, 0, 1, false, true, 0⟩ ∧ 32 ≤ 2 ^ (5 + 0) ∧
    (cv31 []).memWaits ⟨1, 0x90 + 31⟩ 0 32 = false ∧ ((cv31 []).memRead ⟨1, 0x90 + 31⟩ 0 32).2.1 = .ok ∧
    CvDesc.parse (cvD 1 0 1 1) = some ⟨0, 0, 0, 0, 1, false, true, 0⟩ ∧ CvDesc.parse (cvD 1 32 0xC 1) = none ∧
    (cv31 []).flag (Reg.cvuEvt 31) 31 = false := by
  and_intros <;> decide +kernel

/-- UnitQueueRegisters: an idle and a busy unit, the last ring, a kind no unit defines on a couch and a check-value queue. -/
theorem witness_UnitQueueRegisters :
    up.regGate (.engine q0) (Reg.cvuSeq 31 1) true 0 = .ok ∧ up.queueOf (0x80 + 31) = [] ∧ (cv31 (cvD 1 32 1 1)).queueOf (0x80 + 31) ≠ [] ∧
    up.regGate (.engine q0) (ringCtlOf (.ing 15)) true 0 = .ok ∧ kindDefined 0x9F (⟨cvD 9 0 0 0, false, 0⟩ : QDesc).kind = false ∧
    kindDefined 0x00 (⟨cvD 9 0 0 0, false, 0⟩ : QDesc).kind = false := by
  and_intros <;> decide +kernel

/-! ### Commits, registers and pace -/

/-- RegisterWriteByAccessType: a misaligned and an absent offset, a sheet's last register, the last enable word, the violation record. -/
theorem witness_RegisterWriteByAccessType :
    (0x900101 : BitVec 28).toNat % 4 ≠ 0 ∧ RegTable.block? 0x1F00000 = none ∧
    up.regGate (.engine q0) (0x900100 + 0x40 * (3 : Fin 4) + 4 * (7 : Fin 8)) true 1 = .ok ∧ up.regGate (.engine q0) (Reg.evcEn 63 15) true 1 = .ok ∧
    (BitVec.ofNat 28 (Reg.evcEn 63 15)).toNat = Reg.evcEn 63 15 ∧ up.regGate (.engine q0) Reg.memDvInfo true 0x80000000 = .ok := by
  and_intros <;> decide +kernel

/-- CommitWriteArms: the last group, the first outside the range, a reserved bit, armed and unarmed. -/
theorem witness_CommitWriteArms :
    up.regGate (.engine q0) (unitBase .couch) true 3 = .ok ∧ groupInRange .couch 3 = true ∧ groupInRange .couch 4 = false ∧ up.armOf .couch 3 = none ∧
    (up.arm .couch 3 0).armOf .couch 3 ≠ none ∧ (0x10003 : Word).toNat / 2 ^ 16 % 256 ≠ 0 ∧ groupInRange .tm 0x8029 = true ∧
    groupInRange .tm 0x802A = false := by
  and_intros <;> decide +kernel

/-- A sheet set that no check passes: enabled with no size. -/
def badSheet : State := (up.arm .couch 0 0).wrSh (Reg.couchSheetCtrl 0) 0x80940000

/-- CommitPointLatchesOrRefuses: unarmed, accepted, refused; idle groups and a running sheet. -/
theorem witness_CommitPointLatchesOrRefuses :
    up.armOf .couch 0 = none ∧ (up.arm .couch 0 0).armOf .couch 0 = some ⟨.couch, 0, 0, false, 0, up.tbTimes⟩ ∧
    (up.arm .couch 0 0).checkOf ((up.arm .couch 0 0).viewOf [(.couch, 0)]) .couch 0 = 0 ∧
    badSheet.checkOf (badSheet.viewOf [(.couch, 0)]) .couch 0 ≠ 0 ∧ up.flag (Reg.couchSheetCtrl 0) 31 = false ∧
    (up.wr (Reg.couchSheetCtrl 0) 0x80000000).flag (Reg.couchSheetCtrl 0) 31 = true := by
  and_intros <;> decide +kernel

/-- Couch group 0 and another group armed under link 1. -/
def linked (w : CommitUnit) (s : State) : State := { s with armed := [⟨.couch, 0, 1, false, 0, []⟩, ⟨w, 0, 1, false, 0, []⟩] }

/-- LinkIsAllOrNothing: groups of two commit points, a refused one beside an accepted one, both accepted and one late. -/
theorem witness_LinkIsAllOrNothing :
    (linked .time up).pointOf .couch 0 ≠ (linked .time up).pointOf .time 0 ∧ (linked .imp up).pointOf .couch 0 = (linked .imp up).pointOf .imp 0 ∧
    (linked .imp badSheet).checkOf ((linked .imp badSheet).viewOf [(.couch, 0), (.imp, 0)]) .couch 0 ≠ 0 ∧
    (linked .imp badSheet).checkOf ((linked .imp badSheet).viewOf [(.couch, 0), (.imp, 0)]) .imp 0 = 0 ∧
    (linked .imp up).checkOf ((linked .imp up).viewOf [(.couch, 0), (.imp, 0)]) .imp 0 = 0 ∧
    0 + 2000 ≤ ({ up with sysctr := 2000 } : State).now ∧ ({ up with sysctr := 2000 } : State).now < 1 + 2000 := by
  and_intros <;> decide +kernel

/-- Steering at 700 mV in the reset window. -/
def steered (mv : Word) : State := (up.wr Reg.avsSts mv).wr Reg.avsThr 0x230F

/-- SteeringAndLadder: the window's ends, no slack, negative slack, 64 ticks and 63, three bad ticks; each end of the ladder, 2 s to the count. -/
theorem witness_SteeringAndLadder :
    (steered 700).getF Reg.avsSts 15 0 = 700 ∧ (steered 700).getF Reg.avsCfg 15 0 = 550 ∧ (steered 700).getF Reg.avsCfg 31 16 = 900 ∧
    (steered 900).getF Reg.avsSts 15 0 = 900 ∧ (steered 700).flag Reg.avsSts 31 = false ∧ (steered 700).sys.spineUp = true ∧
    (steered 700).getF Reg.avsThr 7 0 = 15 ∧ tickSlack ⟨[], [], [], some 700, false⟩ = 0 ∧
    tickSlack ⟨[], [], [0xFFFF], some 700, false⟩ = -1 ∧ (some 700 : Option (BitVec 16)) = some (BitVec.ofNat 16 700) ∧
    up.sys.spineTick + 1000000 ≤ { steered 700 with sysctr := 1000000 }.now ∧ { steered 700 with sysctr := 999999 }.now < up.sys.spineTick + 1000000 ∧
    up.getF Reg.ladderSts 3 0 = 0 ∧ (up.wr Reg.ladderSts 5).getF Reg.ladderSts 3 0 = 5 ∧ up.sys.slackLow = false ∧
    up.sys.slackOkSince + 2000000000 ≤ { up with sysctr := 2000000000 }.now ∧ { up with sysctr := 1999999999 }.now < up.sys.slackOkSince + 2000000000 := by
  and_intros <;> decide +kernel

/-! ### Folio coding -/

/-- A residual of one block with a single level in component 0. -/
def res1 : ResSyn := ⟨some 63, none, [[some [1], none, none]], none⟩

/-- The header of a one-leaf segment of depth 8. -/
def hdr1 : SegHdr :=
  { w := 1, h := 1, depthCode := 0, pq := false, ycocg := false, precision := false, key := false, keepLt := false, refresh := false,
    regions := true, qp := 22, pin := 0, unpin := 0, refreshN := 0, band := 0 }

/-- RiceCodeRoundTrip and LeafCodeRoundTrip: the greatest value of the code, and a leaf of every mode. -/
theorem witness_LeafCodeRoundTrip :
    24 ≤ 24 ∧ 2 ^ 31 - 1 < 2 ^ 31 ∧ (LeafSyn.skip 4).valid hdr1 3 (CodeSt.init 8 22) ∧ (LeafSyn.inter 2 (16384, -16384) res1).valid hdr1 2 (CodeSt.init 8 22) ∧
    (LeafSyn.intra 9 res1).valid hdr1 1 (CodeSt.init 8 22) ∧ (LeafSyn.fill [0, 255, 1]).valid hdr1 1 (CodeSt.init 8 22) ∧
    (LeafSyn.raw (List.replicate 768 255)).valid hdr1 1 (CodeSt.init 8 22) := by
  have hr : res1.valid false := by
    refine ⟨?_, ?_, rfl, ?_, fun _ => rfl, ?_⟩
    · intro q h; cases h; decide
    · intro fs h; cases h
    · intro p hp ls hl
      simp only [res1, blockList, List.zip_cons_cons, List.zip_nil_left, List.mem_singleton] at hp
      subst hp
      simp only [List.mem_cons, Option.some.injEq, reduceCtorEq, List.not_mem_nil, or_false] at hl
      subst hl
      decide
    · intro cs h; cases h
  refine ⟨by decide, by decide, ⟨rfl, by decide⟩, ⟨rfl, by decide, by decide, by decide, by decide, by decide, by decide, hr⟩, ⟨by decide, hr⟩,
    ⟨rfl, by decide⟩, ⟨List.length_replicate, ?_⟩⟩
  intro v h
  obtain ⟨-, rfl⟩ := List.mem_replicate.1 h
  decide


/-! ### Receive sessions, outputs, couch -/

/-- Write a list of registers. -/
def regs (s : State) (l : List (Nat × Word)) : State := l.foldl (fun s p => s.wr p.1 p.2) s

/-- Session 63 with a kind, merge set, a 16 × 16 raster of 8-bit 4:4:4 in one slot, in a state, with the record x. -/
def sess63 (kind st : Nat) (x : Sess) : State :=
  { regs up [(Reg.ingSessCfg 63, BitVec.ofNat 32 (2 ^ 31 + kind * 2 ^ 28 + 2 ^ 27 + 0x100)), (Reg.ingSessSize 63, 0x00100010),
      (Reg.ingSessFmt 63, 0x00091000), (Reg.ingSessPitch 63, 0x00020001), (Reg.ingSessSts 63, BitVec.ofNat 32 (st * 2 ^ 29))] with
    sess := [(63, x)] }

/-- An ST 2110-20 packet with sequence number 8 of frame 1: three bytes of line 15. -/
def rtp8 : RtpPacket :=
  { seq := 8, ts := 1, marker := false, pieces := [⟨15, false, 0, [1, 2, 3]⟩], payload := [], auEnd := false }

/-- ReceivedDataIsWritten: off, a second leg with merge, a sequence number seen before and the next one; the last line of a frame that is covered;
a packet waited for; silence just short of the timeout and at it. -/
theorem witness_ReceivedDataIsWritten :
    (sessCfg State.reset.rd 63).en = false ∧ (sessCfg (sess63 0 2 Sess.reset).rd 63).en = true ∧ (sessCfg (sess63 0 2 Sess.reset).rd 63).merge = true ∧
    Sess.fresh { Sess.reset with top := some 8 } 8 = false ∧ (sess63 0 2 Sess.reset).sessState 63 = 2 ∧
    Sess.slotOf { Sess.reset with slots := [(0, { Slot.reset with ts := 1 })] } 1 = some 0 ∧
    ((sess63 0 2 { Sess.reset with slot := some 0, slots := [(0, { Slot.reset with w := 16, h := 16, pk := [(1, 0, 768)] })] }).lineCovered 63 0 15 = true) ∧
    [((8 : Word), 0)].find? (fun m => m.1 == 8) = some (8, 0) ∧ (sessCfg (sess63 0 2 Sess.reset).rd 63).skew = 0 ∧
    (sessCfg ((sess63 0 2 Sess.reset).wr (Reg.ingSessTime 63) 0x000A00C8).rd 63).timeout = 200 ∧ 0 + 200 * 100000 ≤ 20000000 ∧
    pieceOutside 16 16 ((sessCfg (sess63 0 2 Sess.reset).rd 63).rowBytes 16) ⟨15, false, 0, [1, 2, 3]⟩ = false ∧ rtp8.marker = false ∧
    (sess63 3 2 Sess.reset).sessRaster 63 = (16, 16) ∧
    (sess63 3 1 Sess.reset).sessState 63 = 1 ∧ (sessCfg (sess63 3 2 Sess.reset).rd 63).kind = 3 := by
  and_intros <;> decide +kernel

/-- A clip-feed descriptor for session 48, of n units from the far address a. -/
def clipD (n : Byte) : List Byte := ([0, 0, 0x10, 0x10, 0, 0, 0, 0] : List Byte) ++ [0, 0, 0, 0, 0, 0, 0, 48] ++ [0, 0, 0, 0, n, 0, 0, 0] ++ List.replicate 8 0

/-- Session 48 a stored clip, a descriptor in front of its engine's queue. -/
def clip48 (d : List Byte) : State :=
  { (up.wr (Reg.ingSessCfg 48) 0xE0000100) with queues := [(0x30, [⟨d, false, 0⟩])] }

/-- ClipsAndOutputs: a feed that is malformed (its session off) and one that is not; the gate of the last output, a sheet of code 0 refused. -/
theorem witness_ClipsAndOutputs :
    (clip48 (clipD 1)).firstWaiting 0x30 = some (0, ⟨clipD 1, false, 0⟩) ∧ (⟨clipD 1, false, 0⟩ : QDesc).kind = 1 ∧
    ((clip48 (clipD 1)).queueOf 0x30).any (fun y => y.started) = false ∧ byteAt (clipD 1) 15 % 64 = 48 ∧
    (clip48 (clipD 1)).clipBad 0 ⟨clipD 1, false, 0⟩ = false ∧ up.clipBad 0 ⟨clipD 1, false, 0⟩ = true ∧ leAt (clipD 1) 20 4 ≠ 0 ∧
    up.regGate (.engine q0) (Reg.ingOutCfg 7) true 0x80000000 = .ok ∧ up.flag (Reg.ingOutCfg 7) 31 = false ∧ up.outCheck 7 0x80000000 ≠ 0 ∧
    up.flag (Reg.ingOutSts 7) 23 = false ∧ (frameStart 7 1 : Int) < 2 * ((frameStart 7 1 : Nat) : Int) ∧ (up.wr (Reg.ingOutSts 7) 0x800000).flag (Reg.ingOutSts 7) 23 = true := by
  and_intros <;> decide +kernel

/-- Sheet 3 running at 50 Hz, 64 × 64, its picture n begun, its slices composed as listed. -/
def sheet3 (n : Nat) (begun : Bool) (c : SMap Nat) : State :=
  { regs up [(Reg.couchSheetCtrl 3, 0x80740000), (Reg.couchSheetSize 3, 0x00400040)] with
    sysctr := 20000000, tb := [(0, { TbSt.reset with time := 20000000 * 65536 })], sheet := [(3, { SheetSt.reset with picture := n, begun := begun, composed := c })] }

/-- CouchComposesPictures: a grid instant ahead and one already begun; a band of the sheet and one outside it; a post of buffer 1 and of buffer 2. -/
theorem witness_CouchComposesPictures :
    ((sheet3 0 false []).sheetAt 3).seen <
      gridIndex (sheetCfg (sheet3 0 false []).rd 3).rate ((sheet3 0 false []).timeOf (sheetCfg (sheet3 0 false []).rd 3).tb) ∧
    gridIndex (sheetCfg up.rd 3).rate (up.timeOf 0) ≤ (up.sheetAt 3).seen ∧
    (sheetCfg (sheet3 0 false []).rd 3).en = true ∧ (sheet3 0 false []).armed = [] ∧ (sheet3 0 false []).getF Reg.ladderSts 3 0 < 4 ∧
    (sheetCfg State.reset.rd 3).en = false ∧ ((sheet3 0 true []).sheetAt 3).begun = true ∧
    bandLo 3 64 0 < bandHi 3 64 0 ∧ 0 < (sheetCfg (sheet3 0 true []).rd 3).slices ∧
    SMap.get (fun _ => 0) ((sheet3 0 true []).sheetAt 3).composed 0 = 0 ∧ (sheetCfg (sheet3 0 true []).rd 3).prec = false ∧
    up.regGate (.clasp 2) (Reg.couchCmSts 14) true 0x80000000 = .ok := by
  and_intros <;> decide +kernel

/-! ### Imposition, press, back channel -/

/-- ImpositionFormsAndSends: the last entry of the table; an owner write of a plain and of a safety entry; a stopped and a running sheet; a bad
entry; a channel that sends nothing. -/
theorem witness_ImpositionFormsAndSends :
    589823 < 589824 ∧ tableInitiator (Tx.ofIni (.engine q0)) = true ∧ (Tx.ofIni (.engine q0)).tag ≠ 2 ∧ State.reset.entrySafety 589823 = false ∧
    entRegion 0 = 0 ∧ entRegion 0x100000000000 ≠ 0 ∧ SMap.find? State.reset.staged 589823 = none ∧ State.reset.flag (Reg.couchSheetCtrl 0) 31 = false ∧
    entBad State.reset.rd 0 = false ∧ entBad State.reset.rd 0x8000000000000000 = true ∧
    ((sheet3 0 false []).wr (Reg.couchSheetCtrl 0) 0x80740000).flag (Reg.couchSheetCtrl 0) 31 = true ∧ State.reset.staged.length < 16384 ∧
    State.reset.chSends 511 = false ∧ (State.reset.wr (Reg.wchCtrl 511) 0x80000000).chSends 511 = true ∧ State.reset.rxState 8191 ≠ 1 := by
  and_intros <;> decide +kernel

/-- Context 63 enabled with a kind. -/
def ctx63 (kind : Nat) : State := up.wr (Reg.pressCtxCtrl 63) (BitVec.ofNat 32 (2 ^ 31 + kind * 2 ^ 28))

/-- A KEY descriptor for one folio of context 63. -/
def keyD (c kind : Byte) : List Byte := ([0, 0, kind <<< 4, 0x10, 0, 0, 0, 0, c, 0, 0, 0, 1, 0] : List Byte) ++ List.replicate 18 0

/-- PressCodesAndDecodes: no row waiting; a key request that is taken and one for a context that does not exist; a source at rest; no portion. -/
theorem witness_PressCodesAndDecodes :
    (State.reset.rxAt 8191).rows = [] ∧ (ctx63 0).folioCtx = some 63 ∧
    ({ ctx63 0 with queues := [(0x1F, [⟨keyD 63 1, false, 0⟩])] }).firstWaiting 0x1F = some (0, ⟨keyD 63 1, false, 0⟩) ∧
    (⟨keyD 63 1, false, 0⟩ : QDesc).kind = 1 ∧ zeroBytes (keyD 63 1) 14 18 = true ∧ leAt (keyD 63 1) 10 2 + 1 ≤ 8192 ∧
    (ctxCfg (ctx63 0).rd 63).en = true ∧ (ctxCfg (ctx63 0).rd 63).kind = 0 ∧ 64 ≤ byteAt (keyD 64 1) 8 ∧ ((ctx63 0).sheetAt 0).begun = false ∧
    (ctx63 0).portionsAt 15 = [] ∧ ({ ctx63 2 with portions := [(15, [⟨63, false, 0, 0, 0⟩])] }).nextPortion 15 = some ⟨63, false, 0, 0, 0⟩ ∧
    (ctx63 0).nextPortion 15 = none ∧ (ctxCfg (ctx63 3).rd 63).kind = 3 ∧ (ctxCfg (ctx63 1).rd 63).kind = 1 := by
  and_intros <;> decide +kernel

/-- A packet of receiver 0 of channel 511 as it arrives: sequence 1 of epoch 0 under key 0, its data and tag as a standard's operation opens them. -/
def upF (ptype : Byte) : UpFrame :=
  { lane := 0, header := ([0, 0, 1, 0xFF, 0, ptype, 0, 0, 0, 0, 0, 0, 0, 0, 0, 1] : List Byte) ++ List.replicate 16 0, body := List.replicate 16 0 }

/-- Channel 511 on trunk-free lane 0, its receiver 0 on, in the receiver state st. -/
def chan511 (st : Nat) : State :=
  regs up [(Reg.wchCtrl 511, 0x80000000), (Reg.wchRx 511 0, 0x8C000000), (Reg.wchRxSts 511 0, BitVec.ofNat 32 (st * 2 ^ 29))]

/-- A packet whose data opens is accepted (what opens is the standard's, and opaque). -/
theorem accepted_511 (ptype : Byte) (data : List Byte) (hg : (chan511 0).upGood (messageOf (upF ptype) []) = true)
    (h : (chan511 0).upOpen (upF ptype) = some data) : (chan511 0).accepts (upF ptype) = some (messageOf (upF ptype) data) := by
  simp [State.accepts, hg, h]

/-- BackChannelMessages: a packet that is not accepted and what one that is needs; a first JOIN with a common version and encoding; STATUS late and not. -/
theorem witness_BackChannelMessages :
    State.reset.accepts (upF 2) = none ∧ (chan511 0).upGood (messageOf (upF 2) []) = true ∧ (chan511 0).upGood (messageOf (upF 3) []) = true ∧
    ((chan511 0).upKey (messageOf (upF 2) [])).isSome = true ∧ upFolio (messageOf (upF 2) [1]) = 8176 ∧ upCode (messageOf (upF 2) [1]) = 1 ∧
    (messageOf (upF 2) []).ptype = 2 ∧
    ((chan511 0).rxAt 8176).lastJoin = none ∧ Nat.land 7 (2 ^ (chan511 0).getF (Reg.wchRx 511 0) 27 26 - 1) ≠ 0 ∧
    ((1 : Nat).testBit (if (chan511 0).getF (Reg.couchSheetCtrl 0) 26 24 = 1 then 1 else 0) = true) ∧
    (chan511 1).rxState 8176 = 1 ∧ 0 + 3000000000 ≤ { chan511 1 with sysctr := 3000000000 }.now ∧
    { chan511 1 with sysctr := 2999999999 }.now < 0 + 3000000000 ∧ upCode (messageOf (upF 2) [0x10]) = 0x10 ∧
    (up.wr Reg.impEcho 0x80000000).flag Reg.impEcho 31 = true ∧ up.flag Reg.impEcho 31 = false := by
  and_intros <;> decide +kernel


/-! ### Network, lanes, time, audio -/

/-- Port m runs with its link up and an IPv4 address. -/
def port (m : Nat) : State :=
  regs up [(Reg.laneRefSts, 0x7F), (Reg.macCtrl m, 0xC0000000), (Reg.macSts m, 0xC0000000), (Reg.macIp4 m, 0x0A000001)]

/-- A frame of EtherType 0x88B5. -/
def frame88B5 : List Byte := [1, 2, 3, 4, 5, 6, 7, 8, 9, 10, 11, 12, 0x88, 0xB5, 0, 0]

/-- PortsReceiveFrames: settings that agree and settings that do not; a port that does not run and one that does; a frame that is matched by the last
entry and one that none matches; an entry that is on. -/
theorem witness_PortsReceiveFrames :
    up.regGate (.engine q0) (Reg.macCtrl 39) true 0x80000000 = .ok ∧ up.flag (Reg.macCtrl 39) 31 = false ∧ up.portWrong 39 0x80000000 = false ∧
    up.portWrong 39 0xC0000000 = true ∧ up.portRuns 41 = false ∧ (port 41).portRuns 41 = true ∧ (port 41).flag (Reg.macSts 41) 31 = true ∧
    frame88B5.length + 4 ≤ (port 41).frameLimit 41 ∧ (port 41).secOn 41 = false ∧ (port 41).prpOn 41 = false ∧ (rxHdr frame88B5).etype = 0x88B5 ∧
    (port 41).folioIn 41 (rxHdr frame88B5) = none ∧ (rxHdr frame88B5).ptp = none ∧
    (regs (port 0) [(Reg.tmClsCtrl 511, 0xC000003F), (Reg.tmClsKey 511, 0x88B50000)]).clsMatch 511 0 (rxHdr frame88B5) = true ∧
    (port 0).clsMatch 511 0 (rxHdr frame88B5) = false ∧ (port 41).rd (Reg.macIp4 41) ≠ 0 ∧
    (rxHdr ([1, 2, 3, 4, 5, 6, 7, 8, 9, 10, 11, 12, 0x88, 0x08, 0, 0] : List Byte)).etype = 0x8808 ∧ (up.polAt 511).refills = 0 ∧
    0 < { up with sysctr := 1000 }.now / 1000 ∧ (rxHdr ([1, 2, 3, 4, 5, 6, 7, 8, 9, 10, 11, 12, 0x88, 0x8E, 0, 0] : List Byte)).etype = 0x888E ∧
    beBytes 16 (beAt ((port 41).portLinkLocal 41) 0 16) = (port 41).portLinkLocal 41 ∧
    up.regGate (.engine q0) (Reg.tmClsCtrl 511 + 4 * 15) true 0x80000000 = .ok ∧ (up.wr (Reg.tmClsCtrl 511) 0x80000000).flag (Reg.tmClsCtrl 511) 31 = true := by
  and_intros <;> decide +kernel

/-- A packet of queue q for port 0. -/
def pkt (q : Nat) (folio : Option Nat) : Pkt :=
  { queue := q, dests := [(0, ⟨3, 0, 0, none, [], 0, 0⟩)], payload := [1], folio := folio, deadline := none }

/-- A FRAME_SEND descriptor of len bytes for port m. -/
def frameD (m len : Byte) : List Byte := ([0, 0, 0x10, 0x10] : List Byte) ++ List.replicate 10 0 ++ [len, 0, m] ++ List.replicate 15 0

/-- A frame in port 0's FIFO, in class 7. -/
def fifo0 : State := (port 0).setPort 0 { PortSt.reset with fifo := [⟨7, 0, none, none, frame88B5, Stamp.none⟩] }

/-- PortsTransmitFrames: nodes that hold nothing, a packet that may go, a Folio packet of a channel that sends and of one that does not; a frame to
send; PRP; a gate list running and one to start; a FRAME_SEND descriptor with and without a port; a flow whose settings are wrong. -/
theorem witness_PortsTransmitFrames :
    headPkt (up.nodeAt 1023) = none ∧ headPkt [pkt 1 none, pkt 0 none] = some (pkt 0 none, [pkt 1 none]) ∧ up.mayRelease 1023 0 = true ∧
    up.chSends 511 = false ∧ (chan511 0).chSends 511 = true ∧ (up.shAt 0x54F).old = none ∧ (up.shAt 0x54F).refills < { up with sysctr := 1000 }.now / 1000 ∧ up.armed = [] ∧ up.sys.prpLast = none ∧
    (State.chAt { chan511 0 with ch := [(511, ⟨some 1, none, true, []⟩)] } 511).keyEpoch = some (((chan511 0).getF (Reg.wchEpoch 511) 15 0 + 1) % 65536) ∧ up.choose 41 = none ∧
    ((fifo0.choose 0).map (fun r => r.1.bytes)) = some frame88B5 ∧ fifo0.secOn 0 = false ∧ up.regGate (.engine q0) (Reg.macSecCfg 41) true 0 = .ok ∧
    (regs up [(Reg.macCtrl 40, 0xC1000000), (Reg.macSts 40, 0x40000000)]).portRuns 40 = true ∧ up.gateRuns 41 = none ∧
    ((up.wr (Reg.tmGateSts 41) 0x80000000).gateRuns 41).isSome = true ∧
    ({ up with queues := [(0x40, [⟨frameD 41 16, false, 0⟩])] }).firstWaiting 0x40 = some (0, ⟨frameD 41 16, false, 0⟩) ∧
    (⟨frameD 41 16, false, 0⟩ : QDesc).kind = 1 ∧ byteAt (frameD 41 16) 16 = 41 ∧ leAt (frameD 41 16) 14 2 = 16 ∧ byteAt (frameD 42 16) 16 = 42 ∧
    zeroBytes (frameD 41 16) 20 12 = true ∧ up.regGate (.engine q0) (Reg.tmFlowCtrl 15) true 0x80000000 = .ok ∧ up.flowWrong 15 0x80000000 = true ∧
    (up.flowAt 15).aus = [] ∧ (up.wr (Reg.tmFlowCtrl 15) 0x80000000).roomFor 0 [pkt 2 none] = true := by
  and_intros <;> decide +kernel

/-- A flow whose settings agree: press context 63 a programme encoder, port 0 running, its PIDs the least and the greatest allowed. -/
def flowUp : State :=
  regs (port 0) [(Reg.pressCtxCtrl 63, 0xA0000000), (Reg.tmFlowPid 15, 0x00101FFE), (Reg.tmFlowAPort 15, 0x13881388)]

/-- PortsTransmitFrames: a flow that may be enabled. -/
theorem witness_flow : flowUp.flowWrong 15 0x8000FC00 = false := by decide +kernel

/-- LanesAndPatterns: a reference that is there and one that is not; a lane in use and one that is not; a pattern to send, a checker that is locked. -/
theorem witness_LanesAndPatterns :
    up.flag Reg.laneRefSts 6 = false ∧ (port 0).flag Reg.laneRefSts 6 = true ∧ laneRef 41 < 7 ∧
    up.regGate (.engine q0) (Reg.laneCtrl 57) true 0 = .ok ∧ up.laneUsed 41 = false ∧ (port 41).laneUsed 41 = true ∧ up.laneUsed 49 = false ∧
    up.regGate (.engine q0) (Reg.laneTx 41) true 0 = .ok ∧ up.regGate (.engine q0) (Reg.laneRx 41) true 0 = .ok ∧
    up.regGate (.engine q0) (Reg.lanePrbs 49) true 0xC0000000 = .ok ∧ up.flag (Reg.lanePrbs 49) 30 = false ∧ fld 0x90000000 28 26 < 5 ∧
    SMap.find? up.sys.refLost 6 = none ∧ (prbsTaps 4).1 ≤ 31 ∧ prbsLive 4 1 = true ∧ prbsLive 4 0 = false ∧ up.getF (Reg.laneCtrl 49) 3 2 ≠ 1 ∧
    (List.replicate 64 true).count true = 64 ∧
    (up.wr (Reg.laneSts 49) 0x40000000).flag (Reg.laneSts 49) 30 = true ∧ up.flag (Reg.laneSts 49) 30 = false := by
  and_intros <;> decide +kernel

/-- Time base 7 takes samples of PTP, free running. -/
def tb7 (src : Nat) (x : TbSt) : State :=
  { regs up [(Reg.tbCtrl 7, BitVec.ofNat 32 (2 ^ 31 + src * 2 ^ 29)), (Reg.tbSts 7, 0x40000000), (Reg.tbKp 7, 0x1000), (Reg.tbKi 7, 0x100),
      (Reg.tbLimit 7, 200)] with tb := [(7, x)] }

/-- An OFFSET descriptor for time base t. -/
def offsetD (t : Byte) : List Byte := ([0, 0, 0x10, 0x10, 0, 0, 0, 0, t] : List Byte) ++ List.replicate 23 0

/-- TimeBasesFollowSamples: a base that is off and one that samples; fifteen good samples behind it; silence; REF_SYS lost; each input. -/
theorem witness_TimeBasesFollowSamples :
    up.tbOn 7 = false ∧ (tb7 1 TbSt.reset).tbOn 7 = true ∧ (tb7 1 TbSt.reset).getF (Reg.tbCtrl 7) 30 29 ≠ 0 ∧
    (tb7 1 TbSt.reset).sys.refSysLostAt = none ∧ (tb7 1 TbSt.reset).getF (Reg.tbLimit 7) 31 16 = 0 ∧ (tb7 1 TbSt.reset).tbState 7 = 2 ∧
    15 ≤ ({ TbSt.reset with good := 15 } : TbSt).good ∧ (0 : Int).natAbs ≤ 50 * 65536 ∧
    ({ tb7 1 TbSt.reset with sysctr := 2000000000 } : State).now = 2000000000 ∧ up.regGate (.engine q0) (Reg.tbSnap 7) true 1 = .ok ∧
    ({ up with queues := [(0x50, [⟨offsetD 7, false, 0⟩])] }).firstWaiting 0x50 = some (0, ⟨offsetD 7, false, 0⟩) ∧
    (⟨offsetD 7, false, 0⟩ : QDesc).kind = 1 ∧ zeroBytes (offsetD 7) 9 7 = true ∧ zeroBytes (offsetD 7) 24 8 = true ∧ byteAt (offsetD 8) 8 = 8 ∧
    (tb7 2 TbSt.reset).takesSamples 7 2 = true ∧ (tb7 1 TbSt.reset).takesSamples 7 2 = false ∧ up.regGate .spine Reg.sysCtrLo false 0 = .ok ∧
    (up.wr Reg.ppsInCfg 0x80000007).flag Reg.ppsInCfg 31 = true ∧ up.takesSamples 7 3 = false ∧
    fld (0x80000001 : Word) 15 0 ≠ 0 ∧ ((up.timeOf 0 : Int) - (0 : Word).toInt * 65536) % (secT : Nat) < 65569 ∧
    ((tb7 1 TbSt.reset).wr Reg.ppsOutCfg 0xF0000001).tbOn (fld 0xF0000001 30 28) = true ∧
    up.regGate (.engine q0) (Reg.timePortQual 41) true 1 = .ok ∧ up.qualified 41 = false := by
  and_intros <;> decide +kernel

/-- Port 41 running PTP in a role and a profile of domain 5, in the exchange state x. -/
def ptp41 (role pf : Nat) (x : TpSt) : State :=
  { (port 41).wr (Reg.timePortCfg 41) (BitVec.ofNat 32 (role * 2 ^ 30 + pf * 2 ^ 28 + 0x500)) with tp := [(41, x)] }

/-- A PTP message of domain 5. -/
def msg (two : Bool) (ans : BitVec 80) : PtpMsg :=
  { source := 1, seqId := 9, domain := 5, crossing := 0, carried := 0, correction := 0, twoStep := two, answers := ans, bytes := [] }

/-- PtpExchanges: a port of each role and profile, waiting for each answer; a general message; a TIME_ECHO refused and one taken. -/
theorem witness_PtpExchanges :
    (ptp41 1 0 TpSt.reset).portRuns 41 = true ∧ (ptp41 1 0 TpSt.reset).ptpRole 41 = 1 ∧ (ptp41 2 1 TpSt.reset).ptpRole 41 = 2 ∧
    (ptp41 3 0 TpSt.reset).ptpRole 41 = 3 ∧ up.ptpRole 41 = 0 ∧ (ptp41 2 1 TpSt.reset).getF (Reg.timePortCfg 41) 29 28 = 1 ∧
    (ptp41 2 0 TpSt.reset).ptpHears 41 (msg true 0) = true ∧ (ptp41 2 0 TpSt.reset).qualified 41 = false ∧
    ((ptp41 2 0 { TpSt.reset with sync := some (1, 9, 5, 0) }).tpAt 41).sync = some ((msg true 0).source, (msg true 0).seqId.toNat, 5, 0) ∧
    (msg false ((ptp41 2 0 TpSt.reset).portIdentity 41)).answers = (ptp41 2 0 TpSt.reset).portIdentity 41 ∧
    (State.reset).accepts (upF 2) = none ∧ upCode (messageOf (upF 2) [5]) = 5 ∧ (ptp41 1 0 { TpSt.reset with syncAt := some 0 }).now < 0 + intervalNs 0 ∧
    0 + intervalNs 0xF9 ≤ { ptp41 1 0 { TpSt.reset with syncAt := some 0 } with sysctr := 7812500 }.now ∧
    (((chan511 0).noteSeq (messageOf (upF 2) [5])).turnEpoch 511).chSends 511 = true ∧ 64 ≤ ((List.replicate 64 0).filter (fun t => decide (0 < t + 1000000000))).length := by
  and_intros <;> decide +kernel

/-- A MUTE descriptor for group g. -/
def muteD (g : Byte) : List Byte := ([0, 0, 0x10, 0x10, 0, 0, 0, 0, g, 1] : List Byte) ++ List.replicate 22 0

/-- Group 15 on at 48 kHz with two channels of a serial port, in the record x. -/
def grp15 (x : GrpSt) : State := { regs up [(Reg.audGrpCfg 15, 0x80000800), (Reg.audGrpOut 15, 0)] with grp := [(15, x)] }

/-- AudioBlocks: an armed group and a stopped clock; a serial port that is off, on and locked; a receiver with a good and with a bad block; a pair
that has been quiet; a group off, at its start and due; a MUTE for a group and for none; an output that is off. -/
theorem witness_AudioBlocks :
    ((up.arm .aud 0x3F 0).armOf .aud 0x3F).isSome = true ∧ ((up.arm .aud 0x3F 0).armOf .aud 0x3F).map (fun a => a.link) = some 0 ∧
    (up.audClock 0x18).1 + 128 * 1000000000 / max 1 (up.audClock 0x18).2 ≤ { up with sysctr := 2666666 }.now ∧
    (regs up [(Reg.audSpSts 15, 0xC0000000)]).flag (Reg.audSpSts 15) 30 = true ∧ up.flag (Reg.audSpSts 15) 31 = false ∧
    (regs up [(Reg.audArCfg 3, 0x80000000), (Reg.audArSts 3, 0x80000000)]).flag (Reg.audArSts 3) 31 = true ∧
    (up.arm .aud 0x2F 0).audBoundary 0x2F = true ∧ badStatus (List.replicate 24 0) = false ∧ badStatus (1 :: List.replicate 23 0) = true ∧
    (List.replicate 24 (2 : Byte) |>.getD 0 0).getLsbD 1 = true ∧ GrpSt.reset.coded.contains 7 = false ∧
    4096 ≤ SMap.get (fun _ => 0) ((grp15 { GrpSt.reset with nonaudio := [7], quiet := [(7, 4096)] }).grpAt 15).quiet 7 ∧
    up.grpOn 15 = false ∧ (grp15 GrpSt.reset).grpOn 15 = true ∧ ((grp15 GrpSt.reset).grpAt 15).blk = none ∧
    (grp15 GrpSt.reset).flag (Reg.audGrpOut 15) 31 = false ∧
    (⟨muteD 15, false, 0⟩ : QDesc).kind = 1 ∧ zeroBytes (muteD 15) 10 22 = true ∧ byteAt (muteD 16) 8 = 16 ∧ byteAt (muteD 15) 9 < 2 ∧
    up.flag (Reg.audOutCfg 15) 31 = false := by
  and_intros <;> decide +kernel

/-! ### Clasp, host interface, boot and twin -/

/-- Clasp ready with an unsigned command of code c and a body of n zero bytes in the secure window, its trigger waiting. -/
def clasp32 (c n : Nat) : State :=
  { regs up [(Reg.clsSts, 0x20000000), (Reg.mbxData 32 0, BitVec.ofNat 32 (32 + n)), (Reg.mbxSts 32, 0x80000000),
      (sideStage .pf1, BitVec.ofNat 32 (0xFF00 + c + n * 0x10000))] with clasp := { Clasp.reset with trig := [32] } }

/-- The trigger words 1-15 of a state. -/
def restZero (s : State) : Bool := (List.range 15).all (fun k => s.rd (Reg.mbxData 32 (k + 1)) == 0)

/-- ClaspChecksCommands: a trigger of a side that is ready and of one that is not; an envelope that is malformed and one that passes. -/
theorem witness_ClaspChecksCommands :
    up.claspReady .pf1 = false ∧ (clasp32 0x31 4).claspReady .pf1 = true ∧ ((clasp32 0x31 5).envelope .pf1).malformed 37 true = true ∧
    ((clasp32 1 48).envelope .pf1).malformed 80 true = false ∧ ((clasp32 1 48).envelope .pf1).signer = 0xFF ∧ ((clasp32 1 48).envelope .pf1).code = 1 ∧
    restZero (clasp32 1 48) = true := by
  and_intros <;> decide +kernel

/-- What Clasp asks of a command that no one signs. -/
theorem asks_of_unsigned (s : State) (code n : Nat) (h : s.claspReady .pf1 = true) (hn : (s.rd (Reg.mbxData 32 0)).toNat = n) (hr : restZero s = true)
    (hc : (s.envelope .pf1).code = code) (hm : (s.envelope .pf1).malformed n true = false) (hu : (s.envelope .pf1).signer = 0xFF)
    (hk : signerOk code 0xFF = true) (h43 : code ≠ 0x43) :
    s.claspAsks .pf1 code (s.envelope .pf1) (State.mbxDrain { s with clasp := { s.clasp with trig := s.clasp.trig.tail } } 32) := by
  refine ⟨h, rfl, hc, rfl, ?_⟩
  have hr' : (List.range 15).all (fun k => s.rd (Reg.mbxData (sideChannel .pf1) (k + 1)) == 0) = true := hr
  have hn' : (s.rd (Reg.mbxData (sideChannel .pf1) 0)).toNat = n := hn
  rw [hr', hn']; unfold State.claspFail; simp [hm, hu, hc, hk, h43]

/-- What Clasp asks of a signed command: every check of R493 but the signature is arithmetic on the envelope; the signature's is the opaque standard's. -/
theorem claspFail_of_signed (s : State) (side : ClaspSide) (e : Envelope) (n : Nat) (k : List Byte) (hm : e.malformed n true = false)
    (hu : e.signer ≠ 0xFF) (hnonce : (e.bytes.drop 4).take 8 = s.nonceBytes) (hser : (e.bytes.drop 16).take 16 = serialBytes)
    (hseq : s.nextSeq e.signer ≤ e.seq) (hk : s.signerKey e = some k)
    (hv : Config.ecdsaVerify k (Config.sha384 (e.bytes.take (32 + e.len))) e.sig = true) (hok : signerOk e.code e.signer = true) :
    s.claspFail side e n true = none := by
  unfold State.claspFail; simp [hm, hu, hnonce, hser, Nat.not_lt.mpr hseq, hk, hv, hok]

/-- ClaspKeysAndReports and ClaspWritesMemory: ATTEST and ALARM_READ pass every check; the operands of the signed commands at their bounds. -/
theorem witness_ClaspKeysAndReports :
    (∃ e s0, (clasp32 1 48).claspAsks .pf1 1 e s0) ∧ (∃ e s0, (clasp32 4 0).claspAsks .pf1 4 e s0) ∧ (∃ e s0, (clasp32 3 0).claspAsks .pf1 3 e s0) ∧
    (clasp32 1 48).debugOpen = false ∧ (clasp32 1 48).clasp.safety = none ∧ (clasp32 1 48).clasp.gen < 64 ∧ (clasp32 1 48).tenantKey 0x7F = [] ∧
    (clasp32 1 48).slotInUse 1023 = false ∧ (clasp32 1 48).clasp.bookLoaded = false ∧ (clasp32 1 48).tagOk 3 = true ∧
    (clasp32 1 48).codeGranule 1023 = false ∧ (clasp32 1 48).scrubbing 0 32 = false ∧
    (blocks 8 0 32).any (fun w => errAt [((3 : Nat), (2 : Nat))] w == 2) = true ∧ (clasp32 1 48).memWaits ⟨3, 0xC1⟩ ssBase 32 = false ∧ safetyEntries ([1, 0, 0, 0] ++ List.replicate 16 0) = [(0, 0, 0)] := by
  refine ⟨⟨_, _, asks_of_unsigned _ 1 80 ?_ ?_ ?_ ?_ ?_ ?_ ?_ ?_⟩, ⟨_, _, asks_of_unsigned _ 4 32 ?_ ?_ ?_ ?_ ?_ ?_ ?_ ?_⟩,
    ⟨_, _, asks_of_unsigned _ 3 32 ?_ ?_ ?_ ?_ ?_ ?_ ?_ ?_⟩, ?_⟩ <;> (and_intros <;> decide +kernel)

/-- Queue 63 of two entries with one command waiting, its completion queue 0 on, version 2 negotiated. -/
def host63 : State :=
  regs up [(Reg.hifSqCfg 63, 0x80000002), (Reg.hifSqTail 63, 1), (Reg.hifCqCfg 0, 0x80000010), (Reg.hifVer, 0x02000000)]

/-- A host command's entry with an opcode and its parameters. -/
def entry (op : Byte) (ps : List Byte) : HostCmd :=
  { entry := [op, 0, 7, 0, 0, 0, 0, 0] ++ ps ++ List.replicate (56 - ps.length) 0, hostData := [], pins := 0, smbusData := [], smbusNack := none,
    pcieFail := false, flashFail := false }

/-- HostQueuesAndVectors: register writes that are taken, a queue that is on and one that is off; a fetch that may be made; a vector counting,
not yet and at its time. -/
theorem witness_HostQueuesAndVectors :
    up.regGate .spine (Reg.hifSqTail 63) true 0 = .ok ∧ up.regGate .spine (Reg.hifSqCfg 63) true 0 = .ok ∧ up.flag (Reg.hifSqCfg 63) 31 = false ∧
    host63.flag (Reg.hifSqCfg 63) 31 = true ∧ up.regGate .spine (Reg.hifCqCfg 63) true 0 = .ok ∧ host63.flag (Reg.hifCqCfg 0) 31 = true ∧
    up.regGate .spine Reg.hifEvtCfg true 0 = .ok ∧ up.mayFetch 63 = false ∧ host63.mayFetch 63 = true ∧ opcodeVersion 0x52 = none ∧
    (State.hif { up with hif := { Hif.reset with vec := [(119, ⟨1, 0, false⟩)] } }).holding = false ∧
    ((State.hif { up with hif := { Hif.reset with vec := [(119, ⟨1, 0, false⟩)] } }).vecAt 119).count ≠ 0 ∧
    host63.inTurn 63 = true ∧ host63.sqWaits 63 = true ∧ up.sqWaits 63 = false ∧ fld (1 : Word) 11 0 < host63.getF (Reg.hifSqCfg 63) 12 0 ∧
    up.regGate .spine Reg.hifIdleHint true 1 = .ok := by
  and_intros <;> decide +kernel

/-- HostCommandsTakeEffect: every opcode can be fetched, and the bounds of the parameters. -/
theorem witness_HostCommandsTakeEffect :
    host63.mayFetch 63 = true ∧ host63.getF Reg.hifVer 31 24 = 2 ∧
    (∀ op ∈ ([0x01, 0x02, 0x10, 0x11, 0x12, 0x20, 0x21, 0x30, 0x31, 0x40, 0x50, 0x51] : List Byte), reservedOk (entry op []).entry = true ∧
      (opcodeVersion op.toNat).isSome = true) ∧
    leAt (entry 0x10 [0x26, 2, 0x84, 3, 99, 100]).entry 8 2 = 550 ∧ leAt (entry 0x10 [0x26, 2, 0x84, 3, 99, 100]).entry 10 2 = 900 ∧
    leAt (entry 0x20 []).entry 14 4 = 0 ∧ host63.sys.programStarted = false ∧ up.anyEngine = false ∧ host63.trunkFree = true ∧
    byteAt (entry 0x51 [0, 32, 32]).entry 9 = 32 := by
  and_intros <;> decide +kernel

/-- BootSequence: Clasp waiting for its image, the Spine for its, and started; a host directory that is not there; a tick that is late. -/
theorem witness_BootSequence :
    State.reset.sys.inReset = true ∧ up.sys.inReset = false ∧ up.clasp.alive = true ∧ (up.wr Reg.sysBoot 0x10000000).getF Reg.sysBoot 31 28 = 1 ∧
    up.sys.polledAt + msNs ≤ { up with sysctr := 1000000 }.now ∧ { up with sysctr := 999999 }.now < up.sys.polledAt + msNs ∧
    dirValid true ((up.wr Reg.sysBoot 0x20000000).bootBytes true 0 64) = false ∧ up.getF Reg.sysBoot 31 28 = 5 ∧
    ({ up with sys := { up.sys with spineUp := false }, sysctr := 50000000 } : State).sys.spineTick + 50 * msNs ≤ 50000000 ∧
    (up.wr Reg.sysBoot 0x40000000).hif.running = none := by
  and_intros <;> decide +kernel

/-- TwinClaim: a device that may claim at the first instant it may, and one that may not; a claim in its first 5 µs and after; each cause. -/
theorem witness_TwinClaim :
    up.mayClaim = false ∧
    State.mayClaim { up.wr Reg.sysTwinCfg 0xC0000000 with sysctr := 110000 } = true ∧
    up.sys.claimedAt + 5000 < 5001 ∧ up.regGate .spine Reg.sysTwinKeep true 1 = .ok ∧
    up.regGate .spine Reg.sysTwinCfg true 0x10000000 = .ok ∧ up.flag (Reg.hbmPcSts 63) 30 = false ∧
    ({ up.sys with keepSet := true, keepAt := 0 } : Sys).keepAt + (up.getF Reg.sysTwinCfg 15 8) * 1000000 ≤ 255000000 := by
  and_intros <;> decide +kernel

/-! ### The step, the invariant, codes and the domain check -/

/-- StepRunsFrontCommand, StepKeepsInvariant: a state in canonical form with a byte in each memory and a command in front. -/
theorem witness_StepKeepsInvariant :
    State.Inv { up with ss := [(5, 1)], hbm := [(7, some ⟨1, 0, 2⟩)], pending := [.tbSnap .spine 0 1] } ∧
    ({ up with pending := [.tbSnap .spine 0 1] } : State).pending = Instr.tbSnap .spine 0 1 :: [] := by
  unfold State.Inv; and_intros <;> decide +kernel

/-- RiceCodeRoundTrip: the greatest parameter and the greatest value. -/
theorem witness_RiceCodeRoundTrip : (24 : Nat) ≤ 24 ∧ 2 ^ 31 - 1 < 2 ^ 31 := by decide

/-- DomainCheckFollowsTable: an access over the last two granules of the Sheet store, refused by the second. -/
theorem witness_DomainCheckFollowsTable :
    (State.reset.wr (Reg.memDomSs 1022) 0x10003).scrubbing 0x3FEFFF8 16 = false ∧
    domAllowed ⟨1, 0⟩ true ((State.reset.wr (Reg.memDomSs 1022) 0x10003).rd (Reg.memDomSs ((0x3FEFFF8 + 0) / 0x10000))) = true ∧
    domAllowed ⟨1, 0⟩ true ((State.reset.wr (Reg.memDomSs 1022) 0x10003).rd (Reg.memDomSs ((0x3FEFFF8 + 15) / 0x10000))) = false := by
  and_intros <;> decide +kernel

/-! ### Ill-formed commands, each refused -/

/-- Readings of one tick with n temperatures, v rails and p monitors. -/
def readings (n v p : Nat) : TickReadings :=
  { temps := List.replicate n 0, vmons := List.replicate v 0, pace := List.replicate p 0, readback := none, critical := false }

/-- A tick's readings: 64, 9 and 128 of them. -/
theorem test_wf_tick : (readings 64 9 128).wf = true ∧ (readings 63 9 128).wf = false ∧ (readings 64 8 128).wf = false ∧
    (readings 64 9 127).wf = false ∧ Instr.wf (.managementTick (readings 63 9 128)) = false := by decide +kernel

/-- A host command: 64 bytes of entry, 32 SMBus bytes, host bytes only as FLASH_WRITE asks for them. -/
theorem test_wf_host : (entry 0x31 []).wf = true ∧ ({ entry 1 [] with entry := [] } : HostCmd).wf = false ∧
    ({ entry 0x51 [] with smbusData := List.replicate 33 0 } : HostCmd).wf = false ∧ ({ entry 0x30 [] with hostData := [0] } : HostCmd).wf = false ∧
    ({ entry 0x31 ([0, 0, 0, 0, 0, 0, 0, 0, 0, 0, 0, 0, 1] : List Byte) with hostData := [0] } : HostCmd).wf = true ∧
    Instr.wf (.smbus 0 { entry 1 [] with entry := [] }) = false := by decide +kernel

/-- An AES3 block with a byte of each list missing. -/
def block24 (a b c d : Nat) : Aes3Block := ⟨List.replicate a 0, List.replicate b 0, List.replicate c 0, List.replicate d 0⟩

/-- AES3 blocks, table writes, link changes, frames and packets out of shape. -/
theorem test_wf_lists : (block24 24 24 24 24).wf = true ∧ (block24 23 24 24 24).wf = false ∧ (block24 24 23 24 24).wf = false ∧
    (block24 24 24 23 24).wf = false ∧ Instr.wf (.aes3Block 0 (block24 24 24 24 23)) = false ∧ Instr.wf (.impTableWrite .spine 0 []) = false ∧
    Instr.wf (.linkChange 0 true [1]) = false ∧ Instr.wf (.macFrameReceive 0 ⟨true, List.replicate 13 0⟩) = false := by decide +kernel

/-- A packet longer than UDP allows. -/
theorem test_wf_packet (p : RtpPacket) (h : p.payload.length = 65508) : Instr.wf (.ingestPacket 0 false p) = false := by
  simp [Instr.wf, RtpPacket.wf, h]

/-! ### The spec's tables and worked examples -/

/-- "Worked example: the first two leaves of a key segment": the header's fields. -/
def hdrX : SegHdr :=
  { w := 24, h := 24, depthCode := 1, pq := false, ycocg := false, precision := false, key := true, keepLt := false, refresh := false,
    regions := false, qp := 22, pin := 0, unpin := 0, refreshN := 0, band := 0 }

/-- Its bytes 17 17 44 00 00 00 B0 00 (R344). -/
theorem test_header_bytes : bitsToBytes 8 (bitsOf 64 hdrX.word) = [0x17, 0x17, 0x44, 0, 0, 0, 0xB0, 0] ∧ SegHdr.ofWord hdrX.word = some hdrX := by
  decide +kernel

/-- Leaf 1 of the example: INTRA DC, one 16 × 16 block, one R coefficient of level 8. -/
def leafX : LeafSyn := .intra 0 ⟨none, none, [[some [8], none, none]], none⟩

/-- The 55 bits after the header begin 70 04 01 00 20 20 and end 0000111; LAST_16 then holds 4, 2 and COEF_16_0 39, 2. -/
theorem test_leaf_bits :
    let w := (Wr.leaf (([], CodeSt.init 10 22) : Wr) hdrX 3 0 (.fill [512, 512, 512])).leaf hdrX 3 0 leafX
    w.1.length = 55 ∧ bitsToBytes 7 w.1 = [0x70, 0x04, 0x01, 0x00, 0x20, 0x20, 0x0E] ∧ w.2.at (ctxLast 16) = (4, 2) ∧ w.2.at (ctxCoef 16 0) = (39, 2) := by
  decide +kernel

/-- Its reconstruction: R 516, G and B 512 throughout (R358-R365). -/
theorem test_leaf_samples :
    (recLeaf ⟨10, false, fun _ _ _ _ => 0, 1, 0, some (List.replicate 768 512)⟩ 22 leafX).1 = (List.replicate 256 [516, 512, 512]).flatten := by
  decide +kernel

/-- "Worked example: one leaf of a turned receiver": the entry 0x0001_000C_A2E2_A611 and pixel (2, 7) at (8, 13) of folio leaf (21, 23) (R306, R312). -/
theorem test_turned_leaf : let e : BitVec 64 := 0x0001000CA2E2A611
    entCh e = 17 ∧ entRx e = 3 ∧ entX e = 21 ∧ entY e = 23 ∧ entOrient e = 5 ∧ entCal e = 12 ∧ entValid e = true ∧ turned 5 8 13 = (2, 7) := by
  decide +kernel

/-- The check values of R174 over "123456789". -/
theorem test_crc_checks : let b := ascii "123456789"
    (crcOf 0).final b = 0xCBF43926 ∧ (crcOf 1).final b = 0xE3069283 ∧ (crcOf 2).final b = 0x29B1 ∧ (crcOf 3).final b = 0x6C40DF5F0B497347 := by
  decide +kernel

/-- "Worked example: a wall channel in debt": 1,500 Mb/s is 187.5 bytes a refill; from -825 bytes, with and without forgive (R405, R406). -/
theorem test_shaper_debt : let rate : Word := 0xD05DC
    refilled (-825 * 65536) false rate 0x4000 = -41779200 ∧ refilled (-825 * 65536) true rate 0x4000 = 12288000 := by
  decide +kernel

end Sys2Proof.Tests
end

namespace Sys2Proof.Machine

/-! ### Fields of a word: what `putFld` writes and what it leaves (R4) -/

theorem testBit_bitsN (n hi lo i : Nat) : (bitsN n hi lo).testBit i = (decide (i < hi + 1 - lo) && n.testBit (lo + i)) := by
  rw [bitsN, Nat.testBit_mod_two_pow, ← Nat.shiftRight_eq_div_pow, Nat.testBit_shiftRight]

theorem testBit_fld (w : Word) (hi lo i : Nat) : (fld w hi lo).testBit i = (decide (i < hi + 1 - lo) && w.getLsbD (lo + i)) := by
  rw [fld, testBit_bitsN, BitVec.testBit_toNat]

theorem fld_lt (w : Word) (hi lo : Nat) : fld w hi lo < 2 ^ (hi + 1 - lo) := Nat.mod_lt _ (Nat.two_pow_pos _)

/-- Bit by bit, a replaced field reads as the new value and every other bit as before. -/
theorem bit_putFld (w : Word) (hi lo v i : Nat) (hi32 : hi < 32) :
    bit (putFld w hi lo v) i = if lo ≤ i ∧ i ≤ hi then v.testBit (i - lo) else bit w i := by
  unfold bit putFld
  simp only [BitVec.getLsbD_or, BitVec.getLsbD_and, BitVec.getLsbD_not, BitVec.getLsbD_ofNat, Nat.testBit_mul_two_pow,
    Nat.testBit_two_pow_sub_one, Nat.testBit_mod_two_pow]
  by_cases h3 : i < 32
  · by_cases h1 : lo ≤ i
    · by_cases h2 : i ≤ hi
      · simp [h1, h2, h3, show i - lo < hi + 1 - lo by omega]
      · simp [h1, h2, h3, show ¬ i - lo < hi + 1 - lo by omega]
    · simp [h1, h3]
  · simp [h3, BitVec.getLsbD_of_ge w i (by omega), show ¬ i ≤ hi by omega]

/-- The field just written reads as the value, modulo the field's width. -/
theorem fld_putFld_same (w : Word) (hi lo v : Nat) (hi32 : hi < 32) : fld (putFld w hi lo v) hi lo = v % 2 ^ (hi + 1 - lo) := by
  refine Nat.eq_of_testBit_eq fun i => ?_
  have h := bit_putFld w hi lo v (lo + i) hi32
  rw [bit] at h
  rw [testBit_fld, Nat.testBit_mod_two_pow, h]
  by_cases hb : i < hi + 1 - lo
  · simp [hb, show lo + i ≤ hi by omega]
  · simp [hb]

/-- A field apart from the one written keeps its value. -/
theorem fld_putFld_apart (w : Word) (hi lo v hi' lo' : Nat) (hi32 : hi < 32) (h : hi' < lo ∨ hi < lo') :
    fld (putFld w hi lo v) hi' lo' = fld w hi' lo' := by
  refine Nat.eq_of_testBit_eq fun i => ?_
  have hb := bit_putFld w hi lo v (lo' + i) hi32
  rw [bit] at hb
  rw [testBit_fld, testBit_fld, hb]
  by_cases hi2 : i < hi' + 1 - lo'
  · rw [if_neg (by omega), bit]
  · simp [hi2]

/-! ### Fields of a register of the state -/

namespace State

theorem getF_lt (s : State) (off hi lo : Nat) : s.getF off hi lo < 2 ^ (hi + 1 - lo) := fld_lt _ _ _

theorem getF_setF_same (s : State) (off hi lo v : Nat) (hi32 : hi < 32) (hv : v < 2 ^ (hi + 1 - lo)) :
    (s.setF off hi lo v).getF off hi lo = v := by
  rw [getF, setF, rd_wr_same, fld_putFld_same _ _ _ _ hi32, Nat.mod_eq_of_lt hv]

theorem getF_setF_apart (s : State) (off hi lo v hi' lo' : Nat) (hi32 : hi < 32) (h : hi' < lo ∨ hi < lo') :
    (s.setF off hi lo v).getF off hi' lo' = s.getF off hi' lo' := by
  rw [getF, setF, rd_wr_same, fld_putFld_apart _ _ _ _ _ _ hi32 h, getF]

theorem getF_setB_apart (s : State) (off b : Nat) (v : Bool) (hi' lo' : Nat) (b32 : b < 32) (h : hi' < b ∨ b < lo') :
    (s.setB off b v).getF off hi' lo' = s.getF off hi' lo' := s.getF_setF_apart off b b (b2n v) hi' lo' b32 h

theorem flag_setB_same (s : State) (off b : Nat) (v : Bool) (b32 : b < 32) : (s.setB off b v).flag off b = v := by
  rw [flag, setB, setF, rd_wr_same, bit_putFld _ _ _ _ _ b32]
  cases v <;> simp [b2n]

theorem flag_setF_apart (s : State) (off hi lo v i : Nat) (hi32 : hi < 32) (h : i < lo ∨ hi < i) :
    (s.setF off hi lo v).flag off i = s.flag off i := by
  rw [flag, setF, rd_wr_same, bit_putFld _ _ _ _ _ hi32, if_neg (by omega), flag]

theorem flag_setB_apart (s : State) (off b : Nat) (v : Bool) (i : Nat) (b32 : b < 32) (h : i ≠ b) :
    (s.setB off b v).flag off i = s.flag off i := s.flag_setF_apart off b b (b2n v) i b32 (by omega)

/-- Fields and flags are functions of the register alone. -/
theorem getF_of_rd {s t : State} {off : Nat} (h : t.rd off = s.rd off) (hi lo : Nat) : t.getF off hi lo = s.getF off hi lo := by
  rw [getF, h, getF]

theorem flag_of_rd {s t : State} {off : Nat} (h : t.rd off = s.rd off) (b : Nat) : t.flag off b = s.flag off b := by
  rw [flag, h, flag]

/-! ### Which registers an event can change -/

/-- The pending words of the event sources lie below the units' blocks. -/
theorem evcPend_lt (g src : Nat) (hg : g < 64) (hs : src < 512) : Reg.evcPend g (src / 32) < 0x800000 := by
  unfold Reg.evcPend; omega

theorem rd_evcSet (s : State) (g src off : Nat) (hg : g < 64) (ho : 0x800000 ≤ off) : (s.evcSet g src).rd off = s.rd off := by
  unfold evcSet
  split
  case isTrue h =>
    have hs : src < 512 := by simp [evcSettable] at h; omega
    exact s.rd_setB_ne _ _ _ _ (by have := evcPend_lt g src hg hs; omega)
  case isFalse => rfl

theorem hostStep_evcSet (s : State) (g src : Nat) : s.hostStep (s.evcSet g src) := by
  unfold evcSet
  split
  · exact hostStep_setF _ _ _ _ _
  · exact hostStep_refl _

theorem rd_raiseEvt (s : State) (e off : Nat) (ho : 0x800000 ≤ off) : (s.raiseEvt e).rd off = s.rd off := by
  unfold raiseEvt
  split
  · exact s.rd_evcSet _ _ _ (s.getF_lt e 29 24) ho
  · rfl

theorem rd_requestVec (s : State) (v off : Nat) : (s.requestVec v).rd off = s.rd off := by
  unfold requestVec
  dsimp only
  repeat' split
  all_goals rfl

theorem rd_writeEntry (s : State) (e : Entry) (off : Nat) (hc : e.cq < 64) (ho : 0x40000 ≤ off) : (s.writeEntry e).rd off = s.rd off := by
  have hne : off ≠ Reg.hifCqSts e.cq := by unfold Reg.hifCqSts; omega
  unfold writeEntry
  rw [rd_requestVec, rd_setF_ne _ _ _ _ _ _ hne, rd_setF_ne _ _ _ _ _ _ hne, rd_emit]

theorem rd_pmeOnHold (s : State) (off : Nat) : s.pmeOnHold.rd off = s.rd off := by
  unfold pmeOnHold; split <;> rfl

theorem rd_putEntry (s : State) (e : Entry) (off : Nat) (hc : e.cq < 64) (ho : 0x40000 ≤ off) : (s.putEntry e).rd off = s.rd off := by
  unfold putEntry
  split
  · exact rd_pmeOnHold _ off
  · exact s.rd_writeEntry e off hc ho

theorem rd_placeEvent (s : State) (e off : Nat) (ho : 0x40000 ≤ off) : (s.placeEvent e).rd off = s.rd off := by
  unfold placeEvent
  split
  · have hne : off ≠ Reg.hifEvtPend := by unfold Reg.hifEvtPend; omega
    exact (rd_putEntry _ _ off (s.getF_lt Reg.hifEvtCfg 5 0) ho).trans (s.rd_setB_ne _ _ _ _ hne)
  · rfl

/-- A fold of steps that each keep a register keeps it. -/
theorem rd_foldl {α : Type} (f : State → α → State) (off : Nat) (hf : ∀ (s : State) a, (f s a).rd off = s.rd off) (l : List α) (s : State) :
    (l.foldl f s).rd off = s.rd off := by
  induction l generalizing s with
  | nil => rfl
  | cons a l ih => exact (ih _).trans (hf s a)

/-- A host event changes registers of the host interface only (R513). -/
theorem rd_hostEvent (s : State) (code detail off : Nat) (ho : 0x40000 ≤ off) : (s.hostEvent code detail).rd off = s.rd off := by
  have hne : off ≠ Reg.hifEvtPend := by unfold Reg.hifEvtPend; omega
  exact (rd_foldl _ off (fun s e => s.rd_placeEvent e off ho) _ _).trans (s.rd_setB_ne _ _ _ _ hne)

end State
end Sys2Proof.Machine

namespace Sys2Proof.Machine

/-! ### A register write that the gate lets through -/

theorem State.gatedWrite_of_ok (s : State) (ini : Ini) (off : Nat) (v : Word) (act : State → State) (h : s.regGate ini off true v = .ok) :
    s.gatedWrite ini off v act = { act s with resp := .ok 0 } := by
  simp [gatedWrite, gated, h, answer]

/-! ### COMMIT arms or refuses (R21, R27) -/

namespace State

theorem unitBase_ge (u : CommitUnit) : 0x900000 ≤ unitBase u := by cases u <;> decide

/-- The refusal event of any unit sets at most an event source. -/
theorem rd_refusalEvent (s : State) (u : CommitUnit) (g off : Nat) (ho : 0x800000 ≤ off) : (s.refusalEvent u g).rd off = s.rd off := by
  cases u <;> exact s.rd_raiseEvt _ off ho

theorem hostStep_refusalEvent (s : State) (u : CommitUnit) (g : Nat) : s.hostStep (s.refusalEvent u g) := by
  cases u <;> exact s.hostStep_raiseEvt _

theorem hostStep_armed {s t : State} (h : s.hostStep t) : t.armed = s.armed := by
  obtain ⟨_, _, _, rfl⟩ := h
  rfl

/-- The fields of a COMMIT word as the statements write them. -/
theorem commitWrite_eq (s : State) (u : CommitUnit) (v : Word) :
    s.commitWrite u v = if v.toNat / 2 ^ 16 % 256 = 0 ∧ groupInRange u (v.toNat % 2 ^ 16) = true then s.arm u (v.toNat % 2 ^ 16) (v.toNat / 2 ^ 24)
      else (s.setB (unitBase u + 8) 30 true).refusalEvent u (v.toNat % 2 ^ 16) := by
  have hl : fld v 31 24 = v.toNat / 2 ^ 24 := Nat.mod_eq_of_lt (by have := v.isLt; omega)
  have hg : fld v 15 0 = v.toNat % 2 ^ 16 := by simp [fld, bitsN]
  rw [commitWrite, hl, hg]; rfl

theorem arm_of_unarmed (s : State) (u : CommitUnit) (g link : Nat) (h : s.armOf u g = none) :
    s.arm u g link = { s with armed := s.armed ++ [⟨u, g, link, false, s.now, s.tbTimes⟩] } := by
  simp [arm, h]

theorem arm_of_armed (s : State) (u : CommitUnit) (g link : Nat) (h : s.armOf u g ≠ none) : s.arm u g link = s := by
  simp [arm, Option.isSome_iff_ne_none, h]

end State

theorem exec_commit_of_ok (ini : Ini) (u : CommitUnit) (v : Word) (s : State) (h : s.regGate ini (unitBase u) true v = .ok) :
    exec (.commit ini u v) s = .next { s.commitWrite u v with resp := .ok 0 } :=
  congrArg Host.Outcome.next (s.gatedWrite_of_ok ini _ v _ h)

/-- Settles O37: the word's fields choose between arming and refusing, and the refusal event leaves COMMIT_STS and the armed groups alone. -/
theorem commitWriteArms : Obligations.CommitWriteArms := by
  unfold Obligations.CommitWriteArms
  intro ini u v s grp hgate hgrp
  subst hgrp
  rw [exec_commit_of_ok ini u v s hgate, s.commitWrite_eq]
  refine ⟨fun hres hin => ?_, fun hbad => ?_⟩
  · rw [if_pos ⟨hres, hin⟩]
    exact ⟨fun hun => by rw [s.arm_of_unarmed u _ _ hun], fun harm => by rw [s.arm_of_armed u _ _ harm]⟩
  · have hno : ¬ (v.toNat / 2 ^ 16 % 256 = 0 ∧ groupInRange u (v.toNat % 2 ^ 16) = true) := by
      rintro ⟨hres, hin⟩
      rcases hbad with hb | hb
      · exact hb hres
      · exact Bool.false_ne_true (hb.symm.trans hin)
    rw [if_neg hno]
    have harmed := State.hostStep_armed (State.hostStep_refusalEvent (s.setB (unitBase u + 8) 30 true) u (v.toNat % 2 ^ 16))
    refine ⟨_, rfl, harmed, ?_, rfl⟩
    have hrd := State.rd_refusalEvent (s.setB (unitBase u + 8) 30 true) u (v.toNat % 2 ^ 16) (unitBase u + 8)
      (by have := State.unitBase_ge u; omega)
    exact (State.flag_of_rd hrd 30).trans (s.flag_setB_same _ 30 true (by decide))

end Sys2Proof.Machine

namespace Sys2Proof.Machine

/-! ### What the couch's work on a picture leaves alone

Posts, frame and tap choice, composition and countermark checks change layers, queues, memories and registers of many blocks. None of them
touches a sheet's record or registers, the time bases, the armed groups or the system counter. -/

/-- t keeps the sheets' records and registers, the time bases, the armed groups and the counter of s. -/
structure State.SheetsKept (s t : State) : Prop where
  sheet : t.sheet = s.sheet
  tb : t.tb = s.tb
  armed : t.armed = s.armed
  sysctr : t.sysctr = s.sysctr
  regs : ∀ off, 0x900100 ≤ off → off < 0x900200 → t.rd off = s.rd off

namespace State.SheetsKept

theorem refl (s : State) : s.SheetsKept s := ⟨rfl, rfl, rfl, rfl, fun _ _ _ => rfl⟩

theorem trans {s t u : State} (h1 : s.SheetsKept t) (h2 : t.SheetsKept u) : s.SheetsKept u :=
  ⟨h2.sheet.trans h1.sheet, h2.tb.trans h1.tb, h2.armed.trans h1.armed, h2.sysctr.trans h1.sysctr,
    fun off lo hi => (h2.regs off lo hi).trans (h1.regs off lo hi)⟩

/-- Either branch may be taken. -/
theorem ite {s t u : State} {c : Prop} [Decidable c] (ht : s.SheetsKept t) (hu : s.SheetsKept u) : s.SheetsKept (if c then t else u) := by
  split
  · exact ht
  · exact hu

theorem foldl {α : Type} {f : State → α → State} (hf : ∀ (s : State) a, s.SheetsKept (f s a)) (l : List α) (s : State) :
    s.SheetsKept (l.foldl f s) := by
  induction l generalizing s with
  | nil => exact refl s
  | cons a l ih => exact (hf s a).trans (ih _)

/-- A register outside the sheets' blocks may be written. -/
theorem wr (s : State) (off : Nat) (v : Word) (h : off < 0x900100 ∨ 0x900200 ≤ off) : s.SheetsKept (s.wr off v) :=
  ⟨rfl, rfl, rfl, rfl, fun i lo hi => s.rd_wr_ne off i v (by omega)⟩

theorem setF (s : State) (off hi lo v : Nat) (h : off < 0x900100 ∨ 0x900200 ≤ off) : s.SheetsKept (s.setF off hi lo v) := wr s off _ h

theorem setB (s : State) (off b : Nat) (v : Bool) (h : off < 0x900100 ∨ 0x900200 ≤ off) : s.SheetsKept (s.setB off b v) := wr s off _ h

theorem addSat (s : State) (off hi lo n : Nat) (h : off < 0x900100 ∨ 0x900200 ≤ off) : s.SheetsKept (s.addSat off hi lo n) := wr s off _ h

theorem setLayer (s : State) (l : Nat) (x : LayerSt) : s.SheetsKept (s.setLayer l x) := ⟨rfl, rfl, rfl, rfl, fun _ _ _ => rfl⟩

theorem setCm (s : State) (r : Nat) (x : CmSt) : s.SheetsKept (s.setCm r x) := ⟨rfl, rfl, rfl, rfl, fun _ _ _ => rfl⟩

theorem setQueue (s : State) (q : Nat) (ds : List QDesc) : s.SheetsKept (s.setQueue q ds) := ⟨rfl, rfl, rfl, rfl, fun _ _ _ => rfl⟩

theorem bumpFree (s : State) : s.SheetsKept s.bumpFree := ⟨rfl, rfl, rfl, rfl, fun _ _ _ => rfl⟩

/-- A host step keeps everything but registers, so its registers decide. -/
theorem of_hostStep {s t : State} (h : s.hostStep t) (hr : ∀ off, 0x900100 ≤ off → off < 0x900200 → t.rd off = s.rd off) : s.SheetsKept t := by
  obtain ⟨_, _, _, rfl⟩ := h
  exact ⟨rfl, rfl, rfl, rfl, hr⟩

/-! #### Events -/

theorem raiseEvt (s : State) (e : Nat) : s.SheetsKept (s.raiseEvt e) :=
  of_hostStep (s.hostStep_raiseEvt e) fun off _ _ => s.rd_raiseEvt e off (by omega)

theorem evcSet (s : State) (g src : Nat) (hg : g < 64) : s.SheetsKept (s.evcSet g src) :=
  of_hostStep (s.hostStep_evcSet g src) fun off _ _ => s.rd_evcSet g src off hg (by omega)

theorem hostEvent (s : State) (code detail : Nat) : s.SheetsKept (s.hostEvent code detail) :=
  of_hostStep (s.hostStep_hostEvent code detail) fun off _ _ => s.rd_hostEvent code detail off (by omega)

theorem memEvent (s : State) (kind detail : Nat) : s.SheetsKept (s.memEvent kind detail) :=
  (raiseEvt s _).trans (hostEvent _ _ _)

theorem violation (s : State) (t : Tx) (wr' : Bool) (addr target : Nat) : s.SheetsKept (s.violation t wr' addr target) := by
  unfold State.violation
  refine trans (trans ?_ (addSat _ _ _ _ _ (by decide))) (memEvent _ _ _)
  split
  · exact refl s
  · exact ((wr s _ _ (by decide)).trans (wr _ _ _ (by decide))).trans (wr _ _ _ (by decide))

/-! #### Memory -/

theorem hbmQueue (s : State) (w c : Bool) (o : Nat) : s.SheetsKept (s.hbmQueue w c o) := ⟨rfl, rfl, rfl, rfl, fun _ _ _ => rfl⟩

theorem hbmCount (s : State) (i : Nat) : s.SheetsKept (s.hbmCount i) := by
  have hp : 0x900200 ≤ Reg.hbmPcErr (hbmPc (i * 32)) := by unfold Reg.hbmPcErr; omega
  unfold State.hbmCount
  dsimp only
  split
  · exact addSat _ _ _ _ _ (.inr hp)
  · exact addSat _ _ _ _ _ (.inr hp)
  · exact refl s

theorem ssRead (s : State) (t : Tx) (a o n : Nat) : s.SheetsKept (s.ssRead t a o n).1 := by
  have hm : s.SheetsKept { s with ssErr := s.ssMend false o n } := ⟨rfl, rfl, rfl, rfl, fun _ _ _ => rfl⟩
  unfold State.ssRead
  split
  · exact violation _ _ _ _ _
  · dsimp only
    split
    · exact hm.trans (memEvent _ _ _)
    · exact hm

theorem ssWrite (s : State) (t : Tx) (a o : Nat) (bs : List Byte) : s.SheetsKept (s.ssWrite t a o bs).1 := by
  have hm : ∀ m e, s.SheetsKept { s with ss := m, ssErr := e } := fun _ _ => ⟨rfl, rfl, rfl, rfl, fun _ _ _ => rfl⟩
  unfold State.ssWrite
  dsimp only
  split
  · exact violation _ _ _ _ _
  · split
    · exact (hm _ _).trans (memEvent _ _ _)
    · exact hm _ _

theorem hbmRead (s : State) (t : Tx) (a o n : Nat) : s.SheetsKept (s.hbmRead t a o n).1 := by
  unfold State.hbmRead
  split
  · exact violation _ _ _ _ _
  · have hq : s.SheetsKept ((blocks 32 o n).foldl (fun s i => (s.hbmQueue false (whole 32 o n i) (i * 32)).hbmCount i) s) :=
      foldl (fun s i => (hbmQueue s _ _ _).trans (hbmCount _ _)) _ s
    dsimp only
    split
    · exact hq.trans (memEvent _ _ _)
    · exact hq

theorem hbmWrite (s : State) (t : Tx) (a o : Nat) (bs : List Byte) : s.SheetsKept (s.hbmWrite t a o bs).1 := by
  have hm : ∀ (t : State) m e, t.SheetsKept { t with hbm := m, hbmErr := e } := fun _ _ _ => ⟨rfl, rfl, rfl, rfl, fun _ _ _ => rfl⟩
  unfold State.hbmWrite
  dsimp only
  split
  · exact violation _ _ _ _ _
  · have hq : s.SheetsKept ((blocks 32 o bs.length).foldl
        (fun s i => (if whole 32 o bs.length i then s else s.hbmCount i).hbmQueue true true (i * 32)) s) := by
      refine foldl (fun s i => trans ?_ (hbmQueue _ _ _ _)) _ s
      split
      · exact refl s
      · exact hbmCount s i
    split
    · exact (hq.trans (hm _ _ _)).trans (memEvent _ _ _)
    · exact hq.trans (hm _ _ _)

theorem memRead (s : State) (t : Tx) (a n : Nat) : s.SheetsKept (s.memRead t a n).1 := by
  unfold State.memRead
  split
  · exact refl s
  · split
    · split
      · exact refl s
      · exact ssRead _ _ _ _ _
    · exact ssRead _ _ _ _ _
    · exact hbmRead _ _ _ _ _
    · exact refl s
    · exact violation _ _ _ _ _

theorem memWrite (s : State) (t : Tx) (a : Nat) (bs : List Byte) : s.SheetsKept (s.memWrite t a bs).1 := by
  unfold State.memWrite
  split
  · exact refl s
  · split
    · split
      · exact refl s
      · exact ssWrite _ _ _ _ _
    · exact ssWrite _ _ _ _ _
    · exact hbmWrite _ _ _ _ _
    · exact refl s
    · exact violation _ _ _ _ _

/-! #### Completions and posts -/

/-- No completion ring's control register is a sheet's. -/
theorem queueRing_ctl (q : Nat) : (queueRing q).2 < 0x900100 ∨ 0x900200 ≤ (queueRing q).2 := by
  unfold queueRing
  split
  · left; simp only [Reg.couchPipeRingCtl]; omega
  all_goals (repeat' split) <;>
    simp only [Reg.pressPipeRingCtl, Reg.impRingCtl, Reg.ingRingCtl, Reg.tmRingCtl, Reg.timeRingCtl, Reg.audRingCtl, Reg.cvuRingCtl] <;> omega

theorem ringWrite (s : State) (t : Tx) (q size : Nat) (bs : List Byte) :
    s.SheetsKept (s.ringWrite t (queueRing q).1 (queueRing q).2 size bs) := by
  unfold State.ringWrite
  dsimp only
  split
  · exact refl s
  · exact (memWrite _ _ _ _).trans (setF _ _ _ _ _ (queueRing_ctl q))

theorem complete (s : State) (q : Nat) (bytes : List Byte) (status : Nat) (result : Option Nat) :
    s.SheetsKept (s.complete q bytes status result) := by
  have h0 : s.SheetsKept (if result.isSome then s else s.bumpFree) := by
    split
    · exact refl s
    · exact bumpFree s
  have h1 : ∀ (t : State) (b : Bool) p bs, t.SheetsKept (if b then t.ringWrite p (queueRing q).1 (queueRing q).2 16 bs else t) := by
    intro t b p bs
    split
    · exact ringWrite _ _ _ _ _
    · exact refl t
  have h2 : ∀ (t : State) (b : Bool) src, t.SheetsKept (if b then t.evcSet (bitsN (leAt bytes 4 4) 29 24) src else t) := by
    intro t b src
    split
    · exact evcSet _ _ _ (Nat.mod_lt _ (by decide))
    · exact refl t
  exact (h0.trans (h1 _ _ _ _)).trans (h2 _ _ _)

theorem completeAt (s : State) (q i status : Nat) (result : Option Nat) : s.SheetsKept (s.completeAt q i status result) := by
  unfold State.completeAt
  split
  · exact refl s
  · exact (setQueue _ _ _).trans (complete _ _ _ _ _)

theorem bufferPost (s : State) (b : Nat) : s.SheetsKept (s.bufferPost b) := by
  unfold State.bufferPost
  split
  · exact refl s
  · dsimp only
    split
    · exact refl s
    · split
      · exact completeAt _ _ _ _ _
      · exact (setQueue _ _ _).trans (setLayer _ _ _)

theorem takePosts (s : State) : s.SheetsKept s.takePosts :=
  foldl (fun s b => foldl (fun s _ => bufferPost s b) _ s) _ s

theorem postEffect (s : State) (n l : Nat) : s.SheetsKept (s.postEffect n l) := by
  unfold State.postEffect
  dsimp only
  split
  · exact refl s
  · split
    · exact (setLayer _ _ _).trans (completeAt _ _ _ _ _)
    · exact setLayer _ _ _

end State.SheetsKept
end Sys2Proof.Machine

namespace Sys2Proof.Machine

/-- Writes of a list of keys leave the keys that are not among them. -/
theorem SMap.get_foldl_set_ne {α : Type} [DecidableEq α] (d : Nat → α) (key : Nat → Nat) (val : Nat → α) (l : List Nat) (m : SMap α) (i : Nat)
    (h : ∀ k ∈ l, i ≠ key k) : SMap.get d (l.foldl (fun m k => SMap.set d m (key k) (val k)) m) i = SMap.get d m i := by
  induction l generalizing m with
  | nil => rfl
  | cons k l ih => exact (ih _ fun j hj => h j (by simp [hj])).trans (SMap.get_set_ne d m _ _ _ (h k (by simp)))

namespace State.SheetsKept

/-! #### Frame choice, tap choice and countermarks -/

theorem chooseFrame (s : State) (sh : SheetCfg) (prev b : Nat) (c : LayerCfg) : s.SheetsKept (s.chooseFrame sh prev b c) := by
  have hcnt : 0x900200 ≤ Reg.couchLayerCnt c.slot := by unfold Reg.couchLayerCnt; omega
  unfold State.chooseFrame
  dsimp only
  split
  · exact setLayer _ _ _
  · exact setLayer _ _ _
  · exact setLayer _ _ _
  · split
    · exact (setLayer _ _ _).trans (addSat _ _ _ _ _ (.inr hcnt))
    · split <;> exact setLayer _ _ _

theorem chooseTapsOf (s : State) (sh : SheetCfg) (c : LayerCfg) : s.SheetsKept (s.chooseTapsOf sh c) := by
  have hsts : 0x900200 ≤ Reg.couchLayerSts c.slot := by unfold Reg.couchLayerSts; omega
  unfold State.chooseTapsOf
  dsimp only
  split
  · exact setF _ _ _ _ _ (.inr hsts)
  · have hset := fun x v => (setLayer s c.slot x).trans (setF _ (Reg.couchLayerSts c.slot) 7 0 v (.inr hsts))
    exact ite (((hset _ _).trans (setB _ _ _ _ (.inr hsts))).trans (raiseEvt _ _)) (hset _ _)

theorem cmBegin (s : State) : s.SheetsKept s.cmBegin := foldl (fun s _ => setCm s _ _) _ s

/-! #### Composition -/

theorem fetchLines (t : Tx) (f : SrcFrame) (x0 x1 : Nat) (ls : List Nat) (s : State) : s.SheetsKept (State.fetchLines t f x0 x1 ls s).1 := by
  induction ls generalizing s with
  | nil => exact refl s
  | cons l ls ih =>
    unfold State.fetchLines
    split
    · exact ih s
    · dsimp only
      split
      · exact (memRead _ _ _ _).trans (ih _)
      · exact memRead _ _ _ _

theorem layerFail (s : State) (l : Nat) (r : MemAcc) : s.SheetsKept (s.layerFail l r) := by
  have hsts : 0x900200 ≤ Reg.couchLayerSts l := by unfold Reg.couchLayerSts; omega
  exact ((setLayer _ _ _).trans (setB _ _ _ _ (.inr hsts))).trans (raiseEvt _ _)

theorem fetchLayer (s : State) (sh : SheetCfg) (b x0 x1 y0 y1 : Nat) (c : LayerCfg) (t : Nat × Nat) :
    s.SheetsKept (s.fetchLayer sh b x0 x1 y0 y1 c t).1 := by
  unfold State.fetchLayer
  dsimp only
  split
  · exact refl s
  · split
    · exact refl s
    · split
      · exact fetchLines _ _ _ _ _ _
      · exact (fetchLines _ _ _ _ _ _).trans (layerFail _ _ _)

theorem fetchAll (sh : SheetCfg) (b x0 x1 y0 y1 : Nat) (ps : List (LayerCfg × (Nat × Nat))) (s : State) :
    s.SheetsKept (State.fetchAll sh b x0 x1 y0 y1 ps s).1 := by
  induction ps generalizing s with
  | nil => exact refl s
  | cons p ps ih => exact (fetchLayer _ _ _ _ _ _ _ _ _).trans (ih _)

/-- Reading what a part needs and writing the rows composed from it. -/
theorem fetchWrite (s : State) (sh : SheetCfg) (b x0 x1 y0 y1 : Nat) (ls : List (LayerCfg × (Nat × Nat))) (p : Tx)
    (addr : Nat × List Byte → Nat) (rows : List (Nat × List Byte)) :
    s.SheetsKept (rows.foldl (fun s r => (s.memWrite p (addr r) r.2).1) (State.fetchAll sh b x0 x1 y0 y1 ls s).1) :=
  (fetchAll sh b x0 x1 y0 y1 ls s).trans (foldl (fun s _ => memWrite s _ _ _) rows _)

theorem composeLeaf (s : State) (k b x0 x1 y0 y1 : Nat) : s.SheetsKept (s.composeLeaf k b x0 x1 y0 y1) := by
  unfold State.composeLeaf
  exact ite (fetchWrite _ _ _ _ _ _ _ _ _ _ _) ((fetchWrite _ _ _ _ _ _ _ _ _ _ _).trans (setCm _ _ _))

/-- The leaves of a part of a slice, row after row. -/
theorem composeLeaves (s : State) (k b : Nat) (rows cols : List (Nat × Nat)) :
    s.SheetsKept (rows.foldl (fun s r => cols.foldl (fun s c => s.composeLeaf k b c.1 c.2 r.1 r.2) s) s) :=
  foldl (fun s _ => foldl (fun s _ => composeLeaf s _ _ _ _ _ _) cols s) rows s

/-! #### Countermark checks -/

theorem requestVec (s : State) (v : Nat) : s.SheetsKept (s.requestVec v) :=
  of_hostStep (s.hostStep_requestVec v) fun off _ _ => s.rd_requestVec v off

theorem notify (s : State) (n : Nat) (dst : MbxEnd) (k : Notice) (hg : dst.gath < 64) : s.SheetsKept (s.notify n dst k) := by
  have hpf : ∀ v, s.SheetsKept (s.requestPf1 v) := by
    intro v
    unfold State.requestPf1
    split <;> exact ⟨rfl, rfl, rfl, rfl, fun _ _ _ => rfl⟩
  unfold State.notify
  exact ite (evcSet _ _ _ hg) (ite (ite (requestVec _ _) (refl s))
    (ite (ite (hpf 0) (ite (hpf 1) (ite (hpf 2) (refl s)))) (refl s)))

theorem mbxReceiver_gath (s : State) (n : Nat) : (s.mbxReceiver n).gath < 64 := by
  unfold State.mbxReceiver
  dsimp only
  split
  · exact s.getF_lt _ 23 18
  · decide

theorem mbxPost (s : State) (n : Nat) (h : n < 64) : s.SheetsKept (s.mbxPost n) := by
  have hsts : Reg.mbxSts n < 0x900100 := by unfold Reg.mbxSts; omega
  have hn : s.SheetsKept (((s.setB (Reg.mbxSts n) 31 true).addWrap (Reg.mbxSts n) 15 0 1).notify n (s.mbxReceiver n) .receive) :=
    ((setB _ _ _ _ (.inl hsts)).trans (setF _ _ _ _ _ (.inl hsts))).trans (notify _ _ _ _ (mbxReceiver_gath s n))
  exact ite (hn.trans ⟨rfl, rfl, rfl, rfl, fun _ _ _ => rfl⟩) hn

/-- Clasp's notice changes mailbox registers and what Clasp holds. -/
theorem sendNotice (s : State) : s.SheetsKept s.sendNotice := by
  have hwords : ∀ (c : Clasp) (word : Nat → Word) (f : Nat), s.SheetsKept { s with
      clasp := c, reg := (List.range 16).foldl (fun m k => SMap.set resetWord m (Reg.mbxData 36 k) (word k)) s.reg, free := f } := by
    refine fun c word f => ⟨rfl, rfl, rfl, rfl, fun off _ _ => SMap.get_foldl_set_ne _ _ word _ _ _ fun k hk => ?_⟩
    have hk16 := List.mem_range.mp hk
    unfold Reg.mbxData
    omega
  unfold State.sendNotice
  split
  · exact refl s
  · exact ite (refl s) ((hwords _ _ _).trans (mbxPost _ 36 (by decide)))

theorem claspAlarm (s : State) (r cause ch rx n v e m : Nat) : s.SheetsKept (s.claspAlarm r cause ch rx n v e m) := by
  have hset : ∀ (t : State) hi lo v, t.SheetsKept (t.setF Reg.clsAlarm hi lo v) := fun t hi lo v => setF t _ _ _ _ (by decide)
  have hc : ∀ c, s.SheetsKept { s with clasp := c } := fun _ => ⟨rfl, rfl, rfl, rfl, fun _ _ _ => rfl⟩
  unfold State.claspAlarm
  exact ite (refl s) (ite (hset s _ _ _) (((hc _).trans (hset _ _ _ _)).trans (sendNotice _)))

theorem forceRegion (s : State) (r cause ch rx n v e m : Nat) : s.SheetsKept (s.forceRegion r cause ch rx n v e m) := by
  have hsts : ∀ (t : State) b x, t.SheetsKept (t.setB (Reg.couchCmSts (r - 1)) b x) :=
    fun t b x => setB t _ _ _ (.inr (by unfold Reg.couchCmSts; omega))
  exact (((((hsts _ _ _).trans (hsts _ _ _)).trans (hsts _ _ _)).trans (claspAlarm _ _ _ _ _ _ _ _ _)).trans (hostEvent _ _ _)).trans
    (raiseEvt _ _)

theorem cmCheck (s : State) (r : Nat) : s.SheetsKept (s.cmCheck r) := by
  have hsts : 0x900200 ≤ Reg.couchCmSts (r - 1) := by unfold Reg.couchCmSts; omega
  have hlast : 0x900200 ≤ Reg.couchCmLast (r - 1) := by unfold Reg.couchCmLast; omega
  have hpic : 0x900200 ≤ Reg.couchCmPic (r - 1) := by unfold Reg.couchCmPic; omega
  have hshow := fun x b w w' => (((setCm s r x).trans (setB _ _ 28 b (.inr hsts))).trans (wr _ _ w (.inr hlast))).trans (wr _ _ w' (.inr hpic))
  unfold State.cmCheck
  exact ite (hshow _ _ _ _) (((hshow _ _ _ _).trans (addSat _ _ _ _ _ (.inr hsts))).trans (forceRegion _ _ _ _ _ _ _ _ _))

theorem cmChecks (s : State) : s.SheetsKept s.cmChecks :=
  foldl (fun s _ => ite (refl s) (ite (cmCheck s _) (refl s))) _ s

end State.SheetsKept
end Sys2Proof.Machine

namespace Sys2Proof.Machine

/-! ### The frame boundary (R17, R221) -/

@[simp] theorem State.sheetAt_setSheet (s : State) (k : Nat) (x : SheetSt) : (s.setSheet k x).sheetAt k = x := by
  simp [sheetAt, setSheet]

@[simp] theorem State.sheetAt_wr (s : State) (off k : Nat) (v : Word) : (s.wr off v).sheetAt k = s.sheetAt k := rfl
@[simp] theorem State.sheetAt_setB (s : State) (off b k : Nat) (v : Bool) : (s.setB off b v).sheetAt k = s.sheetAt k := rfl

/-- A sheet's set is read from the seven words at the head of its block. -/
theorem sheetCfg_congr (v w : Nat → Word) (k : Nat) (h : ∀ i, i < 7 → v (0x900100 + 0x40 * k + 4 * i) = w (0x900100 + 0x40 * k + 4 * i)) :
    sheetCfg v k = sheetCfg w k := by
  have h0 : v (Reg.couchSheetCtrl k) = w (Reg.couchSheetCtrl k) := h 0 (by decide)
  have h1 : v (Reg.couchSheetSize k) = w (Reg.couchSheetSize k) := by simpa [Reg.couchSheetSize, Nat.add_right_comm] using h 1 (by decide)
  have h2 : v (Reg.couchSheetBufLo k) = w (Reg.couchSheetBufLo k) := by simpa [Reg.couchSheetBufLo, Nat.add_right_comm] using h 2 (by decide)
  have h3 : v (Reg.couchSheetBufHi k) = w (Reg.couchSheetBufHi k) := by simpa [Reg.couchSheetBufHi, Nat.add_right_comm] using h 3 (by decide)
  have h4 : v (Reg.couchSheetLum k) = w (Reg.couchSheetLum k) := by simpa [Reg.couchSheetLum, Nat.add_right_comm] using h 4 (by decide)
  have h5 : v (Reg.couchSheetBg k) = w (Reg.couchSheetBg k) := by simpa [Reg.couchSheetBg, Nat.add_right_comm] using h 5 (by decide)
  have h6 : v (Reg.couchSheetOffset k) = w (Reg.couchSheetOffset k) := by simpa [Reg.couchSheetOffset, Nat.add_right_comm] using h 6 (by decide)
  simp only [sheetCfg, h0, h1, h2, h3, h4, h5, h6]

namespace State

theorem SheetsKept.sheetCfg {s t : State} (h : s.SheetsKept t) (k : Nat) (hk : k < 4) :
    Machine.sheetCfg t.rd k = Machine.sheetCfg s.rd k :=
  sheetCfg_congr _ _ k fun i hi => h.regs _ (by omega) (by omega)

theorem SheetsKept.sheetAt {s t : State} (h : s.SheetsKept t) (k : Nat) : t.sheetAt k = s.sheetAt k := by
  rw [State.sheetAt, h.sheet, State.sheetAt]

theorem SheetsKept.timeOf {s t : State} (h : s.SheetsKept t) (b : Nat) : t.timeOf b = s.timeOf b := by
  rw [State.timeOf, tbAt, h.tb, State.timeOf, tbAt]

theorem SheetsKept.now {s t : State} (h : s.SheetsKept t) : t.now = s.now := by rw [State.now, h.sysctr, State.now]

/-- The status bit of a sheet is none of the words its set is read from. -/
theorem sheetCfg_setB_sts (s : State) (k b : Nat) (v : Bool) :
    sheetCfg (s.setB (Reg.couchSheetSts k) b v).rd k = sheetCfg s.rd k :=
  sheetCfg_congr _ _ k fun i hi => s.rd_setB_ne _ _ _ _ (by unfold Reg.couchSheetSts; omega)

theorem commitPoint_of_unarmed (s : State) (u : CommitUnit) (g : Nat) (h : s.armOf u g = none) : s.commitPoint u g = s := by
  simp [commitPoint, h]

/-- With no group armed the groups of a boundary change nothing. -/
theorem commitPoints_of_unarmed (s : State) (gs : List (CommitUnit × Nat)) (h : s.armed = []) : s.commitPoints gs = s := by
  have hp : ∀ u g, s.commitPoint u g = s := fun u g => s.commitPoint_of_unarmed u g (by simp [armOf, h])
  unfold commitPoints
  induction gs with
  | nil => rfl
  | cons g gs ih => rw [List.foldl_cons, hp, ih]

/-- A boundary that has not come, or of a sheet that does not run, changes nothing (R445). -/
theorem frameBoundary_of_not_due (s : State) (k : Nat)
    (h : (sheetCfg s.rd k).en = false ∨ gridIndex (sheetCfg s.rd k).rate (s.timeOf (sheetCfg s.rd k).tb) ≤ (s.sheetAt k).seen) :
    s.frameBoundary k = s := by
  rcases h with h | h <;> simp [frameBoundary, h]

/-- Beginning a picture writes the sheet's new record, its status and its picture number; what follows keeps all three. -/
theorem beginPicture_shape (s : State) (k n : Nat) :
    ∃ x : SheetSt, x.picture = n ∧ x.begun = true ∧ x.composed = [] ∧ x.start = s.now ∧ x.seen = n ∧
      (((s.setSheet k x).setB (Reg.couchSheetSts k) 31 true).wr (Reg.couchSheetPic k) (BitVec.ofNat 32 n)).SheetsKept (s.beginPicture k n) := by
  have hafter : ∀ (t : State) (ps cs : List LayerCfg) (sh : SheetCfg) (prev b : Nat),
      t.SheetsKept (cs.foldl (fun s c => s.chooseTapsOf sh c) (cs.foldl (fun s c => s.chooseFrame sh prev b c)
        (ps.foldl (fun s c => s.postEffect n c.slot) t))) := fun t ps cs sh prev b =>
    ((SheetsKept.foldl (fun s c => .postEffect s n c.slot) ps t).trans (.foldl (fun s c => .chooseFrame s sh prev b c) cs _)).trans
      (.foldl (fun s c => .chooseTapsOf s sh c) cs _)
  refine ⟨_, ?_, ?_, ?_, ?_, ?_, .ite ((hafter _ _ _ _ _ _).trans (.cmBegin _)) (hafter _ _ _ _ _ _)⟩ <;> rfl

/-- What a boundary does first: the ladder's bit of a programme sheet, and the waiting posts. -/
def atBoundary (s : State) (k : Nat) : State := (if k = 0 then s else s.setB (Reg.couchSheetSts k) 30 false).takePosts

/-- It leaves the set, the time, the counter and the armed groups that the boundary goes on with. -/
theorem atBoundary_keeps (s : State) (k : Nat) (hk : k < 4) :
    sheetCfg (s.atBoundary k).rd k = sheetCfg s.rd k ∧ (∀ b, (s.atBoundary k).timeOf b = s.timeOf b) ∧ (s.atBoundary k).now = s.now ∧
      (s.atBoundary k).armed = s.armed := by
  unfold atBoundary
  split
  · have h := SheetsKept.takePosts s
    exact ⟨h.sheetCfg k hk, h.timeOf, h.now, h.armed⟩
  · have h := SheetsKept.takePosts (s.setB (Reg.couchSheetSts k) 30 false)
    exact ⟨(h.sheetCfg k hk).trans (s.sheetCfg_setB_sts k 30 false), h.timeOf, h.now, h.armed⟩

/-- A grid instant that has come begins its picture, when nothing is armed and the ladder passes no boundary by. -/
theorem frameBoundary_begins (s : State) (k : Nat) (hk : k < 4) (hen : (sheetCfg s.rd k).en = true) (harm : s.armed = [])
    (hlad : s.getF Reg.ladderSts 3 0 < 4) (hdue : (s.sheetAt k).seen < gridIndex (sheetCfg s.rd k).rate (s.timeOf (sheetCfg s.rd k).tb)) :
    s.frameBoundary k = (s.atBoundary k).beginPicture k (gridIndex (sheetCfg s.rd k).rate (s.timeOf (sheetCfg s.rd k).tb)) := by
  obtain ⟨hcfg, htime, -, harm'⟩ := s.atBoundary_keeps k hk
  have hhalf : s.halved k = false := by simp [halved, hlad]
  have hcp := (s.atBoundary k).commitPoints_of_unarmed (boundaryGroups k) (harm'.trans harm)
  have hfold : (if k = 0 then s else s.setB (Reg.couchSheetSts k) 30 false).takePosts = s.atBoundary k := rfl
  unfold frameBoundary
  dsimp only
  rw [if_neg (by simp [hen, hdue]), hhalf, if_neg (by simp), hfold, hcp, hcfg, htime, if_pos hen]

end State
end Sys2Proof.Machine

namespace Sys2Proof.Machine

/-! ### Composing a slice (R14, R229) -/

namespace State

/-- The leaves of band b's part of slice j, composed. -/
def sliceLeaves (s : State) (k b j : Nat) : State :=
  let sh := sheetCfg s.rd k
  (leafParts (j * 16 * sh.sliceRows) (min sh.h (j * 16 * sh.sliceRows + 16 * sh.sliceRows))).foldl (fun s r =>
    (leafParts (bandLo k sh.w b) (bandHi k sh.w b)).foldl (fun s c => s.composeLeaf k b c.1 c.2 r.1 r.2) s) s

theorem sliceLeaves_keeps (s : State) (k b j : Nat) : s.SheetsKept (s.sliceLeaves k b j) := .composeLeaves s k b _ _

/-- Band b counts one slice more. -/
def countSlice (s : State) (k b j : Nat) : State :=
  s.setSheet k { s.sheetAt k with composed := SMap.set (fun _ => 0) (s.sheetAt k).composed b (j + 1) }

theorem composeSlice_of_not_begun (s : State) (k b j : Nat) (h : (s.sheetAt k).begun = false) : s.composeSlice k b j = s := by
  simp [composeSlice, h]

/-- The next slice of a band, once the rows it needs are there. -/
theorem composeSlice_next (s : State) (k b j : Nat) (hbegun : (s.sheetAt k).begun = true)
    (hband : bandLo k (sheetCfg s.rd k).w b < bandHi k (sheetCfg s.rd k).w b) (hj : j < (sheetCfg s.rd k).slices)
    (hnext : SMap.get (fun _ => 0) (s.sheetAt k).composed b = j) (hready : s.sliceReady k b j = true) :
    s.composeSlice k b j =
      let t := (s.sliceLeaves k b j).countSlice k b j
      if k = 0 then (if t.sliceComposed 0 j then { t with sys := { t.sys with ladderSlices := min 16 (t.sys.ladderSlices + 1) } } else t).cmChecks
      else t := by
  unfold composeSlice
  dsimp only
  rw [if_neg (by simp [hbegun, hband, hj, hnext, hready])]
  rfl

/-- The sheet's record after it: band b has composed slice j, the other bands what they had. -/
theorem composeSlice_composed (s : State) (k b j : Nat) (hbegun : (s.sheetAt k).begun = true)
    (hband : bandLo k (sheetCfg s.rd k).w b < bandHi k (sheetCfg s.rd k).w b) (hj : j < (sheetCfg s.rd k).slices)
    (hnext : SMap.get (fun _ => 0) (s.sheetAt k).composed b = j) (hready : s.sliceReady k b j = true) :
    ((s.composeSlice k b j).sheetAt k).composed = SMap.set (fun _ => 0) (s.sheetAt k).composed b (j + 1) := by
  have hcount : (((s.sliceLeaves k b j).countSlice k b j).sheetAt k).composed = SMap.set (fun _ => 0) (s.sheetAt k).composed b (j + 1) := by
    rw [countSlice, sheetAt_setSheet, (s.sliceLeaves_keeps k b j).sheetAt]
  have hsys : ∀ (t : State) (x : Sys), t.SheetsKept { t with sys := x } := fun _ _ => ⟨rfl, rfl, rfl, rfl, fun _ _ _ => rfl⟩
  rw [s.composeSlice_next k b j hbegun hband hj hnext hready]
  dsimp only
  split
  · rw [((SheetsKept.ite (hsys _ _) (.refl _)).trans (.cmChecks _)).sheetAt k, hcount]
  · exact hcount

/-! ### The latest start of a slice (R17) -/

theorem sliceLatest_of_not_due (s : State) (k j : Nat)
    (h : (sheetCfg s.rd k).prec = true ∨ (s.timeOf (sheetCfg s.rd k).tb : Int) < s.latestStart k j) : s.sliceLatest k j = s := by
  rcases h with h | h <;> simp [sliceLatest, h]

end State

theorem foldl_fixed_of_mem {α β : Type} (f : β → α → β) (s : β) (l : List α) (h : ∀ a ∈ l, f s a = s) : l.foldl f s = s := by
  induction l with
  | nil => rfl
  | cons a l ih => rw [List.foldl_cons, h a (by simp), ih fun b hb => h b (by simp [hb])]

/-- A fold in which one element alone acts. -/
theorem foldl_single {α β : Type} (f : β → α → β) (s t : β) (b : α) (l : List α) (hnd : l.Nodup) (hb : b ∈ l) (hact : f s b = t)
    (hs : ∀ a ∈ l, a ≠ b → f s a = s) (ht : ∀ a ∈ l, a ≠ b → f t a = t) : l.foldl f s = t := by
  obtain ⟨l1, l2, rfl⟩ := List.append_of_mem hb
  have hne1 : ∀ a ∈ l1, a ≠ b := fun a ha hab => (List.nodup_append.mp hnd).2.2 a ha b (by simp) hab
  have hne2 : ∀ a ∈ l2, a ≠ b := fun a ha hab => (List.nodup_cons.mp (List.nodup_append.mp hnd).2.1).1 (hab ▸ ha)
  rw [List.foldl_append, foldl_fixed_of_mem f s l1 fun a ha => hs a (by simp [ha]) (hne1 a ha), List.foldl_cons, hact,
    foldl_fixed_of_mem f t l2 fun a ha => ht a (by simp [ha]) (hne2 a ha)]

namespace State

/-- One band has still to compose the slice, and its one live layer misses rows: that layer is completed from its fallback and counted. -/
theorem sliceLatest_splits (s : State) (k j y0 y1 b : Nat) (p : LayerCfg × (Nat × Nat)) (sh : SheetCfg) (hsh : sh = sheetCfg s.rd k)
    (hy0 : y0 = j * 16 * sh.sliceRows) (hy1 : y1 = min sh.h (y0 + 16 * sh.sliceRows)) (hbegun : (s.sheetAt k).begun = true)
    (hprec : sh.prec = false) (hj : j < sh.slices) (hdue : s.latestStart k j ≤ (s.timeOf sh.tb : Int)) (hb : b < 16)
    (hband : ∀ d, d < 16 → (SMap.get (fun _ => 0) (s.sheetAt k).composed d = j ↔ d = b)) (hlive : s.liveLayers k b = [p])
    (hcur : (s.layerAt p.1.slot).current = true) (hsplit : (s.layerAt p.1.slot).split = false) (hin : p.1.outsideBand sh b = false)
    (hneed : (s.layerAt p.1.slot).lines p.1 sh p.2.2 y0 y1 ≠ [])
    (hmiss : s.linesReady sh p.1 ((s.layerAt p.1.slot).lines p.1 sh p.2.2 y0 y1) = false) :
    s.sliceLatest k j =
      (s.setLayer p.1.slot { s.layerAt p.1.slot with split := true }).addSat (Reg.couchLayerCnt p.1.slot) 15 0 1 := by
  subst hsh hy1 hy0
  unfold sliceLatest
  dsimp only
  rw [if_neg (by simp [hbegun, hprec, hj, hdue])]
  refine foldl_single _ s _ b _ List.nodup_range (List.mem_range.mpr hb) ?_ (fun d hd hne => ?_) (fun d hd hne => ?_)
  · rw [if_neg (by simpa using (hband b hb).mpr rfl), hlive, List.foldl_cons, List.foldl_nil]
    exact if_pos (by simp [hcur, hsplit, hin, hneed, hmiss])
  · exact if_pos fun h => hne ((hband d (List.mem_range.mp hd)).mp h)
  · exact if_pos fun h => hne ((hband d (List.mem_range.mp hd)).mp h)

/-! ### Posts (R251, R252) -/

theorem bufferPost_waits (s : State) (b i : Nat) (d : QDesc) (hd : s.firstWaiting b = some (i, d)) (hk : d.kind = 1)
    (hl : byteAt d.bytes 8 < 64) (hbuf : byteAt d.bytes 9 < 2) (hz : zeroBytes d.bytes 10 22 = true)
    (hlay : (layerCfg s.rd (byteAt d.bytes 8)).kind = 2) :
    s.bufferPost b = (s.startAt b i 0).setLayer (byteAt d.bytes 8)
      { s.layerAt (byteAt d.bytes 8) with posts := (s.layerAt (byteAt d.bytes 8)).posts ++ [(byteAt d.bytes 9, b)] } := by
  unfold bufferPost
  rw [hd]
  dsimp only
  rw [if_neg (by simp [hk]), if_neg (by simp [Nat.mod_eq_of_lt hl, Nat.not_le.mpr hl, Nat.not_le.mpr hbuf, hz, hlay])]

theorem bufferPost_refused (s : State) (b i : Nat) (d : QDesc) (hd : s.firstWaiting b = some (i, d)) (hk : d.kind = 1)
    (hbuf : 2 ≤ byteAt d.bytes 9) : s.bufferPost b = s.completeAt b i 1 none := by
  unfold bufferPost
  rw [hd]
  dsimp only
  rw [if_neg (by simp [hk]), if_pos (by simp [hbuf])]

end State

/-! ### The statement about the couch -/

/-- What a boundary that has come shows of its sheet. -/
theorem State.frameBoundary_shows (s : State) (k : Nat) (hk : k < 4) (hen : (sheetCfg s.rd k).en = true) (harm : s.armed = [])
    (hlad : s.getF Reg.ladderSts 3 0 < 4) (hdue : (s.sheetAt k).seen < gridIndex (sheetCfg s.rd k).rate (s.timeOf (sheetCfg s.rd k).tb)) :
    ∃ x : SheetSt, (s.frameBoundary k).sheetAt k = x ∧ x.picture = gridIndex (sheetCfg s.rd k).rate (s.timeOf (sheetCfg s.rd k).tb) ∧
      x.begun = true ∧ x.composed = [] ∧ x.start = s.now ∧ x.seen = x.picture ∧
      (s.frameBoundary k).rd (Reg.couchSheetPic k) = BitVec.ofNat 32 (gridIndex (sheetCfg s.rd k).rate (s.timeOf (sheetCfg s.rd k).tb)) := by
  rw [s.frameBoundary_begins k hk hen harm hlad hdue]
  obtain ⟨x, hpic, hbegun, hcomp, hstart, hseen, hkeep⟩ :=
    (s.atBoundary k).beginPicture_shape k (gridIndex (sheetCfg s.rd k).rate (s.timeOf (sheetCfg s.rd k).tb))
  obtain ⟨-, -, hnow, -⟩ := s.atBoundary_keeps k hk
  refine ⟨x, by rw [hkeep.sheetAt k, sheetAt_wr, sheetAt_setB, sheetAt_setSheet], hpic, hbegun, hcomp, hstart.trans hnow, hseen.trans hpic.symm, ?_⟩
  exact (hkeep.regs _ (by unfold Reg.couchSheetPic; omega) (by unfold Reg.couchSheetPic; omega)).trans (rd_wr_same _ _ _)

/-- Settles O43: clause by clause from what the boundary, a slice, its latest start and a post do. -/
theorem couchComposesPictures : Obligations.CouchComposesPictures := by
  unfold Obligations.CouchComposesPictures
  rintro k s sh rfl
  refine ⟨fun hen harm hlad hdue => ?_, fun hno => congrArg _ (s.frameBoundary_of_not_due k hno), fun b slice j lo hi hj hlo hhi => ?_,
    fun slice j b p y0 y1 hj hy0 hy1 hbegun hprec hlt hdue hband hlive hcur hsplit hin hneed hmiss => ?_,
    fun slice hno => congrArg _ (s.sliceLatest_of_not_due k _ hno), fun b i d l hd hk hl => ?_, fun ini r v hgate => ?_⟩
  case refine_1 =>
    obtain ⟨x, rfl, hpic, hbegun, hcomp, hstart, hseen, hreg⟩ := s.frameBoundary_shows k k.isLt hen harm hlad hdue
    exact ⟨_, rfl, hpic, hbegun, hcomp, hstart, hseen, hreg⟩
  case refine_2 =>
    subst hj hlo hhi
    refine ⟨fun hb => congrArg _ (s.composeSlice_of_not_begun k b _ hb), fun hbegun hlt hj hnext hready => ⟨⟨_, rfl, fun d => ?_⟩, ?_⟩⟩
    · rw [s.composeSlice_composed k b _ hbegun hlt hj hnext hready, SMap.get_set]
      simp only [Fin.ext_iff]
    · rintro hk a rfl
      exact congrArg _ ((s.composeSlice_next k b _ hbegun hlt hj hnext hready).trans (if_neg hk))
  case refine_3 =>
    subst hj
    exact congrArg _ (s.sliceLatest_splits k _ y0 y1 b p _ rfl hy0 hy1 hbegun hprec hlt hdue b.isLt
      (fun d hd => (hband ⟨d, hd⟩).trans Fin.ext_iff) hlive hcur hsplit hin hneed hmiss)
  case refine_4 =>
    subst hl
    exact ⟨fun hl hbuf hz hlay => congrArg _ (s.bufferPost_waits b i d hd hk hl hbuf hz hlay),
      fun hbuf => congrArg _ (s.bufferPost_refused b i d hd hk hbuf)⟩
  case refine_5 =>
    refine congrArg Host.Outcome.next ((s.gatedWrite_of_ok ini _ v _ hgate).trans ?_)
    exact apply_ite (fun t : State => { t with resp := .ok 0 }) (v.getLsbD 31 = true) _ _

end Sys2Proof.Machine

namespace Sys2Proof.Machine

/-! ### A commit point of a running sheet (R19, R221) -/

/-- A couch group of a running sheet reaches its point at the sheet's frame boundary and at no other instant. -/
theorem exec_commitPoint_running (g : BitVec 16) (s : State) (h : s.flag (Reg.couchSheetCtrl g.toNat) 31 = true) :
    exec (.commitPoint .couch g) s = .next (s.frameBoundary g.toNat) :=
  congrArg Host.Outcome.next (if_neg (by simp [State.groupIdle, h]))

/-- Refutes O38: COMMIT_POINT of a running sheet between two of its frame boundaries leaves the group armed. Sheet 0 runs and no grid
instant has passed; its armed set, enabled with no size, is one the check refuses. -/
theorem not_commitPointLatchesOrRefuses : ¬ Obligations.CommitPointLatchesOrRefuses := by
  unfold Obligations.CommitPointLatchesOrRefuses
  rintro ⟨hpoint, -⟩
  obtain ⟨s, hs⟩ : ∃ s : State, s = { State.reset with
    reg := [(Reg.couchSheetCtrl 0, 0x80000000)], shd := [(Reg.couchSheetCtrl 0, 0x80940000)]
    armed := [⟨.couch, 0, 0, false, 0, []⟩] } := ⟨_, rfl⟩
  have harm : s.armOf .couch 0 = some ⟨.couch, 0, 0, false, 0, []⟩ := by subst hs; decide
  have hrefused : s.checkOf (s.viewOf [(.couch, 0)]) .couch 0 ≠ 0 := by subst hs; decide +kernel
  have hruns : s.flag (Reg.couchSheetCtrl 0) 31 = true := by subst hs; decide
  have hnone : gridIndex (sheetCfg s.rd 0).rate (s.timeOf (sheetCfg s.rd 0).tb) ≤ (s.sheetAt 0).seen := by subst hs; decide +kernel
  have hstays : exec (.commitPoint .couch 0) s = .next s :=
    (exec_commitPoint_running 0 s hruns).trans (congrArg _ (s.frameBoundary_of_not_due 0 (.inr hnone)))
  obtain ⟨t, hexec, hdisarmed, -⟩ := ((hpoint .couch 0 s _).2 harm rfl).2 _ rfl hrefused (by decide)
  obtain rfl : s = t := Host.Outcome.next.inj (hstays.symm.trans hexec)
  exact absurd (harm.symm.trans hdisarmed) (by simp)

end Sys2Proof.Machine

namespace Sys2Proof.Machine

/-! ### The management tick: readings, thermal events and the request (R30, R31, R527-R529) -/

namespace State

theorem hostStep_wr (s : State) (off : Nat) (v : Word) : s.hostStep (s.wr off v) := ⟨_, s.hif, s.outbox, rfl⟩

theorem hostStep_now {s t : State} (h : s.hostStep t) : t.now = s.now := by
  obtain ⟨_, _, _, rfl⟩ := h
  rfl

/-- A run of register writes leaves the registers it does not name. -/
theorem rd_foldl_wr_ne (s : State) (n off : Nat) (reg : Nat → Nat) (val : Nat → Word) (h : ∀ i, i < n → off ≠ reg i) :
    ((List.range n).foldl (fun s i => s.wr (reg i) (val i)) s).rd off = s.rd off := by
  induction n with
  | zero => rfl
  | succ n ih =>
    rw [List.range_succ, List.foldl_append, List.foldl_cons, List.foldl_nil, rd_wr_ne _ _ _ _ (h n (by omega))]
    exact ih fun i hi => h i (by omega)

/-- Each register a run of writes names, no two alike, holds its value. -/
theorem rd_foldl_wr (s : State) (n i : Nat) (reg : Nat → Nat) (val : Nat → Word) (hi : i < n) (hinj : ∀ a b, reg a = reg b → a = b) :
    ((List.range n).foldl (fun s i => s.wr (reg i) (val i)) s).rd (reg i) = val i := by
  induction n with
  | zero => omega
  | succ n ih =>
    rw [List.range_succ, List.foldl_append, List.foldl_cons, List.foldl_nil]
    by_cases h : i = n
    · rw [h, rd_wr_same]
    · rw [rd_wr_ne _ _ _ _ fun hr => h (hinj _ _ hr), ih (by omega)]

/-- A pace monitor's register as a tick stores it. -/
def paceWord (r : TickReadings) (m : Nat) : Word := BitVec.ofNat 32 (b2n (r.pace.getD m 0).msb * 2 ^ 31 + (r.pace.getD m 0).toNat)

theorem storeReadings_eq (s : State) (r : TickReadings) : s.storeReadings r =
    State.setB ((List.range 128).foldl (fun s m => s.wr (Reg.snsPace m) (paceWord r m))
      ((List.range 9).foldl (fun s i => s.wr (Reg.snsVmon i) (BitVec.ofNat 32 (r.vmons.getD i 0).toNat))
        ((List.range 64).foldl (fun s i => s.wr (Reg.snsTemp i) (BitVec.ofNat 32 (2 ^ 31 + (r.temps.getD i 0).toNat))) s)))
      Reg.ladderSts 4 r.critical := rfl

theorem storeReadings_temp (s : State) (r : TickReadings) (i : Nat) (hi : i < 64) :
    (s.storeReadings r).rd (Reg.snsTemp i) = BitVec.ofNat 32 (2 ^ 31 + (r.temps.getD i 0).toNat) := by
  rw [storeReadings_eq, rd_setB_ne _ _ _ _ _ (by simp only [Reg.snsTemp, Reg.ladderSts]; omega),
    rd_foldl_wr_ne _ _ _ _ _ (by simp only [Reg.snsTemp, Reg.snsPace]; omega),
    rd_foldl_wr_ne _ _ _ _ _ (by simp only [Reg.snsTemp, Reg.snsVmon]; omega),
    rd_foldl_wr s 64 i Reg.snsTemp _ hi (by simp only [Reg.snsTemp]; omega)]

theorem storeReadings_vmon (s : State) (r : TickReadings) (i : Nat) (hi : i < 9) :
    (s.storeReadings r).rd (Reg.snsVmon i) = BitVec.ofNat 32 (r.vmons.getD i 0).toNat := by
  rw [storeReadings_eq, rd_setB_ne _ _ _ _ _ (by simp only [Reg.snsVmon, Reg.ladderSts]; omega),
    rd_foldl_wr_ne _ _ _ _ _ (by simp only [Reg.snsVmon, Reg.snsPace]; omega),
    rd_foldl_wr _ 9 i Reg.snsVmon _ hi (by simp only [Reg.snsVmon]; omega)]

theorem storeReadings_pace (s : State) (r : TickReadings) (m : Nat) (hm : m < 128) : (s.storeReadings r).rd (Reg.snsPace m) = paceWord r m := by
  rw [storeReadings_eq, rd_setB_ne _ _ _ _ _ (by simp only [Reg.snsPace, Reg.ladderSts]; omega),
    rd_foldl_wr _ 128 m Reg.snsPace _ hm (by simp only [Reg.snsPace]; omega)]

/-- The readings lie below the registers of voltage and ladder. -/
theorem storeReadings_other (s : State) (r : TickReadings) (off : Nat) (h : 0x1400800 ≤ off) (hl : off ≠ Reg.ladderSts) :
    (s.storeReadings r).rd off = s.rd off := by
  rw [storeReadings_eq, rd_setB_ne _ _ _ _ _ hl, rd_foldl_wr_ne _ _ _ _ _ (by simp only [Reg.snsPace]; omega),
    rd_foldl_wr_ne _ _ _ _ _ (by simp only [Reg.snsVmon]; omega), rd_foldl_wr_ne _ _ _ _ _ (by simp only [Reg.snsTemp]; omega)]

theorem hostStep_storeReadings (s : State) (r : TickReadings) : s.hostStep (s.storeReadings r) := by
  rw [storeReadings_eq]
  exact hostStep_trans (hostStep_trans (hostStep_trans (hostStep_foldl _ (fun s _ => s.hostStep_wr _ _) _ s)
    (hostStep_foldl _ (fun s _ => s.hostStep_wr _ _) _ _)) (hostStep_foldl _ (fun s _ => s.hostStep_wr _ _) _ _)) (hostStep_setF _ _ _ _ _)

/-- The word of a pace monitor: the reading in its low half and its sign in bit 31. -/
theorem paceWord_fields (r : TickReadings) (m : Nat) :
    fld (paceWord r m) 15 0 = (r.pace.getD m 0).toNat ∧ bit (paceWord r m) 31 = (r.pace.getD m 0).msb := by
  have hlt := (r.pace.getD m 0).isLt
  simp only [paceWord, fld, bitsN, bit, BitVec.toNat_ofNat, BitVec.getLsbD_ofNat, Nat.testBit_eq_decide_div_mod_eq]
  cases (r.pace.getD m 0).msb <;> simp [b2n] <;> omega

/-! #### Thermal events -/

/-- One threshold of one sensor raises at most a host event and notes it. -/
theorem rd_thermal (s : State) (i b : Nat) (temp thr : Int) (off : Nat) (h : 0x40000 ≤ off) : (s.thermal i b temp thr).rd off = s.rd off := by
  unfold thermal
  dsimp only
  split
  · exact rd_hostEvent _ _ _ _ h
  · split
    · exact rd_hostEvent _ _ _ _ h
    · rfl

theorem now_thermal (s : State) (i b : Nat) (temp thr : Int) : (s.thermal i b temp thr).now = s.now := by
  have hev : ∀ (t : State) c d, (t.hostEvent c d).now = t.now := fun t c d => hostStep_now (t.hostStep_hostEvent c d)
  unfold thermal
  dsimp only
  split
  · rw [hev]; rfl
  · split
    · rw [hev]; rfl
    · rfl

/-- Both thresholds of every sensor. -/
def thermals (s : State) (r : TickReadings) : State :=
  (List.range 64).foldl (fun s i => (s.thermal i 0 (tickTemp r i) s.warn).thermal i 1 (tickTemp r i) s.crit) s

theorem rd_thermals (s : State) (r : TickReadings) (off : Nat) (h : 0x40000 ≤ off) : (s.thermals r).rd off = s.rd off :=
  rd_foldl _ off (fun s _ => (rd_thermal _ _ _ _ _ off h).trans (rd_thermal s _ _ _ _ off h)) _ s

theorem now_thermals (s : State) (r : TickReadings) : (s.thermals r).now = s.now := by
  unfold thermals
  generalize List.range 64 = l
  induction l generalizing s with
  | nil => rfl
  | cons i l ih => exact (ih _).trans ((now_thermal _ _ _ _ _).trans (now_thermal _ _ _ _ _))

/-- AVS_STS.hot after a tick: some sensor is above crit (R31). -/
theorem thermalTick_eq (s : State) (r : TickReadings) :
    s.thermalTick r = (s.thermals r).setB Reg.avsSts 29 (!decide (∀ i : Fin 64, tickTemp r i ≤ s.crit)) := by
  have hcrit : (s.thermals r).crit = s.crit := by
    rw [crit, getF_of_rd (s.rd_thermals r Reg.snsTherm (by decide)), crit]
  have hany : (List.range 64).any (fun i => decide (s.crit < tickTemp r i)) = !decide (∀ i : Fin 64, tickTemp r i ≤ s.crit) := by
    rw [Bool.eq_iff_iff]
    simp [Fin.exists_iff]
  unfold thermalTick
  rw [← hany, ← hcrit]
  rfl

end State
end Sys2Proof.Machine

namespace Sys2Proof.Machine

/-! #### The tick up to its steering -/

namespace State

/-- The counter value of a tick is noted. -/
def stampTick (s : State) : State := { s with sys := { s.sys with spineTick := s.now } }

theorem rd_stampTick (s : State) (off : Nat) : s.stampTick.rd off = s.rd off := rfl
theorem stampTick_spineTick (s : State) : s.stampTick.sys.spineTick = s.now := rfl
theorem stampTick_avsFaultDue (s : State) : s.stampTick.avsFaultDue = s.avsFaultDue := rfl

/-- A tick's readings, thermal events and counts, before any steering. -/
def tickRead (s : State) (r : TickReadings) : State := ((((s.storeReadings r).thermalTick r).noteSlack r).countFaults r).stampTick

theorem managementTick_early (s : State) (r : TickReadings) (h : s.now < s.sys.spineTick + 1000000) : s.managementTick r = s := by
  simp [managementTick, h]

theorem managementTick_down (s : State) (r : TickReadings) (h : s.sys.spineUp = false) : s.managementTick r = s := by
  simp [managementTick, h]

theorem managementTick_due (s : State) (r : TickReadings) (hup : s.sys.spineUp = true) (h : s.sys.spineTick + 1000000 ≤ s.now) :
    s.managementTick r = if (s.tickRead r).flag Reg.avsSts 31 || (s.tickRead r).avsFaultDue then s.tickRead r else (s.tickRead r).steer r := by
  unfold managementTick
  exact if_neg (by simp [hup, h])

/-- No sensor of the tick is above crit. -/
def cool (s : State) (r : TickReadings) : Bool := decide (∀ i : Fin 64, tickTemp r i ≤ s.crit)

theorem thermalTick_storeReadings (s : State) (r : TickReadings) :
    (s.storeReadings r).thermalTick r = ((s.storeReadings r).thermals r).setB Reg.avsSts 29 (!s.cool r) := by
  have hcrit : (s.storeReadings r).crit = s.crit := by
    rw [crit, getF_of_rd (s.storeReadings_other r Reg.snsTherm (by decide) (by decide)), crit]
  rw [thermalTick_eq, hcrit, cool]

theorem rd_noteSlack (s : State) (r : TickReadings) (off : Nat) : (s.noteSlack r).rd off = s.rd off := rfl
theorem rd_countFaults (s : State) (r : TickReadings) (off : Nat) : (s.countFaults r).rd off = s.rd off := rfl
theorem now_noteSlack (s : State) (r : TickReadings) : (s.noteSlack r).now = s.now := rfl
theorem now_countFaults (s : State) (r : TickReadings) : (s.countFaults r).now = s.now := rfl

/-- The tick's registers: noting slack and counting faults change none. -/
theorem rd_tickRead (s : State) (r : TickReadings) (off : Nat) :
    (s.tickRead r).rd off = (((s.storeReadings r).thermals r).setB Reg.avsSts 29 (!s.cool r)).rd off := by
  rw [tickRead, rd_stampTick, rd_countFaults, rd_noteSlack, thermalTick_storeReadings]

theorem tickRead_spineTick (s : State) (r : TickReadings) : (s.tickRead r).sys.spineTick = s.now := by
  rw [tickRead, stampTick_spineTick, now_countFaults, now_noteSlack, thermalTick_eq]
  exact ((s.storeReadings r).now_thermals r).trans (hostStep_now (s.hostStep_storeReadings r))

/-- Every register but AVS_STS is as the readings left it. -/
theorem rd_tickRead_other (s : State) (r : TickReadings) (off : Nat) (h : 0x40000 ≤ off) (hne : off ≠ Reg.avsSts) :
    (s.tickRead r).rd off = (s.storeReadings r).rd off := by
  rw [rd_tickRead, rd_setB_ne _ _ _ _ _ hne, rd_thermals _ _ _ h]

theorem rd_avsSts_thermals (s : State) (r : TickReadings) : ((s.storeReadings r).thermals r).rd Reg.avsSts = s.rd Reg.avsSts := by
  rw [rd_thermals _ _ _ (by decide), storeReadings_other _ _ _ (by decide) (by decide)]

theorem tickRead_request (s : State) (r : TickReadings) : (s.tickRead r).getF Reg.avsSts 15 0 = s.getF Reg.avsSts 15 0 := by
  rw [getF_of_rd (s.rd_tickRead r Reg.avsSts), getF_setB_apart _ _ _ _ _ _ (by decide) (by decide), getF_of_rd (s.rd_avsSts_thermals r)]

theorem tickRead_stopped (s : State) (r : TickReadings) : (s.tickRead r).flag Reg.avsSts 31 = s.flag Reg.avsSts 31 := by
  rw [flag_of_rd (s.rd_tickRead r Reg.avsSts), flag_setB_apart _ _ _ _ _ (by decide) (by decide), flag_of_rd (s.rd_avsSts_thermals r)]

theorem tickRead_hot (s : State) (r : TickReadings) : (s.tickRead r).flag Reg.avsSts 29 = !s.cool r := by
  rw [flag_of_rd (s.rd_tickRead r Reg.avsSts), flag_setB_same _ _ _ _ (by decide)]

/-- The window and the thresholds are the host's. -/
theorem tickRead_window (s : State) (r : TickReadings) (hi lo : Nat) : (s.tickRead r).getF Reg.avsCfg hi lo = s.getF Reg.avsCfg hi lo :=
  getF_of_rd ((s.rd_tickRead_other r _ (by decide) (by decide)).trans (s.storeReadings_other r _ (by decide) (by decide))) hi lo

theorem tickRead_thresholds (s : State) (r : TickReadings) (hi lo : Nat) : (s.tickRead r).getF Reg.avsThr hi lo = s.getF Reg.avsThr hi lo :=
  getF_of_rd ((s.rd_tickRead_other r _ (by decide) (by decide)).trans (s.storeReadings_other r _ (by decide) (by decide))) hi lo

/-- A voltage read back as requested ends any run of bad ticks (R528). -/
theorem countFaults_none (s : State) (r : TickReadings) (h : r.readback = some (BitVec.ofNat 16 (s.getF Reg.avsSts 15 0))) :
    (s.countFaults r).avsFaultDue = false := by
  have hlt : s.getF Reg.avsSts 15 0 < 2 ^ 16 := s.getF_lt _ _ _
  have hback : (BitVec.ofNat 16 (s.getF Reg.avsSts 15 0)).toNat = s.getF Reg.avsSts 15 0 := by
    rw [BitVec.toNat_ofNat, Nat.mod_eq_of_lt hlt]
  simp [countFaults, avsFaultDue, h, hback]

theorem tickRead_noFault (s : State) (r : TickReadings) (h : r.readback = some (BitVec.ofNat 16 (s.getF Reg.avsSts 15 0))) :
    (s.tickRead r).avsFaultDue = false := by
  have hrd : (((s.storeReadings r).thermalTick r).noteSlack r).rd Reg.avsSts = (s.tickRead r).rd Reg.avsSts := by
    rw [rd_noteSlack, rd_tickRead, thermalTick_storeReadings]
  have hreq := (getF_of_rd hrd 15 0).trans (s.tickRead_request r)
  rw [tickRead, stampTick_avsFaultDue, countFaults_none _ r (by rw [hreq, h])]

/-! #### Steering -/

/-- The request a tick's steering makes. -/
def steerMv (s : State) (r : TickReadings) : Nat :=
  if tickSlack r < (s.getF Reg.avsThr 7 0 * 10 : Nat) ∧ s.mvNow r < s.getF Reg.avsCfg 31 16 ∧ s.flag Reg.avsSts 29 = false then
    min (s.mvNow r + 10) (s.getF Reg.avsCfg 31 16)
  else s.mvNow r

/-- A request: AVS_STS shows it beside the bit at the limit, and it is sent; nothing else of the registers changes. -/
def request (s : State) (mv : Nat) (atMax : Bool) : State := (s.requestMv mv).setB Reg.avsSts 30 atMax

theorem request_outbox (s : State) (mv : Nat) (m : Bool) : (s.request mv m).outbox = .avs mv :: s.outbox := rfl

theorem request_sys (s : State) (mv : Nat) (m : Bool) : (s.request mv m).sys = s.sys := rfl

theorem rd_request_ne (s : State) (mv off : Nat) (m : Bool) (h : off ≠ Reg.avsSts) : (s.request mv m).rd off = s.rd off := by
  rw [request, rd_setB_ne _ _ _ _ _ h, requestMv, rd_emit, rd_setF_ne _ _ _ _ _ _ h]

theorem request_shown (s : State) (mv : Nat) (m : Bool) (h : mv < 2 ^ 16) : (s.request mv m).getF Reg.avsSts 15 0 = mv := by
  rw [request, getF_setB_apart _ _ _ _ _ _ (by decide) (by decide)]
  exact getF_setF_same s _ 15 0 mv (by decide) h

theorem request_flag (s : State) (mv b : Nat) (m : Bool) (h : 15 < b) (hb : b ≠ 30) : (s.request mv m).flag Reg.avsSts b = s.flag Reg.avsSts b := by
  rw [request, flag_setB_apart _ _ _ _ _ (by decide) hb]
  exact flag_setF_apart s _ 15 0 mv b (by decide) (.inr h)

theorem steer_eq (s : State) (r : TickReadings) : ∃ (y : Sys) (m : Bool), y.spineTick = s.sys.spineTick ∧
    s.steer r = State.request { s.bumpFree with sys := y } (s.steerMv r) m := by
  have hmv : (if (decide (tickSlack r < ((s.getF Reg.avsThr 7 0 : Int) * 10)) && decide (s.mvNow r < s.getF Reg.avsCfg 31 16)) && !s.flag Reg.avsSts 29
      then min (s.mvNow r + 10) (s.getF Reg.avsCfg 31 16) else s.mvNow r) = s.steerMv r := by
    simp [steerMv, and_assoc]
  rw [← hmv]
  unfold steer
  refine ⟨_, _, ?_, rfl⟩
  rfl

theorem mvNow_bounds (s : State) (r : TickReadings) (h : s.getF Reg.avsCfg 15 0 ≤ s.getF Reg.avsCfg 31 16) :
    s.getF Reg.avsCfg 15 0 ≤ s.mvNow r ∧ s.mvNow r ≤ s.getF Reg.avsCfg 31 16 := by
  simp only [mvNow]; omega

theorem mvNow_of_request (s : State) (r : TickReadings) (h0 : s.getF Reg.avsSts 15 0 ≠ 0) (hlo : s.getF Reg.avsCfg 15 0 ≤ s.getF Reg.avsSts 15 0)
    (hhi : s.getF Reg.avsSts 15 0 ≤ s.getF Reg.avsCfg 31 16) : s.mvNow r = s.getF Reg.avsSts 15 0 := by
  simp only [mvNow, if_pos h0]; omega

/-- The request never leaves the host's window (R31). -/
theorem steerMv_bounds (s : State) (r : TickReadings) (h : s.getF Reg.avsCfg 15 0 ≤ s.getF Reg.avsCfg 31 16) :
    s.getF Reg.avsCfg 15 0 ≤ s.steerMv r ∧ s.steerMv r ≤ s.getF Reg.avsCfg 31 16 := by
  have hb := s.mvNow_bounds r h
  unfold steerMv
  split <;> omega

end State
end Sys2Proof.Machine

namespace Sys2Proof.Machine

namespace State

/-! #### What a tick that is due shows -/

theorem steerMv_lt (s : State) (r : TickReadings) (h : s.getF Reg.avsCfg 15 0 ≤ s.getF Reg.avsCfg 31 16) : s.steerMv r < 2 ^ 16 :=
  (s.steerMv_bounds r h).2.trans_lt (s.getF_lt _ 31 16)

/-- What a tick's steering leaves: the request in AVS_STS and on the bus, every other register, the other bits of AVS_STS and the tick's time. -/
theorem steer_shows (s : State) (r : TickReadings) (h : s.getF Reg.avsCfg 15 0 ≤ s.getF Reg.avsCfg 31 16) :
    (∀ off, off ≠ Reg.avsSts → (s.steer r).rd off = s.rd off) ∧ (s.steer r).getF Reg.avsSts 15 0 = s.steerMv r ∧
      (s.steer r).flag Reg.avsSts 29 = s.flag Reg.avsSts 29 ∧ (s.steer r).outbox.head? = some (.avs (s.steerMv r)) ∧
      (s.steer r).sys.spineTick = s.sys.spineTick := by
  obtain ⟨y, m, htick, heq⟩ := s.steer_eq r
  rw [heq]
  refine ⟨fun off hne => rd_request_ne _ _ _ _ hne, request_shown _ _ _ (s.steerMv_lt r h), request_flag _ _ 29 _ (by decide) (by decide), ?_, ?_⟩
  · rw [request_outbox, List.head?_cons]
  · rw [request_sys, ← htick]

/-- The request after any tick: the one before, or one inside the window (R31). -/
theorem managementTick_request (s : State) (r : TickReadings) (h : s.getF Reg.avsCfg 15 0 ≤ s.getF Reg.avsCfg 31 16) :
    (s.managementTick r).getF Reg.avsSts 15 0 = s.getF Reg.avsSts 15 0 ∨
      (s.getF Reg.avsCfg 15 0 ≤ (s.managementTick r).getF Reg.avsSts 15 0 ∧
        (s.managementTick r).getF Reg.avsSts 15 0 ≤ s.getF Reg.avsCfg 31 16) := by
  by_cases hup : s.sys.spineUp = true
  · by_cases hdue : s.sys.spineTick + 1000000 ≤ s.now
    · rw [s.managementTick_due r hup hdue]
      split
      · exact .inl (s.tickRead_request r)
      · have hw := h
        rw [← s.tickRead_window r, ← s.tickRead_window r] at hw
        rw [(steer_shows _ r hw).2.1, ← s.tickRead_window r, ← s.tickRead_window r]
        exact .inr (steerMv_bounds _ r hw)
    · exact .inl (by rw [s.managementTick_early r (by omega)])
  · exact .inl (by rw [s.managementTick_down r (by simpa using hup)])

/-- The request a tick makes from a request inside the window: 10 mV up when slack is short and no sensor too hot, limited to vmax. -/
theorem steerMv_tickRead (s : State) (r : TickReadings) (h0 : s.getF Reg.avsSts 15 0 ≠ 0) (hlo : s.getF Reg.avsCfg 15 0 ≤ s.getF Reg.avsSts 15 0)
    (hhi : s.getF Reg.avsSts 15 0 ≤ s.getF Reg.avsCfg 31 16) :
    (s.tickRead r).steerMv r = if tickSlack r < 10 * (s.getF Reg.avsThr 7 0 : Int) ∧ ∀ i : Fin 64, tickTemp r i ≤ s.crit
      then min (s.getF Reg.avsSts 15 0 + 10) (s.getF Reg.avsCfg 31 16) else s.getF Reg.avsSts 15 0 := by
  have hmv : (s.tickRead r).mvNow r = s.getF Reg.avsSts 15 0 := by
    rw [mvNow_of_request] <;> simp only [tickRead_request, tickRead_window] <;> assumption
  have hhot : (s.tickRead r).flag Reg.avsSts 29 = false ↔ ∀ i : Fin 64, tickTemp r i ≤ s.crit := by
    rw [tickRead_hot, Bool.not_eq_false', cool, decide_eq_true_iff]
  simp only [steerMv, hmv, hhot, tickRead_window, tickRead_thresholds, Nat.cast_mul, Nat.cast_ofNat, mul_comm (10 : Int)]
  by_cases hslack : tickSlack r < (s.getF Reg.avsThr 7 0 : Int) * 10
  · by_cases hc : ∀ i : Fin 64, tickTemp r i ≤ s.crit
    · simp only [hslack, hc, implies_true, true_and, and_true, if_true]
      split <;> omega
    · simp only [hc, and_false, if_false]
  · simp only [hslack, false_and, if_false]

/-! ### The step down and the stop (R31, R528) -/

theorem steerDown_steps (s : State) (hup : s.sys.spineUp = true) (hstop : s.flag Reg.avsSts 31 = false) (hok : s.avsFaultDue = false)
    (habove : s.getF Reg.avsCfg 15 0 < s.getF Reg.avsSts 15 0) (hheld : 64 ≤ s.sys.upHold) :
    s.steerDown = State.request { s with sys := { s.sys with upHold := 0 } } (max (s.getF Reg.avsSts 15 0 - 5) (s.getF Reg.avsCfg 15 0)) false := by
  unfold steerDown
  exact if_neg (by simp [hup, hstop, hok, habove, hheld])

theorem steerDown_of_not_held (s : State) (h : s.sys.upHold < 64) : s.steerDown = s := by simp [steerDown, h]

theorem steerDown_of_fault (s : State) (h : s.avsFaultDue = true) : s.steerDown = s := by simp [steerDown, h]

theorem avsFaultDue_eq_true (s : State) : s.avsFaultDue = true ↔ 3 ≤ s.sys.mismatchTicks ∨ 3 ≤ s.sys.busTicks := by simp [avsFaultDue]

/-! ### The ladder (R33) -/

theorem hostStep_ladderTo (s : State) (n : Nat) : s.hostStep (s.ladderTo n) :=
  hostStep_trans (hostStep_trans (s.hostStep_setF Reg.ladderSts 3 0 n) (hostStep_evcSet _ 0 418)) (hostStep_hostEvent _ _ _)

/-- The ladder's register after a move: the step, and the rest as it was. -/
theorem rd_ladderTo (s : State) (n : Nat) : (s.ladderTo n).rd Reg.ladderSts = (s.setF Reg.ladderSts 3 0 n).rd Reg.ladderSts := by
  unfold ladderTo
  rw [rd_hostEvent _ _ _ _ (by decide), rd_evcSet _ _ _ _ (by decide) (by decide)]

theorem ladderTo_step (s : State) (n : Nat) (h : n < 16) : (s.ladderTo n).getF Reg.ladderSts 3 0 = n := by
  rw [getF_of_rd (s.rd_ladderTo n), getF_setF_same _ _ _ _ _ (by decide) h]

theorem ladderTo_count (s : State) (n : Nat) : (s.ladderTo n).getF Reg.ladderSts 23 8 = s.getF Reg.ladderSts 23 8 := by
  rw [getF_of_rd (s.rd_ladderTo n), getF_setF_apart _ _ _ _ _ _ _ (by decide) (by decide)]

/-- Every change of step raises source 418 of gathering 0. -/
theorem ladderTo_event (s : State) (n : Nat) : (s.ladderTo n).evcPending 0 418 = true := by
  have hrd := rd_hostEvent ((s.setF Reg.ladderSts 3 0 n).evcSet 0 418) 0x01 (s.getF Reg.ladderSts 4 4 * 16 + n) (Reg.evcPend 0 (418 / 32)) (by decide)
  rw [evcPending]
  refine (flag_of_rd hrd _).trans ?_
  rw [evcSet, if_pos (by decide), flag_setB_same _ _ _ _ (by decide)]

theorem ladderTo_sys (s : State) (n : Nat) : (s.ladderTo n).sys = s.sys := by
  obtain ⟨_, _, _, h⟩ := s.hostStep_ladderTo n
  rw [h]

theorem addSat_value (s : State) (off hi lo n : Nat) (hi32 : hi < 32) :
    (s.addSat off hi lo n).getF off hi lo = min (s.getF off hi lo + n) (2 ^ (hi + 1 - lo) - 1) :=
  s.getF_setF_same off hi lo _ hi32 ((Nat.min_le_right _ _).trans_lt (Nat.sub_one_lt (Nat.two_pow_pos _).ne'))

end State

/-! ### The commands of the ladder -/

theorem exec_ladderDescend_moves (m : Fin 128) (s : State) (hn : s.getF Reg.ladderSts 3 0 < 5) (hs : 16 ≤ s.sys.ladderSlices) :
    exec (.ladderDescend m) s = .next ((State.addSat { s with sys := { s.sys with slackLow := true, ladderSlices := 0 } }
      Reg.ladderSts 23 8 1).ladderTo (s.getF Reg.ladderSts 3 0 + 1)) :=
  congrArg Host.Outcome.next (if_pos ⟨hn, hs⟩)

theorem exec_ladderDescend_stays (m : Fin 128) (s : State) (h : ¬ (s.getF Reg.ladderSts 3 0 < 5 ∧ 16 ≤ s.sys.ladderSlices)) :
    exec (.ladderDescend m) s = .next { s with sys := { s.sys with slackLow := true } } :=
  congrArg Host.Outcome.next (if_neg h)

theorem exec_ladderAscend (s : State) : exec .ladderAscend s = .next (if 0 < s.getF Reg.ladderSts 3 0 ∧ !s.sys.slackLow ∧
    s.sys.slackOkSince + 2000000000 ≤ s.now ∧ s.sys.ladderUpAt + 2000000000 ≤ s.now
      then State.ladderTo { s with sys := { s.sys with ladderUpAt := s.now } } (s.getF Reg.ladderSts 3 0 - 1) else s) := rfl

/-! ### The statement about steering and the ladder -/

/-- A tick that is due, with steering running and the voltage read back as requested. -/
theorem managementTick_steers (r : TickReadings) (s : State) (mv vmin vmax lo : Nat) (slack : Int) (hup : s.sys.spineUp = true)
    (hstop : s.flag Reg.avsSts 31 = false) (hmv : s.getF Reg.avsSts 15 0 = mv) (hvmin : s.getF Reg.avsCfg 15 0 = vmin)
    (hvmax : s.getF Reg.avsCfg 31 16 = vmax) (hlo : vmin ≤ mv) (hhi : mv ≤ vmax) (h0 : mv ≠ 0) (hthr : s.getF Reg.avsThr 7 0 = lo)
    (hslack : tickSlack r = slack) (hback : r.readback = some (BitVec.ofNat 16 mv)) (hdue : s.sys.spineTick + 1000000 ≤ s.now) :
    ∃ t, exec (.managementTick r) s = .next t ∧
      (∀ i : Fin 64, t.rd (Reg.snsTemp i) = BitVec.ofNat 32 (2 ^ 31 + (r.temps.getD i 0).toNat)) ∧
      (∀ i : Fin 9, t.rd (Reg.snsVmon i) = BitVec.ofNat 32 (r.vmons.getD i 0).toNat) ∧
      (∀ m : Fin 128, t.getF (Reg.snsPace m) 15 0 = (r.pace.getD m 0).toNat ∧ t.flag (Reg.snsPace m) 31 = (r.pace.getD m 0).msb) ∧
      t.sys.spineTick = s.now ∧
      t.getF Reg.avsSts 15 0 = (if slack < 10 * lo ∧ ∀ i : Fin 64, tickTemp r i ≤ s.crit then min (mv + 10) vmax else mv) ∧
      t.outbox.head? = some (.avs (t.getF Reg.avsSts 15 0)) ∧ t.flag Reg.avsSts 29 = !decide (∀ i : Fin 64, tickTemp r i ≤ s.crit) := by
  subst hmv hvmin hvmax hthr hslack
  have hw := hlo.trans hhi
  rw [← s.tickRead_window r, ← s.tickRead_window r] at hw
  obtain ⟨hregs, hreq, hhot, hsent, htick⟩ := (s.tickRead r).steer_shows r hw
  have hrd : ∀ off, 0x40000 ≤ off → off ≠ Reg.avsSts → ((s.tickRead r).steer r).rd off = (s.storeReadings r).rd off :=
    fun off ho hne => (hregs off hne).trans (s.rd_tickRead_other r off ho hne)
  have hpace : ∀ m : Fin 128, ((s.tickRead r).steer r).rd (Reg.snsPace m) = State.paceWord r m := fun m =>
    (hrd _ (by simp only [Reg.snsPace]; omega) (by simp only [Reg.snsPace, Reg.avsSts]; omega)).trans (s.storeReadings_pace r m m.isLt)
  refine ⟨(s.tickRead r).steer r, ?_, fun i => ?_, fun i => ?_, fun m => ?_, htick.trans (s.tickRead_spineTick r), ?_, ?_, ?_⟩
  · refine congrArg Host.Outcome.next ((s.managementTick_due r hup hdue).trans (if_neg ?_))
    simp [s.tickRead_stopped r, hstop, s.tickRead_noFault r hback]
  · exact (hrd _ (by simp only [Reg.snsTemp]; omega) (by simp only [Reg.snsTemp, Reg.avsSts]; omega)).trans (s.storeReadings_temp r i i.isLt)
  · exact (hrd _ (by simp only [Reg.snsVmon]; omega) (by simp only [Reg.snsVmon, Reg.avsSts]; omega)).trans (s.storeReadings_vmon r i i.isLt)
  · rw [State.getF, State.flag, hpace m]
    exact State.paceWord_fields r m
  · exact hreq.trans (s.steerMv_tickRead r h0 hlo hhi)
  · rw [hsent, hreq]
  · exact hhot.trans (s.tickRead_hot r)

/-- Outside the due tick: the request's bounds, the step down, and the stop of steering. -/
theorem avs_commands (s : State) (mv vmin vmax : Nat) (hmv : s.getF Reg.avsSts 15 0 = mv) (hvmin : s.getF Reg.avsCfg 15 0 = vmin)
    (hvmax : s.getF Reg.avsCfg 31 16 = vmax) (hw : vmin ≤ vmax) :
    (∀ r, s.now < s.sys.spineTick + 1000000 → exec (.managementTick r) s = .next s) ∧
    (∀ r t, exec (.managementTick r) s = .next t → t.getF Reg.avsSts 15 0 = mv ∨ (vmin ≤ t.getF Reg.avsSts 15 0 ∧ t.getF Reg.avsSts 15 0 ≤ vmax)) ∧
    (s.sys.spineUp = true → s.flag Reg.avsSts 31 = false → s.sys.mismatchTicks < 3 → s.sys.busTicks < 3 → vmin < mv →
      (64 ≤ s.sys.upHold → ∃ t, exec .avsSteerDown s = .next t ∧ t.getF Reg.avsSts 15 0 = max (mv - 5) vmin ∧ t.sys.upHold = 0 ∧
        t.outbox = .avs (max (mv - 5) vmin) :: s.outbox ∧ ∀ off, off ≠ Reg.avsSts → t.rd off = s.rd off) ∧
      (s.sys.upHold < 64 → exec .avsSteerDown s = .next s)) ∧
    (s.flag Reg.avsSts 31 = false → (3 ≤ s.sys.mismatchTicks ∨ 3 ≤ s.sys.busTicks) →
      exec .avsFault s = .next ((s.setB Reg.avsSts 31 true).hostEvent 0x0A mv) ∧ exec .avsSteerDown s = .next s) := by
  subst hmv hvmin hvmax
  refine ⟨fun r hearly => congrArg _ (s.managementTick_early r hearly), fun r t ht => ?_,
    fun hup hstop hmis hbus habove => ⟨fun hheld => ?_, fun hheld => congrArg _ (s.steerDown_of_not_held hheld)⟩, fun hstop hbad => ?_⟩
  case refine_1 =>
    obtain rfl : s.managementTick r = t := Host.Outcome.next.inj ht
    exact s.managementTick_request r hw
  case refine_2 =>
    have hok : s.avsFaultDue = false := by
      rw [← Bool.not_eq_true, s.avsFaultDue_eq_true]; omega
    have hreq : s.getF Reg.avsSts 15 0 < 2 ^ 16 := s.getF_lt _ 15 0
    refine ⟨_, congrArg Host.Outcome.next (s.steerDown_steps hup hstop hok habove hheld), State.request_shown _ _ _ (by omega), rfl, rfl,
      fun off hne => State.rd_request_ne _ _ _ _ hne⟩
  case refine_3 =>
    have hdue := s.avsFaultDue_eq_true.mpr hbad
    exact ⟨congrArg Host.Outcome.next (if_pos (by simp [hdue, hstop])), congrArg _ (s.steerDown_of_fault hdue)⟩

/-- The ladder's moves and what forbids them. -/
theorem ladder_commands (m : Fin 128) (s : State) (n : Nat) (hn : s.getF Reg.ladderSts 3 0 = n) :
    (n < 5 → 16 ≤ s.sys.ladderSlices → ∃ t, exec (.ladderDescend m) s = .next t ∧ t.getF Reg.ladderSts 3 0 = n + 1 ∧
      t.evcPending 0 418 = true ∧ t.sys.ladderSlices = 0 ∧ t.getF Reg.ladderSts 23 8 = min (s.getF Reg.ladderSts 23 8 + 1) 65535) ∧
    (n = 5 ∨ s.sys.ladderSlices < 16 → ∃ t, exec (.ladderDescend m) s = .next t ∧ t.reg = s.reg ∧ t.outbox = s.outbox) ∧
    (0 < n → n ≤ 5 → s.sys.slackLow = false → s.sys.slackOkSince + 2000000000 ≤ s.now → s.sys.ladderUpAt + 2000000000 ≤ s.now →
      ∃ t, exec .ladderAscend s = .next t ∧ t.getF Reg.ladderSts 3 0 = n - 1 ∧ t.evcPending 0 418 = true ∧ t.sys.ladderUpAt = s.now ∧
        { t with reg := s.reg, sys := s.sys, hif := s.hif, outbox := s.outbox } = s) ∧
    (n = 0 ∨ s.sys.slackLow = true ∨ s.now < s.sys.slackOkSince + 2000000000 ∨ s.now < s.sys.ladderUpAt + 2000000000 →
      exec .ladderAscend s = .next s) := by
  subst hn
  refine ⟨fun hstep hsl => ⟨_, exec_ladderDescend_moves m s hstep hsl, ?_, ?_, ?_, ?_⟩, fun hno => ?_, fun hpos hle hlow hok hup => ?_, fun hno => ?_⟩
  · exact State.ladderTo_step _ _ (by omega)
  · exact State.ladderTo_event _ _
  · rw [State.ladderTo_sys]; rfl
  · rw [State.ladderTo_count, State.addSat_value _ _ _ _ _ (by decide)]; rfl
  · exact ⟨_, exec_ladderDescend_stays m s (by omega), rfl, rfl⟩
  · rw [exec_ladderAscend, if_pos (by simp [hpos, hlow, hok, hup])]
    refine ⟨_, rfl, State.ladderTo_step _ _ (by omega), State.ladderTo_event _ _, by rw [State.ladderTo_sys], ?_⟩
    obtain ⟨_, _, _, heq⟩ := State.hostStep_ladderTo { s with sys := { s.sys with ladderUpAt := s.now } } (s.getF Reg.ladderSts 3 0 - 1)
    rw [heq]
  · rw [exec_ladderAscend, if_neg]
    rintro ⟨hpos, hlow, hok, hup⟩
    rw [Bool.not_eq_true'] at hlow
    rcases hno with h | h | h | h
    · omega
    · exact Bool.false_ne_true (hlow.symm.trans h)
    · omega
    · omega

/-- Settles O40: the due tick, the other AVS commands and the ladder, each from its own theorem. -/
theorem steeringAndLadder : Obligations.SteeringAndLadder :=
  ⟨managementTick_steers, avs_commands, ladder_commands⟩

end Sys2Proof.Machine

namespace Sys2Proof.Machine

/-! ### How an instruction that is executed ends (R60-R63)

One rule per format, and one per way the body can end. -/

/-- An engine whose current context's pc has moved on by n. -/
def Eng.stepPc (x : Eng) (n : Nat) : Eng := x.setCtx x.cur { x.ctx x.cur with pc := (x.ctx x.cur).pc + BitVec.ofNat 13 n }

/-- The pc of a context that was put in place of an occupied or empty one like it. -/
theorem Eng.stepPc_setCtx (x : Eng) (d : Ctx) (n : Nat) (ho : d.occ = (x.ctx x.cur).occ) :
    (x.setCtx x.cur d).stepPc n = x.setCtx x.cur { d with pc := d.pc + BitVec.ofNat 13 n } := by
  rw [Eng.stepPc, x.cur_setCtx d ho, Eng.ctx_setCtx, Eng.setCtx_setCtx]

theorem Eng.stepPc_wrote (x : Eng) (d : Ctx) (rd : BitVec 5) (v : Word) (n : Nat) (ho : d.occ = (x.ctx x.cur).occ) :
    (x.setCtx x.cur (d.setG rd.toNat v)).stepPc n = x.setCtx x.cur (d.wrote rd v n) :=
  x.stepPc_setCtx (d.setG rd.toNat v) n ho

namespace State

/-- The context and its kind are read from the engine's record. -/
theorem ctxOf_eq (s : State) (q : EngId) : s.ctxOf q = (s.engOf q).ctx (s.engOf q).cur := rfl

theorem urgOf_eq (s : State) (q : EngId) : s.urgOf q = (s.engOf q).cur := rfl

/-- Moving pc on after a step of one engine is a step of that engine. -/
theorem engStep_stepPc {s t : State} {q : EngId} {x : Eng} (h : s.engStep t q x) (n : Nat) : s.engStep (t.stepPc q n) q (x.stepPc n) := by
  rw [stepPc, putCtx_eq, ctxOf_eq, urgOf_eq, h.1]
  exact s.engStep_again t q x _ h

/-- A second replacement of the current context leaves a step of that context. -/
theorem ctxStep_putCtx_putCtx (s : State) (q : EngId) (d d' : Ctx) (ho : d.occ = (s.ctxOf q).occ) :
    s.ctxStep ((s.putCtx q d).putCtx q d') q d' := by
  rw [putCtx_eq _ q d', s.urgOf_putCtx q d ho, putCtx_eq, engOf_putEng, Eng.setCtx_setCtx]
  exact s.engStep_again _ q _ _ (s.engStep_putEng q _)

/-- A body that puts a context in place, with pc then moved on, is a step of that context from whatever state the body left. -/
theorem ctxStep_putCtx_stepPc (s : State) (q : EngId) (d : Ctx) (n : Nat) (ho : d.occ = (s.ctxOf q).occ) :
    s.ctxStep ((s.putCtx q d).stepPc q n) q { d with pc := d.pc + BitVec.ofNat 13 n } := by
  have h := engStep_stepPc (s.engStep_putEng q ((s.engOf q).setCtx (s.urgOf q) d)) n
  rwa [urgOf_eq, (s.engOf q).stepPc_setCtx d n ho] at h

/-- The same for a body that writes one general register. -/
theorem ctxStep_wrote (s : State) (q : EngId) {c : Ctx} (ho : c.occ = (s.ctxOf q).occ) (rd : BitVec 5) (v : Word) (n : Nat) :
    s.ctxStep ((s.putCtx q (c.setG rd.toNat v)).stepPc q n) q (c.wrote rd v n) :=
  s.ctxStep_putCtx_stepPc q (c.setG rd.toNat v) n ho

/-- The same for a body that writes one vector register. -/
theorem ctxStep_wroteV (s : State) (q : EngId) {c : Ctx} (ho : c.occ = (s.ctxOf q).occ) (rd : BitVec 5) (v : BitVec 256) :
    s.ctxStep ((s.putCtx q (c.setV rd.toNat v)).stepPc q 4) q (c.wroteV rd v) :=
  s.ctxStep_putCtx_stepPc q (c.setV rd.toNat v) 4 ho

/-- Replacing the current context is a step of that context. -/
theorem ctxStep_putCtx (s : State) (q : EngId) (d : Ctx) : s.ctxStep (s.putCtx q d) q d := s.engStep_putEng q _

/-- A state whose engines are those of s has their contexts. -/
theorem ctxOf_of_eng {s t : State} (h : t.eng = s.eng) (q : EngId) : t.ctxOf q = s.ctxOf q := by
  simp [ctxOf, engAt, h]

theorem engOf_of_eng {s t : State} (h : t.eng = s.eng) (q : EngId) : t.engOf q = s.engOf q := by
  simp [engOf, engAt, h]

theorem urgOf_of_eng {s t : State} (h : t.eng = s.eng) (q : EngId) : t.urgOf q = s.urgOf q := by
  simp [urgOf, engAt, h]

/-- A step from a state whose engines are those of s, as seen from s. -/
theorem ctxStep_of_eng {s s1 t : State} {q : EngId} {c : Ctx} (heng : s1.eng = s.eng) (h : s1.ctxStep t q c) :
    t.engOf q = (s.engOf q).setCtx (s.urgOf q) c ∧ (∀ p, p ≠ q → t.engOf p = s.engOf p) ∧ { t with eng := s.eng } = s1 := by
  obtain ⟨hq, hother, hrest⟩ := h
  rw [engOf_of_eng heng, urgOf_of_eng heng] at hq
  rw [heng] at hrest
  exact ⟨hq, fun p hp => (hother p hp).trans (engOf_of_eng heng p), hrest⟩

section Formats
variable {s : State} {q : EngId} {body : State → Ctx → Res} {legal : Bool} {i : Instr}

theorem instr_insR {a : RArgs} (hx : s.executes q 4 a.pr a.pn) (hr : s.reads q i) (ha : a.x = false) (hl : legal = true) :
    s.instr q (insR i a legal) body = s.finish q (s.ctxOf q).pc.toNat 4 (body s (s.ctxOf q)) :=
  s.instr_runs q (insR i a legal) body a.pr hx rfl (by simp [insR, ha, hl]) rfl hr

theorem instr_insV {a : VArgs} (hx : s.executes q 4 a.pr a.pn) (hr : s.reads q i) (ha : a.x = false) (hl : legal = true) :
    s.instr q (insV i a legal) body = s.finish q (s.ctxOf q).pc.toNat 4 (body s (s.ctxOf q)) :=
  s.instr_runs q (insV i a legal) body a.pr hx rfl (by simp [insV, ha, hl]) rfl hr

theorem instr_insM {a : MArgs} (hx : s.executes q 4 a.pr false) (hr : s.reads q i) (ha : a.x = false) (hl : legal = true) :
    s.instr q (insM i a legal) body = s.finish q (s.ctxOf q).pc.toNat 4 (body s (s.ctxOf q)) :=
  s.instr_runs q (insM i a legal) body a.pr hx rfl (by simp [insM, ha, hl]) rfl hr

theorem instr_insT {a : TArgs} (hx : s.executes q 4 a.pr false) (hr : s.reads q i) (ha : a.x = false) (hl : legal = true) :
    s.instr q (insT i a legal) body = s.finish q (s.ctxOf q).pc.toNat 4 (body s (s.ctxOf q)) :=
  s.instr_runs q (insT i a legal) body a.pr hx rfl (by simp [insT, ha, hl]) rfl hr

theorem instr_insU {a : UArgs} (hx : s.executes q 4 a.pr false) (hr : s.reads q i) (ha : a.x = false) (hl : a.low = 0) :
    s.instr q (insU i a) body = s.finish q (s.ctxOf q).pc.toNat 4 (body s (s.ctxOf q)) :=
  s.instr_runs q (insU i a) body a.pr hx rfl (by simp [insU, ha, hl]) rfl hr

theorem instr_insB {a : BArgs} (hx : s.executes q 4 a.pr a.pn) (hr : s.reads q i) (ha : a.x = false) :
    s.instr q (insB i a) body = s.finish q (s.ctxOf q).pc.toNat 4 (body s (s.ctxOf q)) :=
  s.instr_runs q (insB i a) body a.pr hx rfl (by simp [insB, ha]) rfl hr

/-- With an extension word imm12 is 0 and the immediate is the extension word, so one condition speaks of both forms. -/
theorem instr_insI {a : IArgs} {imm : Word → Bool} (hx : s.executes q (IArgs.size a) a.pr false) (hr : s.reads q i)
    (ha : a.x = true → a.imm12 = 0) (hl : legal = true) (hi : imm (IArgs.immZ a) = true) :
    s.instr q (insI i a legal imm) body = s.finish q (s.ctxOf q).pc.toNat (IArgs.size a) (body s (s.ctxOf q)) := by
  refine s.instr_runs q (insI i a legal imm) body a.pr hx rfl ?_ ?_ hr
  · cases h : a.x <;> simp_all [insI, IArgs.immZ]
  · cases h : a.x <;> simp_all [insI, IArgs.immZ]

end Formats

/-- An act after its release wait (R77). -/
theorem afterRelease_of_released {s : State} {q : EngId} {c : Ctx} (h : c.released) (act : Res) : Res.afterRelease s q c act = act := by
  simp [Res.afterRelease, h.1, h.2]

end State
end Sys2Proof.Machine

namespace Sys2Proof.Machine

/-! ### The comparisons (R64) -/

/-- A predicate read back after a write: p0 is always true, the one written has the new value, the others keep theirs. -/
theorem Ctx.pred_setP (c : Ctx) (j k : Nat) (b : Bool) (hj : j < 8) (hk : k < 8) :
    (c.setP j b).pred k = if k = 0 then true else if k = j then b else c.pred k := by
  have bit_write : ((c.p &&& ~~~(BitVec.ofNat 8 (2 ^ j))) ||| BitVec.ofNat 8 (b2n b * 2 ^ j)).getLsbD k =
      if k = j then b else c.p.getLsbD k := by
    simp only [BitVec.getLsbD_or, BitVec.getLsbD_and, BitVec.getLsbD_not, BitVec.getLsbD_ofNat, hk, Nat.testBit_two_pow,
      Nat.testBit_mul_two_pow, b2n]
    rcases Nat.lt_trichotomy k j with h | rfl | h
    · simp [Nat.ne_of_lt h, Nat.ne_of_gt h, Nat.not_le.mpr h]
    · cases b <;> simp
    · have hb : (if b = true then 1 else 0) < 2 ^ (k - j) :=
        lt_of_le_of_lt (by split <;> decide) (Nat.one_lt_two_pow (by omega))
      simp [Nat.ne_of_lt h, Nat.ne_of_gt h, Nat.testBit_lt_two_pow hb]
  unfold Ctx.pred Ctx.setP
  by_cases hj0 : j = 0
  · by_cases hk0 : k = 0 <;> simp [hj0, hk0]
  · simp only [if_neg hj0, bit_write]
    by_cases hk0 : k = 0 <;> by_cases hkj : k = j <;> simp [hk0, hkj, hj0]

/-- A PCMP that is executed writes its predicate and moves pc on. -/
theorem State.pcmp_step {s : State} {q : EngId} {i : Instr} {a : RArgs} {f : Word → Word → Bool} (hx : s.executes q 4 a.pr a.pn)
    (hr : s.reads q i) (ha : a.x = false) (hd : a.rd.toNat < 8) :
    s.ctxStep (s.pcmp q i a f) q { (s.ctxOf q).setP a.rd.toNat (f ((s.ctxOf q).gr a.ra.toNat) ((s.ctxOf q).gr a.rb.toNat)) with
      pc := (s.ctxOf q).pc + 4 } := by
  rw [pcmp, instr_insR hx hr ha (decide_eq_true hd), Nat.mod_eq_of_lt hd]
  exact s.ctxStep_putCtx_stepPc q (Ctx.setP _ _ _) 4 rfl

/-- Settles O9: each of the six commands is a PCMP with its comparison, whose predicate write is read back. -/
theorem compareWritesPredicate : Obligations.CompareWritesPredicate := by
  unfold Obligations.CompareWritesPredicate
  rintro q a s c x y hx ha hd rfl rfl rfl i b hi hr
  have answers : ∀ f : Word → Word → Bool, exec i s = .next (s.pcmp q i a f) →
      f ((s.ctxOf q).gr a.ra.toNat) ((s.ctxOf q).gr a.rb.toNat) = b →
      ∃ t d, exec i s = .next t ∧ s.ctxStep t q d ∧ { d with p := (s.ctxOf q).p, pc := (s.ctxOf q).pc } = s.ctxOf q ∧
        d.pc = (s.ctxOf q).pc + 4 ∧ ∀ k, k < 8 → d.pred k = if k = 0 then true else if k = a.rd.toNat then b else (s.ctxOf q).pred k := by
    rintro f hf rfl
    exact ⟨_, _, hf, State.pcmp_step hx hr ha hd, rfl, rfl, fun k hk => (s.ctxOf q).pred_setP _ k _ hd hk⟩
  simp only [List.mem_cons, Prod.mk.injEq, List.not_mem_nil, or_false] at hi
  rcases hi with ⟨rfl, rfl⟩ | ⟨rfl, rfl⟩ | ⟨rfl, rfl⟩ | ⟨rfl, rfl⟩ | ⟨rfl, rfl⟩ | ⟨rfl, rfl⟩
  · exact answers condEq rfl rfl
  · exact answers condNe rfl rfl
  · exact answers condLt rfl rfl
  · exact answers condGe rfl rfl
  · exact answers condLtu rfl rfl
  · exact answers condGeu rfl rfl

/-! ### The immediate instructions (R65) -/

/-- An immediate instruction that is executed writes its result and moves pc past both its words. -/
theorem State.aluI_step {s : State} {q : EngId} {i : Instr} {a : IArgs} {imm : Word} {legal : Bool} {f : Word → Word → Word}
    (hx : s.executes q (IArgs.size a) a.pr false) (hr : s.reads q i) (ha : a.x = true → a.imm12 = 0) (hl : legal = true) :
    s.ctxStep (s.aluI q i a imm legal f) q ((s.ctxOf q).wrote a.rd (f ((s.ctxOf q).gr a.ra.toNat) imm) (IArgs.size a)) := by
  rw [aluI, instr_insI hx hr ha hl rfl]
  exact s.ctxStep_wrote q rfl _ _ _

/-- The amount of a shift by an immediate is imm12 itself, as its upper bits are 0. -/
theorem fld_immZ_shift (a : IArgs) (hx : a.x = false) (h : a.imm12.toNat < 32) : fld (IArgs.immZ a) 4 0 = a.imm12.toNat := by
  simp [fld, bitsN, IArgs.immZ, hx]
  omega

/-- A shift by an immediate: four bytes, and the amount is imm12. -/
theorem State.shiftI_step {s : State} {q : EngId} {i : Instr} {a : IArgs} {f : Word → Nat → Word}
    (hx : s.executes q (IArgs.size a) a.pr false) (hr : s.reads q i) (h0 : a.x = false) (h32 : a.imm12.toNat < 32) :
    s.ctxStep (s.aluI q i a (IArgs.immZ a) (IArgs.shiftLegal a) (fun x m => f x (fld m 4 0))) q
      ((s.ctxOf q).wrote a.rd (f ((s.ctxOf q).gr a.ra.toNat) a.imm12.toNat) 4) := by
  have h := State.aluI_step (imm := IArgs.immZ a) (f := fun x m => f x (fld m 4 0)) hx hr (by simp [h0])
    (legal := IArgs.shiftLegal a) (by simp [IArgs.shiftLegal, h0, h32])
  simpa only [fld_immZ_shift a h0 h32, IArgs.size, h0, Bool.false_eq_true, if_false] using h

/-- Settles O10: the immediate of each form is the instruction's operand, and a shift's amount is its imm12. -/
theorem immediateInstructionResults : Obligations.ImmediateInstructionResults := by
  unfold Obligations.ImmediateInstructionResults
  rintro q a s c x m hx ha rfl rfl rfl
  refine ⟨fun hr => ⟨_, rfl, State.aluI_step hx hr ha rfl⟩, fun hr => ⟨_, rfl, State.aluI_step hx hr ha rfl⟩,
    fun hr => ⟨_, rfl, State.aluI_step hx hr ha rfl⟩, fun hr => ⟨_, rfl, State.aluI_step hx hr ha rfl⟩, fun h0 h32 => ?_⟩
  exact ⟨fun hr => ⟨_, rfl, State.shiftI_step (f := fun x n => x <<< n) hx hr h0 h32⟩,
    fun hr => ⟨_, rfl, State.shiftI_step (f := fun x n => x >>> n) hx hr h0 h32⟩,
    fun hr => ⟨_, rfl, State.shiftI_step (f := BitVec.sshiftRight) hx hr h0 h32⟩⟩

end Sys2Proof.Machine

namespace Sys2Proof.Machine

/-! ### The local memory instructions (R57, R66) -/

/-- A byte inside a run of written values. -/
theorem SMap.get_setList_inside {α : Type} [DecidableEq α] (d : Nat → α) (vs : List α) (m : SMap α) (k i : Nat) (h : i < vs.length) :
    SMap.get d (SMap.setList d m k vs) (k + i) = vs[i] := by
  induction vs generalizing m k i with
  | nil => cases h
  | cons v vs ih =>
    cases i with
    | zero => exact (SMap.get_setList_ne d vs _ _ k (.inl (Nat.lt_succ_self k))).trans (SMap.get_set_same d m k v)
    | succ i => rw [← Nat.succ_add_eq_add_succ]; exact ih _ _ i (Nat.lt_of_succ_lt_succ h)

@[simp] theorem length_leBytes (n v : Nat) : (leBytes n v).length = n := by
  induction n generalizing v with
  | zero => rfl
  | succ n ih => simp [leBytes, ih]

theorem getElem_leBytes (n v i : Nat) (h : i < (leBytes n v).length) : (leBytes n v)[i] = BitVec.ofNat 8 (v / 256 ^ i) := by
  induction n generalizing v i with
  | zero => cases h
  | succ n ih =>
    cases i with
    | zero => simp [leBytes]
    | succ i => simp only [leBytes, List.getElem_cons_succ, ih, Nat.div_div_eq_div_mul, Nat.pow_succ']

/-- The local bytes after a store of the n bytes of v: its bytes in the range, the old ones elsewhere. -/
theorem Eng.byte_setBytes_leBytes (x : Eng) (a n v b : Nat) :
    (x.setBytes a (leBytes n v)).byte b = if a ≤ b ∧ b < a + n then BitVec.ofNat 8 (v / 256 ^ (b - a)) else x.byte b := by
  split
  · next h =>
    have hi : b - a < (leBytes n v).length := by rw [length_leBytes]; omega
    have hb := SMap.get_setList_inside (fun j => if x.fill = 0 then 0 else Config.ramNoise x.fill j) (leBytes n v) x.ram a (b - a) hi
    rw [Nat.add_sub_cancel' h.1, getElem_leBytes] at hb
    exact hb
  · next h => exact SMap.get_setList_ne _ _ _ _ _ (by rw [length_leBytes]; omega)

namespace State

/-- An access inside local memory, aligned and not interlocked, is made. -/
theorem localAcc_inside {s : State} {a : MArgs} {n : Nat} {c : Ctx} (act : Nat → State) (hin : MArgs.addr a c + n ≤ 0x6000)
    (hal : MArgs.addr a c % n = 0) (hil : c.interlocked (MArgs.addr a c) n = false) : s.localAcc a n c act = .next (act (MArgs.addr a c)) := by
  simp [localAcc, localBad, Nat.not_lt.mpr hin, hal, hil]

/-- A store's step: the bytes of v from a on, and pc moved on. -/
theorem stored_stepPc (s : State) (q : EngId) (a n v : Nat) :
    ∃ y, s.engStep ((s.putEng q ((s.engOf q).setBytes a (leBytes n v))).stepPc q 4) q y ∧
      (s.engOf q).stored y { s.ctxOf q with pc := (s.ctxOf q).pc + 4 } a n (fun i => BitVec.ofNat 8 (v / 256 ^ i)) :=
  ⟨_, engStep_stepPc (s.engStep_putEng q _) 4, rfl, fun b => (s.engOf q).byte_setBytes_leBytes a n v b⟩

end State

/-- A register index below 16 is a vector register's. -/
theorem vreg_of_lt (r : BitVec 5) (h : r.toNat < 16) : vreg r = true := by
  rw [vreg, ← BitVec.testBit_toNat, Nat.testBit_lt_two_pow (i := 4) h]; rfl

/-- Settles O11: each access is inside local memory, aligned and not interlocked, so it is made, and the store's bytes are read back. -/
theorem localMemoryInstructions : Obligations.LocalMemoryInstructions := by
  unfold Obligations.LocalMemoryInstructions
  rintro q a s c x addr hx ha rfl rfl rfl
  constructor
  case left =>
    rintro n rfl hsz hin hal hil
    have hl : decide (a.sz ≠ 3) = true := decide_eq_true hsz
    have acc := fun act => State.localAcc_inside (s := s) (a := a) (n := MArgs.width a) (c := s.ctxOf q) act hin hal hil
    refine ⟨fun hr => ⟨_, rfl, ?_⟩, fun hr => ⟨_, rfl, ?_⟩, fun hr => ?_⟩
    · rw [State.instr_insM hx hr ha hl, acc]
      exact s.ctxStep_wrote q rfl _ _ 4
    · rw [State.instr_insM hx hr ha hl, acc]
      exact s.ctxStep_wrote q rfl _ _ 4
    · obtain ⟨y, hstep, hst⟩ := s.stored_stepPc q (MArgs.addr a (s.ctxOf q)) (MArgs.width a) ((s.ctxOf q).gr a.rd.toNat).toNat
      refine ⟨_, y, rfl, ?_, hst⟩
      rw [State.instr_insM hx hr ha hl, acc]
      exact hstep
  case right =>
    intro hsz hv hin hal hil
    have hl : (decide (a.sz = 0) && vreg a.rd) = true := by rw [decide_eq_true hsz, vreg_of_lt a.rd hv]; rfl
    have acc := fun act => State.localAcc_inside (s := s) (a := a) (c := s.ctxOf q) act hin hal hil
    refine ⟨fun hr => ⟨_, rfl, ?_⟩, fun hr => ?_⟩
    · rw [State.instr_insM hx hr ha hl, acc]
      exact s.ctxStep_wroteV q rfl _ _
    · obtain ⟨y, hstep, hst⟩ := s.stored_stepPc q (MArgs.addr a (s.ctxOf q)) 32 ((s.ctxOf q).vr a.rd.toNat).toNat
      refine ⟨_, y, rfl, ?_, hst⟩
      rw [State.instr_insM hx hr ha hl, acc]
      exact hstep

end Sys2Proof.Machine

namespace Sys2Proof.Machine

/-! ### Branches (R63, R68) -/

/-- A target inside the instruction buffer is jumped to. -/
theorem Res.branch_inside (s s' : State) (t : Int) (h0 : 0 ≤ t) (h1 : t ≤ 0x1FFC) : Res.branch s s' t = .jump s' t.toNat :=
  if_pos ⟨h0, h1⟩

/-- A target outside it faults with the state before the link. -/
theorem Res.branch_outside (s s' : State) (t : Int) (h : t < 0 ∨ 0x1FFC < t) :
    Res.branch s s' t = .fault s causePcRange none (wordOfInt t).toNat :=
  if_neg (by omega)

/-- A pc inside the instruction buffer, as a number and as an integer. -/
theorem ofNat_toNat_eq_ofInt (n : Nat) (t : Int) (h : 0 ≤ t) : BitVec.ofNat n t.toNat = BitVec.ofInt n t := by
  conv_rhs => rw [← Int.toNat_of_nonneg h]
  exact (BitVec.ofInt_natCast n t.toNat).symm

namespace State

/-- BR and CALL: the jump of a context d that keeps its occupant, and the fault. -/
theorem branch_step {s : State} {q : EngId} {i : Instr} {a : BArgs} {link : State → Ctx → State} {d : Ctx}
    (hx : s.executes q 4 a.pr a.pn) (hr : s.reads q i) (ha : a.x = false)
    (hjump : ∀ pc, s.ctxStep ((link s (s.ctxOf q)).putCtx q { (link s (s.ctxOf q)).ctxOf q with pc := pc }) q { d with pc := pc }) :
    let t := s.instr q (insB i a) (fun s c => Res.branch s (link s c) (BArgs.target a c.pc.toNat))
    let dest := BArgs.target a (s.ctxOf q).pc.toNat
    (0 ≤ dest → dest ≤ 0x1FFC → s.ctxStep t q { d with pc := BitVec.ofInt 13 dest }) ∧
      ((dest < 0 ∨ 0x1FFC < dest) →
        t = s.fault q.g q.e (s.urgOf q) 0x02 (s.ctxOf q).pc.toNat (s.ctxOf q).pc.toNat (BitVec.ofInt 32 dest).toNat) := by
  intro t dest
  have ht : t = s.finish q (s.ctxOf q).pc.toNat 4 (Res.branch s (link s (s.ctxOf q)) dest) := instr_insB hx hr ha
  refine ⟨fun h0 h1 => ?_, fun hout => ?_⟩
  · rw [ht, Res.branch_inside _ _ _ h0 h1, ← ofNat_toNat_eq_ofInt 13 dest h0]
    exact hjump _
  · rw [ht, Res.branch_outside _ _ _ hout]; rfl

/-- A jump of a context that is in place already. -/
theorem ctxStep_jump (s : State) (q : EngId) (pc : BitVec 13) : s.ctxStep (s.putCtx q { s.ctxOf q with pc := pc }) q { s.ctxOf q with pc := pc } :=
  s.ctxStep_putCtx q _

/-- A jump after a link was written. -/
theorem ctxStep_link_jump (s : State) (q : EngId) (rd : Nat) (link : Word) (pc : BitVec 13) :
    s.ctxStep ((s.putCtx q ((s.ctxOf q).setG rd link)).putCtx q { (s.putCtx q ((s.ctxOf q).setG rd link)).ctxOf q with pc := pc }) q
      { (s.ctxOf q).setG rd link with pc := pc } := by
  rw [s.ctxOf_putCtx q ((s.ctxOf q).setG rd link) rfl]
  exact s.ctxStep_putCtx_putCtx q _ _ rfl

end State

/-- Settles O15: BR and CALL are one branch with and without a link, and JR tests its target's alignment as well. -/
theorem branchesJump : Obligations.BranchesJump := by
  unfold Obligations.BranchesJump
  rintro q s c link rfl rfl
  constructor
  case left =>
    rintro a dest hx ha rfl
    have br := fun hr => State.branch_step (i := .br q a) (link := fun s _ => s) hx hr ha (s.ctxStep_jump q)
    have call := fun hr => State.branch_step (i := .call q a)
      (link := fun s c => s.putCtx q (c.setG 31 (BitVec.ofNat 32 (c.pc.toNat + 4)))) hx hr ha (s.ctxStep_link_jump q 31 _)
    refine ⟨fun h0 h1 => ⟨fun hr => ⟨_, rfl, (br hr).1 h0 h1⟩, fun hr => ⟨_, rfl, (call hr).1 h0 h1⟩⟩, fun hout i hi hr => ?_⟩
    simp only [List.mem_cons, List.not_mem_nil, or_false] at hi
    rcases hi with rfl | rfl
    · exact congrArg Host.Outcome.next ((br hr).2 hout)
    · exact congrArg Host.Outcome.next ((call hr).2 hout)
  case right =>
    rintro a dest hx ha hpn hfn hrb rfl
    have hl : (decide (a.fn = 0) && decide (a.rb = 0) && !a.pn) = true := by simp [hfn, hrb, hpn]
    refine ⟨fun hal hin hr => ⟨_, rfl, ?_⟩, fun hbad hr => congrArg Host.Outcome.next ?_⟩
    · rw [State.instr_insR (hpn ▸ hx) hr ha hl]
      simp only [hal, ne_eq, not_true_eq_false, if_false, Nat.not_lt.mpr hin]
      exact s.ctxStep_link_jump q _ _ _
    · rw [State.instr_insR (hpn ▸ hx) hr ha hl]
      by_cases hal : ((s.ctxOf q).gr a.ra.toNat).toNat % 4 = 0
      · simp only [hal, ne_eq, not_true_eq_false, if_false, if_pos (hbad.resolve_left (not_not_intro hal))]
        rfl
      · simp only [ne_eq, hal, not_false_eq_true, if_true]
        rfl

end Sys2Proof.Machine

namespace Sys2Proof.Machine

/-! ### Operand words (R68): the fields as numbers -/

/-- The gathering of a task or event operand. -/
theorem opGath_eq (w : Word) : opGath w = w.toNat / 2 ^ 16 % 64 := rfl

/-- The task id of a task operand. -/
theorem opTask_eq (w : Word) : opTask w = w.toNat % 2 ^ 16 := by simp [opTask, fld, bitsN]

/-- The source of an event operand. -/
theorem opSrc_eq (w : Word) : opSrc w = w.toNat % 512 := by simp [opSrc, fld, bitsN]

theorem fld_31_22 (w : Word) : fld w 31 22 = w.toNat / 2 ^ 22 := Nat.mod_eq_of_lt (by have := w.isLt; omega)

/-- A task operand has a bit set that must be 0 when it reaches 2^22. -/
theorem opTaskBad_eq (w : Word) : opTaskBad w = decide (2 ^ 22 ≤ w.toNat) := by
  rw [opTaskBad, fld_31_22]
  exact decide_eq_decide.mpr (by omega)

/-- The same of an event operand, whose bits 15-9 must be 0 too. -/
theorem opSrcBad_eq (w : Word) : opSrcBad w = (decide (2 ^ 22 ≤ w.toNat) || decide (w.toNat / 512 % 128 ≠ 0)) := by
  rw [opSrcBad, fld_31_22]
  exact congrArg₂ _ (decide_eq_decide.mpr (by omega)) rfl

/-! ### TSELF and ESIG (R68, R89) -/

namespace State

/-- Setting an event source leaves the engines alone. -/
theorem evcSet_eng (s : State) (g src : Nat) : (s.evcSet g src).eng = s.eng := by
  unfold evcSet; split <;> rfl

/-- ESIG's step: the state its source operand gives, with the code in rd. -/
theorem esig_step {s : State} {q : EngId} {a : RArgs} (hx : s.executes q 4 a.pr a.pn) (hr : s.reads q (.esig q a)) (ha : a.x = false)
    (hfn : a.fn = 0) (hrb : a.rb = 0) (hrel : (s.ctxOf q).released) (bad : Bool)
    (hbad : bad = (opSrcBad ((s.ctxOf q).gr a.ra.toNat) || decide (opSrc ((s.ctxOf q).gr a.ra.toNat) < 448))) :
    ∃ t, exec (.esig q a) s = .next t ∧
      (if bad then s else s.evcSet (opGath ((s.ctxOf q).gr a.ra.toNat)) (opSrc ((s.ctxOf q).gr a.ra.toNat))).ctxStep t q
        ((s.ctxOf q).wrote a.rd (if bad then 1 else 0) 4) := by
  refine ⟨_, rfl, ?_⟩
  rw [instr_insR hx hr ha (by simp [hfn, hrb])]
  simp only [← hbad, afterRelease_of_released hrel]
  refine ctxStep_wrote _ q ?_ a.rd _ 4
  split
  · rfl
  · exact congrArg Ctx.occ (ctxOf_of_eng (s.evcSet_eng _ _) q).symm

end State

/-! ### The mask (R68) -/

/-- An instruction that writes a register and the mask: the context and the mask, and nothing else of the engine. -/
theorem State.engStep_wrote_mask (s : State) (q : EngId) (rd : BitVec 5) (v : Word) (n : Nat) (m : Bool) :
    s.engStep (((s.putCtx q ((s.ctxOf q).setG rd.toNat v)).putEng q
      { (s.putCtx q ((s.ctxOf q).setG rd.toNat v)).engOf q with mask := m }).stepPc q n) q
      { (s.engOf q).setCtx (s.engOf q).cur ((s.ctxOf q).wrote rd v n) with mask := m } := by
  have hput := s.engStep_putEng q ((s.engOf q).setCtx (s.urgOf q) ((s.ctxOf q).setG rd.toNat v))
  have hmask := engStep_stepPc (s.engStep_again _ q _
    { (s.engOf q).setCtx (s.engOf q).cur ((s.ctxOf q).setG rd.toNat v) with mask := m } hput) n
  have hpc := (s.engOf q).stepPc_wrote (s.ctxOf q) rd v n rfl
  rw [putCtx_eq, engOf_putEng, ← hpc]
  exact hmask

/-! ### The specials (R53) -/

/-- MFS's side effect: sysctr_lo latches the high half of the counter, cancel is cleared. -/
def Ctx.mfsLatched (c : Ctx) (id now : Nat) : Ctx :=
  { c with
    ctrHi := if id = 4 then BitVec.ofNat 32 (now / 2 ^ 32) else c.ctrHi
    cancel := if id = 7 then false else c.cancel }

theorem Ctx.mfsLatched_plain (c : Ctx) (id now : Nat) (h4 : id ≠ 4) (h7 : id ≠ 7) : c.mfsLatched id now = c := by
  simp only [mfsLatched, if_neg h4, if_neg h7]

namespace State

/-- The specials that MFS reads without a side effect. -/
theorem special_plain (s : State) (q : EngId) (c : Ctx) (id : Nat) (v : Word)
    (h : (id, v) ∈ [(0, c.pc.zeroExtend 32), (1, c.tsk.zeroExtend 32), (2, if s.urgOf q then (1 : Word) else 0),
      (3, BitVec.ofNat 32 (q.g.val * 2 ^ 16 + q.e.val)), (5, c.ctrHi), (6, if (s.engOf q).mask then 1 else 0),
      (8, (c.fbr 0).truncate 32), (9, (c.fbr 1).truncate 32), (10, (c.fbr 2).truncate 32), (11, (c.fbr 3).truncate 32),
      (12, ((c.fbr 0) >>> 32).truncate 32), (13, ((c.fbr 1) >>> 32).truncate 32), (14, ((c.fbr 2) >>> 32).truncate 32),
      (15, ((c.fbr 3) >>> 32).truncate 32)]) :
    s.special q c id = some v ∧ id ≤ 15 ∧ id ≠ 4 ∧ id ≠ 7 := by
  simp only [List.mem_cons, Prod.mk.injEq, List.not_mem_nil, or_false] at h
  have high : ∀ k, BitVec.ofNat 32 ((c.fbr k).toNat / 2 ^ 32) = ((c.fbr k) >>> 32).truncate 32 := fun k => by
    apply BitVec.eq_of_toNat_eq; simp [Nat.shiftRight_eq_div_pow]
  rcases h with ⟨rfl, rfl⟩ | ⟨rfl, rfl⟩ | ⟨rfl, rfl⟩ | ⟨rfl, rfl⟩ | ⟨rfl, rfl⟩ | ⟨rfl, rfl⟩ | ⟨rfl, rfl⟩ | ⟨rfl, rfl⟩ | ⟨rfl, rfl⟩ |
    ⟨rfl, rfl⟩ | ⟨rfl, rfl⟩ | ⟨rfl, rfl⟩ | ⟨rfl, rfl⟩ | ⟨rfl, rfl⟩ <;> simp [special, qidWord, ← high]

/-- MFS's step: what the special holds, with its side effect. -/
theorem mfs_step {s : State} {q : EngId} {a : IArgs} {v : Word} (hx : s.executes q (IArgs.size a) a.pr false) (hr : s.reads q (.mfs q a))
    (ha : a.x = true → a.imm12 = 0) (hid : (IArgs.immZ a).toNat ≤ 15) (hv : s.special q (s.ctxOf q) (IArgs.immZ a).toNat = some v) :
    ∃ t, exec (.mfs q a) s = .next t ∧
      s.ctxStep t q (((s.ctxOf q).mfsLatched (IArgs.immZ a).toNat s.now).wrote a.rd v (IArgs.size a)) := by
  refine ⟨_, rfl, ?_⟩
  rw [instr_insI hx hr ha rfl (decide_eq_true hid)]
  simp only [hv, Option.getD_some]
  exact s.ctxStep_wrote (c := (s.ctxOf q).mfsLatched (IArgs.immZ a).toNat s.now) q rfl a.rd v (IArgs.size a)

/-- What MTS makes of a context, special by special. -/
def mtsCtx (c : Ctx) (id : Nat) (v : Word) : Ctx :=
  if id ≤ 7 then c
  else if id ≤ 0x0B then c.setFb (id - 8) (BitVec.ofNat 48 ((c.fbr (id - 8)).toNat / 2 ^ 32 * 2 ^ 32 + v.toNat))
  else c.setFb (id - 12) (BitVec.ofNat 48 (v.toNat % 2 ^ 16 * 2 ^ 32 + (c.fbr (id - 12)).toNat % 2 ^ 32))

theorem mtsCtx_occ (c : Ctx) (id : Nat) (v : Word) : (mtsCtx c id v).occ = c.occ := by
  simp only [mtsCtx, apply_ite Ctx.occ, Ctx.setFb, ite_self]

/-- MTS's step. -/
theorem mts_step {s : State} {q : EngId} {a : IArgs} (hx : s.executes q (IArgs.size a) a.pr false) (hr : s.reads q (.mts q a))
    (ha : a.x = true → a.imm12 = 0) (hrd : a.rd = 0) (hid : mtsLegal (IArgs.immZ a).toNat = true) (c1 : Ctx)
    (hc : mtsCtx (s.ctxOf q) (IArgs.immZ a).toNat ((s.ctxOf q).gr a.ra.toNat) = c1) :
    ∃ t, exec (.mts q a) s = .next t ∧ s.ctxStep t q { c1 with pc := c1.pc + BitVec.ofNat 13 (IArgs.size a) } := by
  refine ⟨_, rfl, ?_⟩
  rw [instr_insI hx hr ha (decide_eq_true hrd) hid]
  exact hc ▸ s.ctxStep_putCtx_stepPc q (mtsCtx (s.ctxOf q) (IArgs.immZ a).toNat ((s.ctxOf q).gr a.ra.toNat)) (IArgs.size a) (mtsCtx_occ _ _ _)

end State

/-- The halves of a far base as MTS writes them, as numbers and as words. -/
theorem farBase_low (b : BitVec 48) (v : Word) : BitVec.ofNat 48 (b.toNat / 2 ^ 32 * 2 ^ 32 + v.toNat) = ((b >>> 32).truncate 16 : BitVec 16) ++ v := by
  apply BitVec.eq_of_toNat_eq
  have hb := b.isLt
  have hv := v.isLt
  rw [BitVec.toNat_append, ← Nat.shiftLeft_add_eq_or_of_lt hv]
  simp [Nat.shiftRight_eq_div_pow, Nat.shiftLeft_eq]
  omega

theorem farBase_high (b : BitVec 48) (v : Word) :
    BitVec.ofNat 48 (v.toNat % 2 ^ 16 * 2 ^ 32 + b.toNat % 2 ^ 32) = (v.truncate 16 : BitVec 16) ++ (b.truncate 32 : BitVec 32) := by
  apply BitVec.eq_of_toNat_eq
  rw [BitVec.toNat_append, ← Nat.shiftLeft_add_eq_or_of_lt (BitVec.isLt _)]
  simp [Nat.shiftLeft_eq]
  omega

/-- The system counter's halves. -/
theorem State.sysctr_low (s : State) : BitVec.ofNat 32 s.now = s.sysctr.truncate 32 := by
  apply BitVec.eq_of_toNat_eq; simp [State.now]

theorem State.sysctr_high (s : State) : BitVec.ofNat 32 (s.now / 2 ^ 32) = (s.sysctr >>> 32).truncate 32 := by
  apply BitVec.eq_of_toNat_eq; simp [State.now, Nat.shiftRight_eq_div_pow]

/-- Settles O21: each instruction from its own step; MFS's specials by number, MTS's halves as words. -/
theorem controlInstructionResults : Obligations.ControlInstructionResults := by
  unfold Obligations.ControlInstructionResults
  rintro q s c x rfl rfl
  constructor
  case left =>
    refine fun a hx ha hfn hrb => ⟨fun hra hr => ⟨_, rfl, ?_⟩, ?_⟩
    · rw [State.instr_insR hx hr ha (by simp [hfn, hra, hrb])]
      exact s.ctxStep_wrote q rfl _ _ 4
    · rintro hrel w g src rfl rfl rfl
      refine ⟨fun hlo hmid hsrc hr => ?_, fun hbad hr => ?_⟩
      · simpa only [opGath_eq, opSrc_eq, Bool.false_eq_true, if_false] using State.esig_step hx hr ha hfn hrb hrel false (by
          rw [opSrcBad_eq, opSrc_eq, decide_eq_false (by omega), decide_eq_false (by omega), decide_eq_false (by omega)]; rfl)
      · refine State.esig_step hx hr ha hfn hrb hrel true ?_
        rw [opSrcBad_eq, opSrc_eq, eq_comm, Bool.or_eq_true, Bool.or_eq_true, decide_eq_true_iff, decide_eq_true_iff, decide_eq_true_iff]
        exact or_assoc.mpr hbad
  case right =>
    rintro a n m rfl hx ha rfl
    refine ⟨fun hr => ⟨_, rfl, ?_⟩, fun v hv hr => ?_, fun h4 hr => ?_, fun h7 hr => ?_, fun hrd k => ⟨fun hk hr => ?_, fun hk hr => ?_⟩⟩
    · rw [State.instr_insI hx hr ha rfl rfl]
      exact s.engStep_wrote_mask q a.rd _ (IArgs.size a) _
    · obtain ⟨hs, hle, h4, h7⟩ := s.special_plain q _ (IArgs.immZ a).toNat v hv
      have h := State.mfs_step hx hr ha hle hs
      rwa [Ctx.mfsLatched_plain _ _ _ h4 h7] at h
    · have hid : (IArgs.immZ a).toNat = 4 := congrArg BitVec.toNat h4
      have h := State.mfs_step (v := BitVec.ofNat 32 s.now) hx hr ha (by omega) (by rw [hid]; rfl)
      rw [hid, s.sysctr_low, Ctx.mfsLatched, s.sysctr_high] at h
      exact h
    · have hid : (IArgs.immZ a).toNat = 7 := congrArg BitVec.toNat h7
      have h := State.mfs_step (v := if (s.ctxOf q).cancel then 1 else 0) hx hr ha (by omega) (by rw [hid]; rfl)
      rw [hid] at h
      exact h
    · have hk4 := k.isLt
      have hid : (IArgs.immZ a).toNat = 8 + k.val := hk
      refine State.mts_step hx hr ha hrd (by rw [hid, mtsLegal, decide_eq_true (by omega), decide_eq_true (by omega)]; rfl) _ ?_
      rw [State.mtsCtx, hid, if_neg (by omega), if_pos (by omega), Nat.add_sub_cancel_left, farBase_low]
    · have hk4 := k.isLt
      have hid : (IArgs.immZ a).toNat = 12 + k.val := hk
      refine State.mts_step hx hr ha hrd (by rw [hid, mtsLegal, decide_eq_true (by omega), decide_eq_true (by omega)]; rfl) _ ?_
      rw [State.mtsCtx, hid, if_neg (by omega), if_neg (by omega), Nat.add_sub_cancel_left, farBase_high]

end Sys2Proof.Machine

namespace Sys2Proof.Machine

/-! ### Vector lanes (R69): what is read back from a vector put together lane by lane -/

theorem lowBits_lt (w : Nat) (x : Int) : lowBits w x < 2 ^ w := by
  have hpos : (0 : Int) < 2 ^ w := by positivity
  have hlt := Int.emod_lt_of_pos x hpos
  have hcast : ((2 ^ w : Nat) : Int) = 2 ^ w := by norm_cast
  unfold lowBits
  omega

/-- The number that the lanes below k of a vector spell. -/
def laneSum (w : Nat) (f : Nat → Int) (k : Nat) : Nat := (List.range k).foldl (fun n i => n + lowBits w (f i) * 2 ^ (w * i)) 0

theorem laneSum_succ (w : Nat) (f : Nat → Int) (k : Nat) : laneSum w f (k + 1) = laneSum w f k + lowBits w (f k) * 2 ^ (w * k) := by
  simp [laneSum, List.range_succ]

theorem laneSum_lt (w : Nat) (f : Nat → Int) (k : Nat) : laneSum w f k < 2 ^ (w * k) := by
  induction k with
  | zero => simp [laneSum]
  | succ k ih =>
    calc laneSum w f (k + 1) = laneSum w f k + lowBits w (f k) * 2 ^ (w * k) := laneSum_succ w f k
      _ < 2 ^ (w * k) + lowBits w (f k) * 2 ^ (w * k) := Nat.add_lt_add_right ih _
      _ = (lowBits w (f k) + 1) * 2 ^ (w * k) := by ring
      _ ≤ 2 ^ w * 2 ^ (w * k) := Nat.mul_le_mul_right _ (lowBits_lt w (f k))
      _ = 2 ^ (w * (k + 1)) := by rw [← Nat.pow_add]; ring_nf

/-- Every lane below k is the one put in. -/
theorem laneSum_lane (w : Nat) (f : Nat → Int) (k i : Nat) (h : i < k) : laneSum w f k / 2 ^ (w * i) % 2 ^ w = lowBits w (f i) := by
  induction k with
  | zero => cases h
  | succ k ih =>
    rw [laneSum_succ]
    rcases Nat.lt_succ_iff_lt_or_eq.mp h with hlt | rfl
    · have hsplit : lowBits w (f k) * 2 ^ (w * k) = 2 ^ (w * i) * (2 ^ w * (lowBits w (f k) * 2 ^ (w * (k - i - 1)))) := by
        have hexp : w * k = w * i + (w + w * (k - i - 1)) := by
          obtain ⟨d, rfl⟩ : ∃ d, k = i + d + 1 := ⟨k - i - 1, by omega⟩
          rw [show i + d + 1 - i - 1 = d by omega]; ring
        rw [hexp, Nat.pow_add, Nat.pow_add]; ring
      rw [hsplit, Nat.add_mul_div_left _ _ (Nat.two_pow_pos _), Nat.add_mul_mod_self_left, ih hlt]
    · rw [Nat.add_mul_div_right _ _ (Nat.two_pow_pos _), Nat.div_eq_of_lt (laneSum_lt w f i), Nat.zero_add, Nat.mod_eq_of_lt (lowBits_lt w (f i))]

/-- A lane of a vector put together lane by lane. -/
theorem laneU_ofLanes (w : Nat) (f : Nat → Int) (i : Nat) (h : i < 256 / w) : laneU w (ofLanes w f) i = lowBits w (f i) := by
  have hfit : laneSum w f (256 / w) < 2 ^ 256 :=
    (laneSum_lt w f _).trans_le (Nat.pow_le_pow_right (by decide) (Nat.mul_div_le 256 w))
  have hnat : (ofLanes w f).toNat = laneSum w f (256 / w) := by
    rw [ofLanes, BitVec.toNat_ofNat]; exact Nat.mod_eq_of_lt hfit
  rw [laneU, hnat, laneSum_lane w f _ i h]

namespace State

section Vectors
variable {s : State} {q : EngId} {i : Instr} {a : VArgs} {legal : Bool} {body : State → Ctx → Res}

/-- A vector instruction whose body puts lanes together writes them. -/
theorem writesLanes_instr {f : Nat → Int} (hx : s.executes q 4 a.pr a.pn) (hr : s.reads q i) (ha : a.x = false) (hl : legal = true)
    (hb : body s (s.ctxOf q) = .next (s.putCtx q ((s.ctxOf q).setV a.rd.toNat (ofLanes (VArgs.width a) f)))) :
    s.writesLanes (s.instr q (insV i a legal) body) q a f := by
  rw [instr_insV hx hr ha hl, hb]
  exact ⟨_, s.ctxStep_wroteV q rfl a.rd _, fun j hj => laneU_ofLanes _ f j hj⟩

/-- One whose body writes the whole vector register, -/
theorem instr_wroteV {v : BitVec 256} (hx : s.executes q 4 a.pr a.pn) (hr : s.reads q i) (ha : a.x = false) (hl : legal = true)
    (hb : body s (s.ctxOf q) = .next (s.putCtx q ((s.ctxOf q).setV a.rd.toNat v))) :
    s.ctxStep (s.instr q (insV i a legal) body) q ((s.ctxOf q).wroteV a.rd v) := by
  rw [instr_insV hx hr ha hl, hb]
  exact s.ctxStep_wroteV q rfl a.rd v

/-- and one whose body writes a general register. -/
theorem instr_wroteG {v : Word} (hx : s.executes q 4 a.pr a.pn) (hr : s.reads q i) (ha : a.x = false) (hl : legal = true)
    (hb : body s (s.ctxOf q) = .next (s.putCtx q ((s.ctxOf q).setG a.rd.toNat v))) :
    s.ctxStep (s.instr q (insV i a legal) body) q ((s.ctxOf q).wrote a.rd v 4) := by
  rw [instr_insV hx hr ha hl, hb]
  exact s.ctxStep_wrote q rfl a.rd v 4

end Vectors

/-- The lane-by-lane instructions. -/
theorem vec_writes {s : State} {q : EngId} {i : Instr} {a : VArgs} {legal : Bool} {f : Nat → Int → Int → Int} (g : Nat → Int)
    (hx : s.executes q 4 a.pr a.pn) (hr : s.reads q i) (ha : a.x = false) (hl : (vreg a.rd && vreg a.ra && vreg a.rb && legal) = true)
    (hg : ∀ j, f (VArgs.width a) (laneS (VArgs.width a) ((s.ctxOf q).vr a.ra.toNat) j) (laneS (VArgs.width a) ((s.ctxOf q).vr a.rb.toNat) j) = g j) :
    s.writesLanes (s.vec q i a legal f) q a g :=
  writesLanes_instr hx hr ha hl (by rw [← funext hg])

/-- The shifts, by lane 0 of v[rb]. -/
theorem vshift_writes {s : State} {q : EngId} {i : Instr} {a : VArgs} {f : Nat → Int → Int} (g : Nat → Int)
    (hx : s.executes q 4 a.pr a.pn) (hr : s.reads q i) (ha : a.x = false) (hl : (vreg a.rd && vreg a.ra && vreg a.rb) = true)
    (hg : ∀ j, f (laneU (VArgs.width a) ((s.ctxOf q).vr a.rb.toNat) 0 % VArgs.width a)
      (laneS (VArgs.width a) ((s.ctxOf q).vr a.ra.toNat) j) = g j) :
    s.writesLanes (s.vshift q i a f) q a g :=
  writesLanes_instr hx hr ha hl (by rw [← funext hg])

end State

/-- The absolute value as the larger of a number and its negative. -/
theorem ite_neg_eq_max (x : Int) : (if x < 0 then -x else x) = max x (-x) := by omega

/-- Settles O12: every command's lanes are the function the model puts together, read back lane by lane. -/
theorem vectorResults : Obligations.VectorResults := by
  unfold Obligations.VectorResults
  constructor
  case left =>
    rintro q a s c w hx ha hrd hra hrb rfl rfl x y d lo hi n hxs hys hds rfl rfl rfl
    have regs : (vreg a.rd && vreg a.ra && vreg a.rb) = true := by simp [vreg_of_lt, hrd, hra, hrb]
    have regs' : (vreg a.rd && vreg a.ra && vreg a.rb && true) = true := by rw [regs]; rfl
    obtain rfl : x = fun i => laneS (VArgs.width a) ((s.ctxOf q).vr a.ra.toNat) i := funext hxs
    obtain rfl : y = fun i => laneS (VArgs.width a) ((s.ctxOf q).vr a.rb.toNat) i := funext hys
    obtain rfl : d = fun i => laneS (VArgs.width a) ((s.ctxOf q).vr a.rd.toNat) i := funext hds
    refine ⟨fun hr => ⟨_, rfl, State.vec_writes _ hx hr ha regs' fun _ => rfl⟩, fun hr => ⟨_, rfl, State.vec_writes _ hx hr ha regs' fun _ => rfl⟩,
      fun hr => ⟨_, rfl, State.vec_writes _ hx hr ha regs' fun _ => rfl⟩, fun hr => ⟨_, rfl, State.vec_writes _ hx hr ha regs' fun _ => rfl⟩,
      fun hr => ⟨_, rfl, State.vec_writes _ hx hr ha regs' fun _ => rfl⟩, fun hr => ⟨_, rfl, State.vec_writes _ hx hr ha regs' fun _ => rfl⟩,
      fun hr => ⟨_, rfl, State.writesLanes_instr hx hr ha regs (by rfl)⟩,
      fun hr => ⟨_, rfl, State.vec_writes _ hx hr ha regs' fun j => (min_def _ _).symm⟩,
      fun hr => ⟨_, rfl, State.vec_writes _ hx hr ha regs' fun j => (max_def _ _).symm⟩,
      fun hb hr => ⟨_, rfl, State.vec_writes _ hx hr ha (by rw [regs, decide_eq_true hb]; rfl) fun j => congrArg (sat _) (ite_neg_eq_max _)⟩,
      fun hr => ⟨_, rfl, State.vshift_writes _ hx hr ha regs fun _ => rfl⟩, fun hr => ⟨_, rfl, State.vshift_writes _ hx hr ha regs fun _ => rfl⟩,
      fun hr => ⟨_, rfl, State.instr_wroteV hx hr ha regs (by rfl)⟩, fun hr => ⟨_, rfl, State.instr_wroteV hx hr ha regs (by rfl)⟩,
      fun hr => ⟨_, rfl, State.instr_wroteV hx hr ha regs (by rfl)⟩⟩
  case right =>
    rintro q a s c w l hx ha rfl rfl rfl
    refine ⟨fun hrd => ⟨fun hr => ⟨_, rfl, State.writesLanes_instr hx hr ha (vreg_of_lt _ hrd) (by rfl)⟩,
        fun hr => ⟨_, rfl, State.writesLanes_instr hx hr ha (vreg_of_lt _ hrd) (by rfl)⟩⟩,
      fun hra => ⟨fun hr => ⟨_, rfl, State.instr_wroteG hx hr ha (vreg_of_lt _ hra) (by rfl)⟩,
        fun hr => ⟨_, rfl, State.instr_wroteG hx hr ha (vreg_of_lt _ hra) ?_⟩⟩,
      fun hrd hra hr => ⟨_, rfl, State.instr_wroteV hx hr ha (by simp [vreg_of_lt, hrd, hra]) (by rfl)⟩⟩
    simp only [List.sum_eq_foldl, List.foldl_map]
    rfl

end Sys2Proof.Machine

namespace Sys2Proof.Machine

/-! ### UCALL (R79-R81) -/

namespace State

/-- The code of R81, by the first condition that holds. -/
def postCode (s : State) (k : Nat) (d : List Byte) : Nat :=
  if s.queueAbsent k then 3 else if s.malformed k d then 2 else if 32 ≤ (s.queueOf k).length then 1 else 0

/-- Posting returns the code, and the queue takes the descriptor when it is 0. -/
theorem post_eq (s : State) (k : Nat) (d : List Byte) :
    s.post k d = (if s.postCode k d = 0 then s.setQueue k (s.queueOf k ++ [⟨d, false, 0⟩]) else s, s.postCode k d) := by
  by_cases h3 : s.queueAbsent k = true
  · simp [post, postCode, h3]
  · by_cases h2 : s.malformed k d = true
    · simp [post, postCode, h3, h2]
    · by_cases h1 : 32 ≤ (s.queueOf k).length <;> simp [post, postCode, h3, h2, h1]

theorem queueOf_setQueue (s : State) (k j : Nat) (ds : List QDesc) : (s.setQueue k ds).queueOf j = if j = k then ds else s.queueOf j :=
  SMap.get_set _ _ _ _ _

theorem post_eng (s : State) (k : Nat) (d : List Byte) : (s.post k d).1.eng = s.eng := by
  rw [post_eq]; dsimp only; split <;> rfl

/-- The queues after a post. -/
theorem queueOf_post (s : State) (k j : Nat) (d : List Byte) :
    (s.post k d).1.queueOf j = s.queueOf j ++ (if s.postCode k d = 0 ∧ j = k then [⟨d, false, 0⟩] else []) := by
  rw [post_eq]
  by_cases h0 : s.postCode k d = 0
  · by_cases hj : j = k <;> simp [h0, queueOf_setQueue, hj]
  · simp [h0]

theorem post_rest (s : State) (k : Nat) (d : List Byte) : { (s.post k d).1 with queues := s.queues } = s := by
  rw [post_eq]; dsimp only; split <;> rfl

end State

/-- UCALL's step, from the state the post leaves. -/
theorem State.ucall_step {s : State} {q : EngId} {a : UArgs} (hx : s.executes q 4 a.pr false) (hr : s.reads q (.ucall q a)) (ha : a.x = false)
    (hlow : a.low = 0) (hrel : (s.ctxOf q).released) (hin : ((s.ctxOf q).gr a.ra.toNat).toNat + 32 ≤ 0x6000)
    (hal : ((s.ctxOf q).gr a.ra.toNat).toNat % 32 = 0) (hil : (s.ctxOf q).interlocked ((s.ctxOf q).gr a.ra.toNat).toNat 32 = false)
    (p : State × Nat) (hp : s.post a.queue.toNat ((s.engOf q).bytes ((s.ctxOf q).gr a.ra.toNat).toNat 32) = p) :
    ∃ t, exec (.ucall q a) s = .next t ∧ p.1.ctxStep t q ((s.ctxOf q).wrote a.rd (BitVec.ofNat 32 p.2) 4) := by
  refine ⟨_, rfl, ?_⟩
  rw [instr_insU hx hr ha hlow]
  simp only [afterRelease_of_released hrel, localBad, Nat.not_lt.mpr hin, hal, hil, ne_eq, not_true_eq_false, decide_false, Bool.and_false,
    Bool.false_eq_true, if_false, hp]
  exact p.1.ctxStep_wrote q (congrArg Ctx.occ (ctxOf_of_eng (hp ▸ s.post_eng _ _) q).symm) a.rd (BitVec.ofNat 32 p.2) 4

/-- Settles O16: UCALL's step is one of the state its post leaves, and the post's code and queue are known. -/
theorem ucallPostsDescriptor : Obligations.UcallPostsDescriptor := by
  unfold Obligations.UcallPostsDescriptor
  rintro q a s c loc k d r hx ha hlow rfl hrel rfl hin hal hil rfl rfl rfl hr
  obtain ⟨t, ht, hstep⟩ := State.ucall_step hx hr ha hlow hrel hin hal hil _ rfl
  obtain ⟨hq, hother, hrest⟩ := State.ctxStep_of_eng (s.post_eng _ _) hstep
  refine ⟨t, ht, ?_, fun j => ?_, hother, ?_⟩
  · rw [hq, State.post_eq]; rfl
  · rw [← State.postCode, ← State.queueOf_post, ← hrest]; rfl
  · exact (congrArg (fun u : State => { u with queues := s.queues }) hrest).trans (s.post_rest _ _)

/-! ### FOLD (R84, R85) -/

namespace State

/-- The arming FOLD makes of a list entry w for group g of unit u. -/
def foldArming (s : State) (link : Nat) (u : CommitUnit) (g : Nat) : Arm := ⟨u, g, link, false, s.now, s.tbTimes⟩

/-- What a group is armed with, after one arming of some group. -/
theorem armOf_arm (s : State) (u u' : CommitUnit) (g g' link : Nat) :
    (s.arm u g link).armOf u' g' = (s.armOf u' g').or (if u = u' ∧ g = g' then some (s.foldArming link u' g') else none) := by
  by_cases h : s.armOf u g = none
  · rw [s.arm_of_unarmed u g link h, armOf, List.find?_append, ← armOf]
    refine congrArg _ ?_
    by_cases he : u = u' ∧ g = g'
    · obtain ⟨rfl, rfl⟩ := he
      simp [foldArming]
    · simp [he]
  · rw [s.arm_of_armed u g link h]
    split
    · next he =>
      obtain ⟨rfl, rfl⟩ := he
      obtain ⟨m, hm⟩ := Option.ne_none_iff_exists'.mp h
      rw [hm]; rfl
    · rw [Option.or_none]

/-- Arming changes the armed groups alone, and adds at most the group's own arming. -/
theorem arm_rest (s : State) (u : CommitUnit) (g link : Nat) : { s.arm u g link with armed := s.armed } = s := by
  unfold arm; split <;> rfl

theorem mem_arm (s : State) (u : CommitUnit) (g link : Nat) (m : Arm) :
    (m ∈ s.armed → m ∈ (s.arm u g link).armed) ∧ (m ∈ (s.arm u g link).armed → m ∈ s.armed ∨ m = s.foldArming link u g) := by
  by_cases h : s.armOf u g = none
  · rw [s.arm_of_unarmed u g link h]
    simpa [foldArming] using Or.inl
  · rw [s.arm_of_armed u g link h]
    exact ⟨id, Or.inl⟩

/-- One entry of a fold list. -/
def armEntry (link : Nat) (s : State) (w : Nat) : State :=
  match unitOfNum (w / 2 ^ 16 % 8) with
  | some u => s.arm u (w % 2 ^ 16) link
  | none => s

theorem armEntry_rest (s : State) (link w : Nat) : { armEntry link s w with armed := s.armed } = s := by
  unfold armEntry; split
  · exact s.arm_rest _ _ _
  · rfl

theorem foldArming_armEntry (s : State) (link w : Nat) (u : CommitUnit) (g : Nat) :
    (armEntry link s w).foldArming link u g = s.foldArming link u g := by
  conv_rhs => rw [← s.armEntry_rest link w]
  rfl

theorem bitsN_15_0 (w : Nat) : bitsN w 15 0 = w % 2 ^ 16 := by simp [bitsN]

theorem armList_eq_foldl (s : State) (link : Nat) (es : List Nat) : s.armList link es = es.foldl (armEntry link) s := by
  unfold armList
  congr 1
  funext t w
  rw [armEntry, bitsN_15_0]; rfl

theorem armList_cons (s : State) (link w : Nat) (es : List Nat) : s.armList link (w :: es) = (armEntry link s w).armList link es := by
  rw [armList_eq_foldl, armList_eq_foldl]; rfl

theorem armList_rest (s : State) (link : Nat) (es : List Nat) : { s.armList link es with armed := s.armed } = s := by
  induction es generalizing s with
  | nil => rfl
  | cons w es ih =>
    rw [armList_cons]
    calc { (armEntry link s w).armList link es with armed := s.armed }
        = { { (armEntry link s w).armList link es with armed := (armEntry link s w).armed } with armed := s.armed } := rfl
      _ = { armEntry link s w with armed := s.armed } := by rw [ih]
      _ = s := s.armEntry_rest link w

/-- Does list entry w name group g of unit u? -/
def namesGroup (w : Nat) (u : CommitUnit) (g : Nat) : Prop := unitOfNum (w / 2 ^ 16 % 8) = some u ∧ w % 2 ^ 16 = g

theorem armOf_armEntry (s : State) (link w : Nat) (u : CommitUnit) (g : Nat) [Decidable (namesGroup w u g)] :
    (armEntry link s w).armOf u g = (s.armOf u g).or (if namesGroup w u g then some (s.foldArming link u g) else none) := by
  unfold armEntry
  split
  · next v hv =>
    rw [armOf_arm]
    refine congrArg _ (if_congr ?_ rfl rfl)
    rw [namesGroup, hv, Option.some_inj]
  · next hv => rw [if_neg (by rw [namesGroup, hv]; simp), Option.or_none]

open Classical in
/-- After a list, each group it names is armed: as it was, or by the list at this instant. -/
theorem armOf_armList (s : State) (link : Nat) (es : List Nat) (u : CommitUnit) (g : Nat) :
    (s.armList link es).armOf u g = (s.armOf u g).or (if ∃ w ∈ es, namesGroup w u g then some (s.foldArming link u g) else none) := by
  induction es generalizing s with
  | nil => rw [if_neg (by simp), Option.or_none]; rfl
  | cons w es ih =>
    rw [armList_cons, ih, armOf_armEntry, foldArming_armEntry, Option.or_assoc]
    refine congrArg _ ?_
    by_cases hw : namesGroup w u g <;> by_cases hes : ∃ v ∈ es, namesGroup v u g <;> simp [hw, hes]

/-- The armed groups after a list: those armed before, and armings of groups the list names. -/
theorem mem_armList (s : State) (link : Nat) (es : List Nat) (m : Arm) :
    (m ∈ s.armed → m ∈ (s.armList link es).armed) ∧
      (m ∈ (s.armList link es).armed → m ∈ s.armed ∨ ∃ w ∈ es, namesGroup w m.u m.grp ∧ m = s.foldArming link m.u m.grp) := by
  induction es generalizing s with
  | nil => exact ⟨id, Or.inl⟩
  | cons w es ih =>
    rw [armList_cons]
    obtain ⟨hkeep, hnew⟩ := ih (armEntry link s w)
    simp only [foldArming_armEntry] at hnew
    refine ⟨fun hm => hkeep ?_, fun hm => ?_⟩
    · unfold armEntry; split
      · exact (s.mem_arm _ _ _ m).1 hm
      · exact hm
    · rcases hnew hm with hm | ⟨v, hv, hnames⟩
      · unfold armEntry at hm; split at hm
        · next u hu =>
          rcases (s.mem_arm _ _ _ m).2 hm with hm | rfl
          · exact .inl hm
          · exact .inr ⟨w, List.mem_cons_self .., ⟨hu, rfl⟩, rfl⟩
        · exact .inl hm
      · exact .inr ⟨v, List.mem_cons_of_mem _ hv, hnames⟩

/-! #### The outcome of a list that was read -/

theorem armList_eng (s : State) (link : Nat) (es : List Nat) : (s.armList link es).eng = s.eng := by
  conv_rhs => rw [← s.armList_rest link es]

theorem foldArm_eng (s : State) (mask link : Nat) (l : Option (List Nat)) : (s.foldArm mask link l).1.eng = s.eng := by
  unfold foldArm
  split
  · rfl
  · split
    · rfl
    · split
      · exact s.armList_eng _ _
      · rfl

/-- A list that FOLD calls bad: a reserved bit in use, or units other than the mask's. -/
def foldBad (mask : Nat) (es : List Nat) : Prop := (∃ w, w ∈ es ∧ w / 2 ^ 19 % 2 ^ 12 ≠ 0) ∨ 128 ≤ mask ∨ foldUnits es ≠ mask

theorem foldBad_iff (mask : Nat) (es : List Nat) :
    (es.any (fun w => decide (bitsN w 30 19 ≠ 0)) || decide (128 ≤ mask) || decide (foldUnits es ≠ mask)) = true ↔ foldBad mask es := by
  simp only [Bool.or_eq_true, List.any_eq_true, decide_eq_true_iff, or_assoc]
  rfl

theorem foldArm_bad (s : State) (mask link : Nat) (es : List Nat) (h : foldBad mask es) : s.foldArm mask link (some es) = (s, 1) :=
  if_pos ((foldBad_iff mask es).mpr h)

theorem foldArm_good (s : State) (mask link : Nat) (es : List Nat) (h : ¬ foldBad mask es) :
    s.foldArm mask link (some es) = if foldGroupsOk es then (s.armList link es, 0) else (s, 2) :=
  if_neg (mt (foldBad_iff mask es).mp h)

theorem foldGroupsOk_iff (es : List Nat) :
    foldGroupsOk es = true ↔ ∀ w, w ∈ es → ∃ u, unitOfNum (w / 2 ^ 16 % 8) = some u ∧ groupInRange u (w % 2 ^ 16) = true := by
  unfold foldGroupsOk
  rw [List.all_eq_true]
  refine forall_congr' fun w => imp_congr_right fun _ => ?_
  rw [bitsN_15_0, show bitsN w 18 16 = w / 2 ^ 16 % 8 from rfl]
  cases unitOfNum (w / 2 ^ 16 % 8) <;> simp

/-- A list read from its first entry on starts inside local memory. -/
theorem foldList_inside {x : Eng} {loc n : Nat} {l : Option (List Nat)} (h : foldList x loc (n + 1) = (l, none)) : localBad loc 4 = false := by
  by_contra hbad
  rw [foldList, if_pos (Bool.eq_true_of_not_eq_false hbad)] at h
  cases h

section Fold
variable {s : State} {q : EngId} {a : TArgs} (hx : s.executes q 4 a.pr false) (hr : s.reads q (.fold q a)) (ha : a.x = false)
  (hfb : a.fb = 0) (hrel : (s.ctxOf q).released)
include hx hr ha hfb hrel

/-- FOLD with no unit reads no list. -/
theorem fold_none (hmask : ((s.ctxOf q).gr a.ra.toNat).toNat = 0) :
    ∃ t, exec (.fold q a) s = .next t ∧ s.ctxStep t q ((s.ctxOf q).wrote a.rd 0 4) := by
  refine ⟨_, rfl, ?_⟩
  rw [instr_insT hx hr ha (decide_eq_true hfb)]
  simp only [afterRelease_of_released hrel, if_pos hmask]
  exact s.ctxStep_wrote q rfl a.rd _ 4

/-- FOLD with a list it could read: the state and the code of that list. -/
theorem fold_list {mask link loc : Nat} {l : Option (List Nat)} (hm : ((s.ctxOf q).gr a.ra.toNat).toNat = mask)
    (hlink : fld ((s.ctxOf q).gr a.rc.toNat) 7 0 = link) (hloc : ((s.ctxOf q).gr a.rb.toNat).toNat = loc) (hmask : mask ≠ 0)
    (hal : loc % 4 = 0) (hlist : foldList (s.engOf q) loc 64 = (l, none)) (p : State × Nat) (hp : s.foldArm mask link l = p) :
    ∃ t, exec (.fold q a) s = .next t ∧ p.1.ctxStep t q ((s.ctxOf q).wrote a.rd (BitVec.ofNat 32 p.2) 4) := by
  refine ⟨_, rfl, ?_⟩
  rw [instr_insT hx hr ha (decide_eq_true hfb)]
  simp only [afterRelease_of_released hrel, hm, hlink, hloc, if_neg hmask, foldList_inside hlist, hal, ne_eq, not_true_eq_false,
    Bool.false_eq_true, if_false, hlist, hp]
  exact p.1.ctxStep_wrote q (congrArg Ctx.occ (ctxOf_of_eng (hp ▸ s.foldArm_eng _ _ _) q).symm) a.rd (BitVec.ofNat 32 p.2) 4

end Fold
end State

/-- Settles O17: FOLD's step is one of the state its list leaves, and the list's outcome is known case by case. -/
theorem foldArmsList : Obligations.FoldArmsList := by
  unfold Obligations.FoldArmsList
  rintro q a s c mask link loc hx hr ha hfb rfl hrel rfl rfl rfl
  have hlink : fld ((s.ctxOf q).gr a.rc.toNat) 7 0 = ((s.ctxOf q).gr a.rc.toNat).toNat % 256 := by simp [fld, bitsN]
  have step := fun l hmask hal hlist => State.fold_list (l := l) hx hr ha hfb hrel rfl hlink rfl hmask hal hlist
  refine ⟨State.fold_none hx hr ha hfb hrel, fun hmask hal hlist => step none hmask hal hlist _ rfl, fun es hmask hal hlist => ⟨fun hbad => ?_, ?_⟩⟩
  · exact step _ hmask hal hlist _ (s.foldArm_bad _ _ es hbad)
  · intro hres hmask' hunits
    have hgood := s.foldArm_good ((s.ctxOf q).gr a.ra.toNat).toNat (((s.ctxOf q).gr a.rc.toNat).toNat % 256) es (by
      rintro (⟨w, hw, h⟩ | h | h)
      · exact h (hres w hw)
      · omega
      · exact h hunits)
    refine ⟨fun ⟨w, hw, hout⟩ => ?_, fun hin => ?_⟩
    · refine step _ hmask hal hlist _ (hgood.trans (if_neg fun hok => ?_))
      obtain ⟨u, hu, hg⟩ := (State.foldGroupsOk_iff es).mp hok w hw
      exact Bool.false_ne_true ((hout u hu).symm.trans hg)
    · obtain ⟨t, ht, hstep⟩ := step _ hmask hal hlist _ (hgood.trans (if_pos ((State.foldGroupsOk_iff es).mpr hin)))
      obtain ⟨hq, hother, hrest⟩ := State.ctxStep_of_eng (s.armList_eng _ es) hstep
      have harmed : t.armed = (s.armList (((s.ctxOf q).gr a.rc.toNat).toNat % 256) es).armed := (congrArg State.armed hrest :)
      refine ⟨t, ht, hq, hother, ?_, fun w u hw hu => ?_, fun m hm => ?_, fun m hm => ?_⟩
      · exact (congrArg (fun u : State => { u with armed := s.armed }) hrest).trans (s.armList_rest _ es)
      · have harm := s.armOf_armList (((s.ctxOf q).gr a.rc.toNat).toNat % 256) es u (w % 2 ^ 16)
        rw [if_pos ⟨w, hw, hu, rfl⟩, State.armOf, ← harmed, ← State.armOf] at harm
        rw [harm]
        cases s.armOf u (w % 2 ^ 16) with
        | none => exact ⟨_, rfl, fun _ => rfl⟩
        | some m => exact ⟨m, rfl, fun h => nomatch h⟩
      · rw [harmed]; exact (s.mem_armList _ es m).1 hm
      · rw [harmed] at hm
        rcases (s.mem_armList _ es m).2 hm with hold | ⟨w, hw, ⟨hu, hg⟩, hm⟩
        · exact .inl hold
        · exact .inr ⟨w, hw, hg.symm, hu, congrArg Arm.link hm, congrArg Arm.mixed hm, congrArg Arm.at_ hm⟩

end Sys2Proof.Machine

namespace Sys2Proof.Machine

/-! ### Far transfers and fills at issue (R67, R71-R75) -/

theorem Ctx.freeSlot_lt {c : Ctx} {i : Nat} (h : c.freeSlot = some i) : i < 16 :=
  List.mem_range.mp (List.mem_of_find?_eq_some h)

/-- What a slot holds after an issue: the operation, or nothing when it is complete at once. -/
def slotOf : Option FarOp → SlotSt
  | some o => .busy o
  | none => .idle

theorem slotOf_ite (p : Prop) [Decidable p] (o : FarOp) : slotOf (if p then none else some o) = if p then .idle else .busy o := by
  split <;> rfl

/-- The context after an operation took slot i: the slot's generation counts up and its token goes to rd. -/
def Ctx.took (c : Ctx) (i : Nat) (op : Option FarOp) (rd : BitVec 5) (n : Nat) : Ctx :=
  (c.setSlot i ⟨(c.slot i).gen + 1, slotOf op⟩).wrote rd (BitVec.ofNat 32 (((c.slot i).gen + 1).toNat * 16 + i)) n

namespace State

/-- With a free slot, the state takeSlot leaves is a step of the engine, before what follows and before pc moves on. -/
theorem takeSlot_free {s : State} {q : EngId} {i : Nat} (op : Option FarOp) (rd : BitVec 5) (after : State → State)
    (h : (s.ctxOf q).freeSlot = some i) :
    ∃ t y, s.takeSlot q (s.ctxOf q) rd.toNat op after = .next (after t) ∧ s.engStep t q y ∧
      ∀ n, y.stepPc n = { (s.engOf q).setCtx (s.engOf q).cur ((s.ctxOf q).took i op rd n) with issue := (s.engOf q).issue + 1 } := by
  have htok : tokenOf (((s.ctxOf q).slot i).gen + 1) i = BitVec.ofNat 32 ((((s.ctxOf q).slot i).gen + 1).toNat * 16 + i) := by
    rw [tokenOf, Nat.mod_eq_of_lt (Ctx.freeSlot_lt h)]
  have hput := s.engStep_putEng q ((s.engOf q).setCtx (s.urgOf q)
    (((s.ctxOf q).setSlot i ⟨((s.ctxOf q).slot i).gen + 1, slotOf op⟩).setG rd.toNat (tokenOf (((s.ctxOf q).slot i).gen + 1) i)))
  refine ⟨_, { (s.engOf q).setCtx (s.urgOf q) (((s.ctxOf q).setSlot i ⟨((s.ctxOf q).slot i).gen + 1, slotOf op⟩).setG rd.toNat
    (tokenOf (((s.ctxOf q).slot i).gen + 1) i)) with issue := (s.engOf q).issue + 1 }, ?_, s.engStep_again _ q _ _ hput, fun n => ?_⟩
  · unfold takeSlot
    simp only [h, putCtx_eq, engOf_putEng]
    cases op <;> rfl
  · have hpc := (s.engOf q).stepPc_wrote ((s.ctxOf q).setSlot i ⟨((s.ctxOf q).slot i).gen + 1, slotOf op⟩) rd
      (tokenOf (((s.ctxOf q).slot i).gen + 1) i) n rfl
    rw [Ctx.took, ← htok, ← hpc]; rfl

/-- A transfer that moves nothing, or whose ranges are good and not interlocked, takes a slot. -/
theorem farIssue_takes (q : EngId) (a : TArgs) (k : FarKind) (s : State) (c : Ctx) (n : Nat) (hn : (c.gr a.rc.toNat).toNat = n)
    (h : n = 0 ∨ ((c.gr a.ra.toNat).toNat + n ≤ 0x6000 ∧ farBad (TArgs.far a c) n = false ∧ c.interlocked (c.gr a.ra.toNat).toNat n = false)) :
    State.farIssue q a k s c = s.takeSlot q c a.rd.toNat (if n = 0 then none
      else some ⟨k, TArgs.far a c, (c.gr a.ra.toNat).toNat, n, c.pc.toNat, (s.engOf q).issue⟩) id := by
  subst hn
  unfold farIssue
  dsimp only
  rcases h with h0 | ⟨hin, hfar, hil⟩
  · rw [if_pos h0, if_pos h0]
  · by_cases h0 : (c.gr a.rc.toNat).toNat = 0
    · rw [if_pos h0, if_pos h0]
    · simp [h0, localBad, Nat.not_lt.mpr hin, hfar, hil]

/-- A far transfer's step at issue. -/
theorem farIssue_step {s : State} {q : EngId} {a : TArgs} {k : FarKind} {ins : Instr} {i : Nat} (hx : s.executes q 4 a.pr false)
    (hr : s.reads q ins) (ha : a.x = false) (hslot : (s.ctxOf q).freeSlot = some i) (n : Nat) (hn : ((s.ctxOf q).gr a.rc.toNat).toNat = n)
    (h : n = 0 ∨ (((s.ctxOf q).gr a.ra.toNat).toNat + n ≤ 0x6000 ∧ farBad (TArgs.far a (s.ctxOf q)) n = false ∧
      (s.ctxOf q).interlocked ((s.ctxOf q).gr a.ra.toNat).toNat n = false)) :
    s.engStep (s.instr q (insT ins a true) (State.farIssue q a k)) q { (s.engOf q).setCtx (s.engOf q).cur ((s.ctxOf q).took i (if n = 0 then none
      else some ⟨k, TArgs.far a (s.ctxOf q), ((s.ctxOf q).gr a.ra.toNat).toNat, n, (s.ctxOf q).pc.toNat, (s.engOf q).issue⟩) a.rd 4) with
      issue := (s.engOf q).issue + 1 } := by
  obtain ⟨t, y, ht, hstep, hy⟩ := s.takeSlot_free (if n = 0 then none
    else some ⟨k, TArgs.far a (s.ctxOf q), ((s.ctxOf q).gr a.ra.toNat).toNat, n, (s.ctxOf q).pc.toNat, (s.engOf q).issue⟩) a.rd id hslot
  rw [instr_insT hx hr ha rfl, farIssue_takes q a k s _ n hn h, ht, ← hy 4]
  exact engStep_stepPc hstep 4

/-- An overlay fill's step at issue: the slot is taken and the page is no longer code. -/
theorem ifill_step {s : State} {q : EngId} {a : IArgs} {i far : Nat} (hx : s.executes q 4 a.pr false) (hr : s.reads q (.ifill q a)) (ha : a.x = false)
    (hslot : (s.ctxOf q).freeSlot = some i) (him : a.imm12.toNat < 16)
    (hfar : ((s.ctxOf q).fbr (a.imm12.toNat / 4) + ((s.ctxOf q).gr a.ra.toNat).zeroExtend 48).toNat = far) (hss : regionOf far 2048 = .ss)
    (hal : far % 32 = 0) :
    ∃ t y, exec (.ifill q a) s = .next t ∧ s.engStep t q { y with page := SMap.set (fun _ => PageSt.empty) y.page (a.imm12.toNat % 4) .filling } ∧
      y = { (s.engOf q).setCtx (s.engOf q).cur ((s.ctxOf q).took i
        (some ⟨.ifill, far, a.imm12.toNat % 4, 2048, (s.ctxOf q).pc.toNat, (s.engOf q).issue⟩) a.rd 4) with issue := (s.engOf q).issue + 1 } := by
  obtain ⟨t, y, ht, hstep, hy⟩ := s.takeSlot_free (some ⟨.ifill, far, a.imm12.toNat % 4, 2048, (s.ctxOf q).pc.toNat, (s.engOf q).issue⟩) a.rd
    (fun s' => s'.putEng q { s'.engOf q with page := SMap.set (fun _ => PageSt.empty) (s'.engOf q).page (a.imm12.toNat % 4) .filling }) hslot
  have hsize : IArgs.size a = 4 := by simp [IArgs.size, ha]
  have himm : decide ((IArgs.immZ a).toNat < 16) = true := by
    refine decide_eq_true ?_
    simp only [IArgs.immZ, ha]
    simp
    omega
  refine ⟨_, _, rfl, ?_, hy 4⟩
  rw [instr_insI (hsize ▸ hx) hr (by simp [ha]) (by simp [ha]) himm, hsize]
  simp only [hfar, hss, hal, ne_eq, not_true_eq_false, if_false]
  rw [ht, hstep.1]
  exact engStep_stepPc (s.engStep_again t q y _ hstep) 4

/-! ### Far operations taking effect (R73, R76) -/

/-- Ending a slot with success after an engine's record was put in place. -/
theorem endSlot_step (s : State) (q : EngId) (u : Bool) (i : Nat) (o : FarOp) {t : State} {y : Eng} (h : s.engStep t q y) :
    s.engStep (t.endSlot q u i o .ok) q (y.setCtx u ((y.ctx u).setSlot i { (y.ctx u).slot i with st := .idle })) := by
  rw [endSlot, h.1]
  exact s.engStep_again t q y _ h

section Complete
variable {q : EngId} {u : Bool} {i : Fin 16} {s s1 : State} {o : FarOp} (hop : (((s.engOf q).ctx u).slot i.val).op? = some o)
  (hwait : (s.engOf q).mustWait o.order o.far o.len = false)
include hop hwait

/-- A far load's bytes arrive and its slot is free. -/
theorem fld_completes {bs : List Byte} (hk : o.kind = .fld) (hread : s.busRead (.engine q) o.far o.len = (s1, .ok, bs)) :
    ∃ t, exec (.farComplete q u i) s = .next t ∧ s1.engStep t q (((s1.engOf q).setBytes o.loc bs).setCtx u
      (((s1.engOf q).ctx u).setSlot i.val { ((s1.engOf q).ctx u).slot i.val with st := .idle })) := by
  refine ⟨_, rfl, ?_⟩
  simp only [hop, hwait, hk, fldDone, hread, Bool.false_eq_true, if_false]
  cases u <;> exact s1.endSlot_step q _ i.val o (s1.engStep_putEng q _)

/-- A far store's bytes are written and its slot is free. -/
theorem fst_completes (hk : o.kind = .fst) (hwrite : s.busWrite (.engine q) o.far ((s.engOf q).bytes o.loc o.len) = (s1, .ok)) :
    ∃ t, exec (.farComplete q u i) s = .next t ∧ s1.engStep t q ((s1.engOf q).setCtx u
      (((s1.engOf q).ctx u).setSlot i.val { ((s1.engOf q).ctx u).slot i.val with st := .idle })) := by
  refine ⟨_, rfl, ?_⟩
  simp only [hop, hwait, hk, fstDone, hwrite, Bool.false_eq_true, if_false]
  exact s1.engStep_putEng q _

/-- A fill's page is code again and its slot is free. -/
theorem ifill_completes {bs : List Byte} (hk : o.kind = .ifill) (hmem : s.memWaits ⟨1, q.g.val⟩ o.far o.len = false)
    (hcode : s.ownerCode (o.far - ssBase) o.len = true) (hread : s.ssRead ⟨1, q.g.val⟩ o.far (o.far - ssBase) o.len = (s1, .ok, bs))
    (hbusy : (s1.engOf q).fillBusy o.loc i.val u = false) :
    ∃ t, exec (.ifillComplete q u i) s = .next t ∧ s1.engStep t q (((s1.engOf q).fillPage o.loc bs).setCtx u
      (((s1.engOf q).ctx u).setSlot i.val { ((s1.engOf q).ctx u).slot i.val with st := .idle })) := by
  refine ⟨_, rfl, ?_⟩
  simp only [hop, hwait, hk, fillDone, hmem, hcode, hread, hbusy, Bool.not_false, and_self, Bool.false_eq_true, if_false, if_true]
  cases u <;> exact s1.endSlot_step q _ i.val o (s1.engStep_putEng q _)

end Complete
end State

/-- Settles O13: the issue of each kind and the completion of each kind. -/
theorem farOperations : Obligations.FarOperations := by
  unfold Obligations.FarOperations
  constructor
  case left =>
    rintro q s c x i gen rfl rfl hslot rfl
    refine ⟨fun a far loc n k ins hins hx hr ha hfar hloc hn hok => ?_, fun a far hx ha him hfar hss hal hr => ?_⟩
    · subst hfar hloc hn
      have hstep := State.farIssue_step (k := k) hx hr ha hslot _ rfl hok
      rw [Ctx.took, slotOf_ite] at hstep
      simp only [List.mem_cons, Prod.mk.injEq, List.not_mem_nil, or_false] at hins
      rcases hins with ⟨rfl, rfl⟩ | ⟨rfl, rfl⟩
      · exact ⟨_, rfl, hstep⟩
      · exact ⟨_, rfl, hstep⟩
    · obtain ⟨t, y, ht, hstep, hy⟩ := State.ifill_step hx hr ha hslot him hfar.symm hss hal
      refine ⟨t, _, ht, hstep, ?_, fun k hk => ?_, ?_⟩
      · simp only [SMap.get_set_same]
      · simp only [SMap.get_set_ne _ _ _ _ _ hk, hy]; rfl
      · rw [hy]; rfl
  case right =>
    rintro q u i s s1 x y c gen o rfl rfl hslot hwait
    have hop : (((s.engOf q).ctx u).slot i.val).op? = some o := by rw [hslot]; rfl
    refine ⟨fun bs hk hread hy => ?_, fun hk hwrite hy => ?_, fun bs hk hmem hcode hread hy hbusy => ?_⟩
    · exact hy ▸ State.fld_completes hop hwait hk hread
    · exact hy ▸ State.fst_completes hop hwait hk hwrite
    · exact hy ▸ State.ifill_completes hop hwait hk hmem hcode hread (hy ▸ hbusy)

end Sys2Proof.Machine

namespace Sys2Proof.Machine

/-! ### FWAIT (R67, R74) -/

/-- A context whose slots are all free has no operation in flight and no error. -/
theorem Ctx.inFlight_of_idle {c : Ctx} (h : ∀ i, i < 16 → (c.slot i).st = .idle) : c.inFlight = [] :=
  List.filterMap_eq_nil_iff.mpr fun i hi => by rw [TokSlot.op?, h i (List.mem_range.mp hi)]

theorem Ctx.oldestErr_of_idle {c : Ctx} (p : FarOp → Bool) (h : ∀ i, i < 16 → (c.slot i).st = .idle) : c.oldestErr p = none :=
  foldl_fixed_of_mem _ none (List.range 16) fun i hi => by rw [TokSlot.err?, h i (List.mem_range.mp hi)]

theorem Ctx.inFlight_of_busy {c : Ctx} {i : Nat} {o : FarOp} (hi : i < 16) (h : (c.slot i).st = .busy o) : c.inFlight ≠ [] :=
  List.ne_nil_of_mem (List.mem_filterMap.mpr ⟨i, List.mem_range.mpr hi, by rw [TokSlot.op?, h]⟩)

namespace State

theorem fld_3_0 (w : Word) : fld w 3 0 = w.toNat % 16 := by simp [fld, bitsN]

theorem fld_7_4 (w : Word) : fld w 7 4 = w.toNat / 16 % 16 := rfl

theorem waitOne_done {s : State} {q : EngId} {tok : Word} {c : Ctx}
    (h : (c.slot (tok.toNat % 16)).gen.toNat ≠ tok.toNat / 16 % 16 ∨ (c.slot (tok.toNat % 16)).st = .idle) : State.waitOne q tok s c = .next s := by
  unfold waitOne
  simp only [fld_3_0, fld_7_4]
  by_cases hg : (c.slot (tok.toNat % 16)).gen.toNat ≠ tok.toNat / 16 % 16
  · rw [if_pos hg]
  · rw [if_neg hg, h.resolve_left hg]

theorem waitOne_busy {s : State} {q : EngId} {tok : Word} {c : Ctx} {o : FarOp}
    (h : c.slot (tok.toNat % 16) = ⟨BitVec.ofNat 4 (tok.toNat / 16), .busy o⟩) : State.waitOne q tok s c = .stall := by
  unfold waitOne
  simp [fld_3_0, fld_7_4, h]

theorem waitAll_idle {s : State} {q : EngId} {c : Ctx} (h : ∀ i, i < 16 → (c.slot i).st = .idle) : State.waitAll q s c = .next s := by
  rw [waitAll, Ctx.inFlight_of_idle h, Ctx.oldestErr_of_idle _ h]; rfl

theorem waitAll_busy {s : State} {q : EngId} {c : Ctx} (h : ∃ i o, i < 16 ∧ (c.slot i).st = .busy o) : State.waitAll q s c = .stall := by
  obtain ⟨i, o, hi, ho⟩ := h
  rw [waitAll, if_neg (by rw [List.isEmpty_iff]; exact Ctx.inFlight_of_busy hi ho)]

/-- FWAIT runs the wait its immediate names. -/
theorem fwait_runs {s : State} {q : EngId} {a : IArgs} (hx : s.executes q (IArgs.size a) a.pr false) (hr : s.reads q (.fwait q a))
    (ha : a.x = true → a.imm12 = 0) (hrd : a.rd = 0) (hm : (IArgs.immZ a).toNat < 2) :
    exec (.fwait q a) s = .next (s.finish q (s.ctxOf q).pc.toNat (IArgs.size a)
      (if bit (IArgs.immZ a) 0 then s.waitAll q (s.ctxOf q) else s.waitOne q ((s.ctxOf q).gr a.ra.toNat) (s.ctxOf q))) :=
  congrArg Host.Outcome.next (instr_insI hx hr ha (decide_eq_true hrd) (decide_eq_true hm))

/-! ### The atomics (R67, R78) -/

/-- A range of the Sheet store's region. -/
theorem regionOf_ss {far n : Nat} (h : regionOf far n = .ss) : 0x10000000 ≤ far ∧ far + n ≤ 0x14000000 := by
  unfold regionOf at h
  dsimp only at h
  split at h
  · cases h
  · split at h
    · assumption
    · repeat' split at h
      all_goals cases h

theorem regionOf_ss_first {far n : Nat} (hn : 0 < n) (h : regionOf far n = .ss) : regionOf far 1 = .ss := by
  obtain ⟨hlo, hhi⟩ := regionOf_ss h
  rw [regionOf, if_neg (by omega), if_pos (by omega)]

/-- A Sheet store read or write that succeeds leaves the engines alone. -/
theorem ssRead_ok_eng {s s1 : State} {t : Tx} {a o n : Nat} {bs : List Byte} (h : s.ssRead t a o n = (s1, .ok, bs)) : s1.eng = s.eng := by
  unfold ssRead at h
  split at h
  · cases h
  · dsimp only at h
    split at h
    · cases h
    · obtain ⟨rfl, _⟩ := Prod.mk.inj h; rfl

theorem ssWrite_ok_eng {s s1 : State} {t : Tx} {a o : Nat} {bs : List Byte} (h : s.ssWrite t a o bs = (s1, .ok)) : s1.eng = s.eng := by
  unfold ssWrite at h
  dsimp only at h
  split at h
  · cases h
  · split at h
    · cases h
    · obtain ⟨rfl, _⟩ := Prod.mk.inj h; rfl

section Atomic
variable {s : State} {q : EngId} {a : TArgs} {i : Instr} {f : Ctx → Word → Option Word} {far : Nat} (hx : s.executes q 4 a.pr false)
  (hr : s.reads q i) (ha : a.x = false) (hrel : (s.ctxOf q).released) (hfar : TArgs.far a (s.ctxOf q) = far) (hss : regionOf far 4 = .ss)
  (hal : far % 4 = 0)
include hx hr ha hrel hfar hss hal

/-- An atomic waits for an earlier overlapping transfer of its engine and for the memory (R76, R148, R156). -/
theorem atomic_waits (hw : (s.engOf q).mustWait (s.engOf q).issue far 4 = true ∨ s.memWaits ⟨1, q.g.val⟩ far 4 = true) :
    s.instr q (insT i a true) (State.atomic q a f) = s := by
  rw [instr_insT hx hr ha rfl]
  unfold atomic
  simp only [hfar, afterRelease_of_released hrel, regionOf_ss_first (by decide) hss, hal, ne_eq, not_true_eq_false, if_false]
  rw [if_pos (by rwa [Bool.or_eq_true])]
  rfl

variable (hmust : (s.engOf q).mustWait (s.engOf q).issue far 4 = false) (hmem : s.memWaits ⟨1, q.g.val⟩ far 4 = false) {s1 : State} {bs : List Byte}
  (hread : s.ssRead ⟨1, q.g.val⟩ far (far - ssBase) 4 = (s1, .ok, bs)) {old : Word} (hold : old = BitVec.ofNat 32 (ofLe bs))
include hmust hmem hread hold

/-- Once it need not wait: one that stores nothing leaves the read's state, -/
theorem atomic_reads (hf : f (s.ctxOf q) old = none) :
    s1.ctxStep (s.instr q (insT i a true) (State.atomic q a f)) q ((s.ctxOf q).wrote a.rd old 4) := by
  subst hold
  rw [instr_insT hx hr ha rfl]
  unfold atomic
  simp only [hfar, afterRelease_of_released hrel, regionOf_ss_first (by decide) hss, hal, ne_eq, not_true_eq_false, if_false, hmust, hmem,
    Bool.or_self, Bool.false_eq_true, hread, hf]
  exact s1.ctxStep_wrote q (congrArg Ctx.occ (ctxOf_of_eng (ssRead_ok_eng hread) q).symm) a.rd _ 4

/-- and one that stores v leaves the write's state. -/
theorem atomic_writes {v : Word} {s2 : State} (hf : f (s.ctxOf q) old = some v)
    (hwrite : s1.ssWrite ⟨1, q.g.val⟩ far (far - ssBase) (leBytes 4 v.toNat) = (s2, .ok)) :
    s2.ctxStep (s.instr q (insT i a true) (State.atomic q a f)) q ((s.ctxOf q).wrote a.rd old 4) := by
  subst hold
  rw [instr_insT hx hr ha rfl]
  unfold atomic
  simp only [hfar, afterRelease_of_released hrel, regionOf_ss_first (by decide) hss, hal, ne_eq, not_true_eq_false, if_false, hmust, hmem,
    Bool.or_self, Bool.false_eq_true, hread, hf, hwrite, if_true]
  exact s2.ctxStep_wrote q (congrArg Ctx.occ (ctxOf_of_eng ((ssWrite_ok_eng hwrite).trans (ssRead_ok_eng hread)) q).symm) a.rd _ 4

end Atomic

/-- Each atomic is the shared one with the word it stores. -/
theorem atomic_of_mem {s : State} {q : EngId} {a : TArgs} {i : Instr} {old : Word} {new : Option Word} (x z : Word)
    (hx : (s.ctxOf q).gr a.ra.toNat = x) (hz : (s.ctxOf q).gr a.rc.toNat = z)
    (h : (i, new) ∈ [(.amoadd q a, some (old + x)), (.amoswap q a, some x), (.amocas q a, if old = z then some x else none),
       (.amomin q a, some (if x.slt old then x else old)), (.amomax q a, some (if x.slt old then old else x))]) :
    ∃ f : Ctx → Word → Option Word, exec i s = .next (s.instr q (insT i a true) (State.atomic q a f)) ∧ f (s.ctxOf q) old = new := by
  subst hx hz
  have hle : old.toInt ≤ ((s.ctxOf q).gr a.ra.toNat).toInt ↔ ¬ ((s.ctxOf q).gr a.ra.toNat).slt old = true := by
    simp [BitVec.slt]
  simp only [List.mem_cons, Prod.mk.injEq, List.not_mem_nil, or_false] at h
  rcases h with ⟨rfl, rfl⟩ | ⟨rfl, rfl⟩ | ⟨rfl, rfl⟩ | ⟨rfl, rfl⟩ | ⟨rfl, rfl⟩
  · exact ⟨_, rfl, rfl⟩
  · exact ⟨_, rfl, rfl⟩
  · exact ⟨_, rfl, rfl⟩
  · exact ⟨_, rfl, by simp only [hle, ite_not]⟩
  · exact ⟨_, rfl, by simp only [hle, ite_not]⟩

end State

/-- Settles O14: FWAIT by the wait its immediate names, the atomics by the shared one. -/
theorem farWaitsAndAtomics : Obligations.FarWaitsAndAtomics := by
  unfold Obligations.FarWaitsAndAtomics
  constructor
  case left =>
    rintro q a s c m tok hx ha hrd rfl rfl rfl
    have one : IArgs.immZ a = 0 → s.reads q (.fwait q a) → exec (.fwait q a) s = .next (s.finish q (s.ctxOf q).pc.toNat (IArgs.size a)
        (s.waitOne q ((s.ctxOf q).gr a.ra.toNat) (s.ctxOf q))) := fun hm hr => by
      rw [State.fwait_runs hx hr ha hrd (by rw [hm]; decide), hm]; rfl
    have all : IArgs.immZ a = 1 → s.reads q (.fwait q a) → exec (.fwait q a) s = .next (s.finish q (s.ctxOf q).pc.toNat (IArgs.size a)
        (s.waitAll q (s.ctxOf q))) := fun hm hr => by
      rw [State.fwait_runs hx hr ha hrd (by rw [hm]; decide), hm]; rfl
    refine ⟨fun hm h hr => ⟨_, one hm hr, ?_⟩, fun hm o h hr => ?_, fun hm h hr => ⟨_, all hm hr, ?_⟩, fun hm h hr => ?_⟩
    · rw [State.waitOne_done h]; exact s.ctxStep_putCtx q _
    · rw [one hm hr, State.waitOne_busy h]; rfl
    · rw [State.waitAll_idle h]; exact s.ctxStep_putCtx q _
    · rw [all hm hr, State.waitAll_busy h]; rfl
  case right =>
    rintro q a s s1 c x z old new far bs i hx hr ha rfl hrel hgx hgz hfar hss hal hi
    obtain ⟨f, hexec, hf⟩ := State.atomic_of_mem x z hgx hgz hi
    rw [hexec]
    refine ⟨fun hw => congrArg Host.Outcome.next (State.atomic_waits hx hr ha hrel hfar.symm hss hal hw), fun hmust hmem hread hold =>
      ⟨fun hn => ⟨_, rfl, ?_⟩, fun v s2 hv hwrite => ⟨_, rfl, ?_⟩⟩⟩
    · exact State.atomic_reads hx hr ha hrel hfar.symm hss hal hmust hmem hread hold (hf.trans hn)
    · exact State.atomic_writes hx hr ha hrel hfar.symm hss hal hmust hmem hread hold (hf.trans hv) hwrite

end Sys2Proof.Machine

namespace Sys2Proof.Machine

/-! ### TREADY and TCANCEL (R86, R98, R101-R103) -/

namespace State

/-- TREADY's step: the state and the code of its operand. -/
theorem tready_step {s : State} {q : EngId} {a : RArgs} (hx : s.executes q 4 a.pr a.pn) (hr : s.reads q (.tready q a)) (ha : a.x = false)
    (hfn : a.fn = 0) (hrb : a.rb = 0) (hrel : (s.ctxOf q).released) {w : Word} (hw : (s.ctxOf q).gr a.ra.toNat = w) (p : State × Nat)
    (hp : (if 2 ^ 22 ≤ w.toNat then (s, 1) else s.tready (w.toNat / 2 ^ 16 % 64) (w.toNat % 2 ^ 16)) = p) :
    ∃ t, exec (.tready q a) s = .next t ∧ p.1.ctxStep t q ((p.1.ctxOf q).wrote a.rd (BitVec.ofNat 32 p.2) 4) := by
  refine ⟨_, rfl, ?_⟩
  rw [instr_insR hx hr ha (by simp [hfn, hrb])]
  simp only [hw, opTaskBad_eq, opTask_eq, opGath_eq, decide_eq_true_eq, hp, afterRelease_of_released hrel]
  exact p.1.ctxStep_wrote q rfl a.rd _ 4

/-- TCANCEL's. -/
theorem tcancel_step {s : State} {q : EngId} {a : RArgs} (hx : s.executes q 4 a.pr a.pn) (hr : s.reads q (.tcancel q a)) (ha : a.x = false)
    (hfn : a.fn = 0) (hrb : a.rb = 0) (hrel : (s.ctxOf q).released) {w : Word} (hw : (s.ctxOf q).gr a.ra.toNat = w) (p : State × Nat)
    (hp : (if 2 ^ 22 ≤ w.toNat then (s, 3) else s.tcancel (w.toNat / 2 ^ 16 % 64) (w.toNat % 2 ^ 16)) = p) :
    ∃ t, exec (.tcancel q a) s = .next t ∧ p.1.ctxStep t q ((p.1.ctxOf q).wrote a.rd (BitVec.ofNat 32 p.2) 4) := by
  refine ⟨_, rfl, ?_⟩
  rw [instr_insR hx hr ha (by simp [hfn, hrb])]
  simp only [hw, opTaskBad_eq, opTask_eq, opGath_eq, decide_eq_true_eq, hp, afterRelease_of_released hrel]
  exact p.1.ctxStep_wrote q rfl a.rd _ 4

section Codes
variable {s : State} {g id : Nat}

/-! #### The codes, each from its condition -/

/-- A task that is not ready is not found among the ready ones. -/
theorem find_ready_none (hn : ∀ k, k ∈ (s.gathAt g).ready → k.id ≠ id) : (s.gathAt g).ready.find? (fun k => k.id == id) = none :=
  List.find?_eq_none.mpr fun k hk => by simpa using hn k hk

/-- An id is in the cancel memory when an entry of it is still held (R103). -/
theorem cancels_any : (s.cancels g).any (fun c => c.id == id) = true ↔
    ∃ m, m ∈ (s.gathAt g).cancelMem ∧ m.id = id ∧ s.now < m.at_ + 1000 := by
  simp only [cancels, List.any_eq_true, List.mem_filter, decide_eq_true_iff, beq_iff_eq]
  exact exists_congr fun m => by tauto

theorem tready_parked (hp : s.parked g = true) : s.tready g id = (s, 4) := by rw [tready, if_pos hp]

theorem tready_unbound (hp : s.parked g = false) (hb : s.bound g id = false) : s.tready g id = ((s.addSat (Reg.tsuUnbound g) 31 0 1).evcSet g 417, 1) := by
  simp [tready, hp, hb, countUnbound]

theorem tcancel_parked (hp : s.parked g = true) : s.tcancel g id = (s, 4) := by rw [tcancel, if_pos hp]

theorem tcancel_unbound (hp : s.parked g = false) (hb : s.bound g id = false) : s.tcancel g id = ((s.addSat (Reg.tsuUnbound g) 31 0 1).evcSet g 417, 3) := by
  simp [tcancel, hp, hb, countUnbound]

variable (hp : s.parked g = false) (hb : s.bound g id = true)
include hp hb

theorem tready_remembered (hm : ∃ m, m ∈ (s.gathAt g).cancelMem ∧ m.id = id ∧ s.now < m.at_ + 1000) :
    s.tready g id = ((s.setGath g { s.gathAt g with cancelMem := (s.gathAt g).cancelMem.filter (fun m => m.id != id) }).completeTask g id 2 0 none, 2) := by
  rw [tready, if_neg (by simp [hp]), if_neg (by simp [hb]), if_pos (cancels_any.mpr hm)]

/-- With no cancel remembered, what the ready list and the task's own state decide. -/
theorem tready_fresh (hm : ∀ m, m ∈ (s.gathAt g).cancelMem → m.id = id → m.at_ + 1000 ≤ s.now) :
    s.tready g id = if (s.gathAt g).holds id then (s, 3) else if 224 ≤ (s.gathAt g).settle.length + (s.gathAt g).ready.length then
      ((s.addSat (Reg.tsuRefused g) 31 0 1).evcSet g 416, 1)
      else (s.setGath g { s.gathAt g with settle := (s.gathAt g).settle ++ [⟨id, s.now⟩] }, 0) := by
  have hnone : ¬ (s.cancels g).any (fun c => c.id == id) = true := fun h => by
    obtain ⟨m, hmem, hid, hlt⟩ := cancels_any.mp h
    exact Nat.not_lt.mpr (hm m hmem hid) hlt
  rw [tready, if_neg (by simp [hp]), if_neg (by simp [hb]), if_neg hnone]
  rfl

theorem tcancel_settling (hm : ∃ m, m ∈ (s.gathAt g).settle ∧ m.id = id) :
    s.tcancel g id = (((s.setGath g { s.gathAt g with settle := (s.gathAt g).settle.filter (fun m => m.id != id) }).completeTask g id 2 0
      none).retryTasks g, 0) := by
  rw [tcancel, if_neg (by simp [hp]), if_neg (by simp [hb]), if_pos (by simpa [List.any_eq_true] using hm)]

variable (hs : ∀ m, m ∈ (s.gathAt g).settle → m.id ≠ id)
include hs

theorem tcancel_ready {k : Task} (hk : (s.gathAt g).ready.find? (fun k => k.id == id) = some k) :
    s.tcancel g id = (((s.setGath g { s.gathAt g with ready := (s.gathAt g).ready.filter (fun k => k.id != id) }).completeTask g id 2 0
      (some k.cpl)).retryTasks g, 0) := by
  rw [tcancel, if_neg (by simp [hp]), if_neg (by simp [hb]), if_neg (by simpa [List.any_eq_true] using hs), hk]

variable (hn : ∀ k, k ∈ (s.gathAt g).ready → k.id ≠ id)
include hn

theorem tcancel_running {r : Running} (hr : (s.gathAt g).running.find? (fun k => k.task.id == id) = some r) :
    s.tcancel g id = ((s.setEng g r.e ((s.engAt g r.e).setCtx r.urgent { (s.engAt g r.e).ctx r.urgent with
      cancel := true, cancelled := true })).evcSet g (400 + r.e), 2) := by
  rw [tcancel, if_neg (by simp [hp]), if_neg (by simp [hb]), if_neg (by simpa [List.any_eq_true] using hs), find_ready_none hn, hr]

/-- A task that is nowhere, with every remembered cancel still held and none of it. -/
theorem tcancel_nowhere (hr : ∀ k, k ∈ (s.gathAt g).running → k.task.id ≠ id)
    (hm : ∀ m, m ∈ (s.gathAt g).cancelMem → m.id ≠ id ∧ s.now < m.at_ + 1000) :
    s.tcancel g id = if 32 ≤ (s.gathAt g).cancelMem.length then (s, 3)
      else (s.setGath g { s.gathAt g with cancelMem := (s.gathAt g).cancelMem ++ [⟨id, s.now⟩] }, 1) := by
  have hrun : (s.gathAt g).running.find? (fun k => k.task.id == id) = none := List.find?_eq_none.mpr fun k hk => by simpa using hr k hk
  have hheld : (s.gathAt g).cancelMem.filter (fun c => decide (s.now < c.at_ + 1000)) = (s.gathAt g).cancelMem :=
    List.filter_eq_self.mpr fun m h => decide_eq_true (hm m h).2
  have hnone : ¬ (s.cancels g).any (fun c => c.id == id) = true := fun h => by
    obtain ⟨m, hmem, hid, _⟩ := cancels_any.mp h
    exact (hm m hmem).1 hid
  rw [tcancel, if_neg (by simp [hp]), if_neg (by simp [hb]), if_neg (by simpa [List.any_eq_true] using hs), find_ready_none hn, hrun]
  dsimp only
  rw [if_neg hnone, cancels, hheld]

end Codes
end State

/-- Settles O18: each condition gives the operand's state and code. -/
theorem taskReleaseReturnsCodes : Obligations.TaskReleaseReturnsCodes := by
  unfold Obligations.TaskReleaseReturnsCodes
  constructor
  case left =>
    rintro q a s s1 c w g id r x hx ha hfn hrb rfl hrel hw hg hid rfl hcase hr
    refine State.tready_step hx hr ha hfn hrb hrel hw (s1, r) ?_
    rw [← hg, ← hid]
    rcases hcase with ⟨hbig, rfl, rfl⟩ | ⟨hlt, hp, rfl, rfl⟩ | ⟨hlt, hp, hb, rfl, rfl⟩ | ⟨hlt, hp, hb, hm, rfl, rfl⟩ | ⟨hlt, hp, hb, hm, hcase⟩
    · exact if_pos hbig
    · rw [if_neg (Nat.not_le.mpr hlt), State.tready_parked hp]
    · rw [if_neg (Nat.not_le.mpr hlt), State.tready_unbound hp hb]
    · rw [if_neg (Nat.not_le.mpr hlt), State.tready_remembered hp hb hm]
    · rw [if_neg (Nat.not_le.mpr hlt), State.tready_fresh hp hb hm]
      rcases hcase with ⟨hh, rfl, rfl⟩ | ⟨hh, hfull, rfl, rfl⟩ | ⟨hh, hroom, rfl, rfl⟩
      · exact if_pos hh
      · rw [if_neg (Bool.not_eq_true _ ▸ hh), if_pos hfull]
      · rw [if_neg (Bool.not_eq_true _ ▸ hh), if_neg (Nat.not_le.mpr hroom)]
  case right =>
    rintro q a s s1 c w g id r x hx ha hfn hrb rfl hrel hw hg hid rfl hcase hr
    refine State.tcancel_step hx hr ha hfn hrb hrel hw (s1, r) ?_
    rw [← hg, ← hid]
    rcases hcase with ⟨hbig, rfl, rfl⟩ | ⟨hlt, hp, rfl, rfl⟩ | ⟨hlt, hp, hb, rfl, rfl⟩ | ⟨hlt, hp, hb, hm, rfl, rfl⟩ | ⟨hlt, hp, hb, hs, hcase⟩
    · exact if_pos hbig
    · rw [if_neg (Nat.not_le.mpr hlt), State.tcancel_parked hp]
    · rw [if_neg (Nat.not_le.mpr hlt), State.tcancel_unbound hp hb]
    · rw [if_neg (Nat.not_le.mpr hlt), State.tcancel_settling hp hb hm]
    · rw [if_neg (Nat.not_le.mpr hlt)]
      rcases hcase with ⟨k, hk, rfl, rfl⟩ | ⟨hn, ⟨k, n, hk, rfl, rfl, rfl⟩ | ⟨hrun, hm, hcase⟩⟩
      · exact State.tcancel_ready hp hb hs hk
      · exact State.tcancel_running hp hb hs hn hk
      · rw [State.tcancel_nowhere hp hb hs hn hrun hm]
        rcases hcase with ⟨hfull, rfl, rfl⟩ | ⟨hroom, rfl, rfl⟩
        · exact if_pos hfull
        · exact if_neg (Nat.not_le.mpr hroom)

/-! ### TDONE and TYIELD (R55, R87, R90, R101, R106) -/

namespace State

/-- The state after a context's occupant has left it and its running slot. -/
def vacated (s : State) (g e : Nat) (u : Bool) : State := (s.dropRunning g e u).freeCtx g e u

theorem endCtx_none {s : State} {g e : Nat} {u : Bool} (h : s.taskOf g e u = none) (result status : Nat) :
    s.endCtx g e u result status = (s.vacated g e u).dispatch g := by
  rw [endCtx, h]; rfl

theorem endCtx_some {s : State} {g e : Nat} {u : Bool} {k : Task} (h : s.taskOf g e u = some k) (result status : Nat) :
    s.endCtx g e u result status = ((s.vacated g e u).completeTask g k.id result status (some k.cpl)).dispatch g := by
  rw [endCtx, h]; rfl

theorem yieldCtx_none {s : State} {g e : Nat} {u : Bool} (h : s.taskOf g e u = none) :
    s.yieldCtx g e u = (s.vacated g e u).dispatch g := by
  rw [yieldCtx, h]; rfl

theorem yieldCtx_some {s : State} {g e : Nat} {u : Bool} {k : Task} (h : s.taskOf g e u = some k) :
    s.yieldCtx g e u = ((s.vacated g e u).setGath g { (s.vacated g e u).gathAt g with
      ready := ((s.vacated g e u).gathAt g).ready ++ [k] }).dispatch g := by
  rw [yieldCtx, h]; rfl

/-- A task that leaves its slot leaves the ready list as it was. -/
theorem vacated_ready (s : State) (g e : Nat) (u : Bool) : ((s.vacated g e u).gathAt g).ready = (s.gathAt g).ready := by
  simp [vacated, freeCtx, dropRunning, gathAt, setEng, setGath]

/-- TDONE ends the context with the task's status, or as cancelled. -/
theorem exec_tdone {s : State} {q : EngId} {a : RArgs} (hx : s.executes q 4 a.pr a.pn) (hr : s.reads q (.tdone q a)) (ha : a.x = false)
    (hfn : a.fn = 0) (hrd : a.rd = 0) (hrb : a.rb = 0) (hrel : (s.ctxOf q).released) :
    exec (.tdone q a) s = .next (s.endCtx q.g.val q.e.val (s.urgOf q) (if (s.ctxOf q).cancelled then 2 else 1)
      (if (s.ctxOf q).cancelled then 0 else ((s.ctxOf q).gr a.ra.toNat).toNat % 2 ^ 16)) := by
  refine congrArg Host.Outcome.next ?_
  rw [instr_insR hx hr ha (by simp [hfn, hrd, hrb]), afterRelease_of_released hrel, fld, bitsN_15_0]
  rfl

theorem exec_tyield {s : State} {q : EngId} {a : RArgs} (hx : s.executes q 4 a.pr a.pn) (hr : s.reads q (.tyield q a)) (ha : a.x = false)
    (hfn : a.fn = 0) (hrd : a.rd = 0) (hra : a.ra = 0) (hrb : a.rb = 0) (hrel : (s.ctxOf q).released) :
    exec (.tyield q a) s = .next (s.yieldCtx q.g.val q.e.val (s.urgOf q)) := by
  refine congrArg Host.Outcome.next ?_
  rw [instr_insR hx hr ha (by simp [hfn, hrd, hra, hrb]), afterRelease_of_released hrel]
  rfl

end State

/-- Settles O19: f is the state after the occupant has left; what follows depends on the task and its cancel flag. -/
theorem taskEndFreesContext : Obligations.TaskEndFreesContext := by
  unfold Obligations.TaskEndFreesContext
  rintro q a s f c x y u hx ha hfn hrd hrb rfl rfl rfl hrel rfl hf
  obtain rfl : f = s.vacated q.g q.e (s.urgOf q) := hf
  constructor
  case left =>
    intro hr
    rw [State.exec_tdone hx hr ha hfn hrd hrb hrel]
    refine ⟨fun hn => ⟨_, rfl, State.endCtx_none hn _ _⟩, fun k hk hc => ⟨_, rfl, ?_⟩, fun k hk hc => ⟨_, rfl, ?_⟩⟩
    · rw [State.endCtx_some hk, if_neg (Bool.not_eq_true _ ▸ hc), if_neg (Bool.not_eq_true _ ▸ hc)]
    · rw [State.endCtx_some hk, if_pos hc, if_pos hc]
  case right =>
    intro hr hra
    rw [State.exec_tyield hx hr ha hfn hrd hra hrb hrel]
    refine ⟨fun hn => ⟨_, rfl, State.yieldCtx_none hn⟩, fun k hk => ⟨_, rfl, ?_⟩⟩
    rw [State.yieldCtx_some hk, State.vacated_ready]

end Sys2Proof.Machine

namespace Sys2Proof.Machine

/-! ### Words an engine does not execute (R61, R62) -/

/-- The high part of two words put together. -/
theorem toNat_append_div {m n : Nat} (x : BitVec m) (y : BitVec n) : (x ++ y).toNat / 2 ^ n = x.toNat := by
  rw [BitVec.toNat_append, ← Nat.shiftLeft_add_eq_or_of_lt y.isLt, Nat.shiftLeft_eq, Nat.add_comm, Nat.add_mul_div_right _ _ (Nat.two_pow_pos n),
    Nat.div_eq_of_lt y.isLt, Nat.zero_add]

/-- The major opcode of a word in the R format. -/
theorem wordR_op (op fn : BitVec 6) (a : RArgs) : (wordR op fn a).toNat / 2 ^ 26 = op.toNat := by
  rw [show (2 : Nat) ^ 26 = 2 ^ 6 * 2 ^ 1 * 2 ^ 3 * 2 ^ 5 * 2 ^ 5 * 2 ^ 5 * 2 ^ 1 from rfl]
  simp only [wordR, ← Nat.div_div_eq_div_mul, toNat_append_div]

namespace State

theorem holdsWords_single (s : State) (q : EngId) (pc : Nat) (w : Word) : s.holdsWords q pc [w] = (s.codeWord q pc == w) := by
  simp [holdsWords]

section Skips
variable {s : State} {q : EngId} (hrun : s.running q = true) (hpage : s.pageOf q (s.ctxOf q).pc.toNat = .valid)
include hrun hpage

/-- An engine's word that is not the command's. -/
theorem instr_other {ins : Ins} {body : State → Ctx → Res} (hw : s.holdsWords q (s.ctxOf q).pc.toNat (ins.words.take 1) = false) :
    s.instr q ins body = s.otherWord q (s.ctxOf q) (s.ctxOf q).pc.toNat := by
  simp [instr, hrun, hpage, hw]

/-- Of ADD's word: the one word it has. -/
theorem exec_add_other {a : RArgs} {w : Word} (hcode : s.codeWord q (s.ctxOf q).pc.toNat = w) (hw : w ≠ wordR 0x00 0x00 a) :
    exec (.add q a) s = .next (s.otherWord q (s.ctxOf q) (s.ctxOf q).pc.toNat) :=
  congrArg Host.Outcome.next (instr_other hrun hpage (by
    refine (s.holdsWords_single q _ (wordR 0x00 0x00 a)).trans ?_
    rw [hcode]
    exact beq_eq_false_iff_ne.mpr hw))

variable {i : Instr} (hr : s.reads q i)
include hr

/-- A predicate that fails only moves pc on (R61). -/
theorem instr_skips {ins : Ins} {body : State → Ctx → Res} (hpc : (s.ctxOf q).pc.toNat + 4 ≤ 0x1FFC) (hi : ins.words = i.words) (hsize : ins.size = 4)
    (hp : (s.ctxOf q).pred ins.pr = ins.pn) :
    s.ctxStep (s.instr q ins body) q { s.ctxOf q with pc := (s.ctxOf q).pc + 4 } := by
  have hw := s.holdsWords_take q _ _ hr
  have hin : ¬ 0x1FFC < (s.ctxOf q).pc.toNat + 4 := Nat.not_lt.mpr hpc
  have h : s.instr q ins body = s.stepPc q 4 := by simp [instr, hrun, hpage, hi, hw, hsize, Ins.holds, hp, hin]
  rw [h]
  exact s.ctxStep_putCtx q _

/-- A word with a bit that must be 0 faults ILLEGAL, its predicate permitting (R62). -/
theorem instr_illegal {ins : Ins} {body : State → Ctx → Res} (hi : ins.words = i.words) (hp : (s.ctxOf q).pred ins.pr ≠ ins.pn)
    (hl : ins.legal = false) :
    s.instr q ins body = s.fault q.g q.e (s.urgOf q) 0x01 (s.ctxOf q).pc.toNat (s.ctxOf q).pc.toNat (s.ctxOf q).pc.toNat := by
  have hw := s.holdsWords_take q _ _ hr
  simp [instr, hrun, hpage, hi, hw, Ins.holds, hp, hl, faultHere, causeIllegal]

end Skips

/-! #### The shared frame behind a command -/

/-- Some commands of the R format behind the statements about skips. -/
theorem exec_insR {s : State} {q : EngId} {a : RArgs} {i : Instr}
    (h : i ∈ [Instr.add q a, .div q a, .pcmpEq q a, .tready q a, .tdone q a, .esig q a]) :
    ∃ legal body, exec i s = .next (s.instr q (insR i a legal) body) := by
  simp only [List.mem_cons, List.not_mem_nil, or_false] at h
  rcases h with rfl | rfl | rfl | rfl | rfl | rfl <;> exact ⟨_, _, rfl⟩

theorem exec_insM {s : State} {q : EngId} {a : MArgs} {i : Instr} (h : i ∈ [Instr.ld q a, .st q a, .vst q a]) :
    ∃ legal body, exec i s = .next (s.instr q (insM i a legal) body) := by
  simp only [List.mem_cons, List.not_mem_nil, or_false] at h
  rcases h with rfl | rfl | rfl <;> exact ⟨_, _, rfl⟩

theorem exec_insT {s : State} {q : EngId} {a : TArgs} {i : Instr} (h : i ∈ [Instr.fld q a, .fst q a, .amoswap q a, .fold q a]) :
    ∃ legal body, exec i s = .next (s.instr q (insT i a legal) body) := by
  simp only [List.mem_cons, List.not_mem_nil, or_false] at h
  rcases h with rfl | rfl | rfl | rfl <;> exact ⟨_, _, rfl⟩

/-! ### Local accesses that fault (R57) -/

/-- Every local access command makes an access of its width. -/
theorem exec_localAcc {s : State} {q : EngId} {a : MArgs} {i : Instr} {n : Nat}
    (h : (a.sz ≠ 3 ∧ (i, n) ∈ [(Instr.ld q a, 2 ^ a.sz.toNat), (.ldu q a, 2 ^ a.sz.toNat), (.st q a, 2 ^ a.sz.toNat)]) ∨
      (a.sz = 0 ∧ a.rd.toNat < 16 ∧ (i, n) ∈ [(Instr.vld q a, 32), (.vst q a, 32)])) :
    0 < n ∧ ∃ (legal : Bool) (act : State → Ctx → Nat → State), legal = true ∧
      exec i s = .next (s.instr q (insM i a legal) (fun s c => s.localAcc a n c (act s c))) := by
  simp only [List.mem_cons, Prod.mk.injEq, List.not_mem_nil, or_false] at h
  rcases h with ⟨hsz, ⟨rfl, rfl⟩ | ⟨rfl, rfl⟩ | ⟨rfl, rfl⟩⟩ | ⟨hsz, hv, ⟨rfl, rfl⟩ | ⟨rfl, rfl⟩⟩
  · exact ⟨Nat.two_pow_pos _, _, _, decide_eq_true hsz, rfl⟩
  · exact ⟨Nat.two_pow_pos _, _, _, decide_eq_true hsz, rfl⟩
  · exact ⟨Nat.two_pow_pos _, _, _, decide_eq_true hsz, rfl⟩
  · exact ⟨by decide, _, _, by rw [decide_eq_true hsz, vreg_of_lt a.rd hv]; rfl, rfl⟩
  · exact ⟨by decide, _, _, by rw [decide_eq_true hsz, vreg_of_lt a.rd hv]; rfl, rfl⟩

theorem localAcc_range {s : State} {a : MArgs} {n : Nat} {c : Ctx} (act : Nat → State) (hn : 0 < n) (hout : 0x6000 < MArgs.addr a c + n) :
    s.localAcc a n c act = .fault s causeLocalRange none (MArgs.addr a c) := by
  simp [localAcc, localBad, hout, Nat.pos_iff_ne_zero.mp hn]

theorem localAcc_align {s : State} {a : MArgs} {n : Nat} {c : Ctx} (act : Nat → State) (hin : MArgs.addr a c + n ≤ 0x6000)
    (hal : MArgs.addr a c % n ≠ 0) : s.localAcc a n c act = .fault s causeAlign none (MArgs.addr a c) := by
  simp [localAcc, localBad, Nat.not_lt.mpr hin, hal]

end State

/-- The first part of O22: what is skipped, what faults ILLEGAL, what is another command's word. -/
theorem skips_and_illegal (q : EngId) (s : State) (c : Ctx) (b : Bool) (hc : s.ctxOf q = c) (hrun : s.running q = true)
    (hpage : s.pageOf q c.pc.toNat = .valid) (hpc : c.pc.toNat + 4 ≤ 0x1FFC) :
     (∀ a : RArgs, c.pred a.pr.toNat = a.pn → ∀ i, i ∈ [Instr.add q a, .div q a, .pcmpEq q a, .tready q a, .tdone q a, .esig q a] → s.reads q i →
       ∃ t, exec i s = .next t ∧ s.ctxStep t q { c with pc := c.pc + 4 }) ∧
     (∀ a : MArgs, c.pred a.pr.toNat = false → ∀ i, i ∈ [Instr.ld q a, .st q a, .vst q a] → s.reads q i →
       ∃ t, exec i s = .next t ∧ s.ctxStep t q { c with pc := c.pc + 4 }) ∧
     (∀ a : TArgs, c.pred a.pr.toNat = false → ∀ i, i ∈ [Instr.fld q a, .fst q a, .amoswap q a, .fold q a] → s.reads q i →
       ∃ t, exec i s = .next t ∧ s.ctxStep t q { c with pc := c.pc + 4 }) ∧
     (∀ a : RArgs, a.x = b → c.pred a.pr.toNat ≠ a.pn → b = true → ∀ i, i ∈ [Instr.add q a, .div q a, .tready q a, .tdone q a] → s.reads q i →
       exec i s = .next (s.fault q.g q.e (s.urgOf q) 0x01 c.pc.toNat c.pc.toNat c.pc.toNat)) ∧
     (∀ (a : RArgs) (w : Word), s.codeWord q c.pc.toNat = w → wordOpKnown w = false → exec (.add q a) s =
       .next (s.fault q.g q.e (s.urgOf q) 0x01 c.pc.toNat c.pc.toNat c.pc.toNat)) ∧
     (∀ (a : RArgs) (w : Word), s.codeWord q c.pc.toNat = w → wordOpKnown w = true → wordFnKnown w = true → ¬ s.reads q (.add q a) →
       exec (.add q a) s = .next s) := by
  subst hc
  refine ⟨fun a hp i hi hr => ?_, fun a hp i hi hr => ?_, fun a hp i hi hr => ?_, fun a hx hp hb i hi hr => ?_, fun a w hcode hop => ?_,
    fun a w hcode hop hfn hno => ?_⟩
  · obtain ⟨legal, body, h⟩ := State.exec_insR (s := s) hi
    exact ⟨_, h, State.instr_skips hrun hpage hr hpc rfl rfl hp⟩
  · obtain ⟨legal, body, h⟩ := State.exec_insM (s := s) hi
    exact ⟨_, h, State.instr_skips hrun hpage hr hpc rfl rfl hp⟩
  · obtain ⟨legal, body, h⟩ := State.exec_insT (s := s) hi
    exact ⟨_, h, State.instr_skips hrun hpage hr hpc rfl rfl hp⟩
  · obtain ⟨legal, body, h⟩ := State.exec_insR (s := s) (q := q) (a := a) (i := i) (by
      simp only [List.mem_cons, List.not_mem_nil, or_false] at hi ⊢; tauto)
    rw [h, State.instr_illegal hrun hpage hr rfl hp (by simp [insR, hx, hb])]
  · have hne : w ≠ wordR 0x00 0x00 a := fun h => by
      simp only [h, wordOpKnown, wordR_op] at hop
      exact absurd hop (by decide)
    rw [State.exec_add_other hrun hpage hcode hne, State.otherWord, hcode, hop]
    rfl
  · have hne : w ≠ wordR 0x00 0x00 a := fun h => hno (by
      refine (s.holdsWords_single q _ (wordR 0x00 0x00 a)).trans ?_
      rw [hcode, h]; exact beq_self_eq_true _)
    rw [State.exec_add_other hrun hpage hcode hne, State.otherWord, hcode, hop, hfn]
    rfl

/-- The second part: LOCAL_RANGE and ALIGN. -/
theorem local_faults (q : EngId) (a : MArgs) (s : State) (c : Ctx) (addr n : Nat) (i : Instr) (hx : s.executes q 4 a.pr false) (ha : a.x = false)
    (hc : s.ctxOf q = c) (haddr : addr = (c.gr a.ra.toNat + a.off10.signExtend 32).toNat) (hr : s.reads q i)
    (hi : (a.sz ≠ 3 ∧ (i, n) ∈ [(Instr.ld q a, 2 ^ a.sz.toNat), (.ldu q a, 2 ^ a.sz.toNat), (.st q a, 2 ^ a.sz.toNat)]) ∨
       (a.sz = 0 ∧ a.rd.toNat < 16 ∧ (i, n) ∈ [(Instr.vld q a, 32), (.vst q a, 32)])) :
       (0x6000 < addr + n → exec i s = .next (s.fault q.g q.e (s.urgOf q) 0x05 c.pc.toNat c.pc.toNat addr)) ∧
       (addr + n ≤ 0x6000 → addr % n ≠ 0 → exec i s = .next (s.fault q.g q.e (s.urgOf q) 0x04 c.pc.toNat c.pc.toNat addr)) := by
  subst hc haddr
  obtain ⟨hn, legal, act, hl, h⟩ := State.exec_localAcc (s := s) hi
  rw [h, State.instr_insM hx hr ha hl]
  refine ⟨fun hout => ?_, fun hin hal => ?_⟩
  · rw [State.localAcc_range _ hn hout]; rfl
  · rw [State.localAcc_align _ hin hal]; rfl

/-! ### The record of a fault (R48-R51, R92) -/

namespace State

/-- QE_FAULT as a fault writes it. -/
def faultWord (u : Bool) (tsk cause : Nat) : Word := BitVec.ofNat 32 (2 ^ 31 + b2n u * 2 ^ 29 + tsk * 2 ^ 8 + cause)
/-- QE_FAULT_PC as a fault writes it. -/
def faultPcWord (pc issue : Nat) : Word := BitVec.ofNat 32 (issue * 2 ^ 16 + pc)
/-- QE_FAULT_ADDR_HI as a fault writes it. -/
def faultHiWord (addr : Nat) : Word := BitVec.ofNat 32 (addr / 2 ^ 32 % 2 ^ 16)

/-- A fault record with its four words, or the mark that one was lost. -/
def recordFault (s : State) (g e : Nat) (w wpc wlo whi : Word) : State :=
  if s.flag (Reg.qeFault g e) 31 then s.setB (Reg.qeFault g e) 30 true
  else (((s.wr (Reg.qeFault g e) w).wr (Reg.qeFaultPc g e) wpc).wr (Reg.qeFaultAddrLo g e) wlo).wr (Reg.qeFaultAddrHi g e) whi

/-- What a fault writes to its registers. -/
def faultRecorded (s : State) (g e : Nat) (u : Bool) (cause pc issue addr : Nat) : State :=
  s.recordFault g e (faultWord u ((s.engAt g e).ctx u).tsk.toNat cause) (faultPcWord pc issue) (BitVec.ofNat 32 addr) (faultHiWord addr)

section Record
variable (s : State) (g e : Nat) (w wpc wlo whi : Word)

/-- A recorded fault leaves the gatherings as they are, -/
theorem recordFault_gath : (s.recordFault g e w wpc wlo whi).gath = s.gath := by
  unfold recordFault; split <;> rfl

/-- and writes no register but those of its engine's fault record. -/
theorem rd_recordFault (off : Nat) (h : off < Reg.qeFault g e ∨ Reg.qeFaultAddrHi g e < off) :
    (s.recordFault g e w wpc wlo whi).rd off = s.rd off := by
  unfold Reg.qeFault Reg.qeFaultAddrHi at h
  unfold recordFault Reg.qeFault Reg.qeFaultPc Reg.qeFaultAddrLo Reg.qeFaultAddrHi
  split
  · exact s.rd_setB_ne _ _ _ _ (by omega)
  · rw [rd_wr_ne _ _ _ _ (by omega), rd_wr_ne _ _ _ _ (by omega), rd_wr_ne _ _ _ _ (by omega), rd_wr_ne _ _ _ _ (by omega)]

/-- With valid clear the record holds the four words. -/
theorem recordFault_fresh (h : s.flag (Reg.qeFault g e) 31 = false) :
    (s.recordFault g e w wpc wlo whi).rd (Reg.qeFault g e) = w ∧ (s.recordFault g e w wpc wlo whi).rd (Reg.qeFaultPc g e) = wpc ∧
      (s.recordFault g e w wpc wlo whi).rd (Reg.qeFaultAddrLo g e) = wlo ∧ (s.recordFault g e w wpc wlo whi).rd (Reg.qeFaultAddrHi g e) = whi := by
  have hregs : Reg.qeFault g e ≠ Reg.qeFaultPc g e ∧ Reg.qeFault g e ≠ Reg.qeFaultAddrLo g e ∧ Reg.qeFault g e ≠ Reg.qeFaultAddrHi g e ∧
      Reg.qeFaultPc g e ≠ Reg.qeFaultAddrLo g e ∧ Reg.qeFaultPc g e ≠ Reg.qeFaultAddrHi g e ∧
      Reg.qeFaultAddrLo g e ≠ Reg.qeFaultAddrHi g e := by
    unfold Reg.qeFault Reg.qeFaultPc Reg.qeFaultAddrLo Reg.qeFaultAddrHi; omega
  obtain ⟨h12, h13, h14, h23, h24, h34⟩ := hregs
  rw [recordFault, h, if_neg Bool.false_ne_true]
  exact ⟨by rw [rd_wr_ne _ _ _ _ h14, rd_wr_ne _ _ _ _ h13, rd_wr_ne _ _ _ _ h12, rd_wr_same],
    by rw [rd_wr_ne _ _ _ _ h24, rd_wr_ne _ _ _ _ h23, rd_wr_same], by rw [rd_wr_ne _ _ _ _ h34, rd_wr_same], rd_wr_same ..⟩

/-- With valid set the record is marked lost. -/
theorem recordFault_lost (h : s.flag (Reg.qeFault g e) 31 = true) :
    s.recordFault g e w wpc wlo whi = s.setB (Reg.qeFault g e) 30 true := by
  rw [recordFault, if_pos h]

end Record

/-- The fields of QE_FAULT as written. -/
theorem faultWord_fields (u : Bool) {tsk cause : Nat} (ht : tsk < 2 ^ 16) (hc : cause < 256) :
    bit (faultWord u tsk cause) 31 = true ∧ fld (faultWord u tsk cause) 7 0 = cause ∧ fld (faultWord u tsk cause) 23 8 = tsk ∧
      bit (faultWord u tsk cause) 29 = u := by
  have hb : b2n u < 2 := by cases u <;> decide
  have hu : u = decide (b2n u = 1) := by cases u <;> rfl
  have hn : (faultWord u tsk cause).toNat = 2 ^ 31 + b2n u * 2 ^ 29 + tsk * 2 ^ 8 + cause :=
    (BitVec.toNat_ofNat ..).trans (Nat.mod_eq_of_lt (by omega))
  simp only [bit, fld, bitsN, BitVec.getLsbD, hn, Nat.testBit_eq_decide_div_mod_eq]
  refine ⟨?_, by omega, by omega, ?_⟩
  · rw [decide_eq_true_iff]; omega
  · conv_rhs => rw [hu]
    rw [decide_eq_decide]; omega

theorem faultPcWord_fields {pc issue : Nat} (hp : pc < 2 ^ 13) (hi : issue < 2 ^ 13) :
    fld (faultPcWord pc issue) 12 0 = pc ∧ fld (faultPcWord pc issue) 28 16 = issue := by
  have hn : (faultPcWord pc issue).toNat = issue * 2 ^ 16 + pc := (BitVec.toNat_ofNat ..).trans (Nat.mod_eq_of_lt (by omega))
  simp only [fld, bitsN, hn]
  exact ⟨by omega, by omega⟩

theorem faultHiWord_field (addr : Nat) : fld (faultHiWord addr) 15 0 = addr / 2 ^ 32 % 2 ^ 16 := by
  have hn : (faultHiWord addr).toNat = addr / 2 ^ 32 % 2 ^ 16 := (BitVec.toNat_ofNat ..).trans (Nat.mod_eq_of_lt (by omega))
  rw [fld, hn, bitsN]; omega

theorem evcSet_gath (s : State) (g src : Nat) : (s.evcSet g src).gath = s.gath :=
  (congrArg State.gath (s.evcSet_rest g src) :)

/-- A fault without a task: the record, the source and the vacated context, then the scheduler. -/
theorem fault_of_no_task {s : State} {g e : Nat} {u : Bool} (h : s.taskOf g e u = none) (cause pc issue addr : Nat) :
    s.fault g e u cause pc issue addr = ((((s.faultRecorded g e u cause pc issue addr).evcSet g (384 + e)).vacated g e u).dispatch g) := by
  have hg : ((s.faultRecorded g e u cause pc issue addr).evcSet g (384 + e)).gath = s.gath :=
    (evcSet_gath ..).trans (s.recordFault_gath g e _ _ _ _)
  have htask : ((s.faultRecorded g e u cause pc issue addr).evcSet g (384 + e)).taskOf g e u = none := by
    rw [taskOf, gathAt, hg, ← gathAt, ← taskOf, h]
  exact endCtx_none htask 3 cause

/-! #### A scheduler with nothing to do -/

/-- With no ready task the scheduler dispatches nothing. -/
theorem dispatchLoops_of_none_ready {s : State} {g : Nat} (h : (s.gathAt g).ready = []) : s.dispatchLoops g = s := by
  have hhead : (s.gathAt g).headTask = none := by simp [Gath.headTask, h]
  have hfree : State.dispatchFree g 16 s = s := by rw [dispatchFree, hhead]
  have hurg : (List.range 8).reverse.flatMap (fun p => (s.gathAt g).ready.filter fun t => t.urgent && t.prio == p) = [] :=
    List.flatMap_eq_nil_iff.mpr fun p _ => by rw [h]; rfl
  rw [dispatchLoops, hfree, hurg, preempt]

/-- With no pending source in task mode none is presented again. -/
theorem retryTasks_of_none {s : State} {g : Nat} (h : ∀ src, src ∈ s.pendingSrcs g → s.routeMode g src ≠ 1) : s.retryTasks g = s :=
  foldl_fixed_of_mem _ s _ fun src hsrc => if_neg (by simp [readyable, h src hsrc])

theorem dispatch_idle {s : State} {g : Nat} (hready : (s.gathAt g).ready = []) (h : ∀ src, src ∈ s.pendingSrcs g → s.routeMode g src ≠ 1) :
    s.dispatch g = s := by
  rw [dispatch, dispatchLoops_of_none_ready hready, retryTasks_of_none h, ite_self]

/-- The sources of a pending word. -/
theorem mem_pendingSrcs {s : State} {g src : Nat} (h : src ∈ s.pendingSrcs g) :
    ∃ w b, w < 16 ∧ b < 32 ∧ src = 32 * w + b ∧ s.flag (Reg.evcPend g w) b = true := by
  simp only [pendingSrcs, List.mem_flatMap, List.mem_range] at h
  obtain ⟨w, hw, h⟩ := h
  split at h
  · cases h
  · simp only [List.mem_filterMap, List.mem_range] at h
    obtain ⟨b, hb, h⟩ := h
    split at h
    · next hf => exact ⟨w, b, hw, hb, (Option.some.inj h).symm, hf⟩
    · cases h

theorem vacated_rd (s : State) (g e : Nat) (u : Bool) (off : Nat) : (s.vacated g e u).rd off = s.rd off := rfl

theorem vacated_pendingSrcs (s : State) (g e : Nat) (u : Bool) : (s.vacated g e u).pendingSrcs g = s.pendingSrcs g := rfl

theorem vacated_occ (s : State) (g e : Nat) (u : Bool) : (((s.vacated g e u).engAt g e).ctx u).occ = false := by
  rw [vacated, freeCtx, engAt_setEng]
  cases u <;> rfl

/-- The state in which a fault without a task meets the scheduler. -/
def faultRaised (s : State) (g e : Nat) (u : Bool) (cause pc issue addr : Nat) : State :=
  (s.faultRecorded g e u cause pc issue addr).setB (Reg.evcPend g 12) e true

/-- An engine's fault source is one a unit may set. -/
theorem evcSet_fault (s : State) (g : Nat) (e : Fin 16) : s.evcSet g (384 + e) = s.setB (Reg.evcPend g 12) e true := by
  have hset : evcSettable g (384 + e) = true := by simp [evcSettable]; omega
  rw [evcSet, if_pos hset, show (384 + e.val) / 32 = 12 by omega, show (384 + e.val) % 32 = e.val by omega]

/-- Raising a fault touches no other register of the gathering's event controller. -/
theorem rd_faultRaised (s : State) (g e : Nat) (u : Bool) (cause pc issue addr off : Nat)
    (h : off < Reg.qeFault g e ∨ Reg.qeFaultAddrHi g e < off) (hpend : off ≠ Reg.evcPend g 12) :
    (s.faultRaised g e u cause pc issue addr).rd off = s.rd off := by
  rw [faultRaised, rd_setB_ne _ _ _ _ _ hpend]
  exact s.rd_recordFault g e _ _ _ _ off h

/-- The fault's own record is what the recording left. -/
theorem rd_faultRaised_record (s : State) (g e : Nat) (u : Bool) (cause pc issue addr off : Nat) (h : Reg.qeFault g e ≤ off) :
    (s.faultRaised g e u cause pc issue addr).rd off = (s.faultRecorded g e u cause pc issue addr).rd off :=
  rd_setB_ne _ _ _ _ _ (by unfold Reg.qeFault at h; unfold Reg.evcPend; omega)

/-- With no other source pending, a fault's own is the only one. -/
theorem pendingSrcs_faultRaised {s : State} {g : Nat} (e : Fin 16) {u : Bool} {cause pc issue addr : Nat}
    (hpend : ∀ w : Fin 16, s.rd (Reg.evcPend g w) = 0) {src : Nat} (h : src ∈ (s.faultRaised g e u cause pc issue addr).pendingSrcs g) :
    src = 384 + e := by
  have hrec (w : Nat) (hw : w < 16) (b : Nat) : (s.faultRecorded g e u cause pc issue addr).flag (Reg.evcPend g w) b = false := by
    rw [flag, faultRecorded, rd_recordFault _ _ _ _ _ _ _ _ (by unfold Reg.evcPend Reg.qeFault; omega), hpend ⟨w, hw⟩]
    exact BitVec.getLsbD_zero
  obtain ⟨w, b, hw, hb, rfl, hf⟩ := mem_pendingSrcs h
  by_cases hw12 : w = 12
  · subst hw12
    by_cases hbe : b = e
    · rw [hbe]
    · rw [faultRaised, flag_setB_apart _ _ _ _ _ (by omega) hbe, hrec 12 hw] at hf
      cases hf
  · rw [faultRaised, flag_of_rd (rd_setB_ne _ _ _ _ _ (by unfold Reg.evcPend; omega)), hrec w hw] at hf
    cases hf

/-- A fault without a task, in a gathering with nothing else to do, ends with the vacated context. -/
theorem fault_idle {s : State} {g : Nat} (e : Fin 16) {u : Bool} {cause pc issue addr : Nat} (hready : (s.gathAt g).ready = [])
    (hpend : ∀ w : Fin 16, s.rd (Reg.evcPend g w) = 0) (hroute : s.routeMode g (384 + e) ≠ 1) (htask : s.taskOf g e u = none) :
    s.fault g e u cause pc issue addr = (s.faultRaised g e u cause pc issue addr).vacated g e u := by
  have hgath : (s.faultRaised g e u cause pc issue addr).gath = s.gath := s.recordFault_gath g e _ _ _ _
  rw [fault_of_no_task htask, evcSet_fault]
  refine dispatch_idle (s := (s.faultRaised g e u cause pc issue addr).vacated g e u) ?_ fun src hsrc => ?_
  · rw [vacated_ready, gathAt, hgath, ← gathAt, hready]
  · rw [vacated_pendingSrcs] at hsrc
    obtain rfl := pendingSrcs_faultRaised e hpend hsrc
    have hrd := s.rd_faultRaised g e u cause pc issue addr (Reg.evcRoute g (384 + e)) (by unfold Reg.evcRoute Reg.qeFault; omega)
      (by unfold Reg.evcRoute Reg.evcPend; omega)
    rw [routeMode, getF_of_rd (vacated_rd ..), getF_of_rd hrd]
    exact hroute

end State

/-- A fault is recorded once, its source raised and its context freed (R48-R51, R92). -/
theorem fault_recorded (s : State) (g : Fin 64) (e : Fin 16) (u : Bool) (cause pc issue addr : Nat) (hcause : cause < 256)
    (hpc : pc < 2 ^ 13) (hissue : issue < 2 ^ 13) (hready : (s.gathAt g).ready = []) (hpend : ∀ w : Fin 16, s.rd (Reg.evcPend g w) = 0)
    (hroute : s.routeMode g (384 + e) ≠ 1) (htask : s.taskOf g e u = none) (t : State) (ht : t = s.fault g e u cause pc issue addr) :
    ((t.engAt g e).ctx u).occ = false ∧
      t.evcPending g (384 + e) = true ∧
      (s.flag (Reg.qeFault g e) 31 = false →
        t.flag (Reg.qeFault g e) 31 = true ∧ t.getF (Reg.qeFault g e) 7 0 = cause ∧
        t.getF (Reg.qeFault g e) 23 8 = ((s.engAt g e).ctx u).tsk.toNat ∧ t.flag (Reg.qeFault g e) 29 = u ∧
        t.getF (Reg.qeFaultPc g e) 12 0 = pc ∧ t.getF (Reg.qeFaultPc g e) 28 16 = issue ∧
        t.rd (Reg.qeFaultAddrLo g e) = BitVec.ofNat 32 addr ∧ t.getF (Reg.qeFaultAddrHi g e) 15 0 = addr / 2 ^ 32 % 2 ^ 16) ∧
      (s.flag (Reg.qeFault g e) 31 = true →
        t.flag (Reg.qeFault g e) 30 = true ∧ t.getF (Reg.qeFault g e) 29 0 = s.getF (Reg.qeFault g e) 29 0 ∧
        t.rd (Reg.qeFaultPc g e) = s.rd (Reg.qeFaultPc g e) ∧ t.rd (Reg.qeFaultAddrLo g e) = s.rd (Reg.qeFaultAddrLo g e)) := by
  rw [State.fault_idle e hready hpend hroute htask] at ht
  subst ht
  have hrd (off : Nat) (h : Reg.qeFault g e ≤ off) : ((s.faultRaised g e u cause pc issue addr).vacated g e u).rd off =
      (s.faultRecorded g e u cause pc issue addr).rd off := s.rd_faultRaised_record g e u cause pc issue addr off h
  have hpcR : Reg.qeFault g e ≤ Reg.qeFaultPc g e := by unfold Reg.qeFault Reg.qeFaultPc; omega
  have hloR : Reg.qeFault g e ≤ Reg.qeFaultAddrLo g e := by unfold Reg.qeFault Reg.qeFaultAddrLo; omega
  have hhiR : Reg.qeFault g e ≤ Reg.qeFaultAddrHi g e := by unfold Reg.qeFault Reg.qeFaultAddrHi; omega
  refine ⟨State.vacated_occ .., ?_, fun hvalid => ?_, fun hvalid => ?_⟩
  · rw [State.evcPending, show (384 + e.val) / 32 = 12 by omega, show (384 + e.val) % 32 = e.val by omega,
      State.flag_of_rd (State.vacated_rd ..)]
    exact State.flag_setB_same _ _ _ _ (by omega)
  · obtain ⟨hw, hwpc, hlo, hhi⟩ := s.recordFault_fresh g e (State.faultWord u ((s.engAt g e).ctx u).tsk.toNat cause)
      (State.faultPcWord pc issue) (BitVec.ofNat 32 addr) (State.faultHiWord addr) hvalid
    obtain ⟨h31, hc, htsk, hu⟩ := State.faultWord_fields u ((s.engAt g e).ctx u).tsk.isLt hcause
    obtain ⟨hp, hi⟩ := State.faultPcWord_fields hpc hissue
    simp only [State.flag, State.getF, hrd _ le_rfl, hrd _ hpcR, hrd _ hloR, hrd _ hhiR, State.faultRecorded, hw, hwpc, hlo, hhi]
    exact ⟨h31, hc, htsk, hu, hp, hi, trivial, State.faultHiWord_field addr⟩
  · have hlost := s.recordFault_lost g e (State.faultWord u ((s.engAt g e).ctx u).tsk.toNat cause)
      (State.faultPcWord pc issue) (BitVec.ofNat 32 addr) (State.faultHiWord addr) hvalid
    rw [State.flag_of_rd (hrd _ le_rfl), State.getF_of_rd (hrd _ le_rfl), hrd _ hpcR, hrd _ hloR, State.faultRecorded, hlost]
    exact ⟨State.flag_setB_same _ _ _ _ (by decide), State.getF_setB_apart _ _ _ _ _ _ (by decide) (.inl (by decide)),
      State.rd_setB_ne _ _ _ _ _ (by unfold Reg.qeFault Reg.qeFaultPc; omega),
      State.rd_setB_ne _ _ _ _ _ (by unfold Reg.qeFault Reg.qeFaultAddrLo; omega)⟩

/-- Settles O22: words an engine does not execute, local accesses out of range or misaligned, and the record of a fault. -/
theorem engineSkipsAndFaults : Obligations.EngineSkipsAndFaults := ⟨skips_and_illegal, local_faults, fault_recorded⟩

end Sys2Proof.Machine

namespace Sys2Proof.Machine

/-! ### Register writes of a gathering

An unpark presents again every source of the stranded list (R121), and the statement takes every state. A list that names a source beyond the
512 there are reaches past the pending words into EVC_EN: source 1,024's pending bit is bit 0 of EVC_EN[0], and a TREADY that its route makes
for an unbound task clears it (R117). -/

/-- A parked gathering 0 whose stranded list holds source 1,024, routed in task mode to an unbound task, with source 0 enabled. -/
def strayStrand : State :=
  { State.reset with
    reg := [(Reg.evcEn 0 0, 1), (Reg.evcEn 0 32, 1), (Reg.evcRoute 0 1024, 0x40000000), (Reg.gathPwr 0, 2)]
    gath := [(0, { Gath.reset with strand := [⟨1024, 0, false⟩] })] }

theorem strayStrand_gate : strayStrand.regGate (.engine ⟨0, 0⟩) (Reg.gathPwr 0) true 0 = .ok := by decide +kernel

theorem strayStrand_parked : strayStrand.parked 0 = true := by decide +kernel

theorem strayStrand_enabled : strayStrand.rd (Reg.evcEn (0 : Fin 64) (0 : Fin 16)) = 1 := by decide +kernel

/-- The unpark presents source 1,024 and so clears the enable of source 0. -/
theorem strayStrand_unparked : (strayStrand.gathPwrWrite (0 : Fin 64) 0).rd (Reg.evcEn (0 : Fin 64) (0 : Fin 16)) = 0 := by decide +kernel

/-- The answer to a bus access is no register. -/
theorem State.rd_answered (s : State) (r : Resp) (off : Nat) : ({ s with resp := r } : State).rd off = s.rd off := rfl

/-- A write of GATH_PWR that passes the gate is the write, answered OK. -/
theorem exec_gathPwrWrite {s : State} {ini : Ini} {g : Fin 64} {v : Word} (h : s.regGate ini (Reg.gathPwr g) true v = .ok) :
    exec (.gathPwrWrite ini g v) s = .next { s.gathPwrWrite g v with resp := .ok 0 } :=
  congrArg _ (s.gatedWrite_of_ok ini _ v _ h)

/-- Refutes O23: an unpark does not keep EVC_EN in every state. With source 1,024 in the stranded list of a parked gathering 0, whose EVC_EN[0]
reads 1, the unpark leaves EVC_EN[0] at 0. -/
theorem not_gatheringRegisterWrites : ¬ Obligations.GatheringRegisterWrites := by
  intro h
  obtain ⟨-, -, -, hpwr, -⟩ := h (.engine ⟨0, 0⟩) 0 strayStrand 0
  obtain ⟨t, ht, -, -, -, -, hen⟩ := (hpwr strayStrand_gate).2 BitVec.getLsbD_zero strayStrand_parked
  rw [exec_gathPwrWrite strayStrand_gate] at ht
  obtain rfl := Host.Outcome.next.inj ht
  have hkept := hen 0
  rw [State.rd_answered, strayStrand_unparked, strayStrand_enabled] at hkept
  exact absurd hkept (by decide)

end Sys2Proof.Machine

namespace Sys2Proof.Machine

/-! ### The record of a gathering: read back, and what a write of it leaves alone -/

namespace State

@[simp] theorem gathAt_setGath (s : State) (g : Nat) (x : Gath) : (s.setGath g x).gathAt g = x := by
  simp [gathAt, setGath]

theorem gathAt_setGath_ne (s : State) {g h : Nat} (x : Gath) (hne : h ≠ g) : (s.setGath g x).gathAt h = s.gathAt h := by
  simp [gathAt, setGath, SMap.get_set_ne _ _ _ _ _ hne]

/-- A source that leaves the stranded count leaves its gathering's record otherwise as it was. -/
theorem gathAt_unstrand (s : State) (g src : Nat) :
    (s.unstrand g src).gathAt g = { s.gathAt g with strand := (s.gathAt g).strand.filter (fun p => p.src != src) } :=
  gathAt_setGath ..

/-- Dating a moderation group's presentation is a change of its gathering's record alone. -/
theorem gathAt_setModAt (s : State) (g k : Nat) (t : Option Nat) :
    (s.setModAt g k t).gathAt g = { s.gathAt g with modAt := SMap.set (fun _ => none) (s.gathAt g).modAt k t } :=
  gathAt_setGath ..

/-! ### The end of a task (R106) -/

/-- The completion event that a descriptor's word names (R99). -/
theorem taskEvent_word (s : State) (cpl : Word) :
    s.taskEvent cpl.toNat = if cpl.getLsbD 31 then s.evcSet (cpl.toNat / 2 ^ 24 % 64) (cpl.toNat / 2 ^ 15 % 512) else s := by
  have hbit : bitsN cpl.toNat 31 31 = 1 ↔ cpl.getLsbD 31 = true := by
    rw [BitVec.getLsbD, Nat.testBit_eq_decide_div_mod_eq, decide_eq_true_iff]; rfl
  simp only [taskEvent, hbit]
  rfl

end State

/-- Settles O25: the descriptor is read and written back, then the event its bytes 20-23 name is set. -/
theorem taskEndWritesDescriptor : Obligations.TaskEndWritesDescriptor := by
  unfold Obligations.TaskEndWritesDescriptor
  intro g id result status cpl s s1 s2 old _ hstatus hread hwrite
  rw [State.completeTask, tsuTx, hread]
  dsimp only
  rw [if_pos rfl, Nat.mod_eq_of_lt hstatus, hwrite]
  exact s2.taskEvent_word cpl

end Sys2Proof.Machine

namespace Sys2Proof.Machine

/-! ### Presentation of a source: what it does in each case (R116-R118, R121) -/

namespace State

/-! #### Pending bits -/

/-- Clearing pending bits writes the one word. -/
theorem rd_evcClear_same (s : State) (g w : Nat) (bits : Word) :
    (s.evcClear g w bits).rd (Reg.evcPend g w) = s.rd (Reg.evcPend g w) &&& ~~~bits :=
  rd_wr_same ..

theorem rd_evcClear_ne (s : State) (g w : Nat) (bits : Word) {off : Nat} (h : off ≠ Reg.evcPend g w) : (s.evcClear g w bits).rd off = s.rd off :=
  rd_wr_ne _ _ _ _ h

/-- A source that is cleared is no longer pending. -/
theorem evcPending_evcClear1 (s : State) (g src : Nat) : (s.evcClear1 g src).evcPending g src = false := by
  have hmod : src % 32 < 32 := Nat.mod_lt _ (by decide)
  rw [evcPending, flag, evcClear1, rd_evcClear_same]
  simp only [bit, BitVec.getLsbD_and, BitVec.getLsbD_not, BitVec.getLsbD_ofNat, Nat.testBit_two_pow_self, hmod, decide_true, Bool.and_true,
    Bool.not_true, Bool.and_false]

/-- Restarting a hold-off changes no register. -/
theorem rd_restartHoldoff (s : State) (g src off : Nat) : (s.restartHoldoff g src).rd off = s.rd off := by
  unfold restartHoldoff
  cases s.modGroup g src <;> rfl

/-! #### A source presented to an engine -/

/-- The record of a gathering whose source has been presented to engine e. -/
def shownTo (s : State) (g src e : Nat) : Gath :=
  { s.gathAt g with
    strand := (s.gathAt g).strand.filter (fun p => p.src != src), shown := (s.gathAt g).shown ++ [⟨src, e, false⟩], evPtr := (e + 1) % 16 }

/-- The state in which the source has been presented to engine e, which wakes if it was in EWAIT. -/
def presentedTo (s : State) (g src e : Nat) : State :=
  let t := (s.unstrand g src).setGath g (s.shownTo g src e)
  if s.inEwait g e then t.setEng g e (s.engAt g e).wakeUp else t

theorem gathAt_presentedTo (s : State) (g src e : Nat) : (s.presentedTo g src e).gathAt g = s.shownTo g src e := by
  unfold presentedTo
  split <;> exact gathAt_setGath ..

theorem presentedTo_rest (s : State) (g src e : Nat) : { s.presentedTo g src e with gath := s.gath, eng := s.eng } = s := by
  unfold presentedTo
  split <;> rfl

theorem engAt_presentedTo (s : State) (g src e : Nat) :
    (s.presentedTo g src e).engAt g e = if s.inEwait g e then (s.engAt g e).wakeUp else s.engAt g e := by
  unfold presentedTo
  split
  · exact engAt_setEng ..
  · rfl

theorem modGroup_presentedTo (s : State) (g src e : Nat) : (s.presentedTo g src e).modGroup g src = s.modGroup g src := by
  unfold presentedTo
  split <;> rfl

theorem presentedTo_eng_ne (s : State) (g src e : Nat) {k : Nat} (h : k ≠ 16 * g + e) :
    SMap.get (fun _ => Eng.reset) (s.presentedTo g src e).eng k = SMap.get (fun _ => Eng.reset) s.eng k := by
  unfold presentedTo
  split
  · exact SMap.get_set_ne _ _ _ _ _ h
  · rfl

/-! #### The cases of a presentation -/

section Cases
variable {s : State} {g src : Nat}

/-- A source is among the presented ones. -/
theorem shown_any : (s.gathAt g).shown.any (fun p => p.src == src) = true ↔ ∃ p, p ∈ (s.gathAt g).shown ∧ p.src = src := by
  simp only [List.any_eq_true, beq_iff_eq]

theorem shown_any_false (h : ∀ p, p ∈ (s.gathAt g).shown → p.src ≠ src) : (s.gathAt g).shown.any (fun p => p.src == src) = false :=
  Bool.eq_false_iff.mpr fun hany => by
    obtain ⟨p, hp, hsrc⟩ := shown_any.mp hany
    exact h p hp hsrc

theorem present_idle (h : s.evcPending g src = false ∨ s.evcEnabled g src = false) : s.present g src = s.unstrand g src := by
  rw [present, if_pos (by simpa [Bool.and_eq_false_iff] using h)]

variable (hpend : s.evcPending g src = true) (hen : s.evcEnabled g src = true)

theorem present_held (hdel : s.undeliverable g src = false)
    (hheld : s.moderated g src = true ∨ ∃ p, p ∈ (s.gathAt g).shown ∧ p.src = src) : s.present g src = s.unstrand g src := by
  have hcond : (s.moderated g src || (s.gathAt g).shown.any (fun p => p.src == src)) = true := by rwa [Bool.or_eq_true, shown_any]
  rw [present, hdel, if_neg Bool.false_ne_true, if_pos hcond, ite_self]

include hpend hen

theorem present_undeliverable (hund : s.undeliverable g src = true) : s.present g src = s.strandSrc g src := by
  rw [present, if_neg (by simp [hpend, hen]), if_pos hund]

variable (hdel : s.undeliverable g src = false) (hmod : s.moderated g src = false)
  (hnew : ∀ p, p ∈ (s.gathAt g).shown → p.src ≠ src)
include hdel hmod hnew

/-- A source in interrupt mode goes to the engine chosen. -/
theorem present_interrupt (hmode : s.routeMode g src = 0) {e : Nat} (he : s.presentee g src = some e) :
    s.present g src = (s.presentedTo g src e).restartHoldoff g src := by
  have he' : (s.unstrand g src).presentee g src = some e := by rw [← he, presentee, gathAt_unstrand]; rfl
  rw [present, if_neg (by simp [hpend, hen]), if_neg (by simp [hdel]), if_neg (by simp [hmod, shown_any_false hnew]), if_pos hmode]
  dsimp only
  rw [he', presentedTo, gathAt_unstrand]
  rfl

/-- A source in task mode is a TREADY of its target. -/
theorem present_task (hmode : s.routeMode g src = 1) {s1 : State} {code : Nat}
    (hready : (s.unstrand g src).tready g (s.routeTarget g src) = (s1, code)) :
    s.present g src = if code = 0 ∨ code = 2 ∨ !s.bound g (s.routeTarget g src) then (s1.restartHoldoff g src).evcClear1 g src
      else s1.restartHoldoff g src := by
  rw [present, if_neg (by simp [hpend, hen]), if_neg (by simp [hdel]), if_neg (by simp [hmod, shown_any_false hnew]),
    if_neg (by simp [hmode])]
  dsimp only
  rw [hready]

end Cases

/-- TREADY answers BUSY of a bound task only, and then changes nothing. -/
theorem tready_busy {s s1 : State} {g id : Nat} (h : s.tready g id = (s1, 3)) : s1 = s ∧ s.bound g id = true := by
  cases hp : s.parked g with
  | true => simp [tready_parked hp] at h
  | false =>
    cases hb : s.bound g id with
    | false => simp [tready_unbound hp hb] at h
    | true =>
      by_cases hm : ∃ m, m ∈ (s.gathAt g).cancelMem ∧ m.id = id ∧ s.now < m.at_ + 1000
      · simp [tready_remembered hp hb hm] at h
      · rw [tready_fresh hp hb fun m hmem hid => Nat.not_lt.mp fun hlt => hm ⟨m, hmem, hid, hlt⟩] at h
        split at h
        case isTrue => exact ⟨(congrArg Prod.fst h).symm, rfl⟩
        case isFalse => split at h <;> cases congrArg Prod.snd h

/-! #### A source that strands -/

/-- A source that strands enters the list and leaves the presented ones, and is counted. -/
theorem strandSrc_new {s : State} {g src : Nat} (hnew : ∀ p, p ∈ (s.gathAt g).strand → p.src ≠ src)
    (hto : s.getF (Reg.evcStrandTo g) 15 0 ≠ 0) :
    s.strandSrc g src = (s.setGath g { s.gathAt g with
      strand := (s.gathAt g).strand ++ [⟨src, s.now, false⟩]
      shown := (s.gathAt g).shown.filter (fun p => p.src != src) }).addSat (Reg.evcStranded g) 15 0 1 := by
  have hany : ¬ (s.gathAt g).strand.any (fun p => p.src == src) = true := by simpa [List.any_eq_true] using hnew
  rw [strandSrc, if_neg hany, decide_eq_false hto]
  exact if_neg Bool.false_ne_true

/-- A counter that saturates at its field's largest value reads so. -/
theorem getF_addSat (s : State) (off hi lo n : Nat) (hi32 : hi < 32) :
    (s.addSat off hi lo n).getF off hi lo = min (s.getF off hi lo + n) (2 ^ (hi + 1 - lo) - 1) :=
  getF_setF_same _ _ _ _ _ hi32 (by have := Nat.two_pow_pos (hi + 1 - lo); simp only [Nat.min_def]; split <;> omega)

/-! #### The engine chosen, and sources of no moderation group -/

/-- The engine a source is presented to is one of the sixteen and of its target set. -/
theorem presentee_mem {s : State} {g src e : Nat} (h : s.presentee g src = some e) : e < 16 ∧ Nat.testBit (s.routeTarget g src) e = true := by
  have hmem : e ∈ (rotFrom (s.gathAt g).evPtr).filter (fun e => Nat.testBit (s.routeTarget g src) e) := by
    rcases Option.or_eq_some_iff.mp h with h | ⟨_, h⟩ <;> exact List.mem_of_find?_eq_some h
  obtain ⟨hrot, htarget⟩ := List.mem_filter.mp hmem
  obtain ⟨i, _, rfl⟩ := List.mem_map.mp hrot
  exact ⟨Nat.mod_lt _ (by decide), htarget⟩

/-- A source of no moderation group is never moderated, and restarts no hold-off. -/
theorem moderated_ungrouped {s : State} {g src : Nat} (h : s.modGroup g src = none) : s.moderated g src = false := by
  rw [moderated, h]

theorem restartHoldoff_ungrouped {s : State} {g src : Nat} (h : s.modGroup g src = none) : s.restartHoldoff g src = s := by
  rw [restartHoldoff, h]

theorem modGroup_none {s : State} {g src : Nat} (h : s.flag (Reg.evcRoute g src) 28 = false) : s.modGroup g src = none := by
  rw [modGroup, h, if_neg Bool.false_ne_true]

end State

section Presented
variable {g : Fin 64} {src : Fin 512} {s : State}

theorem exec_eventPresent {t : State} (h : s.present g src = t) : exec (.eventPresent g src) s = .next t := congrArg Host.Outcome.next h

/-- A presentation that only takes the source from the stranded count. -/
theorem unstrand_presents (h : s.present g src = s.unstrand g src) :
    ∃ t, exec (.eventPresent g src) s = .next t ∧ { t with gath := s.gath } = s ∧ (∀ h, h ≠ g.val → t.gathAt h = s.gathAt h) ∧
      t.gathAt g = { s.gathAt g with strand := (s.gathAt g).strand.filter (fun p => p.src != src.val) } :=
  ⟨_, exec_eventPresent h, rfl, fun _ hne => s.gathAt_setGath_ne _ hne, s.gathAt_unstrand g src⟩

variable (hpend : s.evcPending g src = true) (hen : s.evcEnabled g src = true)
include hpend hen

theorem undeliverable_strands (hund : s.undeliverable g src = true) (hnew : ∀ p, p ∈ (s.gathAt g).strand → p.src ≠ src.val)
    (hto : s.getF (Reg.evcStrandTo g) 15 0 ≠ 0) :
    ∃ t, exec (.eventPresent g src) s = .next t ∧
      t.gathAt g = { s.gathAt g with
        strand := (s.gathAt g).strand ++ [⟨src.val, s.now, false⟩], shown := (s.gathAt g).shown.filter (fun p => p.src != src.val) } ∧
      t.evcPending g src = true ∧
      t.getF (Reg.evcStranded g) 15 0 = min (s.getF (Reg.evcStranded g) 15 0 + 1) 65535 := by
  refine ⟨_, exec_eventPresent ((State.present_undeliverable hpend hen hund).trans (State.strandSrc_new hnew hto)),
    State.gathAt_setGath .., ?_, State.getF_addSat _ _ 15 0 1 (by decide)⟩
  have hne : Reg.evcPend g (src.val / 32) ≠ Reg.evcStranded g := by unfold Reg.evcPend Reg.evcStranded; omega
  exact (State.flag_of_rd (State.rd_setF_ne _ _ _ _ _ _ hne) _).trans hpend

variable (hdel : s.undeliverable g src = false) (hnew : ∀ p, p ∈ (s.gathAt g).shown → p.src ≠ src.val)
include hdel hnew

theorem interrupt_presents (hmode : s.routeMode g src = 0) (hgroup : s.flag (Reg.evcRoute g src) 28 = false) {e : Nat}
    (he : s.presentee g src = some e) :
    ∃ t, exec (.eventPresent g src) s = .next t ∧ { t with gath := s.gath, eng := s.eng } = s ∧ e < 16 ∧
      Nat.testBit (s.routeTarget g src) e = true ∧
      (∀ k, k ≠ 16 * g.val + e → SMap.get (fun _ => Eng.reset) t.eng k = SMap.get (fun _ => Eng.reset) s.eng k) ∧
      t.engAt g e = (if s.inEwait g e then (s.engAt g e).wakeUp else s.engAt g e) ∧
      t.gathAt g = { s.gathAt g with
        strand := (s.gathAt g).strand.filter (fun p => p.src != src.val), shown := (s.gathAt g).shown ++ [⟨src.val, e, false⟩],
        evPtr := (e + 1) % 16 } := by
  have hnone := State.modGroup_none hgroup
  obtain ⟨he16, htarget⟩ := State.presentee_mem he
  have hpres : s.present g src = s.presentedTo g src e :=
    (State.present_interrupt hpend hen hdel (State.moderated_ungrouped hnone) hnew hmode he).trans
      (State.restartHoldoff_ungrouped ((State.modGroup_presentedTo ..).trans hnone))
  exact ⟨_, exec_eventPresent hpres, s.presentedTo_rest g src e, he16, htarget, fun _ hk => s.presentedTo_eng_ne g src e hk,
    s.engAt_presentedTo g src e, s.gathAt_presentedTo g src e⟩

theorem task_presents (hmode : s.routeMode g src = 1) (hmod : s.moderated g src = false) {s1 : State} {code : Nat}
    (hready : (s.unstrand g src).tready g (s.routeTarget g src) = (s1, code)) :
    ∃ t, exec (.eventPresent g src) s = .next t ∧ (code = 0 ∨ code = 2 → t.evcPending g src = false) ∧
      (code = 3 → t.evcPending g src = true) := by
  refine ⟨_, exec_eventPresent (State.present_task hpend hen hdel hmod hnew hmode hready), fun hcode => ?_, ?_⟩
  · rw [if_pos (by tauto)]
    exact State.evcPending_evcClear1 ..
  · rintro rfl
    obtain ⟨rfl, hbound⟩ := State.tready_busy hready
    have hbound : s.bound g (s.routeTarget g src) = true := hbound
    rw [if_neg (by simp [hbound])]
    exact (State.flag_of_rd (State.rd_restartHoldoff ..) _).trans hpend

end Presented

/-- Settles O26: one lemma for each way a presentation goes. That the pointer moves past the engine presented to, and what leaves the stranded
count, is log entry 159, the model's choice. -/
theorem sourceIsPresented : Obligations.SourceIsPresented := by
  unfold Obligations.SourceIsPresented
  rintro g src s _ rfl
  refine ⟨fun h => ?_, fun hpend hen => ⟨undeliverable_strands hpend hen,
    fun hdel hmode hgroup hnew e he => interrupt_presents hpend hen hdel hnew hmode hgroup he,
    fun hdel hmode hmod hnew s1 code hready => task_presents hpend hen hdel hnew hmode hmod hready⟩⟩
  rcases h with hoff | hoff | ⟨hdel, hheld⟩
  · exact unstrand_presents (State.present_idle (.inl hoff))
  · exact unstrand_presents (State.present_idle (.inr hoff))
  · exact unstrand_presents (State.present_held hdel hheld)

end Sys2Proof.Machine

namespace Sys2Proof.Machine

/-! ### Moderation hold-offs that end (R118) -/

namespace State

section Holdoff
variable {s : State} {g k : Nat}

theorem holding_undated (h : SMap.get (fun _ => none) (s.gathAt g).modAt k = none) : s.holding g k = false := by
  rw [holding, h]

theorem holding_dated {m : Nat} (h : SMap.get (fun _ => none) (s.gathAt g).modAt k = some m) :
    s.holding g k = decide (s.now < m + 100 * s.getF (Reg.evcMod g k) 15 0) := by
  rw [holding, h]

/-- A hold-off that was never started or has ended holds nothing. -/
theorem holding_ended (h : SMap.get (fun _ => none) (s.gathAt g).modAt k = none ∨
    ∃ m, SMap.get (fun _ => none) (s.gathAt g).modAt k = some m ∧ m + 100 * s.getF (Reg.evcMod g k) 15 0 ≤ s.now) :
    s.holding g k = false := by
  rcases h with h | ⟨m, h, hle⟩
  · exact holding_undated h
  · rw [holding_dated h, decide_eq_false (Nat.not_lt.mpr hle)]

theorem modAt_setModAt (s : State) (g k : Nat) (t : Option Nat) : SMap.get (fun _ => none) ((s.setModAt g k t).gathAt g).modAt k = t := by
  rw [gathAt_setModAt]; exact SMap.get_set_same ..

/-- One source of a group whose hold-off has ended: presented, and noted when the presentation dates the group. -/
def holdoffStep (g k : Nat) (p : State × Bool) (src : Nat) : State × Bool :=
  let t := (p.1.setModAt g k none).present g src
  (t, p.2 || (SMap.get (fun _ => none) (t.gathAt g).modAt k).isSome)

theorem holdoffExpiry_held (h : s.holding g k = true) : s.holdoffExpiry g k = s := by rw [holdoffExpiry, if_pos h]

/-- An ended hold-off presents the group's sources in turn, and restarts when any was presented. -/
theorem holdoffExpiry_ended (h : s.holding g k = false) {r : State × Bool} (hr : (s.groupSources g k).foldl (holdoffStep g k) (s, false) = r) :
    s.holdoffExpiry g k = if r.2 then r.1.setModAt g k (some s.now) else r.1 := by
  rw [holdoffExpiry, if_neg (by simp [h]), ← hr]
  rfl

/-- A source that is not pending and enabled is not presented, and the group stays undated. -/
theorem holdoffStep_idle {b : Bool} {src : Nat} (h : s.evcPending g src = false ∨ s.evcEnabled g src = false) :
    holdoffStep g k (s, b) src = ((s.setModAt g k none).unstrand g src, b) := by
  have hpres : (s.setModAt g k none).present g src = (s.setModAt g k none).unstrand g src := present_idle h
  have hundated : SMap.get (fun _ => none) (((s.setModAt g k none).unstrand g src).gathAt g).modAt k = none := by
    rw [gathAt_unstrand]; exact s.modAt_setModAt g k none
  simp [holdoffStep, hpres, hundated]

/-- t differs from s at most in the gatherings' records, and its group k holds nothing back. -/
def Unheld (s : State) (g k : Nat) (t : State) : Prop := (∃ m, t = { s with gath := m }) ∧ t.holding g k = false

/-- Sources that are all idle leave the group holding nothing back. -/
theorem unheld_of_idle (l : List Nat) (t : State) (hidle : ∀ src, src ∈ l → s.evcPending g src = false ∨ s.evcEnabled g src = false)
    (ht : s.Unheld g k t) : ∃ u, l.foldl (holdoffStep g k) (t, false) = (u, false) ∧ s.Unheld g k u := by
  induction l generalizing t with
  | nil => exact ⟨t, rfl, ht⟩
  | cons src l ih =>
    obtain ⟨⟨m, rfl⟩, _⟩ := ht
    rw [List.foldl_cons, holdoffStep_idle (s := { s with gath := m }) (hidle src List.mem_cons_self)]
    refine ih _ (fun a ha => hidle a (List.mem_cons_of_mem _ ha)) ⟨⟨_, rfl⟩, holding_undated ?_⟩
    rw [gathAt_unstrand]
    exact modAt_setModAt ..

/-- With the group undated, none of its sources is moderated. -/
theorem moderated_undated {src : Nat} (h : s.modGroup g src = some k) (hundated : SMap.get (fun _ => none) (s.gathAt g).modAt k = none) :
    s.moderated g src = false := by
  rw [moderated, h]
  simp [holding_undated hundated]

/-- A presentation restarts the hold-off of its source's group. -/
theorem restartHoldoff_grouped {src : Nat} (h : s.modGroup g src = some k) : s.restartHoldoff g src = s.setModAt g k (some s.now) := by
  rw [restartHoldoff, h]

theorem modGroup_of_groupSources {src : Nat} (h : src ∈ s.groupSources g k) : s.modGroup g src = some k :=
  beq_iff_eq.mp (List.mem_filter.mp h).2

/-- A group's one source, presented to engine e, ends the expiry with the hold-off restarted. -/
theorem holdoffExpiry_presents {src e : Nat} (hend : s.holding g k = false) (hsrc : s.groupSources g k = [src])
    (hpend : s.evcPending g src = true) (hen : s.evcEnabled g src = true) (hdel : s.undeliverable g src = false)
    (hmode : s.routeMode g src = 0) (hnew : ∀ p, p ∈ (s.gathAt g).shown → p.src ≠ src) (he : s.presentee g src = some e) :
    s.holdoffExpiry g k =
      (((s.setModAt g k none).presentedTo g src e).setModAt g k (some s.now)).setModAt g k (some s.now) := by
  have hgroup : s.modGroup g src = some k := modGroup_of_groupSources (by rw [hsrc]; exact List.mem_singleton_self src)
  have hnow : ((s.setModAt g k none).presentedTo g src e).now = s.now := by unfold presentedTo; split <;> rfl
  have hrestart := restartHoldoff_grouped ((modGroup_presentedTo (s.setModAt g k none) g src e).trans hgroup)
  have hpres : (s.setModAt g k none).present g src = ((s.setModAt g k none).presentedTo g src e).setModAt g k (some s.now) := by
    rw [present_interrupt (s := s.setModAt g k none) hpend hen hdel (moderated_undated hgroup (s.modAt_setModAt g k none))
      (by rw [gathAt_setModAt]; exact hnew) hmode (by rw [presentee, gathAt_setModAt]; exact he),
      hrestart, hnow]
  have hstep : holdoffStep g k (s, false) src = (((s.setModAt g k none).presentedTo g src e).setModAt g k (some s.now), true) := by
    simp [holdoffStep, hpres, modAt_setModAt]
  rw [holdoffExpiry_ended hend (by rw [hsrc, List.foldl_cons, List.foldl_nil, hstep]), if_pos rfl]

end Holdoff

/-! ### Stranded sources that time out (R121) -/

section Strand
variable {s : State} {g src : Nat} {p : Strand}

theorem strandTimeout_waits (hfind : (s.gathAt g).strand.find? (fun p => p.src == src) = some p)
    (h : p.raised = true ∨ s.now < p.at_ + 1000 * s.getF (Reg.evcStrandTo g) 15 0) : s.strandTimeout g src = s := by
  rw [strandTimeout, hfind]
  exact if_pos (by simpa using h)

theorem strandTimeout_raises (hfind : (s.gathAt g).strand.find? (fun p => p.src == src) = some p) (hraised : p.raised = false)
    (h : p.at_ + 1000 * s.getF (Reg.evcStrandTo g) 15 0 ≤ s.now) :
    s.strandTimeout g src = (s.setGath g { s.gathAt g with
      strand := (s.gathAt g).strand.map (fun p => if p.src = src then { p with raised := true } else p) }).hostEvent 0x02
        (g * 2 ^ 16 + src) := by
  rw [strandTimeout, hfind]
  exact if_neg (by simpa [hraised] using h)

end Strand

/-! ### EVC_TAKE (R113) -/

/-- A number spelled bit by bit. -/
def bitSum (f : Nat → Bool) (n : Nat) : Nat := (List.range n).foldl (fun a b => a + b2n (f b) * 2 ^ b) 0

theorem bitSum_succ (f : Nat → Bool) (n : Nat) : bitSum f (n + 1) = 2 ^ n * b2n (f n) + bitSum f n := by
  simp only [bitSum, List.range_succ, List.foldl_append, List.foldl_cons, List.foldl_nil]
  rw [Nat.add_comm, Nat.mul_comm]

theorem bitSum_lt (f : Nat → Bool) (n : Nat) : bitSum f n < 2 ^ n := by
  induction n with
  | zero => exact Nat.one_pos
  | succ n ih =>
    have hb : b2n (f n) ≤ 1 := by cases f n <;> decide
    rw [bitSum_succ, Nat.pow_succ]
    have := Nat.mul_le_mul_left (2 ^ n) hb
    omega

theorem testBit_bitSum (f : Nat → Bool) (n i : Nat) (h : i < n) : (bitSum f n).testBit i = f i := by
  induction n with
  | zero => omega
  | succ n ih =>
    rw [bitSum_succ, Nat.testBit_two_pow_mul_add _ (bitSum_lt f n)]
    split
    case isTrue hlt => exact ih hlt
    case isFalse hge =>
      obtain rfl : i = n := by omega
      rw [Nat.sub_self]
      cases f i <;> decide

theorem getLsbD_takeBits (s : State) (g w e : Nat) {b : Nat} (hb : b < 32) :
    (s.takeBits g w e).getLsbD b = (s.evcPending g (32 * w + b) && s.evcEnabled g (32 * w + b) && s.routedTo g (32 * w + b) e) := by
  have hsum : s.takeBits g w e = BitVec.ofNat 32
      (bitSum (fun b => s.evcPending g (32 * w + b) && s.evcEnabled g (32 * w + b) && s.routedTo g (32 * w + b) e) 32) := rfl
  rw [hsum, BitVec.getLsbD_ofNat, testBit_bitSum _ _ _ hb, decide_eq_true hb, Bool.true_and]

theorem evcTake_engine (s : State) (q : EngId) (w : Nat) :
    s.evcTake (.engine q) q.g w = (s.evcClear q.g w (s.takeBits q.g w q.e), s.takeBits q.g w q.e) := if_pos rfl

/-- An initiator that is no engine of the gathering takes nothing. -/
theorem evcTake_other (s : State) (ini : Ini) (g : Fin 64) (w : Nat) (h : ∀ q, ini = .engine q → q.g ≠ g) : s.evcTake ini g w = (s, 0) := by
  cases ini with
  | engine q => exact if_neg fun hg => h q rfl (Fin.ext hg)
  | _ => rfl

end State

/-! ### Register accesses that the gate lets through -/

theorem State.gated_of_ok {s : State} {ini : Ini} {off : Nat} {wr : Bool} {v : Word} (act : State → State)
    (h : s.regGate ini off wr v = .ok) : s.gated ini off wr v act = act s := by
  rw [State.gated, h]

theorem exec_evcTakeRead {s : State} {ini : Ini} {g : Fin 64} {w : Fin 16} (h : s.regGate ini (Reg.evcTake g w) false 0 = .ok) :
    exec (.evcTakeRead ini g w) s = .next { (s.evcTake ini g w).1 with resp := .ok (s.evcTake ini g w).2 } :=
  congrArg Host.Outcome.next (State.gated_of_ok _ h)

theorem exec_evcRouteWrite {s : State} {ini : Ini} {g : Fin 64} {src : Fin 512} {v : Word} (h : s.regGate ini (Reg.evcRoute g src) true v = .ok) :
    exec (.evcRouteWrite ini g src v) s = .next { s.evcRouteWrite g src v with resp := .ok 0 } :=
  congrArg Host.Outcome.next (s.gatedWrite_of_ok ini _ v _ h)

/-! ### The statement about timers and takes -/

section Timers
variable {g : Fin 64} {s : State}

theorem exec_holdoffExpiry {k : Fin 16} {t : State} (h : s.holdoffExpiry g k = t) : exec (.moderationHoldoffExpiry g k) s = .next t :=
  congrArg Host.Outcome.next h

theorem exec_strandTimeout {src : Fin 512} {t : State} (h : s.strandTimeout g src = t) : exec (.strandTimeout g src) s = .next t :=
  congrArg Host.Outcome.next h

theorem holdoff_restarts {k : Fin 16} {src e : Nat} (hend : s.holding g k = false) (hsrc : s.groupSources g k = [src])
    (hpend : s.evcPending g src = true) (hen : s.evcEnabled g src = true) (hdel : s.undeliverable g src = false)
    (hmode : s.routeMode g src = 0) (hnew : ∀ p, p ∈ (s.gathAt g).shown → p.src ≠ src) (he : s.presentee g src = some e) :
    ∃ t, exec (.moderationHoldoffExpiry g k) s = .next t ∧ SMap.get (fun _ => none) (t.gathAt g).modAt k = some s.now ∧
      ⟨src, e, false⟩ ∈ (t.gathAt g).shown := by
  refine ⟨_, exec_holdoffExpiry (State.holdoffExpiry_presents hend hsrc hpend hen hdel hmode hnew he), State.modAt_setModAt .., ?_⟩
  rw [State.gathAt_setModAt, State.gathAt_setModAt, State.gathAt_presentedTo]
  exact List.mem_append_right _ (List.mem_singleton_self _)

theorem holdoff_releases {k : Fin 16} (hend : s.holding g k = false)
    (hidle : ∀ src, src ∈ s.groupSources g k → s.evcPending g src = false ∨ s.evcEnabled g src = false) :
    ∃ t, exec (.moderationHoldoffExpiry g k) s = .next t ∧ { t with gath := s.gath } = s ∧ t.holding g k = false := by
  obtain ⟨u, hfold, ⟨m, rfl⟩, hu⟩ := State.unheld_of_idle (s.groupSources g k) s hidle ⟨⟨s.gath, rfl⟩, hend⟩
  exact ⟨_, exec_holdoffExpiry (State.holdoffExpiry_ended hend hfold), rfl, hu⟩

/-- An engine of the gathering takes its sources of the word. -/
theorem take_reads_and_clears {w : Fin 16} {q : EngId} (hq : q.g = g) (hgate : s.regGate (.engine q) (Reg.evcTake g w) false 0 = .ok) :
    ∃ t v, exec (.evcTakeRead (.engine q) g w) s = .next t ∧ t.resp = .ok v ∧
      (∀ b, b < 32 → v.getLsbD b = (s.evcPending g (32 * w + b) && s.evcEnabled g (32 * w + b) && s.routedTo g (32 * w + b) q.e)) ∧
      t.rd (Reg.evcPend g w) = s.rd (Reg.evcPend g w) &&& ~~~v ∧
      (∀ off, off ≠ Reg.evcPend g w → t.rd off = s.rd off) ∧ t.eng = s.eng := by
  subst hq
  have hexec := exec_evcTakeRead hgate
  rw [s.evcTake_engine q w] at hexec
  exact ⟨_, s.takeBits q.g w q.e, hexec, rfl, fun b hb => s.getLsbD_takeBits q.g w q.e hb, s.rd_evcClear_same q.g w _,
    fun off hoff => s.rd_evcClear_ne q.g w _ hoff, rfl⟩

end Timers

/-- Settles O27: the hold-off's expiry, the stranded source's time-out, the take and the route. -/
theorem eventTimersAndTakes : Obligations.EventTimersAndTakes := by
  unfold Obligations.EventTimersAndTakes
  constructor
  case left =>
    rintro g s _ rfl
    refine ⟨fun k m hm hlt => ?_, fun k hend => ⟨fun src e hsrc hpend hen hdel hmode hnew he => ?_, fun hidle => ?_⟩, fun src p hfind =>
      ⟨fun hwait => ?_, fun hraised hdue => ?_⟩⟩
    · exact exec_holdoffExpiry (State.holdoffExpiry_held (by rw [State.holding_dated hm, decide_eq_true hlt]))
    · exact holdoff_restarts (State.holding_ended hend) hsrc hpend hen hdel hmode hnew he
    · exact holdoff_releases (State.holding_ended hend) hidle
    · exact exec_strandTimeout (State.strandTimeout_waits hfind hwait)
    · exact ⟨_, State.gathAt_setGath .., rfl, exec_strandTimeout (State.strandTimeout_raises hfind hraised hdue)⟩
  case right =>
    refine fun g w s => ⟨fun q hq hgate => take_reads_and_clears hq hgate, fun ini hini hgate => ?_, fun ini src v hgate => ?_⟩
    · rw [exec_evcTakeRead hgate, s.evcTake_other ini g w hini]
    · exact ⟨_, State.gathAt_setGath .., rfl, exec_evcRouteWrite hgate⟩

end Sys2Proof.Machine

namespace Sys2Proof.Machine

/-! ### What events leave of the mailbox and doorbell registers -/

namespace State

/-- t has the registers of the mailboxes and doorbells, and the others below the host interface's, as s has them. -/
def MbxKept (s t : State) : Prop := ∀ off, off < 0x30000 → t.rd off = s.rd off

namespace MbxKept

theorem refl (s : State) : s.MbxKept s := fun _ _ => rfl

theorem trans {s t u : State} (h1 : s.MbxKept t) (h2 : t.MbxKept u) : s.MbxKept u := fun off ho => (h2 off ho).trans (h1 off ho)

theorem wr (s : State) {off : Nat} (v : Word) (h : 0x30000 ≤ off) : s.MbxKept (s.wr off v) := fun i hi => s.rd_wr_ne off i v (by omega)

theorem foldl {α : Type} {f : State → α → State} (hf : ∀ (s : State) a, s.MbxKept (f s a)) (l : List α) (s : State) : s.MbxKept (l.foldl f s) :=
  fun off ho => s.rd_foldl f off (fun s a => hf s a off ho) l

theorem requestVec (s : State) (v : Nat) : s.MbxKept (s.requestVec v) := fun off _ => s.rd_requestVec v off

theorem evcSet (s : State) (g src : Nat) : s.MbxKept (s.evcSet g src) := by
  unfold State.evcSet
  split
  · exact wr s _ (by unfold Reg.evcPend; omega)
  · exact refl s

theorem raiseEvt (s : State) (e : Nat) : s.MbxKept (s.raiseEvt e) := by
  unfold State.raiseEvt
  split
  · exact evcSet s _ _
  · exact refl s

theorem writeEntry (s : State) (e : Entry) : s.MbxKept (s.writeEntry e) := by
  have hsts : 0x30000 ≤ Reg.hifCqSts e.cq := by unfold Reg.hifCqSts; omega
  exact ((wr (s.emit _) _ hsts).trans (wr _ _ hsts)).trans (requestVec _ _)

theorem putEntry (s : State) (e : Entry) : s.MbxKept (s.putEntry e) := by
  unfold State.putEntry
  split
  · exact fun off _ => rd_pmeOnHold _ off
  · exact writeEntry s e

theorem placeEvent (s : State) (e : Nat) : s.MbxKept (s.placeEvent e) := by
  unfold State.placeEvent
  split
  · exact fun off ho => (putEntry _ _ off ho).trans (s.rd_setB_ne _ _ _ _ (by unfold Reg.hifEvtPend; omega))
  · exact refl s

theorem hostEvent (s : State) (code detail : Nat) : s.MbxKept (s.hostEvent code detail) :=
  (wr s _ (by decide : 0x30000 ≤ Reg.hifEvtPend)).trans (foldl placeEvent _ _)

theorem violation (s : State) (t : Tx) (wr' : Bool) (addr target : Nat) : s.MbxKept (s.violation t wr' addr target) := by
  have hlog : ∀ u : State, s.MbxKept u → s.MbxKept ((u.addSat Reg.memDvCount 31 0 1).memEvent 1 t.port) := fun u hu =>
    ((hu.trans (wr u _ (by decide))).trans (raiseEvt _ _)).trans (hostEvent _ _ _)
  unfold State.violation
  refine hlog _ ?_
  split
  · exact refl s
  · exact ((wr s _ (by decide)).trans (wr _ _ (by decide))).trans (wr _ _ (by decide))

/-- A notice of a channel (R131, R518). -/
theorem notify (s : State) (n : Nat) (dst : MbxEnd) (k : Notice) : s.MbxKept (s.notify n dst k) := by
  have hpf1 (v : Nat) : s.MbxKept (s.requestPf1 v) := by
    unfold State.requestPf1
    split <;> exact fun _ _ => rfl
  unfold State.notify
  split
  · exact evcSet s _ _
  split
  · split
    · exact requestVec s _
    · exact refl s
  split
  · split
    · exact hpf1 0
    split
    · exact hpf1 1
    split
    · exact hpf1 2
    · exact refl s
  · exact refl s

end MbxKept

/-! ### The channel protocol (R126, R127, R130, R131, R133) -/

section Channel
variable {s : State} {ini : Ini} {n : Nat}

/-- Below channel 32 no initiator is barred. -/
theorem mbxBarred_low (hn : n < 32) : mbxBarred ini n = false := by
  simp [mbxBarred, Nat.not_le.mpr hn]

theorem mbxMaySend_iff : s.mbxMaySend ini n = true ↔ s.mbxUsed n = true ∧ MbxEnd.ofIni ini = s.mbxSender n ∧ s.mbxFull n = false := by
  simp [mbxMaySend, and_assoc]

/-- Who may not send meets a bus error on chip. -/
theorem mbxMaySend_not (h : s.mbxUsed n = false ∨ MbxEnd.ofIni ini ≠ s.mbxSender n ∨ s.mbxFull n = true) : s.mbxMaySend ini n = false := by
  rw [Bool.eq_false_iff, ne_eq, mbxMaySend_iff]
  rintro ⟨hused, hsender, hempty⟩
  rcases h with h | h | h
  · exact Bool.false_ne_true (h.symm.trans hused)
  · exact h hsender
  · exact Bool.false_ne_true (hempty.symm.trans h)

theorem mbxRefuse_onChip (h : Ini.isHost ini = false) : s.mbxRefuse ini n = { s with resp := .busError } := by
  rw [mbxRefuse, h]; rfl

variable (hn : n < 32)
include hn

theorem mbxDataWrite_low (k : Nat) (v : Word) : s.mbxDataWrite ini n k v = if s.mbxMaySend ini n then
    { s.wr (Reg.mbxData n k) v with mbxTouched := SMap.set (fun _ => false) s.mbxTouched n true, resp := .ok 0 } else s.mbxRefuse ini n := by
  rw [mbxDataWrite, mbxBarred_low hn]; rfl

theorem mbxSendWrite_low (v : Word) : s.mbxSendWrite ini n v = if s.mbxMaySend ini n then
    { (if bit v 0 then s.mbxPost n else s) with resp := .ok 0 } else s.mbxRefuse ini n := by
  rw [mbxSendWrite, mbxBarred_low hn]; rfl

/-- A message posted: the channel full, the message counted and the receiver told. -/
theorem mbxPost_low : s.mbxPost n = ((s.setB (Reg.mbxSts n) 31 true).addWrap (Reg.mbxSts n) 15 0 1).notify n (s.mbxReceiver n) .receive :=
  if_neg (by omega)

theorem mbxSts_low : Reg.mbxSts n < 0x30000 := by unfold Reg.mbxSts; omega

theorem mbxFull_mbxPost : (s.mbxPost n).mbxFull n = true := by
  rw [mbxFull, mbxPost_low hn, flag_of_rd (MbxKept.notify _ _ _ _ _ (mbxSts_low hn)), addWrap,
    flag_setF_apart _ _ _ _ _ _ (by decide) (.inr (by decide)), flag_setB_same _ _ _ _ (by decide)]

theorem count_mbxPost : (s.mbxPost n).getF (Reg.mbxSts n) 15 0 = (s.getF (Reg.mbxSts n) 15 0 + 1) % 2 ^ 16 := by
  rw [mbxPost_low hn, getF_of_rd (MbxKept.notify _ _ _ _ _ (mbxSts_low hn)), addWrap, getF, setF, rd_wr_same,
    fld_putFld_same _ _ _ _ (by decide), getF_setB_apart _ _ _ _ _ _ (by decide) (.inl (by decide))]

theorem rd_mbxPost {off : Nat} (hoff : off < 0x30000) (hne : off ≠ Reg.mbxSts n) : (s.mbxPost n).rd off = s.rd off := by
  rw [mbxPost_low hn, MbxKept.notify _ _ _ _ off hoff, addWrap, rd_setF_ne _ _ _ _ _ _ hne, rd_setB_ne _ _ _ _ _ hne]

/-- The receiver's read of the last word empties a full channel. -/
theorem mbxDataRead_last (hused : s.mbxUsed n = true) (hrx : MbxEnd.ofIni ini = s.mbxReceiver n) (hfull : s.mbxFull n = true) :
    s.mbxDataRead ini n 15 = { s.mbxDrain n with resp := .ok (s.rd (Reg.mbxData n 15)) } := by
  rw [mbxDataRead, mbxBarred_low hn, if_neg Bool.false_ne_true, if_pos ⟨rfl, hused, hfull, hrx⟩]
  rfl

theorem mbxFull_mbxDrain : (s.mbxDrain n).mbxFull n = false := by
  have hcleared (m : SMap Bool) : ({ s.setB (Reg.mbxSts n) 31 false with mbxTouched := m } : State).flag (Reg.mbxSts n) 31 = false :=
    s.flag_setB_same (Reg.mbxSts n) 31 false (by decide)
  rw [mbxDrain, if_neg (by omega), if_neg (by omega), mbxFull, flag_of_rd (MbxKept.notify _ _ _ _ _ (mbxSts_low hn)), hcleared]

/-- The Spine alone configures a channel below 32. -/
theorem mbxConfigurer_low : mbxConfigurer ini n = true ↔ ini = .spine := by
  cases ini <;> simp [mbxConfigurer, hn]

end Channel

/-! ### Doorbells (R136-R140, R577) -/

/-- Setting a doorbell sets its bit and no other of the word. -/
theorem flag_ringOut (s : State) (i : Fin 2) {b : Nat} (hb : b < 32) (j : Nat) :
    (s.ringOut i b).flag (Reg.mbxDbo i) j = (s.flag (Reg.mbxDbo i) j || decide (j = b)) := by
  have hset : (s.setB (Reg.mbxDbo i) b true).flag (Reg.mbxDbo i) j = (s.flag (Reg.mbxDbo i) j || decide (j = b)) := by
    by_cases hj : j = b
    · rw [hj, flag_setB_same _ _ _ _ hb, decide_eq_true rfl, Bool.or_true]
    · rw [flag_setB_apart _ _ _ _ _ hb hj, decide_eq_false hj, Bool.or_false]
  unfold ringOut
  split
  case isTrue hbell =>
    by_cases hj : j = b
    · rw [hj, hbell, Bool.true_or]
    · rw [decide_eq_false hj, Bool.or_false]
  case isFalse =>
    dsimp only
    split
    · rw [flag_of_rd (rd_requestVec ..), hset]
    · exact hset

/-- Setting the bells of a word, over the bits of a list. -/
theorem flag_ringOut_foldl (i : Fin 2) (v : Word) (l : List Nat) (hl : ∀ b ∈ l, b < 32) (s : State) (j : Nat) :
    (l.foldl (fun s b => if bit v b then s.ringOut i b else s) s).flag (Reg.mbxDbo i) j =
      (s.flag (Reg.mbxDbo i) j || (decide (j ∈ l) && bit v j)) := by
  induction l generalizing s with
  | nil => simp
  | cons b l ih =>
    rw [List.foldl_cons, ih (fun a ha => hl a (List.mem_cons_of_mem _ ha))]
    by_cases hj : j = b
    · subst hj
      cases hv : bit v j <;> simp [flag_ringOut _ _ (hl j List.mem_cons_self)]
    · cases hv : bit v b <;> simp [flag_ringOut _ _ (hl b List.mem_cons_self), hj]

theorem dboSetWrite_ok {s : State} {ini : Ini} (h : Ini.isEngineOrSpine ini = true) (i : Nat) (v : Word) :
    s.dboSetWrite ini i v =
      { (List.range 32).foldl (fun s b => if bit v b then s.ringOut i b else s) s with resp := .ok 0 } := by
  cases ini with
  | engine q => rfl
  | spine => rfl
  | _ => exact absurd h Bool.false_ne_true

theorem rd_ringOut_all (s : State) (i : Fin 2) (v : Word) :
    ((List.range 32).foldl (fun s b => if bit v b then s.ringOut i b else s) s).rd (Reg.mbxDbo i) = s.rd (Reg.mbxDbo i) ||| v := by
  refine BitVec.eq_of_getLsbD_eq fun j hj => ?_
  have hfold := flag_ringOut_foldl i v (List.range 32) (fun b hb => List.mem_range.mp hb) s j
  rw [decide_eq_true (List.mem_range.mpr hj), Bool.true_and] at hfold
  rw [BitVec.getLsbD_or]
  exact hfold

/-- The bits of a word with one bit set. -/
theorem bit_of_two_pow {v : Word} {b : Nat} (h : v.toNat = 2 ^ b) (a : Nat) : bit v a = decide (b = a) := by
  rw [bit, BitVec.getLsbD, h, Nat.testBit_two_pow]

/-- A host write that rings one doorbell sets its routed source. -/
theorem dbiWrite_one {s : State} {i : Nat} {v : Word} {b : Nat} (hb : b < 32) (hv : v.toNat = 2 ^ b)
    (hroute : s.flag (Reg.mbxDbiRoute (32 * i + b)) 31 = true) :
    s.dbiWrite .host0 i v = { s.evcSet (s.getF (Reg.mbxDbiRoute (32 * i + b)) 29 24) (s.getF (Reg.mbxDbiRoute (32 * i + b)) 23 15) with
      resp := .ok 0 } := by
  have hring : s.ringIn (32 * i + b) =
      s.evcSet (s.getF (Reg.mbxDbiRoute (32 * i + b)) 29 24) (s.getF (Reg.mbxDbiRoute (32 * i + b)) 23 15) := if_pos hroute
  have hquiet (t : State) (a : Nat) (ha : a ≠ b) : (if bit v a then t.ringIn (32 * i + a) else t) = t :=
    if_neg (by simp [bit_of_two_pow hv, Ne.symm ha])
  rw [dbiWrite, if_pos rfl, foldl_single _ s _ b _ List.nodup_range (List.mem_range.mpr hb) ((if_pos (by simp [bit_of_two_pow hv])).trans hring)
    (fun a _ => hquiet s a) (fun a _ => hquiet _ a)]
  rfl

/-- A writer that is not the host changes no doorbell. -/
theorem dboWrite_other {s : State} {ini : Ini} (h : ini ≠ .host0) (i : Fin 2) (v : Word) :
    (s.dboWrite ini i v).resp = .domain ∧ (s.dboWrite ini i v).rd (Reg.mbxDbo i) = s.rd (Reg.mbxDbo i) := by
  rw [dboWrite, if_neg h]
  exact ⟨rfl, MbxKept.violation s _ _ _ _ _ (by unfold Reg.mbxDbo; omega)⟩

end State

/-! ### The statement about mailboxes and doorbells -/

section Channels
variable {ini : Ini} {n : Fin 48} {k : Fin 16} {v : Word} {s : State} (hn : n.val < 32)
include hn

/-- A data word: taken from the sender while the channel is empty. -/
theorem mbxDataWrite_protocol (hgate : s.regGate ini (Reg.mbxData n k) true v = .ok) :
    (s.mbxUsed n = true → MbxEnd.ofIni ini = s.mbxSender n → s.mbxFull n = false →
      ∃ t, exec (.mbxDataWrite ini n k v) s = .next t ∧ t.resp = .ok 0 ∧ t.rd (Reg.mbxData n k) = v ∧
        (∀ off, off ≠ Reg.mbxData n k → t.rd off = s.rd off)) ∧
    (s.mbxUsed n = false ∨ MbxEnd.ofIni ini ≠ s.mbxSender n ∨ s.mbxFull n = true → Ini.isHost ini = false →
      exec (.mbxDataWrite ini n k v) s = .next { s with resp := .busError }) := by
  have hexec : exec (.mbxDataWrite ini n k v) s = .next (s.mbxDataWrite ini n k v) := congrArg Host.Outcome.next (State.gated_of_ok _ hgate)
  rw [hexec, State.mbxDataWrite_low hn]
  constructor
  · intro hused hsender hempty
    rw [if_pos (State.mbxMaySend_iff.mpr ⟨hused, hsender, hempty⟩)]
    exact ⟨_, rfl, rfl, s.rd_wr_same _ v, fun off hoff => s.rd_wr_ne _ off v hoff⟩
  · intro hrefused hchip
    rw [State.mbxMaySend_not hrefused, if_neg Bool.false_ne_true, State.mbxRefuse_onChip hchip]

/-- MBX_SEND: the message is counted and waits. -/
theorem mbxSend_protocol (hgate : s.regGate ini (Reg.mbxSend n) true v = .ok) :
    (s.mbxUsed n = true → MbxEnd.ofIni ini = s.mbxSender n → s.mbxFull n = false → v.getLsbD 0 = true →
      ∃ t, exec (.mbxSend ini n v) s = .next t ∧ t.resp = .ok 0 ∧ t.mbxFull n = true ∧
        t.getF (Reg.mbxSts n) 15 0 = (s.getF (Reg.mbxSts n) 15 0 + 1) % 2 ^ 16 ∧
        (∀ k : Fin 16, t.rd (Reg.mbxData n k) = s.rd (Reg.mbxData n k))) ∧
    (s.mbxUsed n = false ∨ MbxEnd.ofIni ini ≠ s.mbxSender n ∨ s.mbxFull n = true → Ini.isHost ini = false →
      exec (.mbxSend ini n v) s = .next { s with resp := .busError }) := by
  have hexec : exec (.mbxSend ini n v) s = .next (s.mbxSendWrite ini n v) := congrArg Host.Outcome.next (State.gated_of_ok _ hgate)
  rw [hexec, State.mbxSendWrite_low hn]
  constructor
  · intro hused hsender hempty hv
    rw [if_pos (State.mbxMaySend_iff.mpr ⟨hused, hsender, hempty⟩), bit, if_pos hv]
    exact ⟨_, rfl, rfl, State.mbxFull_mbxPost hn, State.count_mbxPost hn, fun k =>
      State.rd_mbxPost hn (by unfold Reg.mbxData; omega) (by unfold Reg.mbxData Reg.mbxSts; omega)⟩
  · intro hrefused hchip
    rw [State.mbxMaySend_not hrefused, if_neg Bool.false_ne_true, State.mbxRefuse_onChip hchip]

theorem mbxLastWordRead_drains (hgate : s.regGate ini (Reg.mbxData n 15) false 0 = .ok) (hused : s.mbxUsed n = true)
    (hrx : MbxEnd.ofIni ini = s.mbxReceiver n) (hfull : s.mbxFull n = true) :
    ∃ t, exec (.mbxLastWordRead ini n) s = .next t ∧ t.resp = .ok (s.rd (Reg.mbxData n 15)) ∧ t.mbxFull n = false :=
  ⟨_, congrArg Host.Outcome.next ((State.gated_of_ok _ hgate).trans (State.mbxDataRead_last hn hused hrx hfull)), rfl,
    State.mbxFull_mbxDrain hn⟩

/-- A configuration: the Spine's is taken, any other's is discarded. -/
theorem mbxCfgWrite_protocol (hgate : s.regGate ini (Reg.mbxCfg n) true v = .ok) :
    (ini = .spine → v.getLsbD 0 = false ∨ mbxCfgOk n v = true →
      exec (.mbxCfgWrite ini n v) s = .next { s.wr (Reg.mbxCfg n) (v &&& 0xFFFFFE01) with resp := .ok 0 }) ∧
    (ini ≠ .spine → exec (.mbxCfgWrite ini n v) s = .next { s with resp := .ok 0 }) := by
  have hexec : exec (.mbxCfgWrite ini n v) s = .next (s.mbxCfgWrite ini n v) := congrArg Host.Outcome.next (State.gated_of_ok _ hgate)
  rw [hexec, State.mbxCfgWrite]
  constructor
  · intro hspine hv
    rw [if_pos (by simpa [State.mbxConfigurer_low hn, hspine, bit] using hv)]
    rfl
  · intro hother
    rw [if_neg (by simp [State.mbxConfigurer_low hn, hother])]
    rfl

end Channels

/-- Settles O28: each write and read of a channel, then the doorbells. That a channel not in use refuses every write is log entry 160. -/
theorem mailboxesAndDoorbells : Obligations.MailboxesAndDoorbells := by
  unfold Obligations.MailboxesAndDoorbells
  constructor
  case left =>
    exact fun ini n k v s hn => ⟨mbxDataWrite_protocol hn, mbxSend_protocol hn, mbxLastWordRead_drains hn, mbxCfgWrite_protocol hn⟩
  case right =>
    intro ini i v s
    refine ⟨?_, fun hgate hini => ?_, fun hgate => ?_, fun hini hgate => ?_⟩
    · rintro hgate b g src hb hv hroute rfl rfl
      exact congrArg Host.Outcome.next ((State.gated_of_ok _ hgate).trans (State.dbiWrite_one hb hv hroute))
    · exact ⟨_, congrArg Host.Outcome.next ((State.gated_of_ok _ hgate).trans (State.dboSetWrite_ok hini i v)), rfl, s.rd_ringOut_all i v⟩
    · exact congrArg Host.Outcome.next ((State.gated_of_ok _ hgate).trans (if_pos rfl))
    · exact ⟨_, congrArg Host.Outcome.next (State.gated_of_ok _ hgate), State.dboWrite_other hini i v⟩

end Sys2Proof.Machine

namespace Sys2Proof.Machine

/-! ### Stored clips (R213, R214) -/

namespace State

section Feeds
variable {s : State} {e pos : Nat} {d : QDesc} (hd : s.firstWaiting (0x30 + e) = some (pos, d))
include hd

/-- A feed that is not well formed completes BAD_FIELD. -/
theorem clipFeed_refused (hk : d.kind = 1) (hq : (s.queueOf (0x30 + e)).any (fun y => y.started) = false) (hbad : s.clipBad e d = true) :
    s.clipFeed e = s.completeAt (0x30 + e) pos 1 none := by
  unfold clipFeed
  dsimp only
  rw [hd]
  dsimp only
  rw [if_neg (by simp [hk, hq]), if_pos hbad]

/-- A feed with units starts at the first of them, at its instant or at once when that has passed. -/
theorem clipFeed_starts (hk : d.kind = 1) (hq : (s.queueOf (0x30 + e)).any (fun y => y.started) = false) (hgood : s.clipBad e d = false)
    (hcount : leAt d.bytes 20 4 ≠ 0) :
    ∃ f : ClipFeed, s.clipFeed e = (s.startAt (0x30 + e) pos 0).setSess (byteAt d.bytes 15 % 64)
        { s.sessAt (byteAt d.bytes 15 % 64) with clip := some f } ∧
      f.index = leAt d.bytes 8 6 ∧ f.first = leAt d.bytes 16 4 ∧ f.count = leAt d.bytes 20 4 ∧ f.pos = 0 ∧
      f.start = max (leAt d.bytes 24 8) s.now := by
  unfold clipFeed
  dsimp only
  rw [hd]
  dsimp only
  rw [if_neg (by simp [hk, hq]), if_neg (by simp [hgood]), if_neg hcount]
  exact ⟨_, rfl, rfl, rfl, rfl, rfl, rfl⟩

/-- A well formed STOP completes and ends the feed of the session it names. -/
theorem stopFeed_ends (hk : d.kind = 2) (hz : zeroBytes d.bytes 8 7 = true) (hz' : zeroBytes d.bytes 16 16 = true)
    (hr : byteAt d.bytes 15 / 64 = 0) (he : byteAt d.bytes 15 % 16 = e) :
    s.stopFeed e = (s.completeAt (0x30 + e) pos 0 (some 0)).endFeed (byteAt d.bytes 15 % 64) 4 := by
  unfold stopFeed
  dsimp only
  rw [hd]
  dsimp only
  rw [if_neg (by simp [hk]), if_neg (by simp [hz, hz', hr, he])]

end Feeds

section Units
variable {s : State} {i : Nat} {f : ClipFeed} (hf : (s.sessAt i).clip = some f)
include hf

theorem clipHandover_early (h : s.now < f.start + clipDue (sessCfg s.rd i).rate f.fed) : s.clipHandover i = s := by
  unfold clipHandover
  rw [hf]
  exact if_pos h

variable (hdue : f.start + clipDue (sessCfg s.rd i).rate f.fed ≤ s.now) {a b : State} {bs c : List Byte}
  (hent : s.memRead (s.sessTx i) (f.index + 16 * (f.first + f.pos)) 16 = (a, .ok, bs))
include hdue hent

/-- A unit that is due goes to the press, and the feed moves on to the next one: after the last, back to the first of a feed that loops. -/
theorem clipHandover_gives (hau : a.memRead (s.sessTx i) (leAt bs 0 6) (leAt bs 8 4) = (b, .ok, c))
    (hmore : f.pos + 1 < f.count ∨ f.loop = true) :
    s.clipHandover i = (b.clipGive i c).setSess i { (b.clipGive i c).sessAt i with
      clip := some { f with pos := if f.count ≤ f.pos + 1 then 0 else f.pos + 1, fed := f.fed + 1 } } := by
  have hon : (decide (f.count ≤ f.pos + 1) && !f.loop) = false := by
    rcases hmore with h | h
    · simp [Nat.not_le.mpr h]
    · simp [h]
  unfold clipHandover
  rw [hf]
  dsimp only
  rw [if_neg (Nat.not_lt.mpr hdue), hent]
  dsimp only
  rw [if_neg (by decide), hau]
  dsimp only
  rw [if_neg (by decide), hon, if_neg Bool.false_ne_true]
  simp only [decide_eq_true_eq]

/-- A unit whose bytes the domain check refuses ends the feed. -/
theorem clipHandover_refused (hau : a.memRead (s.sessTx i) (leAt bs 0 6) (leAt bs 8 4) = (b, .domain, c)) :
    s.clipHandover i = b.endFeed i 2 := by
  unfold clipHandover
  rw [hf]
  dsimp only
  rw [if_neg (Nat.not_lt.mpr hdue), hent]
  dsimp only
  rw [if_neg (by decide), hau]
  rfl

end Units
end State
end Sys2Proof.Machine

namespace Sys2Proof.Machine

/-! ### Outputs (R215-R220) -/

namespace State

@[simp] theorem outAt_setOut (s : State) (o : Nat) (x : OutSt) : (s.setOut o x).outAt o = x := by
  simp [outAt, setOut]

/-! #### Enabling (R217) -/

section Enable
variable {s : State} {o : Nat} {v : Word} (hoff : s.flag (Reg.ingOutCfg o) 31 = false) (hv : v.getLsbD 31 = true)
include hoff hv

/-- A configuration that passes its check starts the output with its first sequence number. -/
theorem outCfgWrite_starts (hr : (s.plainWrite (Reg.ingOutCfg o) v).outCheck o v = 0) :
    s.outCfgWrite o v = (((s.plainWrite (Reg.ingOutCfg o) v).setF (Reg.ingOutSts o) 31 24 0).setB (Reg.ingOutSts o) 23 true).setOut o
      { OutSt.reset with seq := s.getF (Reg.ingOutRtp o) 15 0 } := by
  unfold outCfgWrite
  dsimp only
  rw [if_neg (by simp [hoff]), if_neg (by simp [bit, hv]), if_pos hr, hr]

/-- One that fails leaves the output off with the reason. -/
theorem outCfgWrite_refused (hr : (s.plainWrite (Reg.ingOutCfg o) v).outCheck o v ≠ 0) :
    s.outCfgWrite o v = ((s.plainWrite (Reg.ingOutCfg o) v).setF (Reg.ingOutSts o) 31 24
      ((s.plainWrite (Reg.ingOutCfg o) v).outCheck o v)).setB (Reg.ingOutCfg o) 31 false := by
  unfold outCfgWrite
  dsimp only
  rw [if_neg (by simp [hoff]), if_neg (by simp [bit, hv]), if_neg hr]

end Enable

/-! #### Sending a row (R219) -/

theorem outputLine_of_stopped {s : State} {o : Nat} (row : Nat) (h : s.flag (Reg.ingOutSts o) 23 = false) : s.outputLine o row = s := by
  unfold outputLine
  exact if_pos (by simp [h])

/-- The read of row `row` of picture p for output o, whose record says that its frame has begun and whether the row is the last. -/
def outRowRead (s : State) (o k p row : Nat) (c : SheetCfg) : State × MemAcc × List Byte :=
  (s.setOut o { s.outAt o with again := true, whole := decide (c.h ≤ row + 1) }).memRead ⟨4, 0x40⟩
    ((s.pictureSet k p).rowAddr p row) (ceilDiv (c.w * 5) 2)

section Row
variable {s : State} {o row k : Nat} {v : Word} {c : SheetCfg} {src : Nat × Bool} (hv : v = s.rd (Reg.ingOutCfg o)) (hk : k = fld v 29 28)
  (hc : c = sheetCfg s.rd k) (hen : v.getLsbD 31 = true) (hrun : s.flag (Reg.ingOutSts o) 23 = true) (hlo : 0 < row) (hhi : row < c.h)
  (hsrc : src = s.rowSource k (s.outAt o).frame row) (hontime : src.2 = false)
include hv hk hc hen hrun hlo hhi hsrc hontime

/-- A row after the first that is not late is read and sent in the frame its first row fixed, or waits with nothing changed. -/
theorem outputLine_row (hclk : s.outClocked o = true) :
    s.outputLine o row = (if bit v 30 then
        (s.outRowRead o k src.1 row c).1.sendRow o (s.outAt o).frame row c (s.outRowRead o k src.1 row c).2.2
      else some ((s.outRowRead o k src.1 row c).1.emit (.sdi (sdiIndex (fld v 25 16)) row (s.outRowRead o k src.1 row c).2.2))).getD s := by
  have hrow : row ≠ 0 := by omega
  have hsent (sent : Option State) : (match sent with | none => s | some t => t) = sent.getD s := by cases sent <;> rfl
  subst hv hk hc hsrc
  unfold outputLine
  dsimp only
  rw [if_neg (by simp [hrun, hhi, hclk]), if_neg (by simp [hrow]), if_pos hrow, if_neg hrow, hontime, if_neg Bool.false_ne_true]
  simp only [bit, hen, Bool.not_true, Bool.and_false, Bool.false_eq_true, if_false]
  exact hsent _

theorem outputLine_sdi (hsdi : v.getLsbD 30 = false) (href : s.flag Reg.laneRefSts (if fld v 25 16 < 0x14 then 3 else 4) = true) :
    s.outputLine o row =
      (s.outRowRead o k src.1 row c).1.emit (.sdi (sdiIndex (fld v 25 16)) row (s.outRowRead o k src.1 row c).2.2) := by
  have hclk : s.outClocked o = true := by
    subst hv
    simp [outClocked, href]
  rw [outputLine_row hv hk hc hen hrun hlo hhi hsrc hontime hclk, bit, hsdi, if_neg Bool.false_ne_true, Option.getD_some]

theorem outputLine_ip (hip : v.getLsbD 30 = true) :
    s.outputLine o row =
      ((s.outRowRead o k src.1 row c).1.sendRow o (s.outAt o).frame row c (s.outRowRead o k src.1 row c).2.2).getD s := by
  have hclk : s.outClocked o = true := by
    subst hv
    simp [outClocked, bit, hip]
  rw [outputLine_row hv hk hc hen hrun hlo hhi hsrc hontime hclk, bit, if_pos hip]

end Row

/-! #### Slips (R220) -/

/-- Telling the embedders changes their records alone. -/
theorem slipAudio_rest (s : State) (o : Nat) (dropped : Bool) : { s.slipAudio o dropped with ao := s.ao } = s := by
  unfold slipAudio
  generalize (List.range 16).filter _ = l
  suffices h : ∀ t : State, { t with ao := s.ao } = s →
      { l.foldl (fun s a => s.setAo a { s.aoAt a with slips := (s.aoAt a).slips ++ [dropped] }) t with ao := s.ao } = s from h s rfl
  induction l with
  | nil => exact fun t ht => ht
  | cons a l ih => exact fun t ht => ih _ ht

theorem slipDue_of_drift {s : State} {o : Nat} {dropped : Bool} {c : SheetCfg} (hc : c = sheetCfg s.rd (s.getF (Reg.ingOutCfg o) 29 28))
    (hrun : s.flag (Reg.ingOutSts o) 23 = true) (hsdi : s.flag (Reg.ingOutCfg o) 30 = false) (hagain : (s.outAt o).again = true)
    (hwhole : (s.outAt o).whole = true) (hdrift : (frameStart c.rate 1 : Int) < 2 * (if dropped then s.outDrift o else -s.outDrift o)) :
    s.slipDue o dropped = true := by
  subst hc
  simp only [slipDue, hrun, hsdi, hagain, hwhole, Bool.not_false, Bool.and_true, decide_eq_true hdrift]

theorem slipDue_of_stopped {s : State} {o : Nat} (dropped : Bool) (h : s.flag (Reg.ingOutSts o) 23 = false ∨ (s.outAt o).whole = false) :
    s.slipDue o dropped = false := by
  rcases h with h | h <;> simp [slipDue, h]

/-- What a slip shows: the frame repeated or dropped, and one slip more. -/
theorem slip_shows (s : State) (o : Nat) (dropped : Bool) (x : OutSt) :
    (((s.addWrap (Reg.ingOutSts o) 15 8 1).setOut o x).slipAudio o dropped).outAt o = x ∧
    (((s.addWrap (Reg.ingOutSts o) 15 8 1).setOut o x).slipAudio o dropped).getF (Reg.ingOutSts o) 15 8 =
      (s.getF (Reg.ingOutSts o) 15 8 + 1) % 256 := by
  have hrest := ((s.addWrap (Reg.ingOutSts o) 15 8 1).setOut o x).slipAudio_rest o dropped
  have hout := congrArg (fun t : State => t.outAt o) hrest
  have hreg := congrArg (fun t : State => t.getF (Reg.ingOutSts o) 15 8) hrest
  refine ⟨hout.trans (outAt_setOut _ _ _), hreg.trans ?_⟩
  exact (congrArg (fun w => fld w 15 8) (s.rd_wr_same _ _)).trans (fld_putFld_same _ _ _ _ (by decide))

end State
end Sys2Proof.Machine

namespace Sys2Proof.Machine

/-! ### The statement about clips and outputs -/

/-- A slip that is due: the drift as the statement writes it. -/
theorem exec_sdiOutputSlip_due {s : State} {o : Fin 8} {dropped : Bool} {c : SheetCfg} (hc : c = sheetCfg s.rd (s.getF (Reg.ingOutCfg o) 29 28))
    (hrun : s.flag (Reg.ingOutSts o) 23 = true) (hsdi : s.flag (Reg.ingOutCfg o) 30 = false) (hagain : (s.outAt o).again = true)
    (hwhole : (s.outAt o).whole = true)
    (hdrift : (frameStart c.rate 1 : Int) < 2 * (if dropped then
        ((s.outAt o).began : Int) - (frameStart c.rate (s.outAt o).frame + c.lines (s.getF (Reg.ingOutCfg o) 13 0) : Nat)
      else ((frameStart c.rate (s.outAt o).frame + c.lines (s.getF (Reg.ingOutCfg o) 13 0) : Nat) : Int) - (s.outAt o).began)) :
    ∃ t, exec (.sdiOutputSlip o dropped) s = .next t ∧
      (t.outAt o).frame = (if dropped then (s.outAt o).frame + 1 else (s.outAt o).frame - 1) ∧
      t.getF (Reg.ingOutSts o) 15 8 = (s.getF (Reg.ingOutSts o) 15 8 + 1) % 256 := by
  have hlate : s.outDrift o =
      ((s.outAt o).began : Int) - (frameStart c.rate (s.outAt o).frame + c.lines (s.getF (Reg.ingOutCfg o) 13 0) : Nat) := by
    rw [hc]; rfl
  rw [← hlate, ← Int.neg_sub, ← hlate] at hdrift
  obtain ⟨hout, hcount⟩ := s.slip_shows o dropped
    { s.outAt o with frame := if dropped then (s.outAt o).frame + 1 else (s.outAt o).frame - 1 }
  exact ⟨_, congrArg Host.Outcome.next (if_pos (State.slipDue_of_drift hc hrun hsdi hagain hwhole hdrift)), congrArg OutSt.frame hout, hcount⟩

/-- Settles O42: feeds from their descriptors and reads, outputs from their check, their rows and their drift. -/
theorem clipsAndOutputs : Obligations.ClipsAndOutputs := by
  unfold Obligations.ClipsAndOutputs
  refine ⟨fun s => ⟨?feed, ?unit, ?stop⟩, ?outputs⟩
  case feed =>
    rintro e pos d i hd hk hq rfl
    refine ⟨fun hbad => congrArg _ (State.clipFeed_refused hd hk hq hbad), fun hgood hcount => ?_⟩
    obtain ⟨f, hfeed, hshape⟩ := State.clipFeed_starts hd hk hq hgood hcount
    exact ⟨_, f, congrArg Host.Outcome.next hfeed, rfl, hshape⟩
  case unit =>
    intro i f a b bs hf
    exact ⟨fun hearly => congrArg _ (State.clipHandover_early hf hearly), fun hdue hent =>
      ⟨fun c hau hmore => congrArg _ (State.clipHandover_gives hf hdue hent hau hmore),
        fun c hau => congrArg _ (State.clipHandover_refused hf hdue hent hau)⟩⟩
  case stop =>
    exact fun e pos d hd hk hz hz' hr he => congrArg _ (State.stopFeed_ends hd hk hz hz' hr he)
  case outputs =>
    rintro o s _ v rfl
    refine ⟨?enable, ?row, fun row hstop => congrArg _ (State.outputLine_of_stopped _ hstop),
      fun dropped c => exec_sdiOutputSlip_due, fun dropped hno => ?noslip⟩
    case enable =>
      rintro ini a r hgate hoff hv rfl rfl
      have hexec : exec (.outputEnable ini o v) s = .next { s.outCfgWrite o v with resp := .ok 0 } :=
        congrArg Host.Outcome.next (s.gatedWrite_of_ok ini _ v _ hgate)
      exact ⟨fun hr => by rw [hexec, State.outCfgWrite_starts hoff hv hr], fun hr => by rw [hexec, State.outCfgWrite_refused hoff hv hr]⟩
    case row =>
      rintro row k c src r hv hk hc hen hrun hlo hhi hsrc hontime rfl
      have hip := State.outputLine_ip hv hk hc hen hrun hlo hhi hsrc hontime
      exact ⟨fun hsdi href => congrArg _ (State.outputLine_sdi hv hk hc hen hrun hlo hhi hsrc hontime hsdi href), fun h30 =>
        ⟨fun t hsend => congrArg _ ((hip h30).trans (congrArg (Option.getD · s) hsend)),
          fun hfull => congrArg _ ((hip h30).trans (congrArg (Option.getD · s) hfull))⟩⟩
    case noslip =>
      exact congrArg _ (if_neg (by simp [State.slipDue_of_stopped dropped hno]))

end Sys2Proof.Machine

namespace Sys2Proof.Machine

/-! ### What a memory write leaves of the units' records and registers -/

namespace State

/-- t keeps the sessions' records of s and the units' registers, which lie between the gatherings' and the memory block. -/
structure UnitsKept (s t : State) : Prop where
  sess : t.sess = s.sess
  regs : ∀ off, 0x800000 ≤ off → off < 0x1300000 → t.rd off = s.rd off

theorem hostStep_sess {s t : State} (h : s.hostStep t) : t.sess = s.sess := by
  obtain ⟨_, _, _, rfl⟩ := h
  rfl

namespace UnitsKept

theorem refl (s : State) : s.UnitsKept s := ⟨rfl, fun _ _ _ => rfl⟩

theorem trans {s t u : State} (h1 : s.UnitsKept t) (h2 : t.UnitsKept u) : s.UnitsKept u :=
  ⟨h2.sess.trans h1.sess, fun off lo hi => (h2.regs off lo hi).trans (h1.regs off lo hi)⟩

theorem foldl {α : Type} {f : State → α → State} (hf : ∀ (s : State) a, s.UnitsKept (f s a)) (l : List α) (s : State) :
    s.UnitsKept (l.foldl f s) := by
  induction l generalizing s with
  | nil => exact refl s
  | cons a l ih => exact (hf s a).trans (ih _)

theorem wr (s : State) (off : Nat) (v : Word) (h : 0x1300000 ≤ off) : s.UnitsKept (s.wr off v) :=
  ⟨rfl, fun i _ hi => s.rd_wr_ne off i v (by omega)⟩

theorem memEvent (s : State) (kind detail : Nat) : s.UnitsKept (s.memEvent kind detail) :=
  ⟨hostStep_sess (s.hostStep_memEvent kind detail), fun off lo _ =>
    (rd_hostEvent _ _ _ off (by omega)).trans (s.rd_raiseEvt _ off lo)⟩

theorem violation (s : State) (t : Tx) (wr' : Bool) (addr target : Nat) : s.UnitsKept (s.violation t wr' addr target) := by
  unfold State.violation
  refine trans (trans ?_ (wr _ _ _ (by decide))) (memEvent _ _ _)
  split
  · exact refl s
  · exact ((wr s _ _ (by decide)).trans (wr _ _ _ (by decide))).trans (wr _ _ _ (by decide))

theorem hbmCount (s : State) (i : Nat) : s.UnitsKept (s.hbmCount i) := by
  have hp : 0x1300000 ≤ Reg.hbmPcErr (hbmPc (i * 32)) := by unfold Reg.hbmPcErr; omega
  unfold State.hbmCount
  dsimp only
  split
  · exact wr s _ _ hp
  · exact wr s _ _ hp
  · exact refl s

theorem ssWrite (s : State) (t : Tx) (a o : Nat) (bs : List Byte) : s.UnitsKept (s.ssWrite t a o bs).1 := by
  have hstore (m e) : s.UnitsKept { s with ss := m, ssErr := e } := ⟨rfl, fun _ _ _ => rfl⟩
  unfold State.ssWrite
  dsimp only
  split
  · exact violation _ _ _ _ _
  · split
    · exact (hstore _ _).trans (memEvent _ _ _)
    · exact hstore _ _

theorem hbmWrite (s : State) (t : Tx) (a o : Nat) (bs : List Byte) : s.UnitsKept (s.hbmWrite t a o bs).1 := by
  have hstore (t : State) (m e) : t.UnitsKept { t with hbm := m, hbmErr := e } := ⟨rfl, fun _ _ _ => rfl⟩
  have hqueue (t : State) (o : Nat) : t.UnitsKept (t.hbmQueue true true o) := ⟨rfl, fun _ _ _ => rfl⟩
  unfold State.hbmWrite
  dsimp only
  split
  · exact violation _ _ _ _ _
  · have hsecs : s.UnitsKept ((blocks 32 o bs.length).foldl
        (fun s i => (if whole 32 o bs.length i then s else s.hbmCount i).hbmQueue true true (i * 32)) s) := by
      refine foldl (fun s i => trans ?_ (hqueue _ _)) _ s
      split
      · exact refl s
      · exact hbmCount s i
    split
    · exact (hsecs.trans (hstore _ _ _)).trans (memEvent _ _ _)
    · exact hsecs.trans (hstore _ _ _)

theorem memWrite (s : State) (t : Tx) (a : Nat) (bs : List Byte) : s.UnitsKept (s.memWrite t a bs).1 := by
  unfold State.memWrite
  split
  · exact refl s
  · split
    · split
      · exact refl s
      · exact ssWrite _ _ _ _ _
    · exact ssWrite _ _ _ _ _
    · exact hbmWrite _ _ _ _ _
    · exact refl s
    · exact violation _ _ _ _ _

end UnitsKept

/-! #### A memory write does not read a session's record -/

/-- Two memory writes end alike and leave the same bytes. -/
structure SameBytes (p q : State × MemAcc) : Prop where
  acc : p.2 = q.2
  ss : p.1.ss = q.1.ss
  hbm : p.1.hbm = q.1.hbm

/-- Events after a write leave its bytes. -/
theorem SameBytes.of_hostStep {s s' t t' : State} (hs : s.hostStep s') (ht : t.hostStep t') (hss : s.ss = t.ss) (hhbm : s.hbm = t.hbm)
    (r : MemAcc) : SameBytes (s', r) (t', r) := by
  obtain ⟨_, _, _, rfl⟩ := hs
  obtain ⟨_, _, _, rfl⟩ := ht
  exact ⟨rfl, hss, hhbm⟩

theorem SameBytes.ite {c : Prop} [Decidable c] {p q p' q' : State × MemAcc} (h : SameBytes p q) (h' : SameBytes p' q') :
    SameBytes (if c then p else p') (if c then q else q') := by
  split
  · exact h
  · exact h'

theorem ssWrite_setSess (s : State) (i : Nat) (x : Sess) (t : Tx) (a o : Nat) (bs : List Byte) :
    SameBytes ((s.setSess i x).ssWrite t a o bs) (s.ssWrite t a o bs) := by
  have href : (s.setSess i x).refusal t true false o bs.length = s.refusal t true false o bs.length := rfl
  unfold ssWrite
  dsimp only
  rw [href]
  cases s.refusal t true false o bs.length with
  | some e => exact .of_hostStep (hostStep_violation (s.setSess i x) _ _ _ _) (hostStep_violation s _ _ _ _) rfl rfl _
  | none =>
    refine SameBytes.ite (.of_hostStep (hostStep_memEvent _ _ _) (hostStep_memEvent _ _ _) ?_ ?_ _) ⟨?_, ?_, ?_⟩ <;> rfl

/-- Queueing the sectors of a write leaves the Sheet store. -/
theorem ss_hbmQueues (s : State) (f : Nat → Bool) (l : List Nat) :
    (l.foldl (fun s i => (if f i then s else s.hbmCount i).hbmQueue true true (i * 32)) s).ss = s.ss := by
  induction l generalizing s with
  | nil => rfl
  | cons j l ih =>
    refine (ih _).trans ?_
    unfold hbmCount hbmQueue
    dsimp only
    repeat' split
    all_goals rfl

theorem hbmWrite_setSess (s : State) (i : Nat) (x : Sess) (t : Tx) (a o : Nat) (bs : List Byte) :
    SameBytes ((s.setSess i x).hbmWrite t a o bs) (s.hbmWrite t a o bs) := by
  have href : (s.setSess i x).refusal t true true o bs.length = s.refusal t true true o bs.length := rfl
  have hss := (ss_hbmQueues (s.setSess i x) (whole 32 o bs.length) (blocks 32 o bs.length)).trans
    (ss_hbmQueues s (whole 32 o bs.length) (blocks 32 o bs.length)).symm
  unfold hbmWrite
  dsimp only
  rw [href]
  cases s.refusal t true true o bs.length with
  | some e => exact .of_hostStep (hostStep_violation (s.setSess i x) _ _ _ _) (hostStep_violation s _ _ _ _) rfl rfl _
  | none =>
    refine SameBytes.ite (.of_hostStep (hostStep_memEvent _ _ _) (hostStep_memEvent _ _ _) ?_ ?_ _) ⟨?_, ?_, ?_⟩
    · exact hss
    · rfl
    · rfl
    · exact hss
    · rfl

/-- The bytes a memory write leaves, and how it ends, do not depend on the sessions' records. -/
theorem memWrite_setSess (s : State) (i : Nat) (x : Sess) (t : Tx) (a : Nat) (bs : List Byte) :
    SameBytes ((s.setSess i x).memWrite t a bs) (s.memWrite t a bs) := by
  have hrom : (s.setSess i x).romAtZero t = s.romAtZero t := rfl
  unfold memWrite
  refine .ite ⟨rfl, rfl, rfl⟩ ?_
  rw [hrom]
  cases regionOf a bs.length with
  | zero => exact .ite ⟨rfl, rfl, rfl⟩ (ssWrite_setSess s i x t a a bs)
  | ss => exact ssWrite_setSess s i x t a _ bs
  | hbm => exact hbmWrite_setSess s i x t a _ bs
  | none => exact ⟨rfl, rfl, rfl⟩
  | _ => exact .of_hostStep (hostStep_violation (s.setSess i x) _ _ _ _) (hostStep_violation s _ _ _ _) rfl rfl _

end State
end Sys2Proof.Machine

namespace Sys2Proof.Machine

/-! ### A session's record, state and set -/

namespace State

@[simp] theorem sessAt_setSess (s : State) (i : Nat) (x : Sess) : (s.setSess i x).sessAt i = x := by
  simp [sessAt, setSess]

theorem sessAt_of_sess {s t : State} (h : t.sess = s.sess) (i : Nat) : t.sessAt i = s.sessAt i := by
  rw [sessAt, h, sessAt]

theorem hostStep_setSessState (s : State) (i st : Nat) : s.hostStep (s.setSessState i st) := by
  unfold setSessState
  split
  · exact s.hostStep_refl
  · exact hostStep_trans (s.hostStep_setF _ _ _ _) (hostStep_raiseEvt _ _)

@[simp] theorem sessAt_setSessState (s : State) (i st j : Nat) : (s.setSessState i st).sessAt j = s.sessAt j :=
  sessAt_of_sess (hostStep_sess (s.hostStep_setSessState i st)) j

theorem ingSts_ge (i : Nat) : 0x800000 ≤ Reg.ingSessSts i := by unfold Reg.ingSessSts; omega

theorem sessState_setSessState (s : State) (i : Nat) {st : Nat} (hst : st < 8) : (s.setSessState i st).sessState i = st := by
  unfold setSessState
  split
  case isTrue h => exact h
  case isFalse =>
    exact (getF_of_rd (rd_raiseEvt _ _ _ (ingSts_ge i)) 31 29).trans (s.getF_setF_same _ 31 29 st (by decide) hst)

theorem UnitsKept.sessState {s t : State} (h : s.UnitsKept t) {i : Nat} (hi : i < 64) : t.sessState i = s.sessState i :=
  getF_of_rd (h.regs _ (ingSts_ge i) (by unfold Reg.ingSessSts; omega)) 31 29

end State

@[simp] theorem Sess.slotAt_setSlot (x : Sess) (k : Nat) (v : Slot) : (x.setSlot k v).slotAt k = v := by
  simp [slotAt, setSlot]

/-! ### Packets (R205, R206, R211) -/

theorem seqBefore_irrefl (q : Word) : seqBefore q q = false := by simp [seqBefore]

theorem seqBefore_pred (q : Word) : seqBefore (q - 1) q = true := by
  have hne : q - 1 ≠ q := by simp
  rw [seqBefore, sub_sub_cancel, decide_eq_true hne]
  decide

/-- The number after the highest one is a first copy. -/
theorem Sess.fresh_next {x : Sess} {q : Word} (h : x.top = some (q - 1)) : x.fresh q = true := by
  unfold fresh
  rw [h]
  simp only [seqBefore_pred, Bool.true_or]

/-- No number lies between it and the highest one. -/
theorem Sess.gap_next {x : Sess} {q : Word} (h : x.top = some (q - 1)) : x.gap q = [] := by
  unfold gap
  rw [h]
  dsimp only
  rw [if_pos (seqBefore_pred q), sub_sub_cancel]
  rfl

/-- The record once packet q, the next in order, is taken. -/
def Sess.takeNext (x : Sess) (q : Word) : Sess :=
  { x with top := some q, low := x.lowAfter q, missing := x.missing.filter (fun m => m.1 != q) }

/-- The record once something has arrived at count n. -/
def Sess.arrivedAt (x : Sess) (n : Nat) : Sess := { x with lastArrival := n }

namespace State

theorem takePacket_next {s : State} {i : Nat} {q : Word} (h : (s.sessAt i).top = some (q - 1)) :
    s.takePacket i q = (s.setSess i ((s.sessAt i).takeNext q), []) := by
  unfold takePacket
  dsimp only
  rw [Sess.gap_next h, h]
  simp only [seqBefore_pred, if_true, List.map_nil, ite_self, List.append_nil]
  rfl

theorem ingestPacket_off {s : State} {i : Nat} {legB : Bool} (p : RtpPacket)
    (h : (sessCfg s.rd i).en = false ∨ (legB = true ∧ (sessCfg s.rd i).merge = false)) : s.ingestPacket i legB p = s := by
  unfold ingestPacket
  refine if_pos ?_
  rcases h with h | ⟨hl, hm⟩
  · simp [h]
  · simp [hl, hm]

/-- A copy of a number seen before marks the arrival alone. -/
theorem ingestPacket_copy {s : State} {i : Nat} {legB : Bool} {p : RtpPacket} (hen : (sessCfg s.rd i).en = true)
    (hleg : legB = true → (sessCfg s.rd i).merge = true) (hcopy : (s.sessAt i).fresh p.seq = false) :
    s.ingestPacket i legB p = s.setSess i ((s.sessAt i).arrivedAt s.now) := by
  have hcopy' : ((s.setSess i ((s.sessAt i).arrivedAt s.now)).sessAt i).fresh p.seq = false := by
    rw [sessAt_setSess]
    exact hcopy
  unfold ingestPacket
  dsimp only
  rw [if_neg (by cases legB <;> simp_all)]
  exact if_pos (congrArg not hcopy')

theorem ingestPacket_video {s : State} {i : Nat} {p : RtpPacket} (hen : (sessCfg s.rd i).en = true) (hkind : (sessCfg s.rd i).kind = 0)
    (hfirst : (s.sessAt i).fresh p.seq = true) :
    s.ingestPacket i false p = (s.setSess i ((s.sessAt i).arrivedAt s.now)).videoPacket i p := by
  have hfirst' : ((s.setSess i ((s.sessAt i).arrivedAt s.now)).sessAt i).fresh p.seq = true := by
    rw [sessAt_setSess]
    exact hfirst
  unfold ingestPacket
  dsimp only
  rw [if_neg (by simp [hen]), hkind]
  exact if_neg (Bool.eq_false_iff.mp (congrArg not hfirst'))

/-- The next packet of a frame in progress, inside its raster, is written to the frame's slot. -/
theorem videoPacket_next {s : State} {i k : Nat} {p : RtpPacket} {x : Sess} (hx : s.sessAt i = x) (hen : (sessCfg s.rd i).en = true)
    (hstate : s.sessState i ≠ 4) (htop : x.top = some (p.seq - 1)) (hts : x.lastTs = some p.ts) (hslot : x.slotOf p.ts = some k)
    (hmark : p.marker = false)
    (hin : p.pieces.any (pieceOutside (x.slotAt k).w (x.slotAt k).h ((x.slotAt k).cfg.rowBytes (x.slotAt k).w)) = false) :
    s.videoPacket i p = (s.setSess i (x.takeNext p.seq)).writePieces i k p.seq p.pieces := by
  subst hx
  have hold : (s.sessAt i).newer p.ts = false := by simp [Sess.newer, hts, seqBefore_irrefl]
  have hshow : s.showRaster i p = s := by
    unfold showRaster
    rw [hmark]
    cases p.pieces.getLast? <;> rfl
  have hslot' : ((s.sessAt i).takeNext p.seq).slotOf p.ts = some k := hslot
  have hstate' : ¬ (s.setSess i ((s.sessAt i).takeNext p.seq)).sessState i = 4 := hstate
  have hin' : (s.setSess i ((s.sessAt i).takeNext p.seq)).packetOutside i p = false := by
    unfold packetOutside
    rw [sessAt_setSess, hslot']
    exact hin
  have hen' : (sessCfg (s.setSess i ((s.sessAt i).takeNext p.seq)).rd i).en = true := hen
  unfold videoPacket
  rw [hold, hshow, takePacket_next htop]
  simp only [Bool.false_eq_true, if_false, hen', Bool.not_true, hin', if_neg hstate', List.foldl_nil]
  unfold writePacket
  rw [sessAt_setSess, hslot']

/-- What a write of a session's buffers shows: its bytes, and the session in DOMAIN when it is refused (R211). -/
theorem writeAt_shows (s : State) {i : Nat} (hi : i < 64) (t : Tx) (a : Nat) (bs : List Byte) :
    (s.writeAt i t a bs).ss = (s.memWrite t a bs).1.ss ∧ (s.writeAt i t a bs).hbm = (s.memWrite t a bs).1.hbm ∧
      (s.writeAt i t a bs).sessAt i = s.sessAt i ∧
      (s.writeAt i t a bs).sessState i = if (s.memWrite t a bs).2 = .domain then 5 else s.sessState i := by
  have hkept := UnitsKept.memWrite s t a bs
  unfold writeAt
  dsimp only
  split
  · obtain ⟨hss, hhbm, -, -⟩ := hostStep_mem ((s.memWrite t a bs).1.hostStep_setSessState i 5)
    exact ⟨hss, hhbm, (sessAt_setSessState _ _ _ _).trans (sessAt_of_sess hkept.sess i), sessState_setSessState _ i (by decide)⟩
  · exact ⟨rfl, rfl, sessAt_of_sess hkept.sess i, hkept.sessState hi⟩

/-- The memory write of a run into slot k, under the set its frame began with (R202). -/
def runWrite (s : State) (i k : Nat) (e : RowPiece) : State × MemAcc :=
  s.memWrite (((s.sessAt i).slotAt k).cfg.tx i) (((s.sessAt i).slotAt k).cfg.lineAddr k e.row + e.offset) e.data

/-- t is s with run e of packet q written into slot k: its bytes, the session in DOMAIN when they were refused, and what it covers. -/
structure RunWritten (s t : State) (i k : Nat) (q : Word) (e : RowPiece) : Prop where
  ss : t.ss = (s.runWrite i k e).1.ss
  hbm : t.hbm = (s.runWrite i k e).1.hbm
  state : t.sessState i = if (s.runWrite i k e).2 = .domain then 5 else s.sessState i
  pk : ((t.sessAt i).slotAt k).pk =
    (q.toNat, e.row * s.sessRow i k + e.offset, e.row * s.sessRow i k + e.offset + e.data.length) :: ((s.sessAt i).slotAt k).pk

/-- What the session knows beside slot k does not matter to the run. -/
theorem RunWritten.of_setSess {s t : State} {i k : Nat} {q : Word} {e : RowPiece} {x : Sess} (h : (s.setSess i x).RunWritten t i k q e)
    (hx : x.slotAt k = (s.sessAt i).slotAt k) : s.RunWritten t i k q e := by
  have hrun : SameBytes ((s.setSess i x).runWrite i k e) (s.runWrite i k e) := by
    unfold runWrite
    rw [sessAt_setSess, hx]
    exact memWrite_setSess s i x _ _ _
  have hrow : (s.setSess i x).sessRow i k = s.sessRow i k := by
    unfold sessRow
    rw [sessAt_setSess, hx]
  refine ⟨h.ss.trans hrun.ss, h.hbm.trans hrun.hbm, h.state.trans (by rw [hrun.acc]; rfl), h.pk.trans ?_⟩
  rw [hrow, sessAt_setSess, hx]

theorem sessAt_writePieces (s : State) {i : Nat} (hi : i < 64) (k : Nat) (q : Word) (e : RowPiece) :
    (s.writePieces i k q [e]).sessAt i = (s.sessAt i).setSlot k { (s.sessAt i).slotAt k with
      pk := (q.toNat, e.row * s.sessRow i k + e.offset, e.row * s.sessRow i k + e.offset + e.data.length) :: ((s.sessAt i).slotAt k).pk } := by
  obtain ⟨-, -, hsess, -⟩ := s.writeAt_shows hi (((s.sessAt i).slotAt k).cfg.tx i)
    (((s.sessAt i).slotAt k).cfg.lineAddr k e.row + e.offset) e.data
  refine (sessAt_setSess _ _ _).trans ?_
  unfold writeLine
  dsimp only [List.foldl_cons, List.foldl_nil]
  rw [hsess]
  rfl

theorem runWritten_writePieces (s : State) {i : Nat} (hi : i < 64) (k : Nat) (q : Word) (e : RowPiece) :
    s.RunWritten (s.writePieces i k q [e]) i k q e := by
  obtain ⟨hss, hhbm, -, hstate⟩ := s.writeAt_shows hi (((s.sessAt i).slotAt k).cfg.tx i)
    (((s.sessAt i).slotAt k).cfg.lineAddr k e.row + e.offset) e.data
  exact ⟨hss, hhbm, hstate, by rw [s.sessAt_writePieces hi, Sess.slotAt_setSlot]⟩

/-- The next packet of the frame in slot k, one run inside the raster and no marker: the run is written and the number taken. -/
theorem ingestPacket_next {s : State} {i k : Nat} (hi : i < 64) {p : RtpPacket} {e : RowPiece} {v : Slot} (hv : v = (s.sessAt i).slotAt k)
    (hen : (sessCfg s.rd i).en = true) (hkind : (sessCfg s.rd i).kind = 0) (htop : (s.sessAt i).top = some (p.seq - 1))
    (hts : (s.sessAt i).lastTs = some p.ts) (hslot : (s.sessAt i).slotOf p.ts = some k) (hstate : s.sessState i = 2) (hp : p.pieces = [e])
    (hmark : p.marker = false) (hin : pieceOutside v.w v.h (v.cfg.rowBytes v.w) e = false) :
    s.RunWritten (s.ingestPacket i false p) i k p.seq e ∧ ((s.ingestPacket i false p).sessAt i).top = some p.seq := by
  subst hv
  have hx : (s.setSess i ((s.sessAt i).arrivedAt s.now)).sessAt i = (s.sessAt i).arrivedAt s.now := sessAt_setSess _ _ _
  have hwrite : s.ingestPacket i false p = ((s.setSess i ((s.sessAt i).arrivedAt s.now)).setSess i
      (((s.sessAt i).arrivedAt s.now).takeNext p.seq)).writePieces i k p.seq [e] := by
    rw [ingestPacket_video hen hkind (Sess.fresh_next htop),
      videoPacket_next hx hen (ne_of_eq_of_ne hstate (by decide)) htop hts hslot hmark ?_, hp]
    rw [hp, List.any_cons, List.any_nil, Bool.or_false]
    exact hin
  rw [hwrite]
  refine ⟨((runWritten_writePieces _ hi k p.seq e).of_setSess ?_).of_setSess rfl, ?_⟩
  · rw [hx]
    rfl
  · rw [sessAt_writePieces _ hi, sessAt_setSess]
    rfl

end State
end Sys2Proof.Machine

namespace Sys2Proof.Machine

/-! ### Lines, rows and frames (R205) -/

/-- Slot v once line l has completed its leaf row. -/
def Slot.rowDone (v : Slot) (l : Nat) : Slot := { v with lines := l :: v.lines, rows := l / 16 :: v.rows }

namespace State

/-- The frame being written is looked at first. -/
theorem lineArrival_writing {s : State} {i k l : Nat} (hslot : (s.sessAt i).slot = some k) (hcov : s.lineCovered i k l = true)
    (hnew : ((s.sessAt i).slotAt k).lines.contains l = false) : s.lineArrival i l = s.lineDone i k l := by
  unfold lineArrival
  dsimp only
  rw [hslot, Option.toList_some, List.singleton_append, List.find?_cons_of_pos (by rw [hcov, hnew]; rfl)]

theorem whole_of_lineCovered {s : State} {i k l : Nat} (h : s.lineCovered i k l = true) : ((s.sessAt i).slotAt k).whole = false := by
  unfold lineCovered at h
  simp only [Bool.and_eq_true, Bool.not_eq_true'] at h
  exact h.1.2

/-- The token for slot v of session i that is posted now. -/
def tokenNow (s : State) (k : Nat) (v : Slot) (complete : Bool) (row : Nat) : Token :=
  ⟨k, v.frame, complete, row, v.ts, v.start, s.now, v.damaged, v.changed, v.w, v.h⟩

theorem postToken_posts {s : State} {i k : Nat} (hst : s.sessState i ≠ 5) (hk : k < 16) (complete : Bool) (row : Nat) :
    s.postToken i k complete row = s.setSess i { s.sessAt i with
      tokens := s.tokenNow k ((s.sessAt i).slotAt k) complete row :: (s.sessAt i).tokens } := by
  unfold postToken
  exact if_neg (by simp [hst, oldRing, hk])

/-- The session once line l has completed its row in slot k and the row is counted. -/
def rowCounted (s : State) (i k l : Nat) : State :=
  (s.setSess i ((s.sessAt i).setSlot k (((s.sessAt i).slotAt k).rowDone l))).setF (Reg.ingSessSts i) 20 11
    (((s.sessAt i).slotAt k).rows.length + 1)

theorem sessAt_rowCounted (s : State) (i k l : Nat) :
    (s.rowCounted i k l).sessAt i = (s.sessAt i).setSlot k (((s.sessAt i).slotAt k).rowDone l) := sessAt_setSess _ _ _

theorem sessState_rowCounted (s : State) (i k l : Nat) : (s.rowCounted i k l).sessState i = s.sessState i :=
  getF_setF_apart (s.setSess i _) _ _ _ _ _ _ (by decide) (.inr (by decide))

section Row
variable {s : State} {i k l : Nat} {v : Slot} (hv : v = (s.sessAt i).slotAt k) (hst : s.sessState i ≠ 5)
include hv hst

/-- The last line of a leaf row posts the row's token; the last line of the frame completes it as well. -/
theorem lineDone_row (hslot : (s.sessAt i).slot = some k) (hw : v.whole = false) (hnew : v.lines.contains l = false)
    (hrow : ∀ j, j < 16 → 16 * (l / 16) + j = l ∨ v.h ≤ 16 * (l / 16) + j ∨ v.lines.contains (16 * (l / 16) + j) = true) :
    s.lineDone i k l = if v.h ≤ v.lines.length + 1 then ((s.rowCounted i k l).postToken i k false (l / 16)).completeFrame i k
      else (s.rowCounted i k l).postToken i k false (l / 16) := by
  subst hv
  have hall : ((List.range 16).map (fun j => 16 * (l / 16) + j)).all (fun j =>
      decide (((s.sessAt i).slotAt k).h ≤ j) || (l :: ((s.sessAt i).slotAt k).lines).contains j) = true := by
    simp only [List.all_map, List.all_eq_true, List.mem_range, Function.comp_apply, List.contains_cons, Bool.or_eq_true, decide_eq_true_eq,
      beq_iff_eq]
    intro j hj
    have := hrow j hj
    tauto
  unfold lineDone
  dsimp only
  rw [if_neg (by rw [hnew, hw]; decide), hall]
  simp only [if_true, Bool.true_and, hslot, bne_iff_ne, ne_eq, hst, not_false_eq_true, decide_eq_true_eq, List.length_cons]
  rfl

variable (hk : k < 16)
include hk

/-- The token of the row joins those posted. -/
theorem rowToken_posts : (s.rowCounted i k l).postToken i k false (l / 16) = (s.rowCounted i k l).setSess i
    { (s.sessAt i).setSlot k (v.rowDone l) with tokens := s.tokenNow k v false (l / 16) :: (s.sessAt i).tokens } := by
  subst hv
  rw [postToken_posts ((s.sessState_rowCounted i k l).trans_ne hst) hk, sessAt_rowCounted, Sess.slotAt_setSlot]
  rfl

end Row

/-- A damaged frame counts as one. -/
def countDamaged (s : State) (i : Nat) (damaged : Bool) : State := if damaged then s.addSat (Reg.ingSessCnt i) 15 8 1 else s

theorem sessAt_countDamaged (s : State) (i : Nat) (damaged : Bool) (j : Nat) : (s.countDamaged i damaged).sessAt j = s.sessAt j := by
  unfold countDamaged
  split <;> rfl

theorem rd_countDamaged (s : State) (i : Nat) (damaged : Bool) : (s.countDamaged i damaged).rd (Reg.ingSessSts i) = s.rd (Reg.ingSessSts i) := by
  unfold countDamaged
  split
  · exact s.rd_setF_ne _ _ _ _ _ (by unfold Reg.ingSessSts Reg.ingSessCnt; omega)
  · rfl

/-- Slot v holding the session's n-th frame, whole. -/
def wholeNow (s : State) (v : Slot) (n : Nat) : Slot := { v with whole := true, doneAt := s.now, frame := n }

/-- The session once the frame in slot k is whole, its n-th. -/
def frameCounted (s : State) (i k n : Nat) : State :=
  (((s.setSess i { (s.sessAt i).setSlot k (s.wholeNow ((s.sessAt i).slotAt k) n) with slot := none }).setF (Reg.ingSessSts i) 10 0 n).countDamaged i
    ((s.sessAt i).slotAt k).damaged).setF (Reg.ingSessSts i) 24 21 k

section Frame
variable {s : State} {i k n : Nat} {v : Slot}

theorem sessAt_frameCounted : (s.frameCounted i k n).sessAt i =
    { (s.sessAt i).setSlot k (s.wholeNow ((s.sessAt i).slotAt k) n) with slot := none } :=
  (sessAt_countDamaged _ _ _ _).trans (sessAt_setSess _ _ _)

theorem sessState_frameCounted : (s.frameCounted i k n).sessState i = s.sessState i := by
  rw [frameCounted, sessState, getF_setF_apart _ _ _ _ _ _ _ (by decide) (.inr (by decide)), getF_of_rd (rd_countDamaged _ _ _),
    getF_setF_apart _ _ _ _ _ _ _ (by decide) (.inr (by decide))]
  rfl

theorem frames_frameCounted (hn : n < 2 ^ 11) : (s.frameCounted i k n).getF (Reg.ingSessSts i) 10 0 = n := by
  rw [frameCounted, getF_setF_apart _ _ _ _ _ _ _ (by decide) (.inl (by decide)), getF_of_rd (rd_countDamaged _ _ _),
    getF_setF_same _ _ _ _ _ (by decide) hn]

theorem complete_frameCounted (hk : k < 16) : (s.frameCounted i k n).getF (Reg.ingSessSts i) 24 21 = k :=
  getF_setF_same _ _ _ _ _ (by decide) hk

/-- The token of the frame, whose number the slot now holds. -/
theorem tokenNow_frameCounted (hv : v = (s.sessAt i).slotAt k) : (s.frameCounted i k n).tokenNow k
    (Sess.slotAt { (s.sessAt i).setSlot k (s.wholeNow ((s.sessAt i).slotAt k) n) with slot := none } k) true 0 =
      s.tokenNow k { v with frame := n } true 0 := by
  have hnow : (s.frameCounted i k n).now = s.now := by
    unfold frameCounted countDamaged
    split <;> rfl
  have hslot : Sess.slotAt { (s.sessAt i).setSlot k (s.wholeNow ((s.sessAt i).slotAt k) n) with slot := none } k =
      s.wholeNow ((s.sessAt i).slotAt k) n := Sess.slotAt_setSlot _ _ _
  rw [hslot, tokenNow, hnow, hv]
  rfl

variable (hv : v = (s.sessAt i).slotAt k) (hst : s.sessState i ≠ 5) (hk : k < 16) (hslot : (s.sessAt i).slot = some k) (hw : v.whole = false)
  (hn : n = (s.getF (Reg.ingSessSts i) 10 0 + 1) % 2 ^ 11)
include hv hst hk hslot hw hn

/-- The token of the frame, and with fc_evt the session's event. -/
theorem completeFrame_posts : s.completeFrame i k =
    if v.cfg.fcEvt then ((s.frameCounted i k n).postToken i k true 0).raiseEvt (Reg.ingSessEvt i)
    else (s.frameCounted i k n).postToken i k true 0 := by
  subst hv hn
  have hold : oldRing k = false := by simp [oldRing, hk]
  unfold completeFrame
  dsimp only
  rw [if_neg (by simp [hst, hw]), hold, hslot]
  simp only [Bool.false_eq_true, if_false, if_true]
  rfl

/-- What a completed frame shows: its token first among those posted, no frame in progress, the frame counted and its slot named. -/
theorem completeFrame_shows :
    ((s.completeFrame i k).sessAt i).tokens.head? = some (s.tokenNow k { v with frame := n } true 0) ∧
      ((s.completeFrame i k).sessAt i).slot = none ∧
      (s.completeFrame i k).getF (Reg.ingSessSts i) 10 0 = n ∧ (s.completeFrame i k).getF (Reg.ingSessSts i) 24 21 = k := by
  have hn' : n < 2 ^ 11 := hn ▸ Nat.mod_lt _ (by decide)
  have hpost := postToken_posts (s := s.frameCounted i k n) (sessState_frameCounted.trans_ne hst) hk true 0
  rw [sessAt_frameCounted] at hpost
  have hshow (t : State) (hsess : t.sess = ((s.frameCounted i k n).postToken i k true 0).sess)
      (hrd : t.rd (Reg.ingSessSts i) = ((s.frameCounted i k n).postToken i k true 0).rd (Reg.ingSessSts i)) :
      (t.sessAt i).tokens.head? = some (s.tokenNow k { v with frame := n } true 0) ∧ (t.sessAt i).slot = none ∧
        t.getF (Reg.ingSessSts i) 10 0 = n ∧ t.getF (Reg.ingSessSts i) 24 21 = k := by
    rw [sessAt_of_sess hsess, getF_of_rd hrd, getF_of_rd hrd, hpost, sessAt_setSess]
    exact ⟨congrArg some (tokenNow_frameCounted hv), rfl, frames_frameCounted hn', complete_frameCounted hk⟩
  rw [completeFrame_posts hv hst hk hslot hw hn]
  split
  · exact hshow _ (hostStep_sess (hostStep_raiseEvt _ _)) (rd_raiseEvt _ _ _ (ingSts_ge i))
  · exact hshow _ rfl rfl

end Frame

/-! #### The line that completes a row -/

section Arrival
variable {s : State} {i k l : Nat} {v : Slot} (hv : v = (s.sessAt i).slotAt k) (hst : s.sessState i ≠ 5) (hk : k < 16)
  (hslot : (s.sessAt i).slot = some k) (hcov : s.lineCovered i k l = true) (hnew : v.lines.contains l = false)
  (hrow : ∀ j, j < 16 → 16 * (l / 16) + j = l ∨ v.h ≤ 16 * (l / 16) + j ∨ v.lines.contains (16 * (l / 16) + j) = true)
include hv hst hk hslot hcov hnew hrow

theorem lineArrival_row (hmore : v.lines.length + 1 < v.h) :
    ((s.lineArrival i l).sessAt i).tokens = s.tokenNow k v false (l / 16) :: (s.sessAt i).tokens ∧
      (s.lineArrival i l).getF (Reg.ingSessSts i) 20 11 = (v.rows.length + 1) % 2 ^ 10 := by
  have hw : v.whole = false := hv ▸ whole_of_lineCovered hcov
  rw [lineArrival_writing hslot hcov (hv ▸ hnew), lineDone_row hv hst hslot hw hnew hrow, if_neg (Nat.not_le.mpr hmore), rowToken_posts hv hst hk,
    sessAt_setSess, hv]
  exact ⟨rfl, (congrArg (fun w => fld w 20 11) (rd_wr_same _ _ _)).trans (fld_putFld_same _ _ _ _ (by decide))⟩

theorem lineArrival_frame (hlast : v.h ≤ v.lines.length + 1) {n : Nat} (hn : n = (s.getF (Reg.ingSessSts i) 10 0 + 1) % 2 ^ 11) :
    ((s.lineArrival i l).sessAt i).tokens.head? = some (s.tokenNow k { v with frame := n } true 0) ∧
      ((s.lineArrival i l).sessAt i).slot = none ∧
      (s.lineArrival i l).getF (Reg.ingSessSts i) 10 0 = n ∧ (s.lineArrival i l).getF (Reg.ingSessSts i) 24 21 = k := by
  have hw : v.whole = false := hv ▸ whole_of_lineCovered hcov
  have hcount : (s.rowCounted i k l).getF (Reg.ingSessSts i) 10 0 = s.getF (Reg.ingSessSts i) 10 0 :=
    getF_setF_apart (s.setSess i _) _ _ _ _ _ _ (by decide) (.inl (by decide))
  rw [lineArrival_writing hslot hcov (hv ▸ hnew), lineDone_row hv hst hslot hw hnew hrow, if_pos hlast, rowToken_posts hv hst hk]
  refine completeFrame_shows (v := v.rowDone l) ?_ ((s.sessState_rowCounted i k l).trans_ne hst) hk ?_ hw (hn.trans ?_)
  · rw [sessAt_setSess]
    exact (Sess.slotAt_setSlot _ _ _).symm
  · rw [sessAt_setSess]
    exact hslot
  · exact congrArg (fun m => (m + 1) % 2 ^ 11) hcount.symm

end Arrival
end State
end Sys2Proof.Machine

namespace Sys2Proof.Machine

/-! ### Loss (R206, R208) -/

namespace State

/-- t is s with at most the sessions' records and registers changed: session i waits for the same packets and has lost as many, and what waits in
its order is what waited there or a lost packet. -/
structure LossKept (i : Nat) (s t : State) : Prop where
  rest : { t with sess := s.sess, reg := s.reg } = s
  missing : (t.sessAt i).missing = (s.sessAt i).missing
  held : ∀ h ∈ (t.sessAt i).held, h ∈ (s.sessAt i).held ∨ h.2 = none
  lost : t.getF (Reg.ingSessCnt i) 31 16 = s.getF (Reg.ingSessCnt i) 31 16

namespace LossKept
variable {i : Nat}

theorem refl (s : State) : LossKept i s s := ⟨rfl, rfl, fun _ h => .inl h, rfl⟩

theorem trans {s t u : State} (h1 : LossKept i s t) (h2 : LossKept i t u) : LossKept i s u where
  rest := (congrArg (fun t : State => { t with sess := s.sess, reg := s.reg }) h2.rest).trans h1.rest
  missing := h2.missing.trans h1.missing
  held h hu := (h2.held h hu).elim (h1.held h) .inr
  lost := h2.lost.trans h1.lost

/-- Either branch may be taken. -/
theorem ite {s t u : State} {c : Prop} [Decidable c] (ht : LossKept i s t) (hu : LossKept i s u) : LossKept i s (if c then t else u) := by
  split
  · exact ht
  · exact hu

theorem foldl {α : Type} {f : State → α → State} {l : List α} (hf : ∀ (s : State), ∀ a ∈ l, LossKept i s (f s a)) (s : State) :
    LossKept i s (l.foldl f s) := by
  induction l generalizing s with
  | nil => exact refl s
  | cons a l ih => exact (hf s a (by simp)).trans (ih (fun s b hb => hf s b (by simp [hb])) _)

theorem setSess (s : State) (x : Sess) (hm : x.missing = (s.sessAt i).missing) (hh : ∀ h ∈ x.held, h ∈ (s.sessAt i).held ∨ h.2 = none) :
    LossKept i s (s.setSess i x) :=
  ⟨rfl, by rw [sessAt_setSess, hm], by rw [sessAt_setSess]; exact hh, rfl⟩

theorem setSts (s : State) (hi lo v : Nat) : LossKept i s (s.setF (Reg.ingSessSts i) hi lo v) :=
  ⟨rfl, rfl, fun _ h => .inl h, getF_of_rd (s.rd_setF_ne _ _ _ _ _ (by unfold Reg.ingSessSts Reg.ingSessCnt; omega)) _ _⟩

theorem countDamaged (s : State) : LossKept i s (s.addSat (Reg.ingSessCnt i) 15 8 1) :=
  ⟨rfl, rfl, fun _ h => .inl h, s.getF_setF_apart _ _ _ _ _ _ (by decide) (.inr (by decide))⟩

theorem raiseEvt (s : State) (e : Nat) : LossKept i s (s.raiseEvt e) := by
  have hsess := sessAt_of_sess (hostStep_sess (s.hostStep_raiseEvt e)) i
  exact ⟨congrArg (fun t : State => { t with sess := s.sess }) (s.raiseEvt_rest e), congrArg Sess.missing hsess,
    fun h hh => .inl (hsess ▸ hh), getF_of_rd (rd_raiseEvt _ _ _ (by unfold Reg.ingSessCnt; omega)) _ _⟩

theorem postToken (s : State) (k : Nat) (c : Bool) (row : Nat) : LossKept i s (s.postToken i k c row) :=
  .ite (refl s) (setSess s _ rfl fun _ h => .inl h)

theorem completeFrame (s : State) (k : Nat) : LossKept i s (s.completeFrame i k) := by
  have hframe (x : Sess) (hm : x.missing = (s.sessAt i).missing) (hh : x.held = (s.sessAt i).held) : LossKept i s (s.setSess i x) :=
    setSess s x hm fun _ h => .inl (hh ▸ h)
  unfold State.completeFrame
  refine .ite (refl s) ((hframe _ ?_ ?_).trans ((setSts _ _ _ _).trans (.trans (.ite (countDamaged _) (refl _))
    (.ite (refl _) (((setSts _ _ _ _).trans (postToken _ _ _ _)).trans (.ite (raiseEvt _ _) (refl _)))))))
  all_goals
    dsimp only
    split <;> rfl

theorem ancSettle (s : State) : LossKept i s (s.ancSettle i) := foldl (fun s k _ => completeFrame s k) s

end LossKept

theorem mem_heldInsert {e h : Word × Option RtpPacket} {l : List (Word × Option RtpPacket)} (hh : h ∈ heldInsert e l) : h = e ∨ h ∈ l := by
  induction l with
  | nil => simpa [heldInsert] using hh
  | cons a l ih =>
    unfold heldInsert at hh
    split at hh
    · simpa using hh
    · rcases List.mem_cons.mp hh with rfl | hmem
      · exact .inr (by simp)
      · exact (ih hmem).imp id fun hl => by simp [hl]

/-- The session once packet q is no longer waited for and counted as lost. -/
def lossCounted (s : State) (i : Nat) (q : Word) : State :=
  (s.setSess i { s.sessAt i with missing := (s.sessAt i).missing.filter (fun m => m.1 != q) }).addSat (Reg.ingSessCnt i) 31 16 1

theorem sessAt_lossCounted (s : State) (i : Nat) (q : Word) :
    (s.lossCounted i q).sessAt i = { s.sessAt i with missing := (s.sessAt i).missing.filter (fun m => m.1 != q) } := sessAt_setSess _ _ _

/-- With no frame of an ST 2110-20 session to conceal in, a loss changes sessions and registers alone. -/
theorem declareLost_keeps {s : State} {i : Nat} (q : Word) (h : (sessCfg s.rd i).kind ≠ 0 ∨ (s.sessAt i).slots = []) :
    LossKept i (s.lossCounted i q) (s.declareLost i q) := by
  unfold declareLost
  dsimp only
  split
  case isTrue hvideo =>
    have hnone : (s.sessAt i).slots.map Prod.fst = [] := congrArg (List.map Prod.fst) (h.resolve_left (not_not_intro hvideo))
    rw [hnone]
    exact .refl _
  case isFalse =>
    refine .ite ?anc (.ite ?stream (.refl _))
    case anc =>
      refine LossKept.trans (.setSess (s.lossCounted i q) _ ?_ fun _ h => .inl ?_) (.ancSettle _)
      · rfl
      · exact h
    case stream =>
      refine .setSess (s.lossCounted i q) _ ?_ fun h hh => (mem_heldInsert hh).elim (fun he => .inr (congrArg Prod.snd he)) .inl
      rfl

/-- A lost packet whose turn has come adds nothing to the stream. -/
theorem passOn_keeps {s : State} {i : Nat} (h : ∀ h ∈ (s.sessAt i).held, h.2 = none) : LossKept i s (s.passOn i) := by
  unfold passOn
  dsimp only
  refine LossKept.trans (.setSess s _ ?_ fun e he => .inl (List.mem_of_mem_filter he)) (.foldl (fun t e he => ?_) _)
  · rfl
  · rw [h e (List.mem_of_mem_filter he)]
    exact .setSess t (t.sessAt i).loseHere rfl fun e he => .inl he

/-- With nothing missing before it, a lost packet breaks the unit being gathered. -/
theorem broken_passOn {s : State} {i : Nat} {q : Word} (hm : (s.sessAt i).missing = []) (hh : (s.sessAt i).held = [(q, none)]) :
    ((s.passOn i).sessAt i).broken = true := by
  unfold passOn
  simp only [hm, hh, List.any_nil, Bool.not_false, List.filter_cons_of_pos, List.filter_nil, List.foldl_cons, List.foldl_nil, sessAt_setSess]
  rfl

theorem declareLost_stream {s : State} {i : Nat} (q : Word) (h : (sessCfg s.rd i).kind = 4 ∨ (sessCfg s.rd i).kind = 5) :
    s.declareLost i q = (s.lossCounted i q).setSess i { (s.lossCounted i q).sessAt i with
      held := heldInsert (q, none) ((s.lossCounted i q).sessAt i).held } := by
  unfold declareLost
  dsimp only
  rw [if_neg (by omega), if_neg (by omega), if_pos h]
  rfl

/-- What the loss of packet q leaves behind, in a session with nothing waiting in its order. -/
theorem loss_shows {s : State} {i : Nat} (q : Word) (hkind : (sessCfg s.rd i).kind ≠ 0 ∨ (s.sessAt i).slots = [])
    (hheld : (s.sessAt i).held = []) : LossKept i (s.lossCounted i q) ((s.declareLost i q).passOn i) := by
  have hlost := declareLost_keeps q hkind
  refine hlost.trans (passOn_keeps fun e he => (hlost.held e he).resolve_left ?_)
  rw [sessAt_lossCounted, hheld]
  exact List.not_mem_nil

theorem loss_breaks {s : State} {i w : Nat} {q : Word} (hkind : (sessCfg s.rd i).kind = 4 ∨ (sessCfg s.rd i).kind = 5)
    (hheld : (s.sessAt i).held = []) (hmiss : (s.sessAt i).missing = [(q, w)]) :
    (((s.declareLost i q).passOn i).sessAt i).broken = true := by
  rw [declareLost_stream q hkind]
  refine broken_passOn (q := q) ?_ ?_
  · rw [sessAt_setSess, sessAt_lossCounted, hmiss]
    simp
  · rw [sessAt_setSess, sessAt_lossCounted]
    exact congrArg (heldInsert (q, none)) hheld

/-! ### Silence (R209) -/

theorem slot_abandon (s : State) (i : Nat) : ((s.abandon i).sessAt i).slot = none := by
  unfold abandon
  dsimp only
  split
  case h_1 h => exact h
  case h_2 => rw [sessAt_setSess]

/-- A session that loses its source: LOST, no frame in progress, the order of its source forgotten. -/
theorem sessLost_shows (s : State) (i : Nat) :
    (s.sessLost i).sessState i = 3 ∧ ((s.sessLost i).sessAt i).slot = none ∧ ((s.sessLost i).sessAt i).top = none ∧
      ((s.sessLost i).sessAt i).lastTs = none ∧ ∀ p, p ∈ ((s.sessLost i).sessAt i).slots → p.2.whole = true := by
  unfold sessLost
  dsimp only
  refine ⟨sessState_setSessState _ i (by decide), ?_⟩
  rw [sessAt_setSessState, sessAt_setSess]
  exact ⟨s.slot_abandon i, rfl, rfl, fun p hp => (List.mem_filter.mp hp).2⟩

/-! ### SDI (R208) -/

/-- The counts of a session are none of the words its set is read from. -/
theorem sessCfg_setCnt (s : State) (i hi lo v : Nat) : sessCfg (s.setF (Reg.ingSessCnt i) hi lo v).rd i = sessCfg s.rd i := by
  have hrd (off : Nat) (h : off ≠ Reg.ingSessCnt i) : (s.setF (Reg.ingSessCnt i) hi lo v).rd off = s.rd off := s.rd_setF_ne _ _ _ _ _ h
  unfold sessCfg
  rw [hrd (Reg.ingSessCfg i), hrd (Reg.ingSessSize i), hrd (Reg.ingSessFmt i), hrd (Reg.ingSessPitch i), hrd (Reg.ingSessTime i),
    hrd (Reg.ingSessBufHi i), hrd (Reg.ingSessBufLo i)]
  all_goals
    unfold Reg.ingSessCnt
    simp only [Reg.ingSessCfg, Reg.ingSessSize, Reg.ingSessFmt, Reg.ingSessPitch, Reg.ingSessTime, Reg.ingSessBufHi, Reg.ingSessBufLo]
    omega

/-- Session i once an SDI line has arrived: the raster measured, the audio it carried in its groups. -/
def sdiArrived (s : State) (i : Nat) (l : SdiLine) : State :=
  (((s.setSess i ((s.sessAt i).arrivedAt s.now)).wr (Reg.ingSessRx i)
    (BitVec.ofNat 32 (l.width.toNat * 0x10000 + l.height.toNat))).feedStatus 3 i none l.nonPcm).feedGroups 3 i none 0 l.audio

/-- The same with a CRC error counted. -/
def sdiChecked (s : State) (i : Nat) (l : SdiLine) : State :=
  if l.crcOk then s.sdiArrived i l else (s.sdiArrived i l).addSat (Reg.ingSessCnt i) 31 16 1

/-- A line of the frame being written, in its raster, is written as received and is complete. -/
theorem sdiLine_writes {s : State} {i k : Nat} {l : SdiLine} (hen : (sessCfg s.rd i).en = true) (hkind : (sessCfg s.rd i).kind = 3)
    (hline : l.line ≠ 0) (hstate : (s.sdiArrived i l).sessState i = 2) (hslot : ((s.sdiArrived i l).sessAt i).slot = some k)
    (hraster : (s.sdiArrived i l).sessRaster i = (l.width.toNat, l.height.toNat)) (hin : l.line < l.height.toNat) :
    s.sdiLine i l = ((s.sdiChecked i l).writeLine i k l.line 0 (l.data.take ((s.sdiArrived i l).sessRow i k))).lineDone i k l.line := by
  have hchecked : (s.sdiChecked i l).sessAt i = (s.sdiArrived i l).sessAt i ∧ (s.sdiChecked i l).sessState i = 2 ∧
      (s.sdiChecked i l).sessRaster i = (l.width.toNat, l.height.toNat) := by
    unfold sdiChecked
    split
    · exact ⟨rfl, hstate, hraster⟩
    · refine ⟨rfl, (getF_of_rd (rd_setF_ne _ _ _ _ _ _ (by unfold Reg.ingSessSts Reg.ingSessCnt; omega)) _ _).trans hstate, ?_⟩
      unfold sessRaster addSat
      rw [sessCfg_setCnt]
      exact hraster
  obtain ⟨hsess, hstate', hraster'⟩ := hchecked
  have hrow : (s.sdiChecked i l).sessRow i k = (s.sdiArrived i l).sessRow i k := by
    unfold sessRow
    rw [hsess]
  unfold sdiLine
  extract_lets c x s0 s1 s2 r differs
  rw [if_neg (by simp [c, hen, hkind])]
  have hs1 : s1 = s.sdiChecked i l := rfl
  have hs2 : s2 = s.sdiChecked i l := (if_neg hline).trans hs1
  have hr : r = (l.width.toNat, l.height.toNat) := (congrArg (fun t : State => t.sessRaster i) hs2).trans hraster'
  have hsame : differs = false := by simp [differs, hr]
  rw [hs2, hsame, hr, if_neg (by simp [hstate']), if_neg (by simp), hsess, hslot, ← hrow]
  exact if_pos ⟨hin, by decide⟩

end State
end Sys2Proof.Machine

namespace Sys2Proof.Machine

/-! ### The statement about receive sessions -/

/-- A packet waited for is lost once the skew window has passed. -/
theorem exec_packetLossDeclare_due {i : Fin 64} {s : State} {q : Word} {w : Nat}
    (hwait : (s.sessAt i).missing.find? (fun m => m.1 == q) = some (q, w)) (hdue : w + (sessCfg s.rd i).skew * 10000 ≤ s.now) :
    exec (.packetLossDeclare i q) s = .next ((s.declareLost i q).passOn i) := by
  refine congrArg Host.Outcome.next ?_
  rw [hwait]
  exact if_pos hdue

theorem exec_packetLossDeclare_early {i : Fin 64} {s : State} {q : Word} {w : Nat}
    (hwait : (s.sessAt i).missing.find? (fun m => m.1 == q) = some (q, w)) (hearly : s.now < w + (sessCfg s.rd i).skew * 10000) :
    exec (.packetLossDeclare i q) s = .next s := by
  refine congrArg Host.Outcome.next ?_
  rw [hwait]
  exact if_neg (Nat.not_le.mpr hearly)

/-- Settles O41: a packet, a line, a loss, silence and an SDI line, each from what it shows of the session. -/
theorem receivedDataIsWritten : Obligations.ReceivedDataIsWritten := by
  unfold Obligations.ReceivedDataIsWritten
  rintro i s x c rfl rfl
  refine ⟨fun legB p hoff => congrArg Host.Outcome.next (State.ingestPacket_off p hoff), fun legB p hen hleg hcopy =>
    congrArg Host.Outcome.next (State.ingestPacket_copy hen hleg hcopy), ?packet, ?line, ?loss, ?silence, ?sdi⟩
  case packet =>
    rintro p e k r hen hkind htop hts hslot hstate hp hmark hin rfl
    obtain ⟨hwritten, htop'⟩ := State.ingestPacket_next i.isLt rfl hen hkind htop hts hslot hstate hp hmark hin
    refine ⟨_, rfl, hwritten.ss, hwritten.hbm, htop', hwritten.state.trans ?_, hwritten.pk⟩
    rw [hstate]
    rfl
  case line =>
    rintro line k v l rfl hslot hk hv hcov hnew hst hrow
    refine ⟨fun hmore => ⟨_, rfl, ?_⟩, fun hlast n hn => ⟨_, rfl, ?_⟩⟩
    · exact State.lineArrival_row hv hst hk hslot hcov hnew hrow hmore
    · exact State.lineArrival_frame hv hst hk hslot hcov hnew hrow hlast hn
  case loss =>
    refine fun q w hwait => ⟨exec_packetLossDeclare_early hwait, fun hdue hkind hheld => ⟨_, exec_packetLossDeclare_due hwait hdue, ?_⟩⟩
    have hkept := State.loss_shows q hkind hheld
    refine ⟨hkept.missing.trans (congrArg Sess.missing (s.sessAt_lossCounted i q)), hkept.lost.trans (State.getF_addSat _ _ _ _ _ (by decide)),
      congrArg (fun t : State => { t with sess := s.sess, reg := s.reg }) hkept.rest, fun hstream hmiss => State.loss_breaks hstream hheld hmiss⟩
  case silence =>
    refine fun hen hst => ⟨fun hdue => ⟨_, congrArg Host.Outcome.next (if_pos ?_), s.sessLost_shows i⟩,
      fun hearly => congrArg Host.Outcome.next (if_neg ?_), fun hkind => congrArg Host.Outcome.next (if_pos ?_)⟩
    · simpa [hen, hdue, or_assoc] using hst
    · simp [Nat.not_le.mpr hearly]
    · simpa [hen, hkind, or_assoc] using hst
  case sdi =>
    intro l k s0 hen hkind hline hs0 hstate hslot hraster hin
    obtain rfl : s0 = s.sdiArrived i l := hs0
    exact congrArg Host.Outcome.next (State.sdiLine_writes hen hkind hline hstate hslot hraster hin)

end Sys2Proof.Machine

namespace Sys2Proof.Machine

/-! ### What memory accesses leave alone

A read or write of memory changes the stores, the free counter and, when it is refused or meets an error, what a host step changes. A relation
between states that allows these two allows every access: the walk through the memories is made once, for all such relations. -/

/-- R holds between a state and what memory accesses and the events they raise make of it. -/
structure MemoryClosed (R : State → State → Prop) : Prop where
  refl (s : State) : R s s
  trans {s t u : State} : R s t → R t u → R s u
  events {s t : State} : s.hostStep t → s.UnitsKept t → R s t
  stores (s : State) (ss ssErr hbm hbmErr hbmc free) :
    R s { s with ss := ss, ssErr := ssErr, hbm := hbm, hbmErr := hbmErr, hbmc := hbmc, free := free }

namespace MemoryClosed
variable {R : State → State → Prop} (hR : MemoryClosed R)

/-- Either branch may be taken. -/
theorem ite (_ : MemoryClosed R) {s t u : State} {c : Prop} [Decidable c] (ht : R s t) (hu : R s u) : R s (if c then t else u) := by
  split
  · exact ht
  · exact hu

include hR

theorem foldl {α : Type} {f : State → α → State} (hf : ∀ (s : State) a, R s (f s a)) (l : List α) (s : State) : R s (l.foldl f s) := by
  induction l generalizing s with
  | nil => exact hR.refl s
  | cons a l ih => exact hR.trans (hf s a) (ih _)

/-- A fold that gathers something beside the state. -/
theorem foldl_fst {α β : Type} {f : State × β → α → State × β} (hf : ∀ p a, R p.1 (f p a).1) (l : List α) (p : State × β) :
    R p.1 (l.foldl f p).1 := by
  induction l generalizing p with
  | nil => exact hR.refl p.1
  | cons a l ih => exact hR.trans (hf p a) (ih _)

theorem violation (s : State) (t : Tx) (w : Bool) (addr target : Nat) : R s (s.violation t w addr target) :=
  hR.events (s.hostStep_violation t w addr target) (.violation s t w addr target)

theorem memEvent (s : State) (kind detail : Nat) : R s (s.memEvent kind detail) :=
  hR.events (s.hostStep_memEvent kind detail) (.memEvent s kind detail)

theorem hbmCount (s : State) (i : Nat) : R s (s.hbmCount i) := by
  refine hR.events ?_ (.hbmCount s i)
  unfold State.hbmCount
  dsimp only
  split
  · exact s.hostStep_setF _ _ _ _
  · exact s.hostStep_setF _ _ _ _
  · exact s.hostStep_refl

theorem ssRead (s : State) (t : Tx) (a o n : Nat) : R s (s.ssRead t a o n).1 := by
  have hmend : R s { s with ssErr := s.ssMend false o n } := hR.stores s s.ss _ s.hbm s.hbmErr s.hbmc s.free
  unfold State.ssRead
  split
  · exact hR.violation _ _ _ _ _
  · dsimp only
    split
    · exact hR.trans hmend (hR.memEvent _ _ _)
    · exact hmend

theorem ssWrite (s : State) (t : Tx) (a o : Nat) (bs : List Byte) : R s (s.ssWrite t a o bs).1 := by
  have hstore (m e) : R s { s with ss := m, ssErr := e } := hR.stores s m e s.hbm s.hbmErr s.hbmc s.free
  unfold State.ssWrite
  dsimp only
  split
  · exact hR.violation _ _ _ _ _
  · split
    · exact hR.trans (hstore _ _) (hR.memEvent _ _ _)
    · exact hstore _ _

theorem hbmQueue (s : State) (w c : Bool) (o : Nat) : R s (s.hbmQueue w c o) :=
  hR.stores s s.ss s.ssErr s.hbm s.hbmErr _ s.free

theorem hbmRead (s : State) (t : Tx) (a o n : Nat) : R s (s.hbmRead t a o n).1 := by
  unfold State.hbmRead
  split
  · exact hR.violation _ _ _ _ _
  · have hsecs : R s ((blocks 32 o n).foldl (fun s i => (s.hbmQueue false (whole 32 o n i) (i * 32)).hbmCount i) s) :=
      hR.foldl (fun s i => hR.trans (hR.hbmQueue s _ _ _) (hR.hbmCount _ i)) _ s
    dsimp only
    split
    · exact hR.trans hsecs (hR.memEvent _ _ _)
    · exact hsecs

theorem hbmWrite (s : State) (t : Tx) (a o : Nat) (bs : List Byte) : R s (s.hbmWrite t a o bs).1 := by
  have hstore (t : State) (m e) : R t { t with hbm := m, hbmErr := e } := hR.stores t t.ss t.ssErr m e t.hbmc t.free
  unfold State.hbmWrite
  dsimp only
  split
  · exact hR.violation _ _ _ _ _
  · have hsecs : R s ((blocks 32 o bs.length).foldl
        (fun s i => (if whole 32 o bs.length i then s else s.hbmCount i).hbmQueue true true (i * 32)) s) :=
      hR.foldl (fun s i => hR.trans (hR.ite (hR.refl s) (hR.hbmCount s i)) (hR.hbmQueue _ _ _ _)) _ s
    split
    · exact hR.trans (hR.trans hsecs (hstore _ _ _)) (hR.memEvent _ _ _)
    · exact hR.trans hsecs (hstore _ _ _)

theorem memRead (s : State) (t : Tx) (a n : Nat) : R s (s.memRead t a n).1 := by
  unfold State.memRead
  split
  · exact hR.refl s
  · split
    · split
      · exact hR.refl s
      · exact hR.ssRead _ _ _ _ _
    · exact hR.ssRead _ _ _ _ _
    · exact hR.hbmRead _ _ _ _ _
    · exact hR.refl s
    · exact hR.violation _ _ _ _ _

theorem memWrite (s : State) (t : Tx) (a : Nat) (bs : List Byte) : R s (s.memWrite t a bs).1 := by
  unfold State.memWrite
  split
  · exact hR.refl s
  · split
    · split
      · exact hR.refl s
      · exact hR.ssWrite _ _ _ _ _
    · exact hR.ssWrite _ _ _ _ _
    · exact hR.hbmWrite _ _ _ _ _
    · exact hR.refl s
    · exact hR.violation _ _ _ _ _

theorem free (s : State) (n : Nat) : R s { s with free := n } := hR.stores s s.ss s.ssErr s.hbm s.hbmErr s.hbmc n

theorem readFree (s : State) (t : Tx) (a n : Nat) : R s (s.readFree t a n).1 := by
  unfold State.readFree
  dsimp only
  split
  · exact hR.memRead s t a n
  · exact hR.trans (hR.memRead s t a n) (hR.free _ _)

theorem readPlane (s : State) (b a w h : Nat) : R s (s.readPlane b a w h).1 := hR.readFree _ _ _ _

theorem writeWords (s : State) (t : Tx) (a : Nat) (ws : List Nat) : R s (s.writeWords t a ws) := hR.memWrite _ _ _ _

end MemoryClosed
end Sys2Proof.Machine

namespace Sys2Proof.Machine

/-! ### What work on other units leaves of the coders' records -/

/-- t keeps the folios', channels' and contexts' records of s, the portions waiting and the press registers. -/
structure State.CodersKept (s t : State) : Prop where
  rx : t.rx = s.rx
  ch : t.ch = s.ch
  ctx : t.ctx = s.ctx
  portions : t.portions = s.portions
  regs : ∀ off, 0xA00000 ≤ off → off < 0xB00000 → t.rd off = s.rd off

/-- t keeps the channels' records of s and the rows waiting of every folio. -/
structure State.RowsKept (s t : State) : Prop where
  ch : t.ch = s.ch
  rows : ∀ f, (t.rxAt f).rows = (s.rxAt f).rows

namespace State

@[simp] theorem ctxAt_setCtxSt (s : State) (c : Nat) (x : CtxSt) : (s.setCtxSt c x).ctxAt c = x := by simp [ctxAt, setCtxSt]

theorem ctxAt_of_ctx {s t : State} (h : t.ctx = s.ctx) (c : Nat) : t.ctxAt c = s.ctxAt c := by rw [ctxAt, h, ctxAt]

@[simp] theorem chAt_setCh (s : State) (n : Nat) (x : ChSt) : (s.setCh n x).chAt n = x := by simp [chAt, setCh]

theorem chAt_of_ch {s t : State} (h : t.ch = s.ch) (n : Nat) : t.chAt n = s.chAt n := by rw [chAt, h, chAt]

@[simp] theorem rxAt_setRx (s : State) (f : Nat) (x : RxSt) : (s.setRx f x).rxAt f = x := by simp [rxAt, setRx]

@[simp] theorem portionsAt_setPortions (s : State) (b : Nat) (ps : List Portion) : (s.setPortions b ps).portionsAt b = ps := by
  simp [portionsAt, setPortions]

theorem portionsAt_of_portions {s t : State} (h : t.portions = s.portions) (b : Nat) : t.portionsAt b = s.portionsAt b := by
  rw [portionsAt, h, portionsAt]

theorem ctx_of_hostStep {s t : State} (h : s.hostStep t) : t.ctx = s.ctx := by
  obtain ⟨_, _, _, rfl⟩ := h
  rfl

namespace CodersKept

theorem closed : MemoryClosed CodersKept where
  refl _ := ⟨rfl, rfl, rfl, rfl, fun _ _ _ => rfl⟩
  trans h1 h2 := ⟨h2.rx.trans h1.rx, h2.ch.trans h1.ch, h2.ctx.trans h1.ctx, h2.portions.trans h1.portions,
    fun off lo hi => (h2.regs off lo hi).trans (h1.regs off lo hi)⟩
  events h hu := by
    obtain ⟨_, _, _, rfl⟩ := h
    exact ⟨rfl, rfl, rfl, rfl, fun off lo hi => hu.regs off (by omega) (by omega)⟩
  stores _ _ _ _ _ _ _ := ⟨rfl, rfl, rfl, rfl, fun _ _ _ => rfl⟩

theorem refl (s : State) : s.CodersKept s := closed.refl s

theorem trans {s t u : State} (h1 : s.CodersKept t) (h2 : t.CodersKept u) : s.CodersKept u := closed.trans h1 h2

/-- A register of another unit may be written. -/
theorem setF (s : State) (off hi lo v : Nat) (h : off < 0xA00000 ∨ 0xB00000 ≤ off) : s.CodersKept (s.setF off hi lo v) :=
  ⟨rfl, rfl, rfl, rfl, fun i lo' hi' => s.rd_setF_ne off hi lo v i (by omega)⟩

theorem raiseEvt (s : State) (e : Nat) : s.CodersKept (s.raiseEvt e) := by
  have hrd := fun off (lo : 0xA00000 ≤ off) (_ : off < 0xB00000) => s.rd_raiseEvt e off (by omega)
  obtain ⟨_, _, _, h⟩ := s.hostStep_raiseEvt e
  rw [h] at hrd ⊢
  exact ⟨rfl, rfl, rfl, rfl, hrd⟩

theorem setSess (s : State) (i : Nat) (x : Sess) : s.CodersKept (s.setSess i x) := ⟨rfl, rfl, rfl, rfl, fun _ _ _ => rfl⟩

/-! #### What a session does for a decoding context -/

theorem setSts (s : State) (i hi lo v : Nat) : s.CodersKept (s.setF (Reg.ingSessSts i) hi lo v) :=
  setF _ _ _ _ _ (.inr (by unfold Reg.ingSessSts; omega))

theorem count (s : State) (i hi lo n : Nat) : s.CodersKept (s.addSat (Reg.ingSessCnt i) hi lo n) :=
  setF _ _ _ _ _ (.inr (by unfold Reg.ingSessCnt; omega))

theorem setSessState (s : State) (i st : Nat) : s.CodersKept (s.setSessState i st) := by
  unfold State.setSessState
  exact closed.ite (refl s) ((setSts _ _ _ _ _).trans (raiseEvt _ _))

theorem claimSlot (s : State) (i : Nat) (ts : Word) : s.CodersKept (s.claimSlot i ts) := by
  unfold State.claimSlot
  dsimp only
  split
  · exact (setSess _ _ _).trans (count _ _ _ _ _)
  · exact ((setSess _ _ _).trans (setSts _ _ _ _ _)).trans (setSts _ _ _ _ _)

theorem postToken (s : State) (i k : Nat) (complete : Bool) (row : Nat) : s.CodersKept (s.postToken i k complete row) := by
  unfold State.postToken
  exact closed.ite (refl s) (setSess _ _ _)

theorem completeFrame (s : State) (i k : Nat) : s.CodersKept (s.completeFrame i k) := by
  unfold State.completeFrame
  extract_lets x v n x' s1 s2 s3 s4
  have h3 : s.CodersKept s3 := ((setSess s i _).trans (setSts _ _ _ _ _)).trans (closed.ite (count _ _ _ _ _) (refl _))
  have h4 : s3.CodersKept s4 := (setSts _ _ _ _ _).trans (postToken _ _ _ _ _)
  exact closed.ite (refl s) (closed.ite h3 (h3.trans (closed.ite (h4.trans (raiseEvt _ _)) h4)))

theorem lineDone (s : State) (i k l : Nat) : s.CodersKept (s.lineDone i k l) := by
  unfold State.lineDone
  extract_lets x v v' r rowDone v2 s1 s2
  have h1 : s.CodersKept s1 := setSess _ _ _
  have h2 : s.CodersKept s2 := closed.ite ((closed.ite (h1.trans (setSts _ _ _ _ _)) h1).trans (postToken _ _ _ _ _)) h1
  exact closed.ite (refl s) (closed.ite (h2.trans (completeFrame _ _ _)) h2)

theorem writeAt (s : State) (i : Nat) (t : Tx) (a : Nat) (bs : List Byte) : s.CodersKept (s.writeAt i t a bs) :=
  closed.ite ((closed.memWrite s t a bs).trans (setSessState _ _ _)) (closed.memWrite s t a bs)

theorem decodeLines (s : State) (b c : Nat) (slot : Option Nat) (marked : Bool) (lo hi : Nat) (f : Nat → List Byte) :
    s.CodersKept (s.decodeLines b c slot marked lo hi f) := by
  unfold State.decodeLines
  dsimp only
  split
  · exact refl s
  · exact closed.foldl (fun s _ => ((writeAt s _ _ _ _).trans (setSess _ _ _)).trans (lineDone _ _ _ _)) _ s

end CodersKept

namespace RowsKept

theorem of_coders {s t : State} (h : s.CodersKept t) : s.RowsKept t :=
  ⟨h.ch, fun f => by rw [rxAt, h.rx, rxAt]⟩

theorem of_hostStep {s t : State} (h : s.hostStep t) : s.RowsKept t := by
  obtain ⟨_, _, _, rfl⟩ := h
  exact ⟨rfl, fun _ => rfl⟩

theorem closed : MemoryClosed RowsKept where
  refl _ := ⟨rfl, fun _ => rfl⟩
  trans h1 h2 := ⟨h2.ch.trans h1.ch, fun f => (h2.rows f).trans (h1.rows f)⟩
  events h _ := of_hostStep h
  stores _ _ _ _ _ _ _ := ⟨rfl, fun _ => rfl⟩

theorem refl (s : State) : s.RowsKept s := closed.refl s

theorem trans {s t u : State} (h1 : s.RowsKept t) (h2 : t.RowsKept u) : s.RowsKept u := closed.trans h1 h2

theorem setF (s : State) (off hi lo v : Nat) : s.RowsKept (s.setF off hi lo v) := of_hostStep (s.hostStep_setF _ _ _ _)

theorem setCtxSt (s : State) (c : Nat) (x : CtxSt) : s.RowsKept (s.setCtxSt c x) := ⟨rfl, fun _ => rfl⟩

/-- A folio's record may change beside its rows. -/
theorem setRx (s : State) (f : Nat) (x : RxSt) (h : x.rows = (s.rxAt f).rows) : s.RowsKept (s.setRx f x) := by
  refine ⟨rfl, fun f' => ?_⟩
  by_cases hf : f' = f
  · rw [hf, rxAt_setRx, h]
  · exact congrArg RxSt.rows (SMap.get_set_ne _ _ _ _ _ hf)

/-! #### Completions and requests (R278, R296) -/

theorem complete (s : State) (q : Nat) (bytes : List Byte) (status : Nat) (result : Option Nat) :
    s.RowsKept (s.complete q bytes status result) := by
  have hring (t : State) (p : Tx) (a b n : Nat) (bs : List Byte) : t.RowsKept (t.ringWrite p a b n bs) :=
    closed.ite (refl t) ((closed.memWrite _ _ _ _).trans (setF _ _ _ _ _))
  unfold State.complete
  extract_lets d rcd s0 s1
  have h0 : s.RowsKept s0 := closed.ite (refl s) (closed.free s _)
  have h1 : s.RowsKept s1 := closed.ite (h0.trans (hring _ _ _ _ _ _)) h0
  exact closed.ite (h1.trans (of_hostStep (hostStep_evcSet _ _ _))) h1

theorem completeAt (s : State) (q i status : Nat) (result : Option Nat) : s.RowsKept (s.completeAt q i status result) := by
  have hq (ds : List QDesc) : s.RowsKept (s.setQueue q ds) := ⟨rfl, fun _ => rfl⟩
  unfold State.completeAt
  split
  · exact refl s
  · exact (hq _).trans (complete _ _ _ _ _)

theorem showFolio (s : State) (c f : Nat) : s.RowsKept (s.showFolio c f) := closed.memWrite _ _ _ _

theorem requestKey (s : State) (keep : Bool) (f : Nat) : s.RowsKept (s.requestKey keep f) := by
  unfold State.requestKey
  extract_lets x s1
  have h1 : s.RowsKept s1 := setRx s f _ rfl
  split
  · exact h1.trans (showFolio _ _ _)
  · exact h1

theorem reached (s : State) (r : KeyReq) (f n : Nat) : s.RowsKept (s.reached r f n) := by
  have hreq (l : List KeyReq) : s.RowsKept { s with keyReqs := l } := ⟨rfl, fun _ => rfl⟩
  unfold State.reached
  extract_lets left s1
  refine closed.ite ?_ (hreq _)
  split
  · exact (hreq _).trans (completeAt _ _ _ _ _)
  · exact hreq _

theorem takeReq (f n top : Nat) (hevc stores : Bool) (a : State × PinSt) (r : KeyReq) :
    a.1.RowsKept (State.takeReq f n top hevc stores a r).1 := by
  have hkey : a.1.RowsKept (if hevc then a.1.requestCtxKey r.keep r.ctx else a.1.requestKey r.keep f) :=
    closed.ite (setCtxSt _ _ _) (requestKey _ _ _)
  unfold State.takeReq
  dsimp only
  split
  · exact hkey.trans (reached _ _ _ _)
  · split
    · exact reached _ _ _ _
    · split
      · exact reached _ _ _ _
      · split
        · exact reached _ _ _ _
        · exact refl _

theorem takeReqs (s : State) (c f n top : Nat) (hevc stores : Bool) : s.RowsKept (s.takeReqs c f n top hevc stores).1 :=
  closed.foldl_fst (takeReq f n top hevc stores) _ (s, _)

/-! #### A folio's picture (R283, R290-R299) -/

theorem endFolio (s : State) (b c f : Nat) : s.RowsKept (s.endFolio b c f) := by
  unfold State.endFolio
  extract_lets z t x p w h cur marked old od s0 new pyr s1 ends mark y x' exceeds flags s2 s3 s4
  have h0 : s.RowsKept s0 := (closed.readPlane s _ _ _ _).trans (closed.foldl (fun s _ => closed.writeWords s _ _ _) _ _)
  have hpyr : s.RowsKept pyr := (h0.trans (closed.readPlane _ _ _ _ _)).trans (closed.writeWords _ _ _ _)
  have h1 : s.RowsKept s1 := closed.ite (refl s) (closed.ite hpyr (hpyr.trans (closed.writeWords _ _ _ _)))
  have h3 : s.RowsKept s3 := (h1.trans (setRx s1 f x' rfl)).trans (closed.memWrite _ _ _ _)
  have h4 : s.RowsKept s4 := closed.ite (h3.trans (setF _ _ _ _ _)) h3
  exact closed.ite (refl s) ((closed.ite (h4.trans (setF _ _ _ _ _)) h4).trans (showFolio _ _ _))

theorem beginFolio (s : State) (c f : Nat) (row : FolioRow) : s.RowsKept (s.beginFolio c f row) := by
  unfold State.beginFolio
  extract_lets z mism x0 e trusted resized s0 q x recover repeats start keep allIntra held lt1 released n refresh want top d precision base
    stats pic s1
  have h0 : s.RowsKept s0 := setRx s f _ rfl
  have h1 : s.RowsKept s1 := (h0.trans (takeReqs _ _ _ _ _ _ _)).trans (setRx q.1 f _ rfl)
  exact (h1.trans (closed.free _ _)).trans (showFolio _ _ _)

theorem folioRefs (s : State) (b : Nat) (z : CtxCfg) (x : RxSt) (row : FolioRow) : s.RowsKept (s.folioRefs b z x row).1 := by
  unfold State.folioRefs
  extract_lets p get sh use slots lts
  have hget (t : State) (j : Nat) : t.RowsKept (get t j).1 := closed.readPlane _ _ _ _ _
  have hsh : s.RowsKept sh.1 := by
    unfold sh
    split
    · exact hget _ _
    · exact refl s
  have hlts : sh.1.RowsKept lts.1 := by
    refine closed.foldl_fst (fun a j => ?_) slots (sh.1, [])
    exact hget a.1 (j + 1)
  exact hsh.trans hlts

theorem toOutRing (s : State) (b c : Nat) (bs : List Byte) : s.RowsKept (s.toOutRing b c bs) :=
  ((closed.memWrite _ _ _ _).trans (closed.memWrite _ _ _ _)).trans (setCtxSt _ _ _)

theorem sliceEvents (s : State) (c : Nat) : s.RowsKept (s.sliceEvents c) :=
  closed.ite (refl s) ((setCtxSt _ _ _).trans (of_hostStep (hostStep_raiseEvt _ _)))

end RowsKept
end State
end Sys2Proof.Machine

namespace Sys2Proof.Machine

/-! ### Coding a row (R279, R340) -/

namespace State

/-- Is g the segment that row r of folio f becomes, no byte of it sent? -/
structure SegmentOf (f : Nat) (r : FolioRow) (g : Segment) : Prop where
  rx : g.rx = f % 16
  row : g.row = r.y
  picture : g.picture = r.picture % 2 ^ 32
  version : g.version = r.ver
  sent : g.sent = 0

/-- Coding a row leaves the waiting rows and puts its segment last in the channel's. -/
theorem codeRow_appends (s : State) (c f : Nat) (row : FolioRow) :
    ∃ u g, s.RowsKept u ∧ SegmentOf f row g ∧
      s.codeRow c f row = u.setCh (f / 16) { u.chAt (f / 16) with segs := (u.chAt (f / 16)).segs ++ [g] } := by
  generalize ht : s.codeRow c f row = t
  unfold State.codeRow at ht
  extract_lets z x p r pq cw safe qp hdr e ls g t0 t' bytes s0 s1 s2 s3 markOf crcs pn seg x' s4 ch at ht
  have h1 : s.RowsKept s1 := (RowsKept.folioRefs s row.pipe z x row).trans (RowsKept.closed.free _ _)
  have h2 : s.RowsKept s2 := RowsKept.closed.ite (h1.trans (RowsKept.closed.writeWords _ _ _ _)) h1
  have h4 : s.RowsKept s4 := (h2.trans (.toOutRing _ _ _ _)).trans (.setRx s3 f _ rfl)
  exact ⟨s4, seg, h4, ⟨rfl, rfl, rfl, rfl, rfl⟩, ht.symm⟩

/-- The oldest row waiting is taken off, its picture begun if need be, the row coded and its picture ended if it was the last. -/
theorem codeSegment_codes {s : State} {f c : Nat} {row : FolioRow} {rest : List FolioRow} (hc : s.folioCtx = some c)
    (hrows : (s.rxAt f).rows = row :: rest) :
    ∃ u, (s.setRx f { s.rxAt f with rows := rest }).RowsKept u ∧ (u.codeRow c f row).RowsKept (s.codeSegment f) := by
  generalize ht : s.codeSegment f = t
  unfold State.codeSegment at ht
  rw [hc, hrows] at ht
  dsimp -zeta only at ht
  extract_lets x s1 p new s2 s3 e y s4 at ht
  have h2 : s1.RowsKept s2 := RowsKept.closed.ite ((RowsKept.endFolio _ _ _ _).trans (.beginFolio _ _ _ _)) (.refl s1)
  have h3 : (s2.codeRow c f row).RowsKept s3 := .setF _ _ _ _ _
  have h4 : s3.RowsKept s4 := RowsKept.closed.ite ((RowsKept.endFolio _ _ _ _).trans (.setCtxSt _ _ _)) (.refl s3)
  exact ⟨s2, h2, ht ▸ (h3.trans h4).trans (.sliceEvents _ _)⟩

theorem codeSegment_appends {s : State} {f : Nat} {row : FolioRow} {rest : List FolioRow} (hc : s.folioCtx ≠ none)
    (hrows : (s.rxAt f).rows = row :: rest) :
    ∃ g, SegmentOf f row g ∧ ((s.codeSegment f).rxAt f).rows = rest ∧
      ((s.codeSegment f).chAt (f / 16)).segs = (s.chAt (f / 16)).segs ++ [g] := by
  obtain ⟨c, hc⟩ := Option.ne_none_iff_exists'.mp hc
  obtain ⟨u, hu, ht⟩ := codeSegment_codes hc hrows
  obtain ⟨v, g, hv, hg, hcode⟩ := u.codeRow_appends c f row
  rw [hcode] at ht
  refine ⟨g, hg, ?_, ?_⟩
  · calc ((s.codeSegment f).rxAt f).rows = (v.rxAt f).rows := ht.rows f
      _ = ((s.setRx f { s.rxAt f with rows := rest }).rxAt f).rows := (hu.trans hv).rows f
      _ = rest := by rw [rxAt_setRx]
  · rw [chAt_of_ch ht.ch, chAt_setCh, chAt_of_ch (hu.trans hv).ch]
    rfl

theorem codeSegment_of_no_rows {s : State} {f : Nat} (h : (s.rxAt f).rows = []) : s.codeSegment f = s := by
  unfold State.codeSegment
  rw [h]
  cases s.folioCtx <;> rfl

end State

/-! ### KEY and PIN (R277) -/

/-- The flags of a well-formed KEY's byte 9. -/
theorem key_mode {m : Nat} (hm : m = 0 ∨ m = 16) : m % 8 = 0 ∧ m.testBit 3 = false ∧ m.testBit 4 = decide (m = 16) := by
  rcases hm with rfl | rfl <;> decide

/-- The slot and the release flag of a well-formed PIN's byte 9. -/
theorem pin_mode {m j : Nat} (hj : 1 ≤ j) (hj4 : j ≤ 4) (hm : m = j ∨ m = j + 8) :
    m % 8 = j ∧ m.testBit 3 = decide (8 ≤ m) ∧ m.testBit 4 = false := by
  interval_cases j <;> rcases hm with rfl | rfl <;> decide

namespace State

section Requests
variable {s : State} {b i : Nat} {d : QDesc} (hfirst : s.firstWaiting (0x10 + b) = some (i, d))
include hfirst

/-- A request for a context that does not exist completes with 1. -/
theorem pressDesc_no_context {kind : Nat} (hkind : d.kind = kind) (hc : 64 ≤ byteAt d.bytes 8) :
    s.pressDesc b kind = s.completeAt (0x10 + b) i 1 none := by
  unfold State.pressDesc
  simp only [hfirst, hkind, ne_eq, not_true_eq_false, if_false, hc, true_or, if_true]

variable {c n : Nat} (hc : byteAt d.bytes 8 = c) (hc64 : c < 64) (hn : leAt d.bytes 12 2 = n) (hzero : zeroBytes d.bytes 14 18 = true)
  (hin : leAt d.bytes 10 2 + n ≤ 8192) (hn0 : 0 < n) (hen : (ctxCfg s.rd c).en = true) (henc : (ctxCfg s.rd c).kind = 0)
include hc hc64 hn hzero hin hn0 hen henc

/-- A request of a folio context is started and joins those waiting, naming its folios. -/
theorem pressDesc_joins {kind : Nat} (hkind : d.kind = kind) (hm : byteAt d.bytes 9 < 32)
    (hkey : kind = 1 → byteAt d.bytes 9 % 8 = 0 ∧ (byteAt d.bytes 9).testBit 3 = false)
    (hpin : kind = 2 → 1 ≤ byteAt d.bytes 9 % 8 ∧ byteAt d.bytes 9 % 8 ≤ 4 ∧ (byteAt d.bytes 9).testBit 4 = false) :
    s.pressDesc b kind = { s.startAt (0x10 + b) i 0 with
      keyReqs := s.keyReqs ++ [⟨c, 0x10 + b, kind == 2, byteAt d.bytes 9 % 8, (byteAt d.bytes 9).testBit 3, (byteAt d.bytes 9).testBit 4,
        (List.range n).map (· + leAt d.bytes 10 2), d.bytes⟩] } := by
  have hform : ¬ (64 ≤ c ∨ 32 ≤ byteAt d.bytes 9 ∨ 0x2000 ≤ leAt d.bytes 10 2 ∨ 0x4000 ≤ n ∨ (!zeroBytes d.bytes 14 18) = true ∨
      8192 < leAt d.bytes 10 2 + n ∨ (kind = 1 ∧ (byteAt d.bytes 9 % 8 ≠ 0 ∨ (byteAt d.bytes 9).testBit 3 = true)) ∨
      (kind = 2 ∧ (byteAt d.bytes 9 % 8 = 0 ∨ 4 < byteAt d.bytes 9 % 8 ∨ (byteAt d.bytes 9).testBit 4 = true))) := by
    rw [hzero]
    rintro (h | h | h | h | h | h | ⟨hk, h⟩ | ⟨hk, h⟩)
    · omega
    · omega
    · omega
    · omega
    · exact absurd h (by decide)
    · omega
    · obtain ⟨hslot, h3⟩ := hkey hk
      simp [hslot, h3] at h
    · obtain ⟨hlo, hhi, h4⟩ := hpin hk
      simp only [h4, Bool.false_eq_true, or_false] at h
      omega
  unfold State.pressDesc
  dsimp only
  rw [hfirst]
  dsimp only
  rw [hc, hn, Nat.mod_eq_of_lt hc64, if_neg (not_not.mpr hkind), if_neg hform, if_neg hn0.ne', hen, henc]
  rfl

/-- Byte 9 of a well-formed KEY: the folio's long-term slots go or stay. -/
theorem pressDesc_key (hkind : d.kind = 1) (hm : byteAt d.bytes 9 = 0 ∨ byteAt d.bytes 9 = 16) :
    s.pressDesc b 1 = { s.startAt (0x10 + b) i 0 with
      keyReqs := s.keyReqs ++ [⟨c, 0x10 + b, false, 0, false, decide (byteAt d.bytes 9 = 16), (List.range n).map (· + leAt d.bytes 10 2),
        d.bytes⟩] } := by
  obtain ⟨hslot, hunpin, hkeep⟩ := key_mode hm
  rw [pressDesc_joins hfirst hc hc64 hn hzero hin hn0 hen henc hkind (by omega) (fun _ => ⟨hslot, hunpin⟩) (fun h => absurd h (by decide)),
    hslot, hunpin, hkeep]
  rfl

/-- Byte 9 of a well-formed PIN: its slot, and whether it is released. -/
theorem pressDesc_pin {j : Nat} (hkind : d.kind = 2) (hj : 1 ≤ j) (hj4 : j ≤ 4) (hm : byteAt d.bytes 9 = j ∨ byteAt d.bytes 9 = j + 8) :
    s.pressDesc b 2 = { s.startAt (0x10 + b) i 0 with
      keyReqs := s.keyReqs ++ [⟨c, 0x10 + b, true, j, decide (8 ≤ byteAt d.bytes 9), false, (List.range n).map (· + leAt d.bytes 10 2),
        d.bytes⟩] } := by
  obtain ⟨hslot, hunpin, hkeep⟩ := pin_mode hj hj4 hm
  rw [pressDesc_joins hfirst hc hc64 hn hzero hin hn0 hen henc hkind (by omega) (fun h => absurd h (by decide))
    (fun _ => ⟨hslot ▸ hj, hslot ▸ hj4, hkeep⟩), hslot, hunpin, hkeep]
  rfl

end Requests
end State
end Sys2Proof.Machine

namespace Sys2Proof.Machine

/-! ### A source's picture and a pipe's portions (R267, R281, R282) -/

/-- A context's set is read from the words of its own block. -/
theorem ctxCfg_congr {v w : Nat → Word} {c : Nat} (hc : c < 64) (h : ∀ off, 0xA01000 ≤ off → off < 0xA08000 → v off = w off) :
    ctxCfg v c = ctxCfg w c := by
  have hword (k : Nat) (hk : k < 0x80) : v (0xA01000 + k + 0x80 * c) = w (0xA01000 + k + 0x80 * c) := h _ (by omega) (by omega)
  unfold ctxCfg
  simp only [show v (Reg.pressCtxCtrl c) = w (Reg.pressCtxCtrl c) from hword 0 (by decide),
    show v (Reg.pressCtxPipes c) = w (Reg.pressCtxPipes c) from hword 0x04 (by decide),
    show v (Reg.pressCtxSize c) = w (Reg.pressCtxSize c) from hword 0x08 (by decide),
    show v (Reg.pressCtxQp c) = w (Reg.pressCtxQp c) from hword 0x0C (by decide),
    show v (Reg.pressCtxBudget c) = w (Reg.pressCtxBudget c) from hword 0x10 (by decide),
    show v (Reg.pressCtxRsv c) = w (Reg.pressCtxRsv c) from hword 0x14 (by decide),
    show v (Reg.pressCtxSearch c) = w (Reg.pressCtxSearch c) from hword 0x18 (by decide),
    show v (Reg.pressCtxKey c) = w (Reg.pressCtxKey c) from hword 0x1C (by decide),
    show v (Reg.pressCtxOutLo c) = w (Reg.pressCtxOutLo c) from hword 0x20 (by decide),
    show v (Reg.pressCtxOutHi c) = w (Reg.pressCtxOutHi c) from hword 0x24 (by decide),
    show v (Reg.pressCtxRefLo c) = w (Reg.pressCtxRefLo c) from hword 0x28 (by decide),
    show v (Reg.pressCtxRefHi c) = w (Reg.pressCtxRefHi c) from hword 0x2C (by decide),
    show v (Reg.pressCtxStats c) = w (Reg.pressCtxStats c) from hword 0x30 (by decide),
    show v (Reg.pressCtxTable c) = w (Reg.pressCtxTable c) from hword 0x34 (by decide),
    show v (Reg.pressCtxFill c) = w (Reg.pressCtxFill c) from hword 0x38 (by decide),
    show v (Reg.pressCtxBrate c) = w (Reg.pressCtxBrate c) from hword 0x4C (by decide)]

namespace State

theorem finishPicture_of_none_waiting {s : State} {c : Nat} (h : ∀ b : Fin 16, ∀ p ∈ s.portionsAt b, p.ctx ≠ c) : s.finishPicture c = s := by
  have hmine : (List.range 16).flatMap (fun b => ((s.portionsAt b).filter (fun p => p.ctx == c)).map (fun p => (b, p))) = [] := by
    refine List.flatMap_eq_nil_iff.mpr fun b hb => List.map_eq_nil_iff.mpr (List.filter_eq_nil_iff.mpr fun p hp => ?_)
    simpa using h ⟨b, List.mem_range.mp hb⟩ p hp
  unfold finishPicture
  simp only [hmine, List.mergeSort_nil, List.foldl_nil]

section Boundary
variable {s : State} {c : Nat} (hen : (ctxCfg s.rd c).en = true) (hkind : (ctxCfg s.rd c).kind = 0)
include hen hkind

theorem pictureBoundary_at_rest (h : (s.sheetAt 0).begun = false) : s.pictureBoundary c = s := by
  unfold pictureBoundary
  simp [hen, hkind, h]

/-- A folio context takes up its source's picture. -/
theorem pictureBoundary_begins (harm : s.armed = []) (hwait : ∀ b : Fin 16, ∀ p ∈ s.portionsAt b, p.ctx ≠ c)
    (hbegun : (s.sheetAt 0).begun = true) (hnew : (s.ctxAt c).begun = false ∨ (s.ctxAt c).picture ≠ (s.sheetAt 0).picture) :
    ∃ mism, s.pictureBoundary c = ((s.setB (Reg.pressCtxSts c) 30 mism).wr (Reg.pressCtxPic c) (BitVec.ofNat 32 (s.sheetAt 0).picture)).setCtxSt c
      { s.ctxAt c with begun := true, picture := (s.sheetAt 0).picture } := by
  have hcp : s.commitPoint .press c = s := s.commitPoint_of_unarmed .press c (by simp [armOf, harm])
  have hold : ¬ ((s.ctxAt c).begun = true ∧ (s.ctxAt c).picture = (s.sheetAt 0).picture) := by
    rcases hnew with h | h <;> simp [h]
  generalize ht : s.pictureBoundary c = t
  unfold pictureBoundary at ht
  simp only [hen, hkind, finishPicture_of_none_waiting hwait, hcp, hbegun, if_true, Bool.not_true, Bool.false_or, Bool.and_eq_true, beq_iff_eq,
    if_neg hold, Nat.zero_ne_one, or_self, if_false, bne_self_eq_false, Bool.or_self, Bool.false_eq_true,
    OfNat.zero_ne_ofNat] at ht
  exact ⟨_, ht.symm⟩

end Boundary

/-! #### Portions -/

theorem codePortion_idle {s : State} {b : Nat} (h : s.nextPortion b = none) : s.codePortion b = s := by
  unfold codePortion
  rw [h]

/-- t is s with pipe b switched to context c: the records and the contexts' registers are kept, and the pipe's status names the context. -/
structure Switched (s t : State) (b c : Nat) : Prop where
  ctx : t.ctx = s.ctx
  portions : t.portions = s.portions
  regs : ∀ off, 0xA01000 ≤ off → off < 0xA08000 → t.rd off = s.rd off
  loaded : t.getF (Reg.pressPipeSts b) 5 0 = c

theorem switched_of_kept {s u : State} {c : Nat} (hc : c < 64) (b : Nat) (h : s.CodersKept u) :
    s.Switched (u.setF (Reg.pressPipeSts b) 5 0 c) b c where
  ctx := h.ctx
  portions := h.portions
  regs off lo hi := (rd_setF_ne _ _ _ _ _ _ (by unfold Reg.pressPipeSts; omega)).trans (h.regs off (by omega) (by omega))
  loaded := getF_setF_same _ _ _ _ _ (by decide) hc

theorem switchTo_switches (s : State) (b : Nat) {c : Nat} (hc : c < 64) : s.Switched (s.switchTo b c) b c := by
  have hkeep := CodersKept.closed
  unfold switchTo
  extract_lets old z t s1
  have h1 : s.CodersKept s1 := hkeep.ite ((hkeep.memWrite _ _ _ _).trans (hkeep.free _ _)) (.refl s)
  split
  case isTrue h => exact ⟨rfl, rfl, fun _ _ _ => rfl, h⟩
  case isFalse => exact switched_of_kept hc b (h1.trans (hkeep.memRead s1 t _ _))

/-- The state in which pipe b works on the portion it has taken. -/
def atPortion (s : State) (b : Nat) (p : Portion) : State := (s.setPortions b ((s.portionsAt b).erase p)).switchTo b p.ctx

theorem codePortion_runs {s : State} {b : Nat} {p : Portion} (h : s.nextPortion b = some p) :
    s.codePortion b = if p.decode then (s.atPortion b p).decodePortion b p else (s.atPortion b p).encodePortion b p := by
  unfold codePortion
  rw [h]
  rfl

section AtPortion
variable (s : State) (b : Nat) {p : Portion} (hp : p.ctx < 64)
include hp

theorem ctxAt_atPortion (c : Nat) : (s.atPortion b p).ctxAt c = s.ctxAt c :=
  ctxAt_of_ctx (t := s.atPortion b p) (switchTo_switches (s.setPortions b _) b hp).ctx c

theorem portionsAt_atPortion : (s.atPortion b p).portionsAt b = (s.portionsAt b).erase p :=
  (portionsAt_of_portions (switchTo_switches (s.setPortions b _) b hp).portions b).trans (portionsAt_setPortions _ _ _)

theorem ctxCfg_atPortion : ctxCfg (s.atPortion b p).rd p.ctx = ctxCfg s.rd p.ctx :=
  ctxCfg_congr hp (switchTo_switches (s.setPortions b _) b hp).regs

theorem loaded_atPortion : (s.atPortion b p).getF (Reg.pressPipeSts b) 5 0 = p.ctx := (switchTo_switches (s.setPortions b _) b hp).loaded

end AtPortion

theorem CodersKept.sourceRow (s : State) (b : Nat) (z : CtxCfg) (n r : Nat) : s.CodersKept (s.sourceRow b z n r).1 := by
  refine closed.foldl_fst (fun p l => ?_) _ (s, [])
  exact closed.readFree p.1 _ _ _

theorem CodersKept.encodeRow (b : Nat) (z : CtxCfg) (c : Nat) (x : CtxSt) (a : State × PicRec × Bool × List Byte) (r : Nat) :
    a.1.CodersKept (State.encodeRow b z c x a r).1 :=
  (sourceRow a.1 b z x.picture r).trans (closed.free _ _)

/-- A portion that is not its picture's last joins the coded ones. -/
theorem encodePortion_joins {s : State} {b : Nat} {p : Portion} (hpic : (s.ctxAt p.ctx).picture = p.picture)
    (hmore : (s.ctxAt p.ctx).coded.length + 1 < (ctxCfg s.rd p.ctx).portionCount) :
    ∃ u x bs, s.CodersKept u ∧ x.coded = (s.ctxAt p.ctx).coded ++ [(p.picture, p.index, bs)] ∧ s.encodePortion b p = u.setCtxSt p.ctx x := by
  generalize ht : s.encodePortion b p = t
  unfold encodePortion at ht
  extract_lets z x r coded s2 at ht
  have hr : s.CodersKept r.1 := CodersKept.closed.foldl_fst (CodersKept.encodeRow b z p.ctx x) _ (s, _)
  have hlen : ¬ z.portionCount ≤ coded.length := by
    simp only [coded, List.length_append, List.length_singleton]
    exact Nat.not_le.mpr hmore
  rw [if_neg (not_not.mpr hpic), if_neg hlen] at ht
  exact ⟨r.1, _, r.2.2.2, hr, rfl, ht.symm⟩

/-- A portion that is not its picture's last leaves those still to decode. -/
theorem decodePortion_leaves {s : State} {b : Nat} {p : Portion} {au : DecAu} (hdec : (s.ctxAt p.ctx).dec = some au) (hpic : au.at_ = p.picture)
    (hin : au.left.contains p.index = true) (hmore : au.left.filter (fun j => j != p.index) ≠ []) :
    ∃ u x, s.CodersKept u ∧ x.dec = some { au with left := au.left.filter (fun j => j != p.index) } ∧
      s.decodePortion b p = u.setCtxSt p.ctx x := by
  generalize ht : s.decodePortion b p = t
  unfold decodePortion at ht
  rw [hdec] at ht
  dsimp -zeta only at ht
  extract_lets w left s1 x at ht
  have hleft : ¬ left.isEmpty = true := fun h => hmore (List.isEmpty_iff.mp h)
  rw [hin, if_neg (by simp [hpic]), if_neg hleft] at ht
  exact ⟨s1, _, .decodeLines _ _ _ _ _ _ _ _, rfl, ht.symm⟩

/-! ### Access units (R302-R304) -/

/-- Dealing portions changes the portions waiting alone. -/
theorem dealPortions_eq (s : State) (mask c n picture deadline : Nat) (decode : Bool) :
    ∃ ps, s.dealPortions mask c n picture deadline decode = { s with portions := ps } := by
  unfold dealPortions
  dsimp only
  generalize List.range n = l
  induction l generalizing s with
  | nil => exact ⟨s.portions, rfl⟩
  | cons i l ih =>
    obtain ⟨ps, h⟩ := ih (s.setPortions ((pipesOf mask).getD (i % max 1 (pipesOf mask).length) 0)
      (s.portionsAt ((pipesOf mask).getD (i % max 1 (pipesOf mask).length) 0) ++ [⟨c, decode, picture, i, deadline⟩]))
    exact ⟨ps, h⟩

theorem ctxAt_dealPortions (s : State) (mask c n picture deadline : Nat) (decode : Bool) (c' : Nat) :
    (s.dealPortions mask c n picture deadline decode).ctxAt c' = s.ctxAt c' := by
  obtain ⟨ps, h⟩ := s.dealPortions_eq mask c n picture deadline decode
  rw [h]
  rfl

theorem rd_dealPortions (s : State) (mask c n picture deadline : Nat) (decode : Bool) (off : Nat) :
    (s.dealPortions mask c n picture deadline decode).rd off = s.rd off := by
  obtain ⟨ps, h⟩ := s.dealPortions_eq mask c n picture deadline decode
  rw [h]
  rfl

/-- The slot a claimed frame is written to is the free one, if there is one. -/
theorem slot_claimSlot (s : State) (i : Nat) (ts : Word) : ((s.claimSlot i ts).sessAt i).slot = s.freeSlot i := by
  unfold claimSlot
  cases h : s.freeSlot i <;> simp only [sessAt, setSess, setF_sess, addSat_sess, SMap.get_set_same]

/-- The end of a picture that is marked leaves its context with nothing to decode. -/
theorem ctxAt_endDecode_marked (s : State) (c : Nat) (slot : Option Nat) :
    (s.endDecode c slot true).ctxAt c = { s.ctxAt c with dec := none, marked := true } := by
  generalize ht : s.endDecode c slot true = t
  unfold endDecode at ht
  extract_lets z x first s1 s2 s3 s4 at ht
  have h4 : s4.ctx = s1.ctx := by
    refine ctx_of_hostStep (hostStep_trans (t := s3) (hostStep_trans (s1.hostStep_setF _ _ _ _) (hostStep_setF _ _ _ _ _)) ?_)
    unfold s4
    split
    · exact hostStep_trans (hostStep_raiseEvt _ _) (hostStep_hostEvent _ _ _)
    · exact hostStep_refl _
  have hctx : t.ctx = s1.ctx := by
    subst ht
    split
    · exact h4
    · exact ((CodersKept.setSess s4 _ _).trans (.completeFrame _ _ _)).ctx.trans h4
  rw [ctxAt_of_ctx hctx, ctxAt_setCtxSt]

theorem ctxAt_repeatDecode (s : State) (c : Nat) (slot : Option Nat) (p : HevcPic) :
    (s.repeatDecode c slot p).ctxAt c = { s.ctxAt c with dec := none, marked := true } := by
  unfold repeatDecode
  rw [ctxAt_endDecode_marked, ctxAt_of_ctx (CodersKept.decodeLines s _ c slot true 0 p.h p.line).ctx]

end State

/-- Is access unit a one that a context cannot decode: empty, outside its set (R302), or damaged (R304)? -/
def CtxCfg.refuses (z : CtxCfg) (a : CodedAu) : Bool :=
  (!a.bytes.isEmpty && (!Config.hevcSupported a.params || decide (z.w < Config.hevcWidth a.params) || decide (z.h < Config.hevcHeight a.params)
    || decide (z.outSize * 0x10000 < Config.hevcDpb a.params))) || a.bytes.isEmpty || !Config.hevcDecodable a.params a.bytes

theorem CtxCfg.refuses_of_bad (z : CtxCfg) {a : CodedAu}
    (h : a.bytes = [] ∨ Config.hevcSupported a.params = false ∨ Config.hevcDecodable a.params a.bytes = false) : z.refuses a = true := by
  unfold refuses
  rcases h with h | h | h
  · simp [h]
  · cases hb : a.bytes.isEmpty <;> simp [h]
  · simp [h]

theorem CtxCfg.refuses_of_good {z : CtxCfg} {a : CodedAu} (hne : a.bytes ≠ []) (hsup : Config.hevcSupported a.params = true)
    (hok : Config.hevcDecodable a.params a.bytes = true) (hw : Config.hevcWidth a.params ≤ z.w) (hh : Config.hevcHeight a.params ≤ z.h)
    (hdpb : Config.hevcDpb a.params ≤ z.outSize * 0x10000) : z.refuses a = false := by
  simp [refuses, hne, hsup, hok, Nat.not_lt.mpr hw, Nat.not_lt.mpr hh, Nat.not_lt.mpr hdpb]

/-- Is d what an access unit a that has slot k is spread as: all its portions to do? -/
structure DecAu.Spreads (d : DecAu) (a : CodedAu) (k : Option Nat) : Prop where
  bytes : d.bytes = a.bytes
  at_ : d.at_ = a.at_
  slot : d.slot = k
  left : d.left = List.range (d.bounds.length - 1)

namespace State

/-- y is s with the access unit before `rest` taken from context c and counted. -/
structure UnitTaken (s y : State) (c : Nat) (rest : List CodedAu) : Prop where
  ctx : y.ctxAt c = { s.ctxAt c with aus := rest, dec := none }
  pic : y.getF (Reg.pressCtxPic c) 31 0 = (s.getF (Reg.pressCtxPic c) 31 0 + 1) % 2 ^ 32

section AccessUnit
variable {s : State} {c : Nat} {a : CodedAu} {rest : List CodedAu} (hen : (ctxCfg s.rd c).en = true) (hkind : (ctxCfg s.rd c).kind = 3)
  (hdec : (s.ctxAt c).dec = none) (haus : (s.ctxAt c).aus = a :: rest)
include hen hkind hdec haus

/-- A unit of a session that is off is dropped. -/
theorem accessUnit_dropped (h : (sessCfg s.rd (ctxCfg s.rd c).src).en = false) :
    s.accessUnit c = s.setCtxSt c { s.ctxAt c with aus := rest } := by
  unfold accessUnit
  simp only [hdec, haus]
  rw [if_neg (by simp [hen, hkind]), if_pos (by simp [h])]

variable (hc : c < 64) (hsess : (sessCfg s.rd (ctxCfg s.rd c).src).en = true) (hst : s.sessState (ctxCfg s.rd c).src ≠ 5)
include hc hsess hst

/-- A unit is taken and counted; then the latest picture is repeated, or the unit spread in portions. -/
theorem accessUnit_takes : ∃ y, s.UnitTaken y c rest ∧
    if (ctxCfg s.rd c).refuses a then ∃ k p, s.accessUnit c = y.repeatDecode c k p
    else ∃ au x mask n due, au.Spreads a (s.freeSlot (ctxCfg s.rd c).src) ∧ x.aus = (y.ctxAt c).aus ∧ x.dec = some au ∧
      s.accessUnit c = (y.setCtxSt c x).dealPortions mask c n a.at_ due true := by
  generalize ht : s.accessUnit c = t
  unfold accessUnit at ht
  extract_lets z x i at ht
  rw [show x.dec = none from hdec, show x.aus = a :: rest from haus] at ht
  dsimp -zeta only at ht
  extract_lets ps w h outside bad wpp slices spread bounds s1 y s2 s3 poc uses missing mended recovers stale keeps n au x3 at ht
  rw [if_neg (by simp [hen, hkind, z]), if_neg (by simp [hsess, hst, i, z])] at ht
  have hclaim := CodersKept.claimSlot (s.setCtxSt c { x with aus := rest, dec := none }) i a.ts
  have h2 : s2.ctx = s1.ctx ∧ s2.rd = s1.rd := by
    unfold s2
    split <;> exact ⟨rfl, rfl⟩
  have hslot : y.slot = s.freeSlot i := (s.setCtxSt c { x with aus := rest, dec := none }).slot_claimSlot i a.ts
  refine ⟨s3, ⟨?ctx, ?pic⟩, ?rest⟩
  case ctx => exact (ctxAt_of_ctx (h2.1.trans hclaim.ctx) c).trans (ctxAt_setCtxSt _ _ _)
  case pic =>
    have hpic : Reg.pressCtxPic c ≠ Reg.pressCtxSts c := by unfold Reg.pressCtxPic Reg.pressCtxSts; omega
    have hrd : s3.rd (Reg.pressCtxPic c) = s1.rd (Reg.pressCtxPic c) :=
      (rd_setB_ne _ _ _ _ _ hpic).trans ((rd_setB_ne _ _ _ _ _ hpic).trans (congrFun h2.2 _))
    have hold := getF_of_rd (hclaim.regs (Reg.pressCtxPic c) (by unfold Reg.pressCtxPic; omega) (by unfold Reg.pressCtxPic; omega)) 31 0
    rw [getF_of_rd hrd]
    calc s1.getF (Reg.pressCtxPic c) 31 0
        = (((s.setCtxSt c { x with aus := rest, dec := none }).claimSlot i a.ts).getF (Reg.pressCtxPic c) 31 0 + 1) % 2 ^ 32 :=
          (congrArg (fun v => fld v 31 0) (rd_wr_same _ _ _)).trans (fld_putFld_same _ 31 0 _ (by decide))
      _ = (s.getF (Reg.pressCtxPic c) 31 0 + 1) % 2 ^ 32 := by rw [hold]; rfl
  case rest =>
    change if bad = true then _ else _
    split at ht
    case isTrue hbad =>
      rw [if_pos hbad]
      exact ⟨_, _, ht.symm⟩
    case isFalse hgood =>
      rw [if_neg hgood]
      refine ⟨au, _, _, _, _, ⟨rfl, rfl, hslot, rfl⟩, ?_, ?_, ht.symm⟩ <;> rfl

/-- A unit that cannot be decoded leaves nothing to decode and the context marked. -/
theorem accessUnit_repeats
    (hbad : a.bytes = [] ∨ Config.hevcSupported a.params = false ∨ Config.hevcDecodable a.params a.bytes = false) :
    (s.accessUnit c).ctxAt c = { s.ctxAt c with aus := rest, dec := none, marked := true } := by
  obtain ⟨y, hy, h⟩ := accessUnit_takes hen hkind hdec haus hc hsess hst
  rw [if_pos ((ctxCfg s.rd c).refuses_of_bad hbad)] at h
  obtain ⟨k, p, h⟩ := h
  rw [h, ctxAt_repeatDecode, hy.ctx]

/-- A unit that can be decoded claims the free slot and is spread in portions. -/
theorem accessUnit_spreads (hgood : (ctxCfg s.rd c).refuses a = false) :
    ∃ au, au.Spreads a (s.freeSlot (ctxCfg s.rd c).src) ∧ ((s.accessUnit c).ctxAt c).aus = rest ∧ ((s.accessUnit c).ctxAt c).dec = some au ∧
      (s.accessUnit c).getF (Reg.pressCtxPic c) 31 0 = (s.getF (Reg.pressCtxPic c) 31 0 + 1) % 2 ^ 32 := by
  obtain ⟨y, hy, h⟩ := accessUnit_takes hen hkind hdec haus hc hsess hst
  rw [if_neg (Bool.eq_false_iff.mp hgood)] at h
  obtain ⟨au, x, mask, n, due, hau, haus', hdec', h⟩ := h
  rw [h, ctxAt_dealPortions, ctxAt_setCtxSt, getF_of_rd (rd_dealPortions _ _ _ _ _ _ _ _)]
  exact ⟨au, hau, haus'.trans (congrArg CtxSt.aus hy.ctx), hdec', hy.pic⟩

end AccessUnit
end State
end Sys2Proof.Machine

namespace Sys2Proof.Machine

/-! ### A whole segment of an inbound folio (R303, R304, R370, R376) -/

namespace State

/-- What a decoding context reads and writes in memory leaves its records. -/
theorem CodersKept.inbound (s : State) (c : Nat) : s.CodersKept (s.inbound c).1 := closed.readFree _ _ _ _

theorem CodersKept.readLt (s : State) (z : CtxCfg) (e : MapEntry) (d : DecFolio) (pq : Bool) (j depth : Nat) :
    s.CodersKept (s.readLt z e d pq j depth).1 := by
  refine closed.foldl_fst (fun p v => ?_) _ (s, [])
  exact closed.readFree p.1 _ _ _

theorem CodersKept.refPlane (s : State) (c : Nat) (e : MapEntry) (d : DecFolio) (pq : Bool) (r : Nat) :
    s.CodersKept (s.refPlane c e d pq r).1 := by
  unfold State.refPlane
  dsimp only
  split
  · exact readLt _ _ _ _ _ _ _
  · split
    · exact refl s
    · split
      · exact readLt _ _ _ _ _ _ _
      · exact refl s

theorem CodersKept.trunkLeaves (s : State) (c : Nat) (e : MapEntry) (d : DecFolio) (h : SegHdr) (y : Nat) (ls : List (Nat × LeafSyn × Nat)) :
    s.CodersKept (s.trunkLeaves c e d h y ls).1 := by
  refine closed.foldl_fst (fun p r => ?_) _ (s, [])
  exact refPlane p.1 _ _ _ _ _

theorem CodersKept.putTileRow (s : State) (z : CtxCfg) (e : MapEntry) (pq : Bool) (k y w d : Nat) (samples : List Nat) :
    s.CodersKept (s.putTileRow z e pq k y w d samples) :=
  closed.foldl (fun s _ => closed.memWrite s _ _ _) _ s

end State

@[simp] theorem CtxSt.folioAt_set (x : CtxSt) (i : Nat) (d : DecFolio) :
    CtxSt.folioAt { x with folios := SMap.set (fun _ => DecFolio.reset) x.folios i d } i = d := by
  simp [folioAt]

/-- d' is d with row y taken in, decoded without references or not. -/
structure DecFolio.RowTaken (d d' : DecFolio) (y : Nat) (intra : Bool) : Prop where
  rows : d'.rows = (y, intra) :: d.rows
  isOpen : d'.isOpen = d.isOpen
  picture : d'.picture = d.picture
  h : d'.h = d.h
  lost : d'.lost = d.lost

namespace State

theorem folioAt_setDec (s : State) (c i : Nat) (d : DecFolio) : ((s.setDec c i d).ctxAt c).folioAt i = d := by
  unfold setDec
  rw [ctxAt_setCtxSt, CtxSt.folioAt_set]

theorem segs_setDec (s : State) (c i : Nat) (d : DecFolio) : ((s.setDec c i d).ctxAt c).segs = (s.ctxAt c).segs := by
  unfold setDec
  rw [ctxAt_setCtxSt]

/-- Posting what is complete touches the pictures and tokens of a context alone. -/
theorem postTrunk_keeps (s : State) (c p : Nat) (m : List MapEntry) :
    ((s.postTrunk c p m).ctxAt c).folios = (s.ctxAt c).folios ∧ ((s.postTrunk c p m).ctxAt c).segs = (s.ctxAt c).segs := by
  unfold postTrunk
  dsimp only
  split
  · exact ⟨rfl, rfl⟩
  · split
    · exact ⟨rfl, rfl⟩
    · rw [ctxAt_setCtxSt]
      exact ⟨rfl, rfl⟩

/-- While a row is neither decoded nor lost the picture stays open, and what is complete is posted. -/
theorem afterRow_open {s : State} {c p y : Nat} {e : MapEntry} (m : List MapEntry) {d : DecFolio} (hd : (s.ctxAt c).folioAt e.i = d)
    (hpic : d.picture = some p) (hy : y < d.h) (hrow : d.rows.any (fun r => r.1 == y) = false) (hlost : d.lost.contains y = false) :
    s.afterRow c e m = s.postTrunk c p m := by
  have hopen : ¬ (List.range d.h).all (fun y => d.rows.any (fun r => r.1 == y) || d.lost.contains y) = true := by
    intro hall
    have := List.all_eq_true.mp hall y (List.mem_range.mpr hy)
    rw [hrow, hlost] at this
    exact absurd this (by decide)
  unfold afterRow
  dsimp only
  rw [hd, hpic]
  exact if_neg hopen

section Segment
variable {s : State} {c : Nat} {e : MapEntry} {m : List MapEntry} {g : TrunkSeg} {bytes : List Byte} {h k : SegHdr}
  {ls : List (Nat × LeafSyn × Nat)} {d : DecFolio} (hd : d = (s.ctxAt c).folioAt e.i) (hparse : parseSegment g.version g.row bytes = some (h, ls))
  (hopen : d.isOpen = true) (hpic : d.picture = some g.picture) (hfields : SegHdr.ofWord d.fields = some k)
  (hsame : k.pictureFields = h.pictureFields) (hnew : d.rows.any (fun r => r.1 == g.row) = false) (hkept : d.lost.contains g.row = false)
include hd hparse hopen hpic hfields hsame hnew hkept

/-- A segment that fits the open picture is decoded into its row, which the folio's record takes in. -/
theorem decodeTrunk_records : ∃ (u : State) (d' : DecFolio), d.RowTaken d' g.row (intraFree ls) ∧ (u.ctxAt c).folioAt e.i = d' ∧
    (u.ctxAt c).segs = (s.ctxAt c).segs ∧ s.decodeTrunk c e m g bytes = u.afterRow c e m := by
  subst hd
  generalize ht : s.decodeTrunk c e m g bytes = t
  unfold decodeTrunk at ht
  extract_lets d lose old z at ht
  rw [hparse] at ht
  dsimp -zeta only at ht
  extract_lets s1 d1 same r above s2 at ht
  have hs1 : s1 = s := if_pos hpic
  have hd1 : d1 = d := congrArg (fun v : State => (v.ctxAt c).folioAt e.i) hs1
  have hold : ¬ (old || decide (d.picture = some g.picture) && !d.isOpen) = true := by simp [old, hpic, hopen, d]
  have hsame1 : same = true := by
    unfold same
    rw [hd1, show SegHdr.ofWord d.fields = some k from hfields]
    exact decide_eq_true hsame
  have hnew1 : ¬ (d1.rows.any (fun r => r.1 == g.row) || d1.lost.contains g.row) = true := by
    rw [hd1, show d.rows.any (fun r => r.1 == g.row) = false from hnew, show d.lost.contains g.row = false from hkept]
    decide
  rw [if_neg hold, hsame1, if_neg (by decide), if_neg hnew1] at ht
  have hr := CodersKept.trunkLeaves s1 c e d1 h g.row ls
  have hput := CodersKept.putTileRow s2 z e h.pq (g.picture % max 1 z.outSlots) g.row h.w h.depth r.2.1
  refine ⟨_, _, ?taken, (congrArg (fun x => CtxSt.folioAt x e.i) (ctxAt_of_ctx hput.ctx c)).trans (folioAt_setDec _ _ _ _), ?segs, ht.symm⟩
  case taken =>
    rw [hd1]
    exact ⟨rfl, rfl, rfl, rfl, rfl⟩
  case segs =>
    calc _ = (s2.ctxAt c).segs := congrArg CtxSt.segs (ctxAt_of_ctx hput.ctx c)
      _ = (r.1.ctxAt c).segs := segs_setDec _ _ _ _
      _ = (s1.ctxAt c).segs := congrArg CtxSt.segs (ctxAt_of_ctx hr.ctx c)
      _ = (s.ctxAt c).segs := by rw [hs1]

/-- With another row still to come the picture stays open. -/
theorem decodeTrunk_row {y : Nat} (hy : y < d.h) (hyrow : y ≠ g.row) (hyrows : d.rows.any (fun r => r.1 == y) = false)
    (hylost : d.lost.contains y = false) :
    (((s.decodeTrunk c e m g bytes).ctxAt c).folioAt e.i).rows = (g.row, intraFree ls) :: d.rows ∧
      (((s.decodeTrunk c e m g bytes).ctxAt c).folioAt e.i).isOpen = true ∧
      ((s.decodeTrunk c e m g bytes).ctxAt c).segs = (s.ctxAt c).segs := by
  obtain ⟨u, d', htaken, hd', hsegs, hu⟩ := decodeTrunk_records (m := m) hd hparse hopen hpic hfields hsame hnew hkept
  have hyrows' : d'.rows.any (fun r => r.1 == y) = false := by
    rw [htaken.rows, List.any_cons, hyrows, Bool.or_false]
    exact beq_false_of_ne hyrow.symm
  obtain ⟨hfolios, hsegs'⟩ := u.postTrunk_keeps c g.picture m
  have hfolio : ((u.postTrunk c g.picture m).ctxAt c).folioAt e.i = d' := by
    rw [CtxSt.folioAt, hfolios]
    exact hd'
  rw [hu, afterRow_open m hd' (htaken.picture.trans hpic) (htaken.h ▸ hy) hyrows' (htaken.lost ▸ hylost), hfolio]
  exact ⟨htaken.rows, htaken.isOpen.trans hopen, hsegs'.trans hsegs⟩

end Segment

section WholeSegment
variable {s : State} {c i : Nat} {g : TrunkSeg} {bytes : List Byte} {u : State} {m : List MapEntry} (hen : (ctxCfg s.rd c).en = true)
  (hkind : (ctxCfg s.rd c).kind = 1)
  (hwhole : (s.ctxAt c).segs.zipIdx.findSome? (fun p => p.1.whole.map (fun b => (p.1, p.2, b))) = some (g, i, bytes))
  (hmap : (s.setCtxSt c { s.ctxAt c with segs := (s.ctxAt c).segs.eraseIdx i }).inbound c = (u, m))
include hmap

/-- Reading the map leaves the context without the segment taken. -/
theorem ctxAt_inbound : u.ctxAt c = { s.ctxAt c with segs := (s.ctxAt c).segs.eraseIdx i } := by
  have hu : u = ((s.setCtxSt c { s.ctxAt c with segs := (s.ctxAt c).segs.eraseIdx i }).inbound c).1 := by rw [hmap]
  rw [hu, ctxAt_of_ctx (CodersKept.inbound _ c).ctx, ctxAt_setCtxSt]

include hen hkind hwhole

/-- The first whole segment is decoded as its folio's, or lost if the map names none. -/
theorem trunkSegment_takes :
    s.trunkSegment c = (m.find? (fun e => e.f == g.f)).elim (u.trunkLost c) (fun e => u.decodeTrunk c e m g bytes) := by
  unfold trunkSegment
  dsimp only
  rw [if_neg (by simp [hen, hkind]), hwhole]
  dsimp only
  rw [hmap]
  cases m.find? (fun e => e.f == g.f) <;> rfl

end WholeSegment
end State

/-! ### The statement about the press -/

/-- Settles O45: clause by clause from what coding a row, a descriptor, a boundary, a portion, an access unit and a segment do. -/
theorem pressCodesAndDecodes : Obligations.PressCodesAndDecodes := by
  unfold Obligations.PressCodesAndDecodes
  refine fun s => ⟨?row, fun ch rx h => congrArg Host.Outcome.next (State.codeSegment_of_no_rows h), ?requests, ?noContext, ?boundary,
    fun b h => congrArg Host.Outcome.next (State.codePortion_idle h), ?portion, ?accessUnit, ?segment⟩
  case row =>
    rintro ch rx f row rest rfl hc hrows
    obtain ⟨g, hg, hrest, hsegs⟩ := State.codeSegment_appends hc hrows
    have hch : (16 * (ch : Nat) + rx) / 16 = ch := by omega
    rw [hch] at hsegs
    exact ⟨_, g, rfl, hrest, hsegs, hg.rx.trans (by omega), hg.row, hg.picture, hg.version, hg.sent⟩
  case requests =>
    intro b i d c n hfirst hc hc64 hn hzero hin hn0 hen henc
    exact ⟨fun hkind hm => congrArg Host.Outcome.next
        (State.pressDesc_key hfirst hc.symm hc64 hn.symm hzero hin hn0 hen henc hkind hm),
      fun j hkind hj hj4 hm => congrArg Host.Outcome.next
        (State.pressDesc_pin hfirst hc.symm hc64 hn.symm hzero hin hn0 hen henc hkind hj hj4 hm)⟩
  case noContext =>
    exact fun b i d hfirst hc => ⟨fun hkind => congrArg Host.Outcome.next (State.pressDesc_no_context hfirst hkind hc),
      fun hkind => congrArg Host.Outcome.next (State.pressDesc_no_context hfirst hkind hc)⟩
  case boundary =>
    rintro c z n harm rfl hen hkind rfl hwait
    refine ⟨fun h => congrArg Host.Outcome.next (State.pictureBoundary_at_rest hen hkind h), fun hbegun hnew => ⟨_, rfl, ?_⟩⟩
    obtain ⟨mism, h⟩ := State.pictureBoundary_begins hen hkind harm hwait hbegun hnew
    rw [h, State.ctxAt_setCtxSt]
    exact ⟨rfl, rfl, State.rd_wr_same _ _ _⟩
  case portion =>
    intro b p hnext hp
    have hrun := State.codePortion_runs hnext
    have hctx := s.ctxAt_atPortion b hp p.ctx
    refine ⟨fun hdir hpic hmore => ?_, fun au hdir hdec hpic hin hmore => ⟨_, rfl, ?_⟩⟩
    · rw [hdir, if_neg (by decide)] at hrun
      obtain ⟨u, x, bs, hu, hx, h⟩ := State.encodePortion_joins (s := s.atPortion b p) (b := b) (p := p) (hctx ▸ hpic)
        (by rw [hctx, s.ctxCfg_atPortion b hp]; exact hmore)
      have hsts : (u.setCtxSt p.ctx x).getF (Reg.pressPipeSts b) 5 0 = p.ctx :=
        (State.getF_of_rd (hu.regs _ (by unfold Reg.pressPipeSts; omega) (by unfold Reg.pressPipeSts; omega)) 5 0).trans (s.loaded_atPortion b hp)
      refine ⟨_, bs, congrArg Host.Outcome.next (hrun.trans h), ?_, ?_, hsts⟩
      · rw [State.ctxAt_setCtxSt, hx, hctx]
      · exact (State.portionsAt_of_portions hu.portions b).trans (s.portionsAt_atPortion b hp)
    · rw [hdir, if_pos rfl] at hrun
      obtain ⟨u, x, hu, hx, h⟩ := State.decodePortion_leaves (s := s.atPortion b p) (b := b) (hctx ▸ hdec) hpic hin hmore
      rw [hrun, h, State.ctxAt_setCtxSt]
      exact ⟨hx, (State.portionsAt_of_portions hu.portions b).trans (s.portionsAt_atPortion b hp)⟩
  case accessUnit =>
    rintro c z x a rest rfl rfl hen hkind hdec haus
    refine ⟨fun hoff => congrArg Host.Outcome.next (State.accessUnit_dropped hen hkind hdec haus hoff),
      fun hsess hst => ⟨?_, fun hbad => ⟨_, rfl, ?_⟩⟩⟩
    · intro hne hsup hok hw hh hdpb
      obtain ⟨au, hau, haus', hdec', hpic⟩ := State.accessUnit_spreads hen hkind hdec haus c.isLt hsess hst
        (CtxCfg.refuses_of_good hne hsup hok hw hh hdpb)
      exact ⟨_, au, rfl, haus', hdec', hau.bytes, hau.at_, hau.slot, hau.left, hpic⟩
    · rw [State.accessUnit_repeats hen hkind hdec haus c.isLt hsess hst hbad]
      exact ⟨rfl, rfl, rfl⟩
  case segment =>
    rintro c z x g i bytes u m rfl rfl hen hkind hwhole hmap
    have htakes := State.trunkSegment_takes hen hkind hwhole hmap
    have hctx := State.ctxAt_inbound hmap
    refine ⟨fun hnone => ⟨_, rfl, ?_⟩, ?_⟩
    · rw [htakes, hnone, Option.elim_none]
      simp only [State.trunkLost, State.ctxAt_setCtxSt, hctx, and_self]
    · rintro e h k ls d he hparse rfl hopen hpic hfields hsame hnew hkept ⟨y, hy, hyrow, hyrows, hylost⟩
      rw [he, Option.elim_some] at htakes
      obtain ⟨hrows, hopen', hsegs⟩ := State.decodeTrunk_row (m := m) (congrArg (fun x => CtxSt.folioAt x e.i) hctx).symm hparse hopen
        hpic hfields hsame hnew hkept hy hyrow hyrows hylost
      exact ⟨_, congrArg Host.Outcome.next htakes, hrows, hopen', hsegs.trans (congrArg CtxSt.segs hctx)⟩

end Sys2Proof.Machine

namespace Sys2Proof.Machine

/-! ### What memory accesses, events and alarms leave of the wall's records and registers -/

/-- t keeps the folios' and sheets' records of s and the registers of the couch, the press and the wall channels. The imposition unit's own control
block, 0xB00000 to 0xB0FFFF, is not among them: the rings advance there. -/
structure State.WallKept (s t : State) : Prop where
  rx : t.rx = s.rx
  sheet : t.sheet = s.sheet
  regs : ∀ off, 0x900000 ≤ off → off < 0xC00000 → (off < 0xB00000 ∨ 0xB10000 ≤ off) → t.rd off = s.rd off

namespace State

/-- What depends on the press registers alone: the folio context. -/
theorem folioCtx_congr {s t : State} (h : ∀ off, 0xA01000 ≤ off → off < 0xA08000 → t.rd off = s.rd off) : t.folioCtx = s.folioCtx :=
  List.find?_congr fun c hc => by rw [ctxCfg_congr (List.mem_range.mp hc) h]

namespace WallKept

theorem of_hostStep {s t : State} (h : s.hostStep t)
    (hr : ∀ off, 0x900000 ≤ off → off < 0xC00000 → (off < 0xB00000 ∨ 0xB10000 ≤ off) → t.rd off = s.rd off) : s.WallKept t := by
  obtain ⟨_, _, _, rfl⟩ := h
  exact ⟨rfl, rfl, hr⟩

theorem closed : MemoryClosed WallKept where
  refl _ := ⟨rfl, rfl, fun _ _ _ _ => rfl⟩
  trans h1 h2 := ⟨h2.rx.trans h1.rx, h2.sheet.trans h1.sheet,
    fun off lo hi ho => (h2.regs off lo hi ho).trans (h1.regs off lo hi ho)⟩
  events h hu := of_hostStep h fun off _ _ _ => hu.regs off (by omega) (by omega)
  stores _ _ _ _ _ _ _ := ⟨rfl, rfl, fun _ _ _ _ => rfl⟩

theorem refl (s : State) : s.WallKept s := closed.refl s

theorem trans {s t u : State} (h1 : s.WallKept t) (h2 : t.WallKept u) : s.WallKept u := closed.trans h1 h2

theorem rxAt {s t : State} (h : s.WallKept t) (f : Nat) : t.rxAt f = s.rxAt f := by rw [State.rxAt, h.rx, State.rxAt]

/-- The registers of a receiver of a channel are kept. -/
theorem rdRxSts {s t : State} (h : s.WallKept t) {f : Nat} (hf : f < 8192) :
    t.rd (Reg.wchRxSts (f / 16) (f % 16)) = s.rd (Reg.wchRxSts (f / 16) (f % 16)) := by
  unfold Reg.wchRxSts
  exact h.regs _ (by omega) (by omega) (.inr (by omega))

theorem rxState {s t : State} (h : s.WallKept t) {f : Nat} (hf : f < 8192) : t.rxState f = s.rxState f := getF_of_rd (h.rdRxSts hf) 31 29

theorem rxVersion {s t : State} (h : s.WallKept t) {f : Nat} (hf : f < 8192) : t.rxVersion f = s.rxVersion f :=
  getF_of_rd (h.rdRxSts hf) 28 27

theorem folioCtx {s t : State} (h : s.WallKept t) : t.folioCtx = s.folioCtx :=
  folioCtx_congr fun off lo hi => h.regs off (by omega) (by omega) (.inl (by omega))

/-! #### Writes and events -/

/-- A register of another unit, or of imposition's control block, may be written. -/
theorem setF (s : State) (off hi lo v : Nat) (h : off < 0x900000 ∨ (0xB00000 ≤ off ∧ off < 0xB10000) ∨ 0xC00000 ≤ off) :
    s.WallKept (s.setF off hi lo v) :=
  ⟨rfl, rfl, fun i lo' hi' hi => s.rd_setF_ne off _ _ v i (by omega)⟩

theorem raiseEvt (s : State) (e : Nat) : s.WallKept (s.raiseEvt e) :=
  of_hostStep (s.hostStep_raiseEvt e) fun off _ _ _ => s.rd_raiseEvt e off (by omega)

theorem hostEvent (s : State) (code detail : Nat) : s.WallKept (s.hostEvent code detail) :=
  of_hostStep (s.hostStep_hostEvent code detail) fun off _ _ _ => s.rd_hostEvent code detail off (by omega)

/-- A ring whose control register lies in imposition's control block. -/
theorem ringWrite (s : State) (t : Tx) (ring ctl size : Nat) (bs : List Byte) (h : 0xB00000 ≤ ctl ∧ ctl < 0xB10000) :
    s.WallKept (s.ringWrite t ring ctl size bs) :=
  closed.ite (refl s) ((closed.memWrite _ _ _ _).trans (setF _ _ _ _ _ (.inr (.inl h))))

/-! #### Alarms (R501) -/

theorem notify (s : State) (n : Nat) (dst : MbxEnd) (k : Notice) (hg : dst.gath < 64) : s.WallKept (s.notify n dst k) := by
  have hevc (src : Nat) : s.WallKept (s.evcSet dst.gath src) :=
    of_hostStep (s.hostStep_evcSet dst.gath src) fun off _ _ _ => s.rd_evcSet dst.gath src off hg (by omega)
  have hvec (v : Nat) : s.WallKept (s.requestVec v) := of_hostStep (s.hostStep_requestVec v) fun off _ _ _ => s.rd_requestVec v off
  have hpf (v : Nat) : s.WallKept (s.requestPf1 v) := closed.ite ⟨rfl, rfl, fun _ _ _ _ => rfl⟩ ⟨rfl, rfl, fun _ _ _ _ => rfl⟩
  unfold State.notify
  exact closed.ite (hevc _) (closed.ite (closed.ite (hvec _) (refl s))
    (closed.ite (closed.ite (hpf 0) (closed.ite (hpf 1) (closed.ite (hpf 2) (refl s)))) (refl s)))

theorem mbxPost (s : State) (n : Nat) (h : n < 64) : s.WallKept (s.mbxPost n) := by
  have hsts : Reg.mbxSts n < 0x900000 := by unfold Reg.mbxSts; omega
  have hn : s.WallKept (((s.setB (Reg.mbxSts n) 31 true).addWrap (Reg.mbxSts n) 15 0 1).notify n (s.mbxReceiver n) .receive) :=
    ((setF _ _ _ _ _ (.inl hsts)).trans (setF _ _ _ _ _ (.inl hsts))).trans (notify _ _ _ _ (SheetsKept.mbxReceiver_gath s n))
  exact closed.ite (hn.trans ⟨rfl, rfl, fun _ _ _ _ => rfl⟩) hn

/-- A notice changes what Clasp holds and the words of channel 36, which lie below the units' registers. -/
theorem sendNotice (s : State) : s.WallKept s.sendNotice := by
  have hwords (c : Clasp) (word : Nat → Word) (f : Nat) : s.WallKept { s with
      clasp := c, reg := (List.range 16).foldl (fun m k => SMap.set resetWord m (Reg.mbxData 36 k) (word k)) s.reg, free := f } := by
    refine ⟨rfl, rfl, fun off _ _ _ => SMap.get_foldl_set_ne _ _ word _ _ _ fun k hk => ?_⟩
    have hk16 := List.mem_range.mp hk
    unfold Reg.mbxData
    omega
  unfold State.sendNotice
  split
  · exact refl s
  · exact closed.ite (refl s) ((hwords _ _ _).trans (mbxPost _ 36 (by decide)))

theorem claspAlarm (s : State) (r cause ch rx n v e m : Nat) : s.WallKept (s.claspAlarm r cause ch rx n v e m) := by
  have hset (t : State) (hi lo v) : t.WallKept (t.setF Reg.clsAlarm hi lo v) := setF t _ _ _ _ (.inl (by decide))
  have hclasp (c : Clasp) : s.WallKept { s with clasp := c } := ⟨rfl, rfl, fun _ _ _ _ => rfl⟩
  unfold State.claspAlarm
  exact closed.ite (refl s) (closed.ite (hset s _ _ _) (((hclasp _).trans (hset _ _ _ _)).trans (sendNotice _)))

end WallKept
end State
end Sys2Proof.Machine

namespace Sys2Proof.Machine

/-! ### Forming folio rows (R307, R311, R332) -/

/-- t keeps the sheets' records, the rows waiting of every folio and the press registers of s: what a row's forming does before the row joins its
folio's. -/
structure State.FormKept (s t : State) : Prop where
  sheet : t.sheet = s.sheet
  rows : ∀ f, (t.rxAt f).rows = (s.rxAt f).rows
  regs : ∀ off, 0xA00000 ≤ off → off < 0xB00000 → t.rd off = s.rd off

namespace State

namespace FormKept

theorem of_wall {s t : State} (h : s.WallKept t) : s.FormKept t :=
  ⟨h.sheet, fun f => by rw [h.rxAt], fun off lo hi => h.regs off (by omega) (by omega) (.inl hi)⟩

theorem refl (s : State) : s.FormKept s := of_wall (.refl s)

theorem trans {s t u : State} (h1 : s.FormKept t) (h2 : t.FormKept u) : s.FormKept u :=
  ⟨h2.sheet.trans h1.sheet, fun f => (h2.rows f).trans (h1.rows f), fun off lo hi => (h2.regs off lo hi).trans (h1.regs off lo hi)⟩

theorem folioCtx {s t : State} (h : s.FormKept t) : t.folioCtx = s.folioCtx :=
  folioCtx_congr fun off lo hi => h.regs off (by omega) (by omega)

/-- A folio's record may change beside its rows. -/
theorem setRx (s : State) (f : Nat) (x : RxSt) (h : x.rows = (s.rxAt f).rows) : s.FormKept (s.setRx f x) :=
  ⟨rfl, (RowsKept.setRx s f x h).rows, fun _ _ _ => rfl⟩

/-- The entry read for a picture's first row (R285) goes into the folio's record. -/
theorem readEntry (s : State) (f n : Nat) : s.FormKept (s.readEntry f n) := by
  unfold State.readEntry
  split
  · exact refl s
  · dsimp only
    split
    · exact refl s
    · exact (of_wall (WallKept.closed.memRead s _ _ _)).trans (setRx _ f _ rfl)

end FormKept

namespace WallKept

theorem canvasLeaf (s : State) (sh : SheetCfg) (n cx cy : Nat) : s.WallKept (s.canvasLeaf sh n cx cy).1 := by
  unfold State.canvasLeaf
  refine closed.foldl_fst (fun a j => ?_) _ (s, _)
  exact closed.readFree a.1 _ _ _

/-- What follows the read of a fallback image's leaf: an alarm where it failed (R316). -/
theorem fallbackRead {s : State} {q : State × MemAcc × List Byte} (hq : s.WallKept q.1) (r n : Nat) (fill : List Nat) :
    s.WallKept (if q.2.1 = .ok then (q.1, leWords q.2.2)
      else ((q.1.raiseEvt Reg.impEvt).claspAlarm r 4 0 0 n 0 0 0, fill)).1 := by
  split
  · exact hq
  · exact (hq.trans (raiseEvt _ _)).trans (claspAlarm _ _ _ _ _ _ _ _ _)

theorem fallbackLeaf (s : State) (sh : SheetCfg) (r i : Nat) : s.WallKept (s.fallbackLeaf sh r i).1 := by
  unfold State.fallbackLeaf
  dsimp only
  rw [apply_ite Prod.fst]
  exact closed.ite (refl s) (fallbackRead (closed.memRead s _ _ _) _ _ _)

theorem formLeaf (s : State) (sh : SheetCfg) (n : Nat) (p : Placed) : s.WallKept (s.formLeaf sh n p).1 := by
  unfold State.formLeaf
  dsimp only
  split
  · exact fallbackLeaf _ _ _ _
  · exact canvasLeaf _ _ _ _ _

end WallKept

/-- Row y of folio f formed in slice j of picture n: what the row carries. -/
structure FormedRow (s : State) (f n j y : Nat) (row : FolioRow) : Prop where
  y : row.y = y
  slice : row.slice = j
  picture : row.picture = n
  ver : row.ver = s.formVersion f n

/-- A row of a folio that has a version joins the rows waiting of it. -/
theorem formRow_appends {s : State} (es : List Placed) {f n : Nat} (j y : Nat) (hver : s.formVersion f n ≠ 0) (hctx : s.folioCtx ≠ none) :
    ∃ u row prev, s.FormKept u ∧ FormedRow s f n j y row ∧
      s.formRow es n j f y = u.setRx f { u.rxAt f with
        rows := (u.rxAt f).rows ++ [row], formedPic := some (n % 2 ^ 32), prevVer := prev } := by
  generalize ht : s.formRow es n j f y = t
  unfold State.formRow at ht
  extract_lets sh x ver s0 w at_ q bitOf tm row r at ht
  have hq : s.FormKept q.1 := by
    refine (FormKept.readEntry s f n).trans (.of_wall ?_)
    refine WallKept.closed.foldl_fst (fun a p => ?_) at_ (s0, _, _)
    cases p with
    | none => exact .refl a.1
    | some p => exact .formLeaf a.1 sh n p
  have hsome : q.1.folioCtx.isSome = true := by rw [hq.folioCtx]; exact Option.isSome_iff_ne_none.mpr hctx
  rw [if_neg hver, if_pos hsome] at ht
  exact ⟨q.1, row, _, hq, ⟨rfl, rfl, rfl, rfl⟩, ht.symm⟩

end State
end Sys2Proof.Machine

namespace Sys2Proof.Machine

namespace State

theorem WallKept.formVersion {s t : State} (h : s.WallKept t) {f : Nat} (hf : f < 8192) (n : Nat) :
    t.formVersion f n = s.formVersion f n := by
  rw [State.formVersion, State.formVersion, h.rxAt, h.rxVersion hf]

/-- The slice's one complete row joins those waiting of its folio, and the sheet counts the slice as imposed. -/
theorem formFolioRow_forms {s : State} {cy f y : Nat} {sh : SheetCfg} {j lo : Nat} (hsh : sh = sheetCfg s.rd 0) (hj : j = cy / sh.sliceRows)
    (hlo : lo = j * sh.sliceRows) (hcy : cy = min (lo + sh.sliceRows) (ceilDiv sh.h 16) - 1) (hen : sh.en = true)
    (hbegun : (s.sheetAt 0).begun = true) (himposed : (s.sheetAt 0).imposed = j) (hslice : j < sh.slices)
    (hcomposed : s.sliceComposed 0 j = true) (hrows : rowsOfSlice s.mapped lo cy = [(f, y)]) (hf : f < 8192)
    (hver : s.formVersion f (s.sheetAt 0).picture ≠ 0) (hctx : s.folioCtx ≠ none) :
    ∃ row, FormedRow s f (s.sheetAt 0).picture j y row ∧ ((s.formFolioRow cy).sheetAt 0).imposed = j + 1 ∧
      ((s.formFolioRow cy).rxAt f).rows = (s.rxAt f).rows ++ [row] ∧
      ((s.formFolioRow cy).rxAt f).formedPic = some ((s.sheetAt 0).picture % 2 ^ 32) := by
  generalize ht : s.formFolioRow cy = t
  unfold State.formFolioRow at ht
  extract_lets sh' x j' lo' hi inSlice good es out dup s1 at ht
  obtain rfl : sh = sh' := hsh
  obtain rfl : j = j' := hj
  obtain rfl : lo = lo' := hlo
  have hhi : hi = cy := hcy.symm
  rw [if_neg (by simp [hen, hbegun, himposed, hslice, hcomposed, hhi, x]), hhi, hrows, List.foldl_cons, List.foldl_nil] at ht
  have hcounted : s.WallKept ((s.addSat Reg.impCnt 11 0 out).addSat Reg.impCnt 23 12 dup) :=
    (WallKept.setF _ _ _ _ _ (by decide)).trans (WallKept.setF _ _ _ _ _ (by decide))
  have hver1 (n : Nat) : s1.formVersion f n = s.formVersion f n := hcounted.formVersion hf n
  obtain ⟨u, row, prev, hu, hrow, hform⟩ := formRow_appends (s := s1) es j' y (n := x.picture) (by rw [hver1]; exact hver)
    (by rw [show s1.folioCtx = s.folioCtx from hcounted.folioCtx]; exact hctx)
  rw [hform] at ht
  have hsheet : t.sheetAt 0 = { x with imposed := j' + 1 } := by
    rw [← ht]
    exact (congrArg (fun m => SMap.get (fun _ => SheetSt.reset) m 0) hu.sheet).trans (sheetAt_setSheet _ _ _)
  refine ⟨row, ⟨hrow.y, hrow.slice, hrow.picture, hrow.ver.trans (hver1 _)⟩, by rw [hsheet], ?_, ?_⟩
  · rw [← ht, rxAt_setRx, hu.rows f]
    exact congrArg (fun r : RxSt => r.rows ++ [row]) (hcounted.rxAt f)
  · rw [← ht, rxAt_setRx]

end State

/-! ### The table window (R144, R308, R309) -/

theorem SMap.get_of_find?_none {α : Type} (d : Nat → α) {m : SMap α} {k : Nat} (h : SMap.find? m k = none) : SMap.get d m k = d k := by
  rw [SMap.get, h, Option.getD_none]

/-- Listing a key that was not listed makes the map one entry longer. -/
theorem SMap.length_put_of_find?_none {α : Type} {m : SMap α} {k : Nat} (v : α) (h : SMap.find? m k = none) :
    (SMap.put m k v).length = m.length + 1 := by
  induction m with
  | nil => rfl
  | cons p m ih =>
    obtain ⟨j, w⟩ := p
    by_cases hkj : k = j
    · simp [SMap.find?, hkj] at h
    · rw [SMap.find?, if_neg hkj] at h
      rw [SMap.put, if_neg hkj]
      split
      · rfl
      · simp [ih h]

namespace State

/-- A write of one entry by a unit that may reach the window: barred, staged, refused as bad or stored. -/
theorem tableWrite_one (s : State) (t : Tx) (i : Nat) (e : BitVec 64) (hi : i < 589824) (ht : tableInitiator t = true) :
    s.tableWrite t i [e] =
      if t.tag ≠ 2 ∧ (s.entrySafety i = true ∨ entRegion e ≠ 0) then (s.violation t true (0x40000000 + 8 * i) 2, .domain)
      else if s.flag (Reg.couchSheetCtrl 0) 31 then
        if 16384 < s.staged.length + (if (SMap.get (fun _ => (none : Option (BitVec 64))) s.staged i).isNone then 1 else 0) then
          ((s.addSat Reg.impCnt 31 24 1).raiseEvt Reg.impEvt, .error)
        else (s.storeEntry i e, .ok)
      else if entBad s.rd e then (s, .error)
      else (s.storeEntry i e, .ok) := by
  have hin : ¬ tableEntries < i + 1 := by unfold tableEntries; omega
  unfold tableWrite
  simp only [List.zipIdx_cons, List.zipIdx_nil, List.map_cons, List.map_nil, Nat.add_zero, List.length_cons, List.length_nil, Nat.zero_add,
    List.any_cons, List.any_nil, Bool.or_false, List.foldl_cons, List.foldl_nil, if_neg hin, ht, Bool.not_true, Bool.false_eq_true, if_false,
    Bool.and_eq_true, Bool.or_eq_true, decide_eq_true_eq, bne_iff_ne, ne_eq, List.filter_cons, List.filter_nil,
    apply_ite List.length]


/-- While sheet 0 is off an entry that has nothing staged is stored in the table. -/
theorem storeEntry_stores (s : State) {i : Nat} (e : BitVec 64) (hoff : s.flag (Reg.couchSheetCtrl 0) 31 = false)
    (hnew : SMap.find? s.staged i = none) : s.storeEntry i e = { s with table := SMap.set (fun _ => (0 : BitVec 64)) s.table i e } := by
  simp [storeEntry, hoff, SMap.get_of_find?_none _ hnew]

/-- While it runs the entry is staged, and IMP_STS counts the staged entries. -/
theorem storeEntry_stages (s : State) (i : Nat) (e : BitVec 64) (hon : s.flag (Reg.couchSheetCtrl 0) 31 = true) :
    s.storeEntry i e = State.setF { s with staged := SMap.put s.staged i (some e) } Reg.impSts 14 0 (SMap.put s.staged i (some e)).length := by
  simp [storeEntry, hon, SMap.set]

/-- What is staged for an entry is what it reads as (R308). -/
theorem tableEntry_of_staged {s : State} {i : Nat} {e : BitVec 64} {m : SMap (Option (BitVec 64))} (h : s.staged = SMap.put m i (some e)) :
    s.tableEntry i = e := by
  rw [tableEntry, h, SMap.get, SMap.find?_put_same]
  rfl

section TableWrite
variable {s : State} {ini : Ini} {index : BitVec 20} {e : BitVec 64} (hi : index.toNat < 589824)
  (hini : tableInitiator (Tx.ofIni ini) = true)
include hi hini

/-- Only the safety tag writes an entry that is, or is to be, of a safety region (R144, R309; log entry 37). -/
theorem impTableWrite_barred (htag : (Tx.ofIni ini).tag ≠ 2) (hsafe : s.entrySafety index.toNat = true ∨ entRegion e ≠ 0) :
    ∃ t, exec (.impTableWrite ini index [e]) s = .next t ∧ t.resp = .domain ∧ t.table = s.table ∧ t.staged = s.staged := by
  have hwrite := s.tableWrite_one _ _ e hi hini
  rw [if_pos ⟨htag, hsafe⟩] at hwrite
  obtain ⟨_, _, _, hlog⟩ := s.hostStep_violation (Tx.ofIni ini) true (0x40000000 + 8 * index.toNat) 2
  refine ⟨_, rfl, ?_, ?_, ?_⟩
  · rw [hwrite]; rfl
  · rw [hwrite, answer, hlog]
  · rw [hwrite, answer, hlog]

variable (hmay : (Tx.ofIni ini).tag = 2 ∨ (s.entrySafety index.toNat = false ∧ entRegion e = 0))
  (hnew : SMap.find? s.staged index.toNat = none)
include hmay hnew

/-- A write that is let through, by whether sheet 0 runs. -/
theorem impTableWrite_let_through : exec (.impTableWrite ini index [e]) s = .next (
    let r := if s.flag (Reg.couchSheetCtrl 0) 31 then
        if 16384 < s.staged.length + 1 then ((s.addSat Reg.impCnt 31 24 1).raiseEvt Reg.impEvt, MemAcc.error)
        else (s.storeEntry index.toNat e, .ok)
      else if entBad s.rd e then (s, .error)
      else (s.storeEntry index.toNat e, .ok)
    r.1.answer r.2.resp) := by
  have hwrite := s.tableWrite_one _ _ e hi hini
  have hlet : ¬ ((Tx.ofIni ini).tag ≠ 2 ∧ (s.entrySafety index.toNat = true ∨ entRegion e ≠ 0)) := by
    rcases hmay with h | ⟨hsafe, hregion⟩
    · exact fun hbar => hbar.1 h
    · simp [hsafe, hregion]
  rw [if_neg hlet, SMap.get_of_find?_none _ hnew, if_pos Option.isNone_none] at hwrite
  exact congrArg (fun r : State × MemAcc => Host.Outcome.next (r.1.answer r.2.resp)) hwrite

theorem impTableWrite_stored (hoff : s.flag (Reg.couchSheetCtrl 0) 31 = false) (hgood : entBad s.rd e = false) :
    exec (.impTableWrite ini index [e]) s =
      .next { s with table := SMap.set (fun _ => (0 : BitVec 64)) s.table index.toNat e, resp := .ok 0 } := by
  rw [impTableWrite_let_through hi hini hmay hnew, hoff, hgood, s.storeEntry_stores e hoff hnew]
  rfl

theorem impTableWrite_bad (hoff : s.flag (Reg.couchSheetCtrl 0) 31 = false) (hbad : entBad s.rd e = true) :
    exec (.impTableWrite ini index [e]) s = .next { s with resp := .busError } := by
  rw [impTableWrite_let_through hi hini hmay hnew, hoff, hbad]
  rfl

theorem impTableWrite_staged (hon : s.flag (Reg.couchSheetCtrl 0) 31 = true) (hroom : s.staged.length < 16384) :
    ∃ t, exec (.impTableWrite ini index [e]) s = .next t ∧ t.table = s.table ∧ t.tableEntry index.toNat = e ∧
      t.getF Reg.impSts 14 0 = s.staged.length + 1 := by
  have hlen := SMap.length_put_of_find?_none (some e) hnew
  have hcount := getF_setF_same { s with staged := SMap.put s.staged index.toNat (some e) } Reg.impSts 14 0
    (SMap.put s.staged index.toNat (some e)).length (by decide) (by omega)
  rw [impTableWrite_let_through hi hini hmay hnew, hon, s.storeEntry_stages _ e hon, if_pos rfl, if_neg (by omega)]
  exact ⟨_, rfl, rfl, tableEntry_of_staged rfl, hcount.trans hlen⟩

end TableWrite

end State
end Sys2Proof.Machine

namespace Sys2Proof.Machine

/-! ### Descriptors of the imposition queue (R315, R542, R554) -/

theorem zeroBytes_take (bs : List Byte) (i n m : Nat) (h : i + n ≤ m) : zeroBytes (bs.take m) i n = zeroBytes bs i n := by
  rw [zeroBytes, zeroBytes, List.drop_take, List.take_take, Nat.min_eq_left (by omega)]

/-- Two bytes are one little-endian word. -/
theorem leWords_two {bs : List Byte} (h : bs.length = 2) : leWords bs = [leAt bs 0 2] := by
  obtain ⟨a, b, rfl⟩ := List.length_eq_two.mp h
  simp [leWords, leAt, ofLe]

namespace State

section Descriptors
variable {s : State} {i : Nat} {d : QDesc} (hfirst : s.firstWaiting 0x20 = some (i, d))
include hfirst

/-- Sets that are read and well formed go into the shadow sets from the first one named on. -/
theorem calLoad_loads {lo n : Nat} {r : State} {bs : List Byte} (hlo : lo = leAt d.bytes 14 2) (hn : n = leAt d.bytes 16 2)
    (hzero : zeroBytes d.bytes 18 14 = true) (hkind : d.kind = 1) (hn256 : n ≤ 256) (hin : lo + n ≤ 4032)
    (halign : leAt d.bytes 8 6 % 32 = 0) (hss : regionOf (leAt d.bytes 8 6) (32 * n) = .ss)
    (hread : s.memRead ⟨1, 0x60⟩ (leAt d.bytes 8 6) (32 * n) = (r, .ok, bs))
    (hsets : ∀ k, k < n → zeroBytes (bs.drop (32 * k)) 24 8 = true) :
    s.calLoad = State.completeAt { r with
      calShd := SMap.setList (fun _ => calIdentity) r.calShd lo ((List.range n).map (fun k => (bs.drop (32 * k)).take 32)) } 0x20 i 0 none := by
  have hform : ((List.range n).map (fun k => (bs.drop (32 * k)).take 32)).any (fun b => !zeroBytes b 24 8) = false := by
    simp only [List.any_eq_false, List.mem_map, List.mem_range, Bool.not_eq_true', Bool.not_eq_false]
    rintro _ ⟨k, hk, rfl⟩
    rw [zeroBytes_take _ _ _ _ (by decide), hsets k hk]
  have hin' : ¬ 4032 < lo + n := by omega
  subst hlo hn
  unfold calLoad
  simp only [hfirst, hkind, hzero, hread, hform, halign, hss, Nat.not_lt.mpr hn256, hin', ne_eq, not_true_eq_false, decide_false, bne_self_eq_false,
    Bool.not_true, Bool.and_false, Bool.or_false, Bool.false_eq_true, if_false]

/-- A range that ends above channel 511 is BAD_FIELD (R554). -/
theorem epochLoad_outside (hkind : d.kind = 3) (hout : 512 < leAt d.bytes 14 2 + leAt d.bytes 16 2) :
    s.epochLoad = s.completeAt 0x20 i 1 none := by
  simp [epochLoad, hfirst, hkind, hout]

/-- The epoch of one channel that neither runs nor is armed to. -/
theorem epochLoad_one {lo : Nat} {r : State} {bs : List Byte} (hlo : lo = leAt d.bytes 14 2) (hn : leAt d.bytes 16 2 = 1)
    (hzero : zeroBytes d.bytes 18 14 = true) (hkind : d.kind = 3) (hlo512 : lo < 512) (hoff : s.chOn lo = false)
    (hshadow : (s.rdSh (Reg.wchCtrl lo)).getLsbD 31 = false) (hss : regionOf (leAt d.bytes 8 6) 2 = .ss)
    (hread : s.memRead ⟨1, 0x60⟩ (leAt d.bytes 8 6) 2 = (r, .ok, bs)) (hlen : bs.length = 2) :
    s.epochLoad = (r.setF (Reg.wchEpoch lo) 15 0 (leAt bs 0 2)).completeAt 0x20 i 0 none := by
  have hin : ¬ 512 < lo + 1 := by omega
  subst hlo
  unfold epochLoad
  simp [hfirst, hkind, hn, hin, hzero, hss, hoff, bit, hshadow, hread, leWords_two hlen, -BitVec.getLsbD_eq_getElem]

variable {n r f len : Nat} (hkind : d.kind = 2) (hn : n = leAt d.bytes 8 2) (hr : r = byteAt d.bytes 10) (hf : f = n * 16 + r)
  (hlen : len = byteAt d.bytes 11) (hn512 : n < 512) (hr16 : r < 16) (hlen0 : 0 < len) (hlen16 : len ≤ 16)
  (hcode : 0x90 ≤ byteAt d.bytes 12) (hcode' : byteAt d.bytes 12 ≤ 0x9F) (hzero : zeroBytes d.bytes 28 4 = true)
include hkind hn hr hf hlen hn512 hr16 hlen0 hlen16 hcode hcode' hzero

/-- A well-formed CONTROL_SEND is answered by whether its receiver is joined to a channel that sends. -/
theorem controlSend_of_good : s.controlSend =
    if !s.chSends n || s.rxState f != 1 then s.completeAt 0x20 i 4 none
    else (s.sendControl f ((d.bytes.drop 12).take len)).completeAt 0x20 i 0 none := by
  subst hf hn hr hlen
  unfold controlSend
  simp only [hfirst, hkind, hzero, ne_eq, not_true_eq_false, if_false]
  rw [if_neg (by simp; omega)]

end Descriptors

/-! ### Segments into packets (R327, R329, R400) -/

section Segments
variable {s : State} {ch : Nat} {g : Segment} {rest : List Segment} (hsegs : (s.chAt ch).segs = g :: rest)
include hsegs

/-- A channel that does not send drops its segments. -/
theorem sendPacket_dropped (hoff : s.chSends ch = false) : s.sendPacket ch = s.setCh ch { s.chAt ch with segs := [] } := by
  simp [sendPacket, hsegs, hoff]

/-- The next packet of the oldest segment joins its node when there is room, and waits when there is none. -/
theorem sendPacket_sends {data : List Byte} {last : Bool} {p : Pkt} {n : Nat} (hon : s.chSends ch = true)
    (hdata : data = (g.bytes.drop g.sent).take (s.chMax ch)) (hlast : last = decide (g.bytes.length ≤ g.sent + data.length))
    (hp : p = s.folioPkt ch 2 ⟨g.version, b2n last + 2 * b2n g.key + 4 * b2n g.safety, ch, g.rx, 0, g.picture, g.ptS, g.ptNs, g.row, g.sent⟩
      data (s.chLanes ch) (some g.deadline)) (hn : n = s.getF (Reg.wchTm ch) 9 0) :
    s.sendPacket ch = if s.hasRoom n p then (s.enqueue n p).setCh ch { s.chAt ch with
      segs := if last then rest else { g with sent := g.sent + data.length } :: rest } else s := by
  subst hn hp hlast hdata
  unfold sendPacket
  dsimp only
  rw [hsegs]
  dsimp only
  rw [if_neg (by simp [hon])]

end Segments
end State

/-! ### The statement about imposition -/

/-- Settles O44: the table window, a slice's rows, each descriptor and a segment's packets, each from its own lemmas. That an entry counts as a
safety one by its active or its staged region is log entry 37, and that an EPOCH_LOAD of count 0 beyond channel 512 is BAD_FIELD too is the model's
choice. -/
theorem impositionFormsAndSends : Obligations.ImpositionFormsAndSends := by
  unfold Obligations.ImpositionFormsAndSends
  refine fun s => ⟨?table, ?rows, ?loads, ?control, ?packets⟩
  case table =>
    intro ini index e hi hini
    exact ⟨fun htag hsafe => State.impTableWrite_barred hi hini htag hsafe, fun hmay hnew =>
      ⟨fun hoff hgood => State.impTableWrite_stored hi hini hmay hnew hoff hgood,
        fun hoff hbad => State.impTableWrite_bad hi hini hmay hnew hoff hbad,
        fun hon hroom => State.impTableWrite_staged hi hini hmay hnew hon hroom⟩⟩
  case rows =>
    rintro cy sh j lo f y w hsh hj hlo hcy hen hbegun himposed hslice hcomposed rfl hrows hf hver hctx
    obtain ⟨row, hrow, himposed', hrows', hformed⟩ :=
      State.formFolioRow_forms hsh hj hlo hcy hen hbegun himposed hslice hcomposed hrows hf hver hctx
    exact ⟨_, row, rfl, himposed', hrows', hrow.y, hrow.slice, hrow.picture, hrow.ver, hformed⟩
  case loads =>
    intro i d lo n r bs hfirst hlo hn hzero
    refine ⟨fun hkind _ hn256 hin halign hss hread hsets _ => congrArg Host.Outcome.next
        (State.calLoad_loads hfirst hlo hn hzero hkind hn256 hin halign hss hread hsets), fun hkind hout => ?_, ?_⟩
    · subst hlo hn
      exact congrArg Host.Outcome.next (State.epochLoad_outside hfirst hkind hout)
    · rintro hkind rfl hlo512 hoff hshadow hss hread hlen
      exact congrArg Host.Outcome.next (State.epochLoad_one hfirst hlo hn.symm hzero hkind hlo512 hoff hshadow hss hread hlen)
  case control =>
    intro i d n r f len hfirst hkind hn hr hf hlen hn512 hr16 hlen0 hlen16 hcode hcode' hzero
    have hsend := State.controlSend_of_good hfirst hkind hn hr hf hlen hn512 hr16 hlen0 hlen16 hcode hcode' hzero
    refine ⟨fun hsends hjoined => congrArg Host.Outcome.next (hsend.trans (if_neg ?_)),
      fun hrefused => congrArg Host.Outcome.next (hsend.trans (if_pos ?_))⟩
    · simp [hsends, hjoined]
    · rcases hrefused with h | h <;> simp [h]
  case packets =>
    intro ch g rest hsegs
    refine ⟨fun hoff => congrArg Host.Outcome.next (State.sendPacket_dropped hsegs hoff), fun n data last p hon hdata hlast hp hn => ?_⟩
    have hsend := State.sendPacket_sends hsegs hon hdata hlast hp hn
    refine ⟨fun hfull => ?_, fun hroom hend => ?_, fun hroom hmore => ?_⟩ <;> refine congrArg Host.Outcome.next (hsend.trans ?_)
    · rw [hfull]; rfl
    · rw [hroom, hend]; rfl
    · rw [hroom, hmore]; rfl

end Sys2Proof.Machine

namespace Sys2Proof.Machine

/-! ### Upstream packets (R328, R331) -/

theorem upFolio_lt (p : Upstream) : upFolio p < 8192 := by
  have hch := p.channel.isLt
  have hrx := p.receiver.isLt
  unfold upFolio
  omega

namespace State

theorem accepts_eq_some {s : State} {u : UpFrame} {p : Upstream} (h : s.accepts u = some p) :
    ∃ data, s.upOpen u = some data ∧ p = messageOf u data ∧ s.upGood (messageOf u []) = true := by
  unfold accepts at h
  split at h
  case isTrue hgood =>
    obtain ⟨data, hopen, rfl⟩ := Option.map_eq_some_iff.mp h
    exact ⟨data, hopen, rfl, hgood⟩
  case isFalse => cases h

/-- The type stands in the header, which is read before the data opens. -/
theorem ptype_of_accepts {s : State} {u : UpFrame} {p : Upstream} (h : s.accepts u = some p) : (messageOf u []).ptype = p.ptype := by
  obtain ⟨data, -, rfl, -⟩ := accepts_eq_some h
  rfl

theorem upstream_discarded {s : State} {u : UpFrame} (h : s.accepts u = none) (want : Upstream → Bool) (act : State → Upstream → State) :
    s.upstream u want act = s.addSat (Reg.wchCnt (messageOf u []).channel.val) 15 8 1 := by
  rw [upstream, h, upBad]

theorem upstream_handled {s : State} {u : UpFrame} {p : Upstream} (h : s.accepts u = some p) {want : Upstream → Bool} (hwant : want p = true)
    (act : State → Upstream → State) : s.upstream u want act = act (s.noteSeq p) p := by
  rw [upstream, h]
  exact if_pos hwant

theorem upControl_discarded {s : State} {u : UpFrame} (h : s.accepts u = none) (htype : (messageOf u []).ptype = 2) (code : Nat)
    (act : State → Upstream → State) : s.upControl u code act = s.addSat (Reg.wchCnt (messageOf u []).channel.val) 15 8 1 := by
  rw [upControl, if_pos htype, upstream_discarded h]

theorem upControl_handled {s : State} {u : UpFrame} {p : Upstream} (h : s.accepts u = some p) (htype : p.ptype = 2) {code : Nat}
    (hcode : upCode p = code) (act : State → Upstream → State) : s.upControl u code act = act (s.noteSeq p) p := by
  rw [upControl, if_pos ((ptype_of_accepts h).trans htype), upstream_handled h (by simp [hcode])]

/-- An accepted packet's sequence number is all that changes in its folio's record. -/
theorem rxAt_noteSeq (s : State) (p : Upstream) :
    ∃ epoch seen, (s.noteSeq p).rxAt (upFolio p) = { s.rxAt (upFolio p) with seqEpoch := epoch, seqSeen := seen } :=
  ⟨_, _, rxAt_setRx _ _ _⟩

theorem WallKept.bcRing (s : State) (p : Upstream) : s.WallKept (s.bcRing p) :=
  (WallKept.ringWrite _ _ _ _ _ _ (by decide)).trans (.raiseEvt _ _)

/-! ### A receiver's state and version (R332-R334) -/

theorem WallKept.enqueue (s : State) (n : Nat) (p : Pkt) : s.WallKept (s.enqueue n p) := by
  have hnode : s.WallKept (s.setNode n (s.nodeAt n ++ [p])) := ⟨rfl, rfl, fun _ _ _ _ => rfl⟩
  exact hnode.trans (.setF _ _ _ _ _ (by decide))

theorem WallKept.sendControl (s : State) (f : Nat) (data : List Byte) : s.WallKept (s.sendControl f data) :=
  WallKept.closed.ite (.enqueue _ _ _) (.refl s)

theorem rxAt_setRxState (s : State) (f st ver g : Nat) : (s.setRxState f st ver).rxAt g = s.rxAt g := by
  unfold setRxState
  dsimp only
  split
  · rfl
  · exact (WallKept.raiseEvt _ _).rxAt g

theorem setRxState_shows (s : State) {f st ver : Nat} (hf : f < 8192) (hst : st < 8) (hver : ver < 4) :
    (s.setRxState f st ver).rxState f = st ∧ (s.setRxState f st ver).rxVersion f = ver := by
  unfold setRxState
  extract_lets off s1
  have hstate : s1.rxState f = st :=
    (getF_setF_apart _ off 28 27 ver 31 29 (by decide) (by decide)).trans (getF_setF_same s off 31 29 st (by decide) hst)
  have hversion : s1.rxVersion f = ver := getF_setF_same _ off 28 27 ver (by decide) hver
  split
  · exact ⟨hstate, hversion⟩
  · have hevent := WallKept.raiseEvt s1 Reg.impEvt
    exact ⟨(hevent.rxState hf).trans hstate, (hevent.rxVersion hf).trans hversion⟩

/-- Requesting a key marks it as pending in the folio's record and shows it in the folio's entry. -/
theorem requestKey_marks (s : State) (keep : Bool) (f : Nat) :
    ∃ keep', (s.setRx f { s.rxAt f with keyPending := true, keyKeep := keep' }).WallKept (s.requestKey keep f) := by
  refine ⟨if (s.rxAt f).keyPending then (s.rxAt f).keyKeep && keep else keep, ?_⟩
  unfold requestKey
  cases s.folioCtx with
  | some c => exact WallKept.closed.memWrite _ _ _ _
  | none => exact .refl _

theorem topVersion_pos : ∀ n < 8, n ≠ 0 → topVersion n ≠ 0 := by decide

theorem topVersion_lt (n : Nat) : topVersion n < 4 := by
  unfold topVersion
  repeat' split
  all_goals decide

/-- A receiver that shares a version and takes the sheet's encoding is JOINED at the highest common version, and its key requested (R332). -/
theorem negotiate_joins {s : State} {f common : Nat} (hf : f < 8192)
    (hcommon : common = Nat.land ((s.rxAt f).joinVersions % 8) (2 ^ s.getF (Reg.wchRx (f / 16) (f % 16)) 27 26 - 1)) (hpos : common ≠ 0)
    (hable : (s.rxAt f).joinCaps.testBit (if s.getF (Reg.couchSheetCtrl 0) 26 24 = 1 then 1 else 0) = true) :
    (s.negotiate f).rxState f = 1 ∧ (s.negotiate f).rxVersion f = topVersion common ∧
      ((s.negotiate f).rxAt f).lastJoin = (s.rxAt f).lastJoin ∧ ((s.negotiate f).rxAt f).keyPending = true := by
  generalize ht : s.negotiate f = t
  unfold negotiate at ht
  extract_lets x n maxVer common' enc able v st from_ s1 x1 s2 s3 at ht
  obtain rfl : common = common' := hcommon
  have hlt : common' < 8 := lt_of_le_of_lt Nat.and_le_left (Nat.mod_lt _ (by decide))
  have hv : v = topVersion common' := if_neg (by simp [hpos, show able = true from hable])
  have hst : st = 1 := (if_neg hpos).trans (if_neg (by simp [show able = true from hable]))
  rw [if_neg (by rw [hv]; exact topVersion_pos _ hlt hpos)] at ht
  obtain ⟨hstate, hversion⟩ := s2.setRxState_shows hf (st := st) (ver := v) (by omega) (hv ▸ topVersion_lt _)
  obtain ⟨keep, hkey⟩ := s3.requestKey_marks false f
  rw [ht] at hkey
  have hstate3 : s3.rxState f = 1 :=
    (getF_setF_apart (s2.setRxState f st v) _ 15 0 x.joinCaps 31 29 (by decide) (by decide)).trans (hstate.trans hst)
  have hversion3 : s3.rxVersion f = topVersion common' :=
    (getF_setF_apart (s2.setRxState f st v) _ 15 0 x.joinCaps 28 27 (by decide) (by decide)).trans (hversion.trans hv)
  have hjoin1 : x1.lastJoin = (s.rxAt f).lastJoin := congrArg RxSt.lastJoin ((WallKept.sendControl s f _).rxAt f)
  have hjoin3 : (s3.rxAt f).lastJoin = (s.rxAt f).lastJoin := by
    have h3 : s3.rxAt f = s2.rxAt f := s2.rxAt_setRxState f st v f
    rw [h3, rxAt_setRx]
    exact hjoin1
  refine ⟨(hkey.rxState hf).trans hstate3, (hkey.rxVersion hf).trans hversion3, ?_, ?_⟩
  · rw [hkey.rxAt, rxAt_setRx]
    exact hjoin3
  · rw [hkey.rxAt, rxAt_setRx]

/-! ### JOIN, KEY_REQUEST and STATUS (R332-R334) -/

/-- The registers of a receiver's channel that its messages read are not the ring's. -/
theorem rd_bcRing_wchRx (s : State) (p : Upstream) {f : Nat} (hf : f < 8192) :
    (s.bcRing p).rd (Reg.wchRx (f / 16) (f % 16)) = s.rd (Reg.wchRx (f / 16) (f % 16)) := by
  unfold Reg.wchRx
  exact (WallKept.bcRing s p).regs _ (by omega) (by omega) (.inr (by omega))

/-- A JOIN that does not come too soon, of a receiver with a common version that takes the sheet's encoding. -/
theorem joinMsg_joins {s : State} {p : Upstream} {common : Nat}
    (hlate : ∀ at_, (s.rxAt (upFolio p)).lastJoin = some at_ → at_ + 250000000 ≤ s.now)
    (hcommon : common = Nat.land (byteAt p.data 1 % 8) (2 ^ s.getF (Reg.wchRx (upFolio p / 16) (upFolio p % 16)) 27 26 - 1)) (hpos : common ≠ 0)
    (hable : (beAt p.data 2 2).testBit (if s.getF (Reg.couchSheetCtrl 0) 26 24 = 1 then 1 else 0) = true) :
    (s.joinMsg p).rxState (upFolio p) = 1 ∧ (s.joinMsg p).rxVersion (upFolio p) = topVersion common ∧
      ((s.joinMsg p).rxAt (upFolio p)).lastJoin = some s.now ∧ ((s.joinMsg p).rxAt (upFolio p)).keyPending = true := by
  have hsheet : (s.bcRing p).rd (Reg.couchSheetCtrl 0) = s.rd (Reg.couchSheetCtrl 0) :=
    (WallKept.bcRing s p).regs _ (by decide) (by decide) (by decide)
  have hmax := getF_of_rd (s.rd_bcRing_wchRx p (upFolio_lt p)) 27 26
  generalize ht : s.joinMsg p = t
  unfold joinMsg at ht
  extract_lets x early s1 at ht
  have hearly : early = false := by
    unfold early
    cases hjoin : x.lastJoin with
    | none => rfl
    | some at_ => exact decide_eq_false (by have := hlate at_ hjoin; omega)
  rw [hearly, if_neg (by decide)] at ht
  subst ht
  have hjoins := negotiate_joins (s := s1.setRx (upFolio p) { s1.rxAt (upFolio p) with
      joinVersions := byteAt p.data 1, joinCaps := beAt p.data 2 2, lastJoin := some s.now, lastStatus := s.now }) (common := common)
    (upFolio_lt p) (by rw [rxAt_setRx]; exact hcommon.trans (by rw [← hmax]; rfl)) hpos
    (by rw [rxAt_setRx]; exact (getF_of_rd hsheet 26 24).symm ▸ hable)
  rw [rxAt_setRx] at hjoins
  exact hjoins

/-- A KEY_REQUEST of a folio whose entry has auto_key set. -/
theorem keyMsg_requests {s : State} {p : Upstream} (hauto : ((s.rxAt (upFolio p)).entry.getD 5 0).getLsbD 1 = true) :
    ((s.keyMsg p).rxAt (upFolio p)).keyPending = true := by
  unfold keyMsg
  extract_lets s1
  obtain ⟨keep, hkey⟩ := s1.requestKey_marks ((p.data.getD 1 0).getLsbD 0) (upFolio p)
  rw [if_pos hauto, hkey.rxAt, rxAt_setRx]

/-- A STATUS is recorded, and a SILENT receiver is JOINED again. -/
theorem statusMsg_shows (s : State) (p : Upstream) : ((s.statusMsg p).rxAt (upFolio p)).lastStatus = s.now ∧
    (s.statusMsg p).rxState (upFolio p) = if s.rxState (upFolio p) = 4 then 1 else s.rxState (upFolio p) := by
  have hring := WallKept.bcRing s p
  unfold statusMsg
  extract_lets f s1 x1 s2
  have hstate : s2.rxState f = s.rxState f := hring.rxState (upFolio_lt p)
  have hstatus : (s2.rxAt f).lastStatus = s.now := by rw [rxAt_setRx]
  rw [hstate]
  split
  · exact ⟨by rw [rxAt_setRxState, hstatus], (s2.setRxState_shows (upFolio_lt p) (by decide) (getF_lt _ _ _ _)).1⟩
  · exact ⟨hstatus, hstate⟩

/-- A JOINED receiver that has been silent for 3 s. -/
theorem statusTimeout_silences {s : State} {f : Nat} (hf : f < 8192) (hjoined : s.rxState f = 1)
    (hdue : (s.rxAt f).lastStatus + 3000000000 ≤ s.now) :
    (s.statusTimeout f).rxState f = 4 ∧ (s.statusTimeout f).rxVersion f = s.rxVersion f := by
  rw [statusTimeout, if_pos ⟨hjoined, hdue⟩]
  exact s.setRxState_shows hf (by decide) (getF_lt _ _ _ _)

theorem statusTimeout_of_not_due {s : State} {f : Nat} (h : s.rxState f ≠ 1 ∨ s.now < (s.rxAt f).lastStatus + 3000000000) :
    s.statusTimeout f = s :=
  if_neg fun hdue => h.elim (· hdue.1) (Nat.not_lt.mpr hdue.2)

end State
end Sys2Proof.Machine

namespace Sys2Proof.Machine

/-! ### Countermark echoes (R335, R336) -/

/-- An echo of one entry names that entry's region and CRC. -/
theorem echoEntry_zero (data : List Byte) : (List.range 1).map (echoEntry data) = [(byteAt data 4, beAt data 8 4)] := rfl

namespace State

/-- A forced region shows its fallback in force and which comparison forced it: bit 30 the checker, bit 29 an echo (R257, R336). -/
theorem forceRegion_shows (s : State) {r : Nat} (cause ch rx n v e m : Nat) (hr : r ≤ 15) :
    (s.forceRegion r cause ch rx n v e m).flag (Reg.couchCmSts (r - 1)) 31 = true ∧
      (s.forceRegion r cause ch rx n v e m).flag (Reg.couchCmSts (r - 1)) 30 = (cause == 1) ∧
      (s.forceRegion r cause ch rx n v e m).flag (Reg.couchCmSts (r - 1)) 29 = (cause != 1) := by
  unfold forceRegion
  extract_lets off
  have hoff : 0x900000 ≤ off ∧ off < 0xB00000 := by unfold off Reg.couchCmSts; omega
  have hkept (a : State) : a.WallKept (((a.claspAlarm r cause ch rx n v e m).hostEvent 0x06 (r + cause % 8 * 16)).raiseEvt Reg.couchEvt) :=
    ((WallKept.claspAlarm _ _ _ _ _ _ _ _ _).trans (.hostEvent _ _ _)).trans (.raiseEvt _ _)
  have hflag (a : State) (b : Nat) := flag_of_rd ((hkept a).regs off hoff.1 (by omega) (.inl hoff.2)) b
  refine ⟨?_, ?_, ?_⟩ <;> rw [hflag]
  · rw [flag_setB_apart _ off 29 _ 31 (by decide) (by decide), flag_setB_apart _ off 30 _ 31 (by decide) (by decide),
      flag_setB_same s off 31 true (by decide)]
  · rw [flag_setB_apart _ off 29 _ 30 (by decide) (by decide), flag_setB_same _ off 30 _ (by decide)]
  · rw [flag_setB_same _ off 29 _ (by decide)]

/-- The same of a forced region whose unit's event follows. -/
theorem forceRegion_event_flag (s : State) (r cause ch rx n v e m b : Nat) :
    ((s.forceRegion r cause ch rx n v e m).raiseEvt Reg.impEvt).flag (Reg.couchCmSts (r - 1)) b =
      (s.forceRegion r cause ch rx n v e m).flag (Reg.couchCmSts (r - 1)) b :=
  flag_of_rd (rd_raiseEvt _ _ _ (by unfold Reg.couchCmSts; omega)) b

section Echo
variable {s : State} {p : Upstream} {k : KeptCrc} (hcount : byteAt p.data 0 = 1) (hlen : p.data.length = 12)
  (hkept : ((s.rxAt (upFolio p)).keptOf p.picture.toNat p.row.toNat).find? (fun q => q.region == byteAt p.data 4) = some k)
include hcount hlen hkept

/-- An echo of one entry the press still keeps a value of: written to the ring, and compared. -/
theorem echoMsg_one : s.echoMsg p = (s.bcRing p).echoOne p (byteAt p.data 4, beAt p.data 8 4) := by
  have hany : ((s.rxAt (upFolio p)).keptOf p.picture.toNat p.row.toNat).any (fun q => q.region == byteAt p.data 4) = true :=
    List.any_eq_true.mpr ⟨k, List.mem_of_find?_eq_some hkept, List.find?_some (p := fun q : KeptCrc => q.region == byteAt p.data 4) hkept⟩
  unfold echoMsg
  dsimp only
  rw [hcount, echoEntry_zero, if_neg (by simp [hlen, hany])]
  rfl

/-- The entry compared marks its value as echoed, and forces its region where the CRCs differ. -/
theorem echoMsg_compares : s.echoMsg p =
    let s1 := (s.bcRing p).setEchoed (upFolio p) k.picture k.row k.region
    if k.crc = beAt p.data 8 4 then s1
    else (s1.forceRegion (byteAt p.data 4) 2 p.channel.val p.receiver.val k.picture (beAt p.data 8 4) k.crc 0).raiseEvt Reg.impEvt := by
  rw [echoMsg_one hcount hlen hkept, echoOne, (WallKept.bcRing s p).rxAt, hkept]

theorem echoMsg_forces (hdiffers : k.crc ≠ beAt p.data 8 4) (hregion : byteAt p.data 4 ≤ 15) :
    (s.echoMsg p).flag (Reg.couchCmSts (byteAt p.data 4 - 1)) 31 = true ∧
      (s.echoMsg p).flag (Reg.couchCmSts (byteAt p.data 4 - 1)) 29 = true := by
  rw [echoMsg_compares hcount hlen hkept, if_neg hdiffers, forceRegion_event_flag,
    forceRegion_event_flag]
  obtain ⟨hforced, -, hecho⟩ := forceRegion_shows
    ((s.bcRing p).setEchoed (upFolio p) k.picture k.row k.region) 2 p.channel.val p.receiver.val k.picture (beAt p.data 8 4) k.crc 0 hregion
  exact ⟨hforced, hecho⟩

end Echo

section Missing
variable {s : State} {f picture row region : Nat} {k : KeptCrc}
  (hkept : (s.rxAt f).kept.find? (fun q => decide (q.picture = picture) && decide (q.row = row) && decide (q.region = region) && !q.echoed) =
    some k)
include hkept

/-- With strict set, a value whose echo has not come in 8 frame periods forces its region (R336). -/
theorem echoMissing_forces (hstrict : s.flag Reg.impEcho 31 = true) (hver : s.rxVersion f = 3)
    (hdue : k.due + frameStart (sheetCfg s.rd 0).rate 8 ≤ s.timeOf (sheetCfg s.rd 0).tb) (hregion : region ≤ 15) :
    (s.echoMissing f picture row region).flag (Reg.couchCmSts (region - 1)) 31 = true ∧
      (s.echoMissing f picture row region).flag (Reg.couchCmSts (region - 1)) 30 = false := by
  unfold echoMissing
  dsimp only
  rw [hkept]
  dsimp only
  rw [if_pos ⟨hstrict, hver, hdue⟩, forceRegion_event_flag, forceRegion_event_flag]
  obtain ⟨hforced, hchecker, -⟩ :=
    forceRegion_shows (s.setEchoed f picture row region) 3 (f / 16) (f % 16) picture 0 k.crc 0 hregion
  exact ⟨hforced, hchecker⟩

theorem echoMissing_of_not_strict (hlax : s.flag Reg.impEcho 31 = false) : s.echoMissing f picture row region = s := by
  simp [echoMissing, hkept, hlax]

end Missing
end State

/-! ### The statement about the back channel -/

/-- Settles O46: acceptance first, then each kind of message on the state that has noted the packet's sequence number. -/
theorem backChannelMessages : Obligations.BackChannelMessages := by
  unfold Obligations.BackChannelMessages
  refine fun u s => ⟨?discarded, fun p h => State.accepts_eq_some h, ?control, ?silent, ?echo, ?missing⟩
  case discarded =>
    rintro _ h rfl
    refine ⟨fun htype => ?_, fun htype => congrArg Host.Outcome.next ((if_pos htype).trans (State.upstream_discarded h _ _))⟩
    have hdrop (code : Nat) (act : State → Upstream → State) := congrArg (Host.Outcome.next (φ := Fault) (ρ := Refusal)) (
      State.upControl_discarded h htype code act)
    exact ⟨hdrop _ _, hdrop _ _, hdrop _ _, hdrop _ _⟩
  case control =>
    rintro p f h htype rfl
    obtain ⟨epoch, seen, hrx⟩ := s.rxAt_noteSeq p
    have hhandled {code : Nat} (hcode : upCode p = code) (act : State → Upstream → State) :=
      congrArg (Host.Outcome.next (φ := Fault) (ρ := Refusal)) (State.upControl_handled h htype hcode act)
    refine ⟨fun hcode hlate common hcommon hpos hable => ?_, fun hcode hauto => ?_, fun hcode => ?_, fun hcode => hhandled hcode _⟩
    · exact ⟨_, hhandled hcode _, State.joinMsg_joins (s := s.noteSeq p) (by rw [hrx]; exact hlate) hcommon hpos hable⟩
    · exact ⟨_, hhandled hcode _, State.keyMsg_requests (s := s.noteSeq p) (by rw [hrx]; exact hauto)⟩
    · exact ⟨_, hhandled hcode _, (s.noteSeq p).statusMsg_shows p⟩
  case silent =>
    rintro ch rx f rfl
    exact ⟨fun hjoined hdue => ⟨_, rfl, State.statusTimeout_silences (by omega) hjoined hdue⟩,
      fun h => congrArg Host.Outcome.next (State.statusTimeout_of_not_due h)⟩
  case echo =>
    rintro p f k h htype rfl hcount hlen hkept
    obtain ⟨epoch, seen, hrx⟩ := s.rxAt_noteSeq p
    have hnoted : (((s.noteSeq p).rxAt (upFolio p)).keptOf p.picture.toNat p.row.toNat).find? (fun q => q.region == byteAt p.data 4) = some k := by
      rw [hrx]; exact hkept
    have hhandled : exec (.countermarkEcho u) s = .next ((s.noteSeq p).echoMsg p) :=
      congrArg Host.Outcome.next ((if_pos ((State.ptype_of_accepts h).trans htype)).trans (State.upstream_handled h rfl _))
    refine ⟨fun hagrees => ?_, fun hdiffers _ hregion => ⟨_, hhandled, State.echoMsg_forces hcount hlen hnoted hdiffers hregion⟩⟩
    rw [hhandled, State.echoMsg_compares hcount hlen hnoted, if_pos hagrees]
  case missing =>
    rintro ch rx f pic row reg k rfl hkept
    exact ⟨fun hstrict hver hdue => ⟨_, rfl, State.echoMissing_forces hkept hstrict hver hdue reg.isLt⟩,
      fun hlax => congrArg Host.Outcome.next (State.echoMissing_of_not_strict hkept hlax)⟩

end Sys2Proof.Machine

namespace Sys2Proof.Machine

/-! ### Bits and the Rice code (R341, R351) -/

@[simp] theorem length_bitsOf (n v : Nat) : (bitsOf n v).length = n := by
  induction n with
  | zero => rfl
  | succ n ih => simp [bitsOf, ih]

/-- Bits read after the number `a` shift it up and fill in below. -/
theorem foldl_bitsOf (n v a : Nat) :
    (bitsOf n v).foldl (fun a b => 2 * a + b2n b) a = a * 2 ^ n + v % 2 ^ n := by
  induction n generalizing a with
  | zero => simp [bitsOf, Nat.mod_one]
  | succ n ih =>
    have hbit : b2n (v.testBit n) = v / 2 ^ n % 2 := by
      rw [← Nat.toNat_testBit]; cases v.testBit n <;> rfl
    rw [bitsOf, List.foldl_cons, ih, hbit, Nat.mod_pow_succ]
    ring

theorem readBits_bitsOf (n v : Nat) (rest : List Bool) : readBits n (bitsOf n v ++ rest) = some (v % 2 ^ n, rest) := by
  have hlen : ¬ (bitsOf n v ++ rest).length < n := by simp
  rw [readBits, if_neg hlen, List.take_left' (length_bitsOf n v), List.drop_left' (length_bitsOf n v), ofBits, foldl_bitsOf]
  simp

/-- A run of ones that a zero ends short of the limit. -/
theorem ones_stopped {n q : Nat} (hq : q < n) (rest : List Bool) :
    ones n (List.replicate q true ++ false :: rest) = some (q, rest) := by
  induction q generalizing n with
  | zero => cases n with
    | zero => omega
    | succ n => simp [ones]
  | succ q ih => cases n with
    | zero => omega
    | succ n => simp [List.replicate_succ, ones, ih (Nat.lt_of_succ_lt_succ hq)]

/-- A run of ones that reaches the limit. -/
theorem ones_full (n : Nat) (rest : List Bool) : ones n (List.replicate n true ++ rest) = some (n, rest) := by
  induction n with
  | zero => rfl
  | succ n ih => simp [List.replicate_succ, ones, ih]

theorem zeros_stopped {n z : Nat} (hz : z < n) (rest : List Bool) :
    zeros n (List.replicate z false ++ true :: rest) = some (z, rest) := by
  induction z generalizing n with
  | zero => cases n with
    | zero => omega
    | succ n => simp [zeros]
  | succ z ih => cases n with
    | zero => omega
    | succ n => simp [List.replicate_succ, zeros, ih (Nat.lt_of_succ_lt_succ hz)]

/-- The short form: a quotient below 20 in unary, then the remainder. -/
theorem riceRead_short {k v : Nat} (hv : v / 2 ^ k < 20) (rest : List Bool) : riceRead k (riceBits k v ++ rest) = some (v, rest) := by
  have hdiv : v / 2 ^ k * 2 ^ k + v % 2 ^ k = v := Nat.div_add_mod' v (2 ^ k)
  simp [riceBits, riceRead, hv, ones_stopped hv, readBits_bitsOf, hdiv]

/-- The escape: twenty ones, then the excess in an order-0 exponential Golomb code; below 2^31 it stays short of the damage of 33 zeros. -/
theorem riceRead_escape {k v : Nat} (hv : 20 ≤ v / 2 ^ k) (hv31 : v < 2 ^ 31) (rest : List Bool) :
    riceRead k (riceBits k v ++ rest) = some (v, rest) := by
  have hexcess : 20 * 2 ^ k ≤ v := (Nat.le_div_iff_mul_le (Nat.two_pow_pos k)).1 hv
  obtain ⟨w, hw⟩ : ∃ w, w = v - 20 * 2 ^ k + 1 := ⟨_, rfl⟩
  have hw0 : w ≠ 0 := by omega
  have hzeros : w.log2 < 33 := (Nat.log2_lt hw0).2 (by omega)
  have hlow : 2 ^ w.log2 ≤ w := Nat.log2_self_le hw0
  have hmod : w % 2 ^ w.log2 = w - 2 ^ w.log2 := by
    rw [Nat.mod_eq_sub_mod hlow, Nat.mod_eq_of_lt]
    have := @Nat.lt_log2_self w
    omega
  have hsum : 20 * 2 ^ k + 2 ^ w.log2 - 1 + (w - 2 ^ w.log2) = v := by omega
  have hbits : riceBits k v ++ rest =
      List.replicate 20 true ++ (List.replicate w.log2 false ++ true :: (bitsOf w.log2 w ++ rest)) := by
    rw [riceBits, if_neg (Nat.not_lt.2 hv), ← hw]
    simp
  rw [riceRead, hbits, ones_full]
  simp only [Nat.lt_irrefl, if_false, zeros_stopped hzeros, readBits_bitsOf, hmod, hsum]
  exact if_neg (by omega)

theorem riceRead_riceBits (k : Nat) {v : Nat} (hv : v < 2 ^ 31) (rest : List Bool) :
    riceRead k (riceBits k v ++ rest) = some (v, rest) :=
  (Nat.lt_or_ge (v / 2 ^ k) 20).elim (fun h => riceRead_short h rest) (fun h => riceRead_escape h hv rest)

/-- Settles O6: the short form and the escape are each read back, whatever the parameter. -/
theorem riceCodeRoundTrip : Obligations.RiceCodeRoundTrip := by
  unfold Obligations.RiceCodeRoundTrip
  exact fun k v rest _ hv => riceRead_riceBits k hv rest

end Sys2Proof.Machine

namespace Sys2Proof.Machine

/-! ### A reader follows a writer (R347)

The writer appends bits and moves the coding state on. A reader follows it from `w` to `w'` when it answers the value written, leaves what comes
after those bits, and reaches the writer's coding state. -/

/-- `rd`, run on the bits that lead from `w` to `w'`, answers `a` and ends in the coding state of `w'`. -/
def ReadsBack {α : Type} (rd : Rd α) (w w' : Wr) (a : α) : Prop :=
  ∃ bits, w'.1 = w.1 ++ bits ∧ ∀ rest, rd (bits ++ rest, w.2) = some (a, (rest, w'.2))

namespace ReadsBack
variable {α β : Type} {w w₁ w' : Wr}

/-! #### Sequencing -/

theorem done (a : α) : ReadsBack (pure a) w w a := ⟨[], by simp, fun _ => rfl⟩

theorem bind {rd : Rd α} {f : α → Rd β} {a : α} {b : β} (hfirst : ReadsBack rd w w₁ a) (hthen : ReadsBack (f a) w₁ w' b) :
    ReadsBack (rd >>= f) w w' b := by
  obtain ⟨bits, hw, hrd⟩ := hfirst
  obtain ⟨bits', hw', hrd'⟩ := hthen
  refine ⟨bits ++ bits', by rw [hw', hw, List.append_assoc], fun rest => ?_⟩
  rw [List.append_assoc]
  show (rd (bits ++ (bits' ++ rest), w.2)).bind _ = _
  rw [hrd]
  exact hrd' rest

theorem of_eq {rd : Rd α} {a b : α} (hab : a = b) (h : ReadsBack rd w w' a) : ReadsBack rd w w' b := hab ▸ h

theorem ok {b : Bool} (hb : b = true) : ReadsBack (rdOk b) w w () := ⟨[], by simp, fun _ => if_pos hb⟩

/-- The reader changes the coding state as the writer does. -/
theorem moveCode (g : CodeSt → CodeSt) : ReadsBack (modify fun p => (p.1, g p.2)) w (w.1, g w.2) () := ⟨[], by simp, fun _ => rfl⟩

/-- The coding state is the writer's, so what is read from it alone does not depend on the bits left. -/
theorem readCode {f : List Bool × CodeSt → Rd α} {a : α} (hf : ∀ bits, f (bits, w.2) = f ([], w.2)) (h : ReadsBack (f ([], w.2)) w w' a) :
    ReadsBack (get >>= f) w w' a := by
  obtain ⟨bits, hw, hrd⟩ := h
  exact ⟨bits, hw, fun rest => (congrFun (hf (bits ++ rest)) _).trans (hrd rest)⟩

/-! #### Numbers -/

theorem num {n v : Nat} (hv : v < 2 ^ n) : ReadsBack (rdNum n) w (w.num n v) v := by
  refine ⟨bitsOf n v, rfl, fun rest => ?_⟩
  rw [rdNum, readBits_bitsOf, Nat.mod_eq_of_lt hv]
  rfl

theorem flag (b : Bool) : ReadsBack (rdNum 1) w (w.num 1 (b2n b)) (b2n b) := num (by cases b <;> decide)

theorem rice {i v : Nat} (hv : v < 2 ^ 31) : ReadsBack (rdRice i) w (w.rice i v) v := by
  refine ⟨riceBits (riceK (w.2.at i)) v, rfl, fun rest => ?_⟩
  rw [rdRice, riceRead_riceBits _ hv]
  rfl

/-- A sign and a magnitude less 1 carry every number but 0. -/
theorem sized {i : Nat} {x : Int} (hx : x ≠ 0) (hmag : x.natAbs ≤ 2 ^ 31) : ReadsBack (rdSized i) w (w.sized i x) x := by
  have hvalue : (if b2n (decide (x < 0)) = 1 then -((x.natAbs - 1 + 1 : Nat) : Int) else ((x.natAbs - 1 + 1 : Nat) : Int)) = x := by
    by_cases hneg : x < 0
    · simp only [hneg, decide_true, b2n, if_true]; omega
    · simp only [hneg, decide_false, b2n, Bool.false_eq_true, if_false, zero_ne_one]; omega
  exact of_eq hvalue (bind (flag _) (bind (rice (by omega)) (.done _)))

/-! #### Lists -/

theorem mapM {rd : β → Rd α} {write : Wr → β → Wr} {val : β → α} {xs : List β}
    (h : ∀ x ∈ xs, ∀ w, ReadsBack (rd x) w (write w x) (val x)) (w : Wr) : ReadsBack (xs.mapM rd) w (xs.foldl write w) (xs.map val) := by
  induction xs generalizing w with
  | nil => exact .done _
  | cons x xs ih =>
    rw [List.mapM_cons]
    exact (h x List.mem_cons_self w).bind ((ih (fun y hy => h y (List.mem_cons_of_mem _ hy)) _).bind (.done _))

/-- A reader that counts, and a writer that goes through the values. -/
theorem counted {rd : Rd α} {write : Wr → α → Wr} {xs : List α} (h : ∀ x ∈ xs, ∀ w, ReadsBack rd w (write w x) x) (w : Wr) :
    ReadsBack ((List.range xs.length).mapM fun _ => rd) w (xs.foldl write w) xs := by
  have hread : (List.range xs.length).mapM (fun _ => rd) = xs.mapM (fun _ => rd) := by
    have hunits {γ : Type} (ys : List γ) : ys.mapM (fun _ => rd) = (List.replicate ys.length ()).mapM (fun _ => rd) := by
      rw [← List.map_const', List.mapM_map]; rfl
    rw [hunits, hunits xs, List.length_range]
  simpa [hread] using mapM (val := id) h w

/-- A reader and a writer that both go through the places of a list. -/
theorem indexed {n : Nat} {xs : List α} {d : α} {rd : Nat → Rd α} {write : Wr → Nat → Wr} (hlen : xs.length = n)
    (h : ∀ i < n, ∀ w, ReadsBack (rd i) w (write w i) (xs.getD i d)) (w : Wr) :
    ReadsBack ((List.range n).mapM rd) w ((List.range n).foldl write w) xs := by
  have hvals : (List.range n).map (fun i => xs.getD i d) = xs :=
    List.ext_getElem (by simp [hlen]) fun i _ hi => by rw [List.getElem_map, List.getElem_range, List.getD_eq_getElem _ _ hi]
  have hread := mapM (val := fun i => xs.getD i d) (fun i hi => h i (List.mem_range.1 hi)) w
  rwa [hvals] at hread

end ReadsBack

/-! ### Levels and blocks (R347, R352) -/

@[simp] theorem unfoldSign_foldSign (i : Int) : unfoldSign (foldSign i) = i := by
  unfold unfoldSign foldSign
  by_cases hpos : 0 ≤ i
  · rw [if_pos hpos, if_pos (by omega)]; omega
  · rw [if_neg hpos, if_neg (by omega)]; omega

theorem foldSign_le (i : Int) : foldSign i ≤ 2 * i.natAbs := by
  unfold foldSign
  split <;> omega

/-- Levels that a block of size n can carry. -/
def LevelsFit (n : Nat) (ls : List Int) : Prop :=
  1 ≤ ls.length ∧ ls.length ≤ n * n ∧ (∀ l ∈ ls, l.natAbs < 2 ^ 24) ∧ ls.getLast? ≠ some 0

/-- The last level of a list, which the writer sends with its own sign. -/
theorem LevelsFit.last {n : Nat} {ls : List Int} (h : LevelsFit n ls) :
    ∃ m, ls.getLast?.getD 1 = m ∧ m ≠ 0 ∧ m.natAbs < 2 ^ 24 ∧ ls.dropLast ++ [m] = ls := by
  obtain ⟨hne, -, hmag, hlast⟩ := h
  have hnil : ls ≠ [] := List.ne_nil_of_length_pos hne
  rw [List.getLast?_eq_some_getLast hnil] at hlast ⊢
  exact ⟨_, rfl, fun h0 => hlast (congrArg some h0), hmag _ (List.getLast_mem hnil), List.dropLast_concat_getLast hnil⟩

theorem ReadsBack.coefs {w : Wr} {n : Nat} (c : Nat) {ls : List Int} (hn : n ≤ 16) (h : LevelsFit n ls) :
    ReadsBack (rdCoefs n c) w (w.coefs n c ls) ls := by
  obtain ⟨m, hm, hm0, hmmag, hsplit⟩ := h.last
  obtain ⟨hne, hle, hmag, -⟩ := h
  have hnn : n * n ≤ 16 * 16 := Nat.mul_le_mul hn hn
  have hlevel : ∀ l ∈ ls.dropLast, ∀ w : Wr, ReadsBack (do
      let v ← rdRice (ctxCoef n c)
      rdOk (decide ((unfoldSign v).natAbs < 2 ^ 24))
      pure (unfoldSign v)) w (w.rice (ctxCoef n c) (foldSign l)) l := by
    intro l hl w
    have hlmag := hmag l (List.dropLast_subset _ hl)
    have hcode := foldSign_le l
    refine bind (rice (v := foldSign l) (by omega)) ?_
    rw [unfoldSign_foldSign]
    exact (ok (decide_eq_true hlmag)).bind (.done _)
  have hlevels := counted hlevel (w.rice (ctxLast n) (ls.length - 1))
  rw [List.length_dropLast] at hlevels
  rw [Wr.coefs, hm]
  exact of_eq hsplit <| bind (rice (by omega)) <| bind (ok (decide_eq_true (by omega))) <| bind hlevels <|
    bind (sized hm0 (by omega)) <| bind (ok (decide_eq_true hmmag)) (.done _)

/-- The coded-block flags of three components, and the flag read back of each (R347). -/
theorem cbf_spells (f : Nat → Bool) : (List.range 3).foldl (fun a c => 2 * a + b2n (f c)) 0 < 2 ^ 3 ∧
    ∀ c < 3, ((List.range 3).foldl (fun a c => 2 * a + b2n (f c)) 0).testBit (2 - c) = f c := by
  have hbits : ∀ x y z : Bool, 2 * (2 * (2 * 0 + b2n x) + b2n y) + b2n z < 2 ^ 3 ∧
      (2 * (2 * (2 * 0 + b2n x) + b2n y) + b2n z).testBit 2 = x ∧ (2 * (2 * (2 * 0 + b2n x) + b2n y) + b2n z).testBit 1 = y ∧
      (2 * (2 * (2 * 0 + b2n x) + b2n y) + b2n z).testBit 0 = z := by decide
  obtain ⟨hlt, h0, h1, h2⟩ := hbits (f 0) (f 1) (f 2)
  refine ⟨hlt, fun c hc => ?_⟩
  match c, hc with
  | 0, _ => exact h0
  | 1, _ => exact h1
  | 2, _ => exact h2

theorem ReadsBack.block {w : Wr} {n : Nat} {b : List (Option (List Int))} (hn : n ≤ 16) (hlen : b.length = 3)
    (hfit : ∀ ls, some ls ∈ b → LevelsFit n ls) : ReadsBack (rdBlock n) w (w.block n b) b := by
  obtain ⟨hlt, hcbf⟩ := cbf_spells fun c => (b.getD c none).isSome
  refine (num hlt).bind (indexed (d := none) hlen (fun c hc w => ?_) _)
  rw [hcbf c hc]
  cases hcoded : b.getD c none with
  | none => exact .done _
  | some ls =>
    have hmem : some ls ∈ b := by
      rw [List.getD_eq_getElem _ _ (by omega)] at hcoded
      exact hcoded ▸ List.getElem_mem _
    exact (coefs c hn (hfit ls hmem)).bind (.done _)

end Sys2Proof.Machine

namespace Sys2Proof.Machine

/-! ### The clamp of a Precision segment (R366) -/

/-- A component's corrections that R366 lets a leaf carry. -/
def ClampFits (ps : ClampSyn) : Prop := (ps.map (fun p => p.1 + 1)).sum ≤ 256 ∧ ∀ p ∈ ps, p.2 ≠ 0 ∧ p.2.natAbs ≤ 2 ^ 31

theorem ClampFits.length_le {ps : ClampSyn} (h : ClampFits ps) : ps.length ≤ 256 := by
  have hcount := List.length_le_sum_of_one_le (ps.map (fun p => p.1 + 1)) fun i hi => by
    obtain ⟨p, -, rfl⟩ := List.mem_map.1 hi
    exact Nat.le_add_left 1 p.1
  rw [List.length_map] at hcount
  exact hcount.trans h.1

theorem ClampFits.run_le {ps : ClampSyn} (h : ClampFits ps) {p : Nat × Int} (hp : p ∈ ps) : p.1 ≤ 255 := by
  have hle := List.le_sum_of_mem (List.mem_map_of_mem (f := fun p : Nat × Int => p.1 + 1) hp)
  have := h.1
  omega

namespace ReadsBack
variable {w : Wr}

theorem clamp1 {ps : ClampSyn} (h : ClampFits ps) : ReadsBack rdClamp1 w (w.clamp1 ps) ps := by
  have hpair : ∀ p ∈ ps, ∀ w : Wr, ReadsBack (do
      let r ← rdRice 12
      rdOk (decide (r ≤ 255))
      let m ← rdSized 13
      pure (r, m)) w ((w.rice 12 p.1).sized 13 p.2) p := by
    intro p hp w
    have hrun := h.run_le hp
    obtain ⟨hp0, hpmag⟩ := h.2 p hp
    exact bind (rice (by omega)) <| bind (ok (decide_eq_true hrun)) <| bind (sized hp0 hpmag) (.done p)
  have hlen := h.length_le
  exact bind (rice (by omega)) <| bind (ok (decide_eq_true hlen)) <| bind (counted hpair _) <| bind (ok (decide_eq_true h.1)) (.done ps)

end ReadsBack

/-! ### The residual in its four parts (R347) -/

/-- The reader of a residual's QP. -/
def rdQp : Rd (Option Nat) := do
  let q ← rdNum 1
  if q = 1 then
    let v ← rdNum 6
    modify (fun p => (p.1, { p.2 with qp := v }))
    pure (some v)
  else pure none

/-- The reader of how a residual is split. -/
def rdSplit : Rd (Option (List Bool)) := do
  let sp ← rdNum 1
  if sp = 0 then pure none
  else
    let fs ← (List.range 4).mapM (fun _ => rdNum 1)
    pure (some (fs.map (fun f => decide (f = 1))))

/-- The reader of the clamp that a Precision segment's residual ends with. -/
def rdClamp (precision : Bool) : Rd (Option (List ClampSyn)) :=
  if precision then do
    let f ← rdNum 1
    if f = 1 then
      let l ← (List.range 3).mapM (fun _ => rdClamp1)
      pure (some l)
    else pure none
  else pure none

theorem rdResidual_eq (precision : Bool) : rdResidual precision = (do
    let qp ← rdQp
    let split ← rdSplit
    let blocks ← (blockList split).mapM (fun b => rdBlock b.2.2)
    let clamp ← rdClamp precision
    pure ⟨qp, split, blocks, clamp⟩) := by
  have hite {α β : Type} (c : Prop) [Decidable c] (x y : Rd α) (f : α → Rd β) :
      (if c then x else y) >>= f = if c then x >>= f else y >>= f := apply_ite (· >>= f) c x y
  simp only [rdResidual, rdQp, rdSplit, rdClamp, bind_assoc, pure_bind, hite]

/-- The writer of a residual's QP. -/
def Wr.qp (w : Wr) : Option Nat → Wr
  | none => w.num 1 0
  | some q => (fun (x : Wr) => (x.1, { x.2 with qp := q })) ((w.num 1 1).num 6 q)

/-- The writer of how a residual is split. -/
def Wr.split (w : Wr) : Option (List Bool) → Wr
  | none => w.num 1 0
  | some fs => (List.range 4).foldl (fun w q => w.num 1 (b2n (fs.getD q false))) (w.num 1 1)

/-- The writer of a residual's blocks, each with its place and size. -/
def Wr.blocks (w : Wr) (bs : List ((Nat × Nat × Nat) × List (Option (List Int)))) : Wr := bs.foldl (fun w p => w.block p.1.2.2 p.2) w

/-- The writer of the clamp that a Precision segment's residual ends with. -/
def Wr.clamp (w : Wr) (precision : Bool) (clamp : Option (List ClampSyn)) : Wr :=
  if precision then
    match clamp with
    | none => w.num 1 0
    | some l => (List.range 3).foldl (fun w c => w.clamp1 (l.getD c [])) (w.num 1 1)
  else w

/-- Blocks taken by their place in a list are the list itself, when it has as many as the split gives. -/
theorem zipIdx_map_getD {α β : Type} {xs : List α} {ys : List β} {d : β} (hlen : xs.length = ys.length) :
    xs.zipIdx.map (fun p => (p.1, ys.getD p.2 d)) = xs.zip ys :=
  List.ext_getElem (by simp [hlen]) fun i _ hi => by
    rw [List.length_zip] at hi
    rw [List.getElem_map, List.getElem_zipIdx, List.getElem_zip, List.getD_eq_getElem _ _ (by omega)]
    simp

theorem Wr.residual_eq (w : Wr) (precision : Bool) (r : ResSyn) (hlen : (blockList r.split).length = r.blocks.length) :
    w.residual precision r = (((w.qp r.qp).split r.split).blocks ((blockList r.split).zip r.blocks)).clamp precision r.clamp := by
  rw [← zipIdx_map_getD (d := []) hlen, Wr.blocks, List.foldl_map]
  rfl

theorem blockList_size_le {split : Option (List Bool)} {b : Nat × Nat × Nat} (hb : b ∈ blockList split) : b.2.2 ≤ 16 := by
  cases split with
  | none => rw [List.mem_singleton.1 hb]
  | some fs =>
    obtain ⟨q, -, hq⟩ := List.mem_flatMap.1 hb
    dsimp only at hq
    split at hq
    · simp only [List.mem_cons, List.not_mem_nil, or_false] at hq
      obtain rfl | rfl | rfl | rfl := hq <;> simp
    · simp [List.mem_singleton.1 hq]

/-- What `ResSyn.valid` says of the blocks: as many as the split gives, each of three components whose levels fit its size. -/
theorem ResSyn.valid.blocks {precision : Bool} {r : ResSyn} (h : r.valid precision) : (blockList r.split).length = r.blocks.length ∧
    ∀ p ∈ (blockList r.split).zip r.blocks, p.1.2.2 ≤ 16 ∧ p.2.length = 3 ∧ ∀ ls, some ls ∈ p.2 → LevelsFit p.1.2.2 ls := by
  obtain ⟨-, -, hshape, hfit, -, -⟩ := h
  refine ⟨by simpa using (congrArg List.length hshape).symm, fun p hp => ?_⟩
  obtain ⟨hplace, hblock⟩ := List.of_mem_zip hp
  have hthree : p.2.length ∈ (blockList r.split).map (fun _ => 3) := hshape ▸ List.mem_map_of_mem hblock
  obtain ⟨-, -, hlen⟩ := List.mem_map.1 hthree
  exact ⟨blockList_size_le hplace, hlen.symm, hfit p hp⟩

namespace ReadsBack
variable {w : Wr}

theorem qp {x : Option Nat} (h : ∀ q, x = some q → q < 64) : ReadsBack rdQp w (w.qp x) x := by
  cases x with
  | none => exact bind (num (v := 0) (by decide)) (.done none)
  | some q => exact bind (num (v := 1) (by decide)) <| bind (num (n := 6) (h q rfl)) <| bind (moveCode fun c => { c with qp := q }) (.done (some q))

theorem split {x : Option (List Bool)} (h : ∀ fs, x = some fs → fs.length = 4) : ReadsBack rdSplit w (w.split x) x := by
  cases x with
  | none => exact bind (num (v := 0) (by decide)) (.done none)
  | some fs =>
    have hflags : ReadsBack ((List.range 4).mapM fun _ => rdNum 1) (w.num 1 1) (w.split (some fs)) (fs.map b2n) :=
      indexed (d := b2n false) (by simpa using h fs rfl) (fun i _ w => by rw [List.getD_map]; exact flag _) _
    have hback : (fs.map b2n).map (fun f => decide (f = 1)) = fs := by
      rw [List.map_map]
      exact (List.map_congr_left fun b _ => by cases b <;> rfl).trans (List.map_id fs)
    exact bind (num (v := 1) (by decide)) <| bind hflags <| of_eq (congrArg some hback) (.done _)

theorem blocks {places : List (Nat × Nat × Nat)} {bs : List (List (Option (List Int)))} (hlen : places.length = bs.length)
    (hfit : ∀ p ∈ places.zip bs, p.1.2.2 ≤ 16 ∧ p.2.length = 3 ∧ ∀ ls, some ls ∈ p.2 → LevelsFit p.1.2.2 ls) :
    ReadsBack (places.mapM fun b => rdBlock b.2.2) w (w.blocks (places.zip bs)) bs := by
  have hread : ReadsBack ((places.zip bs).mapM fun p => rdBlock p.1.2.2) w (w.blocks (places.zip bs)) ((places.zip bs).map Prod.snd) :=
    mapM (fun p hp w => by
      obtain ⟨hsize, hthree, hlevels⟩ := hfit p hp
      exact block hsize hthree hlevels) w
  have hplaces : (places.zip bs).mapM (fun p => rdBlock p.1.2.2) = places.mapM fun b => rdBlock b.2.2 := by
    conv_rhs => rw [← List.map_fst_zip hlen.le, List.mapM_map]
    rfl
  rw [hplaces, List.map_snd_zip hlen.ge] at hread
  exact hread

theorem clamp {precision : Bool} {x : Option (List ClampSyn)} (hnone : precision = false → x = none)
    (hfit : ∀ cs, x = some cs → cs.length = 3 ∧ ∀ c ∈ cs, ClampFits c) : ReadsBack (rdClamp precision) w (w.clamp precision x) x := by
  cases precision with
  | false => exact hnone rfl ▸ .done none
  | true => cases x with
    | none => exact bind (num (v := 0) (by decide)) (.done none)
    | some cs =>
      obtain ⟨hlen, hcs⟩ := hfit cs rfl
      have hcomps : ReadsBack ((List.range 3).mapM fun _ => rdClamp1) (w.num 1 1) (w.clamp true (some cs)) cs :=
        indexed (d := []) hlen (fun i hi w => by
          rw [List.getD_eq_getElem _ _ (by omega)]
          exact clamp1 (hcs _ (List.getElem_mem _))) _
      exact bind (num (v := 1) (by decide)) <| bind hcomps (.done _)

theorem residual {precision : Bool} {r : ResSyn} (h : r.valid precision) : ReadsBack (rdResidual precision) w (w.residual precision r) r := by
  obtain ⟨hlen, hblocks⟩ := h.blocks
  obtain ⟨hqp, hsplit, -, -, hnone, hclamp⟩ := h
  rw [rdResidual_eq, Wr.residual_eq _ _ _ hlen]
  exact bind (qp hqp) <| bind (split hsplit) <| bind (blocks hlen hblocks) <| bind (clamp hnone hclamp) (.done r)

end ReadsBack

/-! ### Leaves (R347-R349, R357) -/

@[simp] theorem Wr.rice_mvp (w : Wr) (i v r : Nat) : (w.rice i v).2.mvp r = w.2.mvp r := rfl

theorem refTop_lt {ver : Nat} (hver : 1 ≤ ver) (hver3 : ver ≤ 3) : refTop ver < 2 ^ refWidth ver := by
  interval_cases ver <;> decide

/-- The region in front of a leaf, which a segment without regions does not carry. -/
def Wr.region (w : Wr) (h : SegHdr) (region : Nat) : Wr := if h.regions then w.num 4 region else w

@[simp] theorem Wr.region_code (w : Wr) (h : SegHdr) (region : Nat) : (w.region h region).2 = w.2 := by
  unfold Wr.region
  split <;> rfl

/-- The reader of what follows a leaf's region: the mode, the body of that mode, and the QP then in force. -/
def rdAfterRegion (body : Nat → Rd LeafSyn) (region : Nat) : Rd (Nat × LeafSyn × Nat) := do
  let mode ← rdNum 3
  let l ← body mode
  let c ← get
  pure (region, l, c.2.qp)

/-- The writer of a motion vector: its difference from the one predicted, and then the latest of its reference (R357). -/
def Wr.vector (w : Wr) (r : Nat) (mv : Int × Int) : Wr :=
  let w₂ := (w.rice 9 (foldSign (mv.1 - (w.2.mvp r).1))).rice 10 (foldSign (mv.2 - (w.2.mvp r).2))
  (w₂.1, w₂.2.moved r mv)

theorem Wr.leaf_inter (w : Wr) (h : SegHdr) (ver region r : Nat) (mv : Int × Int) (res : ResSyn) :
    w.leaf h ver region (.inter r mv res) =
      ((((w.region h region).num 3 1).num (refWidth ver) r).vector r mv).residual h.precision res := rfl

namespace ReadsBack
variable {α : Type} {w w' : Wr} {h : SegHdr} {ver r : Nat}

theorem ref (hver : 1 ≤ ver) (hver3 : ver ≤ 3) (hr : r ≤ refTop ver) : ReadsBack (rdRef ver) w (w.num (refWidth ver) r) r :=
  bind (num (hr.trans_lt (refTop_lt hver hver3))) <| bind (ok (decide_eq_true hr)) (.done r)

theorem vector {mv : Int × Int} {f : Int × Int → Rd α} {a : α} (hmv : mv.1.natAbs ≤ 16384 ∧ mv.2.natAbs ≤ 16384)
    (hmvp : (w.2.mvp r).1.natAbs ≤ 16384 ∧ (w.2.mvp r).2.natAbs ≤ 16384)
    (hthen : ReadsBack (f mv) (w.vector r mv) w' a) :
    ReadsBack (do
      let dx ← rdRice 9
      let dy ← rdRice 10
      let c ← get
      let mv := ((c.2.mvp r).1 + unfoldSign dx, (c.2.mvp r).2 + unfoldSign dy)
      rdOk (decide (mv.1.natAbs ≤ 16384) && decide (mv.2.natAbs ≤ 16384))
      modify (fun p => (p.1, p.2.moved r mv))
      f mv) w w' a := by
  obtain ⟨hx, hy⟩ := hmv
  obtain ⟨hpx, hpy⟩ := hmvp
  have hcodex := foldSign_le (mv.1 - (w.2.mvp r).1)
  have hcodey := foldSign_le (mv.2 - (w.2.mvp r).2)
  have hok : (decide (mv.1.natAbs ≤ 16384) && decide (mv.2.natAbs ≤ 16384)) = true := by simp [hx, hy]
  refine bind (rice (v := foldSign (mv.1 - (w.2.mvp r).1)) (by omega)) <| bind (rice (v := foldSign (mv.2 - (w.2.mvp r).2)) (by omega)) <|
    readCode (fun _ => rfl) ?_
  simp only [Wr.rice_mvp, unfoldSign_foldSign, add_sub_cancel]
  exact bind (ok hok) <| bind (moveCode fun c => c.moved r mv) hthen

/-- A leaf's region and mode come first; what the mode's body reads is the leaf. -/
theorem leaf_of_body {region mode : Nat} {body : Nat → Rd LeafSyn} {l : LeafSyn} (hregion : if h.regions then region < 16 else region = 0)
    (hmode : mode < 8) (hbody : ReadsBack (body mode) ((w.region h region).num 3 mode) w' l) :
    ReadsBack (if h.regions then rdNum 4 >>= rdAfterRegion body else pure 0 >>= rdAfterRegion body) w w' (region, l, w'.2.qp) := by
  have hrest : ReadsBack (rdAfterRegion body region) (w.region h region) w' (region, l, w'.2.qp) :=
    bind (num hmode) <| bind hbody <| readCode (fun _ => rfl) (.done _)
  rw [Wr.region] at hrest
  split at hregion
  case isTrue hon =>
    rw [if_pos hon] at hrest ⊢
    exact bind (num hregion) hrest
  case isFalse hoff =>
    rw [if_neg hoff] at hrest ⊢
    exact bind (.done 0) (hregion ▸ hrest)

theorem leaf {region : Nat} {l : LeafSyn} (hver : 1 ≤ ver) (hver3 : ver ≤ 3) (hregion : if h.regions then region < 16 else region = 0)
    (hl : l.valid h ver w.2) : ReadsBack (rdLeaf h ver) w (w.leaf h ver region l) (region, l, (w.leaf h ver region l).2.qp) := by
  unfold rdLeaf
  cases l with
  | skip r =>
    obtain ⟨hkey, hr⟩ := hl
    refine leaf_of_body (mode := 0) hregion (by decide) ?_
    exact bind (ok (by rw [hkey]; rfl)) <| bind (ref hver hver3 hr) (.done _)
  | inter r mv res =>
    obtain ⟨hkey, hver2, hr, hx, hy, hpx, hpy, hres⟩ := hl
    have hmvp : (((w.region h region).num 3 1).num (refWidth ver) r).2.mvp r = w.2.mvp r :=
      congrArg (·.mvp r) (w.region_code h region)
    rw [Wr.leaf_inter]
    refine leaf_of_body (mode := 1) hregion (by decide) ?_
    exact bind (ok (by simp [hkey, hver2])) <| bind (ref hver hver3 hr) <|
      vector (f := fun mv => do
        let res ← rdResidual h.precision
        pure (LeafSyn.inter r mv res)) ⟨hx, hy⟩ (hmvp ▸ ⟨hpx, hpy⟩) <| bind (residual hres) (.done _)
  | intra m res =>
    obtain ⟨hm, hres⟩ := hl
    refine leaf_of_body (mode := 2) hregion (by decide) ?_
    exact bind (num (by omega)) <| bind (ok (decide_eq_true hm)) <| bind (residual hres) (.done _)
  | fill cs =>
    obtain ⟨hlen, hcs⟩ := hl
    refine leaf_of_body (mode := 3) hregion (by decide) ?_
    refine bind (indexed (d := 0) hlen (fun i hi w => num ?_) _) (.done _)
    rw [List.getD_eq_getElem _ _ (by omega)]
    exact hcs _ (List.getElem_mem _)
  | raw ss =>
    obtain ⟨hlen, hss⟩ := hl
    refine leaf_of_body (mode := 4) hregion (by decide) ?_
    have hread := counted (fun v hv w => num (w := w) (hss v hv)) ((w.region h region).num 3 4)
    rw [hlen] at hread
    exact bind (ok rfl) <| bind hread (.done _)

end ReadsBack

/-- Settles O7: leaf by leaf, the reader follows the writer. -/
theorem leafCodeRoundTrip : Obligations.LeafCodeRoundTrip := by
  unfold Obligations.LeafCodeRoundTrip
  intro h ver region l w rest hver hver3 hregion hl
  obtain ⟨bits, hw, hread⟩ := ReadsBack.leaf hver hver3 hregion hl
  exact ⟨bits, hw, hread rest⟩

end Sys2Proof.Machine

namespace Sys2Proof.Machine

/-! ### Enabling a port (R383, R384) -/

namespace State
variable {s : State} {m : Nat} {v : Word}

/-- Settings that agree start a port; port 40, which may take port 41 with it, is left out. -/
theorem macCtrlWrite_starts (hoff : s.flag (Reg.macCtrl m) 31 = false) (hon : bit v 31 = true) (hagree : s.portWrong m v = false) (hm : m ≠ 40) :
    s.macCtrlWrite m v = ((((s.plainWrite (Reg.macCtrl m) v).setB (Reg.macCtrl m) 31 false).runPort m true).setF (Reg.macSts m) 23 16 0) := by
  simp [macCtrlWrite, hoff, hon, hagree, hm]

theorem macCtrlWrite_disagrees (hoff : s.flag (Reg.macCtrl m) 31 = false) (hon : bit v 31 = true) (hwrong : s.portWrong m v = true) :
    s.macCtrlWrite m v = ((s.plainWrite (Reg.macCtrl m) v).setB (Reg.macCtrl m) 31 false).setF (Reg.macSts m) 23 16 2 := by
  simp [macCtrlWrite, hoff, hon, hwrong]

end State

theorem exec_portEnable_of_ok {s : State} {ini : Ini} {m : Fin 42} {v : Word} (h : s.regGate ini (Reg.macCtrl m) true v = .ok) :
    exec (.portEnable ini m v) s = .next { s.macCtrlWrite m v with resp := .ok 0 } :=
  congrArg Host.Outcome.next (s.gatedWrite_of_ok ini _ v _ h)

/-! ### Big-endian numbers in a byte string -/

theorem ofLe_leBytes (n v : Nat) : ofLe (leBytes n v) = v % 256 ^ n := by
  induction n generalizing v with
  | zero => exact (Nat.mod_one v).symm
  | succ n ih =>
    rw [leBytes, ofLe, ih, BitVec.toNat_ofNat]
    exact Nat.mod_mul.symm.trans (congrArg (v % ·) Nat.pow_succ'.symm)

@[simp] theorem length_beBytes (n v : Nat) : (beBytes n v).length = n := by simp [beBytes]

/-- A number at the head of a string. -/
theorem beAt_beBytes_append (n v : Nat) (bs : List Byte) : beAt (beBytes n v ++ bs) 0 n = v % 256 ^ n := by
  rw [beAt, List.drop_zero, List.take_left' (length_beBytes n v), ofBe, beBytes, List.reverse_reverse, ofLe_leBytes]

theorem beAt_append_of_le {as : List Byte} {i : Nat} (h : as.length ≤ i) (bs : List Byte) (n : Nat) :
    beAt (as ++ bs) i n = beAt bs (i - as.length) n := by
  rw [beAt, List.drop_append, List.drop_eq_nil_of_le h, List.nil_append, beAt]

/-! ### Frames with an untagged header (R385, R388) -/

/-- The header's three numbers stand in front of what follows, padding included. -/
theorem padFrame_ethHeader (dst src etype : Nat) (body : List Byte) : ∃ pad,
    padFrame (ethHeader dst src none etype ++ body) = beBytes 6 dst ++ (beBytes 6 src ++ (beBytes 2 etype ++ (body ++ pad))) :=
  ⟨_, by simp only [padFrame, padTo, ethHeader, List.append_assoc, List.nil_append]; rfl⟩

theorem beAt_frame_dst (dst src etype : Nat) (body : List Byte) :
    beAt (padFrame (ethHeader dst src none etype ++ body)) 0 6 = dst % 2 ^ 48 := by
  obtain ⟨pad, h⟩ := padFrame_ethHeader dst src etype body
  rw [h]
  exact beAt_beBytes_append 6 dst _

theorem beAt_frame_src (dst src etype : Nat) (body : List Byte) :
    beAt (padFrame (ethHeader dst src none etype ++ body)) 6 6 = src % 2 ^ 48 := by
  obtain ⟨pad, h⟩ := padFrame_ethHeader dst src etype body
  rw [h, beAt_append_of_le (by simp), length_beBytes]
  exact beAt_beBytes_append 6 src _

theorem beAt_frame_type (dst src etype : Nat) (body : List Byte) :
    beAt (padFrame (ethHeader dst src none etype ++ body)) 12 2 = etype % 2 ^ 16 := by
  obtain ⟨pad, h⟩ := padFrame_ethHeader dst src etype body
  rw [h, beAt_append_of_le (by simp), beAt_append_of_le (by simp), length_beBytes, length_beBytes]
  exact beAt_beBytes_append 2 etype _

/-- The body starts at byte 14. -/
theorem beAt_frame_body (dst src etype : Nat) (body : List Byte) : ∃ pad, ∀ i n,
    beAt (padFrame (ethHeader dst src none etype ++ body)) (14 + i) n = beAt (body ++ pad) i n := by
  obtain ⟨pad, h⟩ := padFrame_ethHeader dst src etype body
  refine ⟨pad, fun i n => ?_⟩
  rw [h, beAt_append_of_le (by simp; omega), beAt_append_of_le (by simp; omega), beAt_append_of_le (by simp; omega)]
  simp only [length_beBytes]
  congr 1
  omega

theorem frameType_padFrame (dst src : Nat) {etype : Nat} (body : List Byte) (h16 : etype < 2 ^ 16) (htag : etype ≠ 0x8100) :
    frameType (padFrame (ethHeader dst src none etype ++ body)) = etype := by
  rw [frameType, beAt_frame_type, Nat.mod_eq_of_lt h16, if_neg htag]

/-! ### Address answers (R386) -/

/-- An ARP reply behind its Ethernet header: Ethernet and IPv4, operation 2, the address asked for with its MAC, then the asker. -/
def arpReply (mac senderMac : Nat) (senderIp target : Word) : List Byte :=
  [0, 1, 8, 0, 6, 4, 0, 2] ++ (beBytes 6 mac ++ (beBytes 4 target.toNat ++ (beBytes 6 senderMac ++ beBytes 4 senderIp.toNat)))

theorem beAt_arpReply_operation (mac senderMac : Nat) (senderIp target : Word) (pad : List Byte) :
    beAt (arpReply mac senderMac senderIp target ++ pad) 6 2 = 2 := rfl

theorem beAt_arpReply_address (mac senderMac : Nat) (senderIp target : Word) (pad : List Byte) :
    beAt (arpReply mac senderMac senderIp target ++ pad) 14 4 = target.toNat := by
  simp only [arpReply, List.append_assoc]
  rw [beAt_append_of_le (by simp), beAt_append_of_le (by simp), length_beBytes]
  exact (beAt_beBytes_append 4 _ _).trans (Nat.mod_eq_of_lt target.isLt)

namespace State
variable {s : State} {m : Nat}

theorem portMac_lt (s : State) (m : Nat) : s.portMac m < 2 ^ 48 := by
  have hhi := s.getF_lt (Reg.macSaHi m) 15 0
  have hlo := (s.rd (Reg.macSaLo m)).isLt
  unfold portMac
  omega

theorem arpAnswer_replies {senderMac : Nat} {senderIp target : Word} (hruns : s.portRuns m = true) (haddr : s.rd (Reg.macIp4 m) ≠ 0)
    (hown : target = s.rd (Reg.macIp4 m)) : s.arpAnswer m senderMac senderIp target =
      s.sendNow m (padFrame (ethHeader senderMac (s.portMac m) none 0x0806 ++ arpReply (s.portMac m) senderMac senderIp target)) := by
  refine (if_pos (by simpa [hruns, hown] using haddr)).trans ?_
  simp only [arpReply, List.append_assoc]

theorem arpAnswer_of_other {target : Word} (hother : target ≠ s.rd (Reg.macIp4 m)) (senderMac : Nat) (senderIp : Word) :
    s.arpAnswer m senderMac senderIp target = s := by
  simp [arpAnswer, hother]

theorem ndAnswer_advertises {target : List Byte} (hruns : s.portRuns m = true) (hown : target = s.portLinkLocal m) (senderMac : Nat)
    (senderIp : List Byte) : ∃ dst body, s.ndAnswer m senderMac senderIp target =
      s.sendNow m (padFrame (ethHeader dst (s.portMac m) none 0x86DD ++ body)) := by
  simp only [ndAnswer, hruns, hown, beq_self_eq_true, Bool.or_true, Bool.and_true, if_true, List.append_assoc]
  exact ⟨_, _, rfl⟩

theorem ndAnswer_of_other {target : List Byte} (hlocal : target ≠ s.portLinkLocal m) (hglobal : target ≠ s.portIp6 m) (senderMac : Nat)
    (senderIp : List Byte) : s.ndAnswer m senderMac senderIp target = s :=
  if_neg (by simp [hlocal.symm, hglobal.symm])

end State

/-! ### Frames received (R393) -/

theorem rxHdr_etype (bs : List Byte) : (rxHdr bs).etype = frameType bs := rfl

namespace State
variable {s : State} {m : Nat} {f : RxFrame}

/-- MAC_CTRL and the receive counter are different registers, so counting a frame leaves PRP as it was. -/
theorem prpOn_addSat_macCntRx (s : State) (m n : Nat) : (s.addSat (Reg.macCntRx n) 31 0 1).prpOn m = s.prpOn m := by
  have hrd : (s.addSat (Reg.macCntRx n) 31 0 1).rd (Reg.macCtrl 40) = s.rd (Reg.macCtrl 40) :=
    s.rd_setF_ne _ _ _ _ _ (by unfold Reg.macCtrl Reg.macCntRx; omega)
  rw [prpOn, flag_of_rd hrd, prpOn]

theorem goodFrame_of_no_prp (hprp : s.prpOn m = false) (bs : List Byte) :
    s.goodFrame m bs = (s.addSat (Reg.macCntRx m) 31 0 1).dispatchFrame m bs :=
  if_neg (by simp [prpOn_addSat_macCntRx, hprp])

/-! #### What a port does with a frame before it is dispatched -/

theorem receiveFrame_of_down (h : s.portRuns m = false ∨ s.flag (Reg.macSts m) 31 = false) (f : RxFrame) : s.receiveFrame m f = s :=
  if_pos (by simpa using h)

section Up
variable (hruns : s.portRuns m = true) (hlink : s.flag (Reg.macSts m) 31 = true)
include hruns hlink

theorem receiveFrame_of_bad_fcs (hfcs : f.fcsOk = false) : s.receiveFrame m f = s.addSat (Reg.macCntErr m) 31 0 1 := by
  simp [receiveFrame, hruns, hlink, hfcs]

theorem receiveFrame_of_control (hfcs : f.fcsOk = true) (htype : frameType f.bytes = 0x8808) :
    s.receiveFrame m f = s.goodFrame m f.bytes := by
  simp [receiveFrame, hruns, hlink, hfcs, isMacControl, htype]

/-- With MACsec set, a frame that its key does not open is an error. -/
theorem receiveFrame_of_not_opened (hfcs : f.fcsOk = true) (hcontrol : frameType f.bytes ≠ 0x8808) (hsec : s.secOn m = true)
    (heapol : frameType f.bytes ≠ 0x888E) (hopen : s.secOpen m f.bytes = none) : s.receiveFrame m f = s.addSat (Reg.macCntErr m) 31 0 1 := by
  have hnone : s.secReceive m f.bytes = none := by simp [secReceive, isEapol, heapol, hopen]
  simp [receiveFrame, hruns, hlink, hfcs, isMacControl, hcontrol, hsec, hnone]

theorem receiveFrame_of_plain (hfcs : f.fcsOk = true) (hcontrol : frameType f.bytes ≠ 0x8808) (hsec : s.secOn m = false)
    (hlen : f.bytes.length + 4 ≤ s.frameLimit m) : s.receiveFrame m f = s.goodFrame m f.bytes := by
  simp [receiveFrame, hruns, hlink, hfcs, isMacControl, hcontrol, hsec, Nat.not_lt.mpr hlen]

end Up

/-! #### Dispatch -/

section Dispatch
variable {bs : List Byte}

theorem dispatchFrame_of_control (htype : frameType bs = 0x8808) : s.dispatchFrame m bs = s.addSat (Reg.macCntPause m) 31 0 1 :=
  if_pos (decide_eq_true htype)

/-- EAPOL and PRP supervision frames reach the Spine. -/
theorem dispatchFrame_of_spine (htype : frameType bs = 0x888E ∨ frameType bs = 0x88FB) : s.dispatchFrame m bs = s.toSpine m bs := by
  have hcontrol : ¬ isMacControl bs = true := fun h => by have := of_decide_eq_true h; omega
  exact (if_neg hcontrol).trans (if_pos htype)

variable (hcontrol : frameType bs ≠ 0x8808) (heapol : frameType bs ≠ 0x888E) (hsuper : frameType bs ≠ 0x88FB)
  (hptp : (rxHdr bs).ptp = none) (hfolio : s.folioIn m (rxHdr bs) = none) {a : State}
  (ha : a = (s.answerAddress m (rxHdr bs)).answerQuery m (rxHdr bs))
include hcontrol heapol hsuper hptp hfolio ha

theorem dispatchFrame_of_match {e : Nat} (hfirst : (List.range 512).find? (fun e => a.clsMatch e m (rxHdr bs)) = some e) :
    s.dispatchFrame m bs = a.classified m e (rxHdr bs) bs := by
  subst ha
  simp [dispatchFrame, isMacControl, rxHdr_etype, hcontrol, heapol, hsuper, hptp, hfolio, hfirst]

theorem dispatchFrame_of_no_match (hnone : (List.range 512).find? (fun e => a.clsMatch e m (rxHdr bs)) = none) :
    s.dispatchFrame m bs = if m < 40 then a.macDrop m else a.toSpine m bs := by
  subst ha
  simp only [dispatchFrame, isMacControl, rxHdr_etype, hcontrol, heapol, hsuper, hptp, hfolio, hnone, decide_false, or_self, if_false,
    Bool.false_eq_true, ← Nat.not_lt, ite_not]

end Dispatch

/-! ### Policers (R396) -/

theorem polAt_setPol_same (s : State) (i : Nat) (x : PolSt) : (s.setPol i x).polAt i = x := SMap.get_set_same _ _ _ _

theorem polAt_setPol_ne (s : State) {i j : Nat} (h : j ≠ i) (x : PolSt) : (s.setPol i x).polAt j = s.polAt j :=
  SMap.get_set_ne _ _ _ _ _ h

/-! ### Writes of a classifier entry (R394, R395) -/

theorem clsWrite_of_busy {e w : Nat} {v : Word} (hon : s.flag (Reg.tmClsCtrl e) 31 = true) (h : w ≠ 0 ∨ bit v 31 = true) :
    s.clsWrite e w v = s.clsBusy := by
  have hkeeps : ¬ (w = 0 ∧ !bit v 31) := by rcases h with h | h <;> simp [h]
  exact (if_pos hon).trans (if_neg hkeeps)

theorem clsWrite_disables {e : Nat} {v : Word} (hon : s.flag (Reg.tmClsCtrl e) 31 = true) (hv : bit v 31 = false) :
    s.clsWrite e 0 v = s.clsEnable e false :=
  (if_pos hon).trans (if_pos ⟨rfl, by rw [hv]; rfl⟩)

/-- A word of an entry that is off, other than its control word, is written plainly. -/
theorem clsWrite_plain {e w : Nat} {v : Word} (hoff : s.flag (Reg.tmClsCtrl e) 31 = false) (hw : w ≠ 0) :
    s.clsWrite e w v = s.plainWrite (Reg.tmClsCtrl e + 4 * w) v := by
  simp [clsWrite, hoff, hw]

/-- A report joins the Spine's node and changes no register but TM_STS, which shows the memory in use. -/
theorem rd_sendReport (s : State) (g : Group) (rs : List (Nat × List (List Byte))) {off : Nat} (hoff : off ≠ Reg.tmSts) :
    (s.sendReport g rs).rd off = s.rd off := by
  unfold sendReport spineSend
  split
  · rfl
  · dsimp only
    split
    · exact rd_setF_ne _ _ _ _ _ _ hoff
    · rfl

theorem flag_clsEnable (s : State) (e : Nat) (on : Bool) : (s.clsEnable e on).flag (Reg.tmClsCtrl e) 31 = on := by
  have hset := s.flag_setB_same (Reg.tmClsCtrl e) 31 on (by decide)
  have hne : Reg.tmClsCtrl e ≠ Reg.tmSts := by unfold Reg.tmClsCtrl Reg.tmSts; omega
  unfold clsEnable
  dsimp only
  split
  · exact (flag_of_rd (rd_sendReport _ _ _ hne) 31).trans hset
  · exact hset

end State

theorem exec_classifierWrite_of_ok {s : State} {ini : Ini} {e : Fin 512} {w : Fin 16} {v : Word}
    (h : s.regGate ini (Reg.tmClsCtrl e + 4 * w) true v = .ok) :
    exec (.classifierWrite ini e w v) s = .next { s.clsWrite e w v with resp := .ok 0 } :=
  congrArg Host.Outcome.next (s.gatedWrite_of_ok ini _ v _ h)

theorem exec_policerRefill_due {s : State} {i : Fin 512} (h : (s.polAt i).refills < s.now / 1000) :
    exec (.policerRefill i) s = .next (s.polRefill i) :=
  congrArg Host.Outcome.next (if_pos (decide_eq_true h))

theorem exec_policerRefill_early {s : State} {i : Fin 512} (h : s.now / 1000 ≤ (s.polAt i).refills) : exec (.policerRefill i) s = .next s :=
  congrArg Host.Outcome.next (if_neg (by simpa [State.refillDue] using h))

/-! ### The statement about ports and ingress -/

/-- Settles O47: a port's enable, a frame's way through it, the address answers, the policers and the classifier's writes, each from its own
lemmas. That a policer makes up the refills it is behind one at a time is log entry 112, that an answer leaves at once through sendNow is entry 42,
and that an enabled classifier entry takes only the write that clears en is entry 113. -/
theorem portsReceiveFrames : Obligations.PortsReceiveFrames := by
  unfold Obligations.PortsReceiveFrames
  refine fun m s => ⟨?enable, ?receive, ?arp, ?solicitation, fun i h => exec_policerRefill_early h, ?refill, ?classifier⟩
  case enable =>
    rintro ini v a hgate hoff hon rfl
    refine ⟨fun hagree hm => ?_, fun hwrong => ?_⟩
    · rw [exec_portEnable_of_ok hgate, State.macCtrlWrite_starts hoff hon hagree hm]
      rfl
    · rw [exec_portEnable_of_ok hgate, State.macCtrlWrite_disagrees hoff hon hwrong]
  case receive =>
    rintro f h u rfl rfl
    have hexec {t : State} (ht : s.receiveFrame m f = t) : exec (.macFrameReceive m f) s = .next t := congrArg Host.Outcome.next ht
    refine ⟨fun hdown => hexec (State.receiveFrame_of_down hdown f), fun hruns hlink => ⟨fun hfcs => ?_, fun hfcs htype hprp => ?_,
      fun hfcs hcontrol hsec heapol hopen => ?_, fun hfcs hlen hsec hprp => ?_⟩⟩
    · exact hexec (State.receiveFrame_of_bad_fcs hruns hlink hfcs)
    · refine hexec ((State.receiveFrame_of_control hruns hlink hfcs htype).trans ?_)
      rw [State.goodFrame_of_no_prp hprp, State.dispatchFrame_of_control htype]
    · exact hexec (State.receiveFrame_of_not_opened hruns hlink hfcs hcontrol hsec heapol hopen)
    · have hplain (hcontrol : frameType f.bytes ≠ 0x8808) :
          s.receiveFrame m f = (s.addSat (Reg.macCntRx m) 31 0 1).dispatchFrame m f.bytes :=
        (State.receiveFrame_of_plain hruns hlink hfcs hcontrol hsec hlen).trans (State.goodFrame_of_no_prp hprp _)
      refine ⟨fun hspine => ?_, fun a ha hptp hfolio hcontrol heapol hsuper => ⟨fun e hfirst => ?_, fun hnone => ?_⟩⟩
      · rw [rxHdr_etype] at hspine
        exact hexec ((hplain (by omega)).trans (State.dispatchFrame_of_spine hspine))
      · exact hexec ((hplain hcontrol).trans (State.dispatchFrame_of_match hcontrol heapol hsuper hptp hfolio ha hfirst))
      · exact hexec ((hplain hcontrol).trans (State.dispatchFrame_of_no_match hcontrol heapol hsuper hptp hfolio ha hnone))
  case arp =>
    refine fun mac ip target => ⟨fun hruns haddr hown => ?_, fun hother => congrArg Host.Outcome.next (State.arpAnswer_of_other hother _ _)⟩
    refine ⟨_, congrArg Host.Outcome.next (State.arpAnswer_replies hruns haddr hown), ?_, ?_, frameType_padFrame _ _ _ (by decide) (by decide), ?_⟩
    · rw [beAt_frame_dst, Nat.mod_eq_of_lt mac.isLt]
    · rw [beAt_frame_src, Nat.mod_eq_of_lt (s.portMac_lt m)]
    · obtain ⟨pad, hbody⟩ := beAt_frame_body mac.toNat (s.portMac m) 0x0806 (arpReply (s.portMac m) mac.toNat ip target)
      exact ⟨(hbody 6 2).trans (beAt_arpReply_operation ..), (hbody 14 4).trans (beAt_arpReply_address ..)⟩
  case solicitation =>
    refine fun mac ip target => ⟨fun hruns hown => ?_, fun hlocal hglobal =>
      congrArg Host.Outcome.next (State.ndAnswer_of_other hlocal hglobal _ _)⟩
    obtain ⟨dst, body, hanswer⟩ := State.ndAnswer_advertises hruns hown mac.toNat (beBytes 16 ip.toNat)
    refine ⟨_, congrArg Host.Outcome.next hanswer, ?_, frameType_padFrame _ _ _ (by decide) (by decide)⟩
    rw [beAt_frame_src, Nat.mod_eq_of_lt (s.portMac_lt m)]
  case refill =>
    intro i hdue
    have hpol : (s.polRefill i).polAt i = _ := s.polAt_setPol_same i _
    exact ⟨_, exec_policerRefill_due hdue, by rw [hpol], by rw [hpol], by rw [hpol], fun j hj => s.polAt_setPol_ne hj _, rfl⟩
  case classifier =>
    refine fun ini e w v hgate => ⟨fun hon hkeeps => ?_, fun hon hw hv => ?_, fun hoff hw => ?_⟩
    · rw [exec_classifierWrite_of_ok hgate, State.clsWrite_of_busy hon hkeeps]
      rfl
    · refine ⟨_, exec_classifierWrite_of_ok hgate, ?_⟩
      rw [hw, State.clsWrite_disables hon hv]
      exact s.flag_clsEnable e false
    · rw [exec_classifierWrite_of_ok hgate, State.clsWrite_plain hoff hw]

end Sys2Proof.Machine

namespace Sys2Proof.Machine

/-! ### What the loss and the return of a reference leave alone (R416, R419) -/

namespace State

/-- A fold whose steps over the list's elements each keep a register keeps it. -/
theorem rd_foldl_mem {α : Type} {f : State → α → State} {off : Nat} {l : List α} (hf : ∀ a ∈ l, ∀ s : State, (f s a).rd off = s.rd off)
    (s : State) : (l.foldl f s).rd off = s.rd off :=
  l.foldlRecOn f (motive := fun t => t.rd off = s.rd off) rfl fun t ht a ha => (hf a ha t).trans ht

theorem rd_laneEvent (s : State) (detail : Nat) {off : Nat} (ho : 0x800000 ≤ off) : (s.laneEvent detail).rd off = s.rd off :=
  (rd_hostEvent _ _ _ off (by omega)).trans (s.rd_raiseEvt _ off ho)

theorem rd_setTbState (s : State) (t st : Nat) {off : Nat} (ho : 0x800000 ≤ off) (hne : off ≠ Reg.tbSts t) :
    (s.setTbState t st).rd off = s.rd off := by
  unfold setTbState
  split
  · rfl
  · exact (rd_hostEvent _ _ _ off (by omega)).trans ((rd_raiseEvt _ _ off ho).trans (s.rd_setF_ne _ _ _ _ off hne))

theorem rd_setSessState (s : State) (i st : Nat) {off : Nat} (ho : 0x800000 ≤ off) (hne : off ≠ Reg.ingSessSts i) :
    (s.setSessState i st).rd off = s.rd off := by
  unfold setSessState
  split
  · rfl
  · exact (rd_raiseEvt _ _ off ho).trans (s.rd_setF_ne _ _ _ _ off hne)

theorem rd_abandon (s : State) (i off : Nat) : (s.abandon i).rd off = s.rd off := by
  unfold abandon
  dsimp only
  split <;> rfl

theorem rd_sessLost (s : State) (i : Nat) {off : Nat} (ho : 0x800000 ≤ off) (hne : off ≠ Reg.ingSessSts i) :
    (s.sessLost i).rd off = s.rd off :=
  (rd_setSessState _ _ _ ho hne).trans (s.rd_abandon i off)

theorem rd_sdiRefLost (s : State) (r i : Nat) {off : Nat} (ho : 0x800000 ≤ off) (hne : off ≠ Reg.ingSessSts i) :
    (s.sdiRefLost r i).rd off = s.rd off := by
  unfold sdiRefLost
  dsimp only
  split
  · exact s.rd_sessLost i ho hne
  · rfl

/-! #### Ports that lose their link -/

/-- A port without a link: its status, the drop counts of the wall's channels and the memory in use change. -/
theorem rd_dropLink (s : State) (m : Nat) {off : Nat} (hsts : off ≠ Reg.macSts m) (hused : off ≠ Reg.tmSts) (hcnt : ∀ n, off ≠ Reg.wchCnt n) :
    (s.dropLink m).rd off = s.rd off := by
  refine (rd_setF_ne _ _ _ _ _ _ hused).trans ((rd_foldl _ off (fun s f => ?_) _ _).trans (s.rd_setB_ne _ _ _ _ hsts))
  cases f.ch with
  | none => rfl
  | some n => exact s.rd_setF_ne _ _ _ _ _ (hcnt n)

theorem rd_dropLink_macSts_ne (s : State) {m k : Nat} (h : k ≠ m) : (s.dropLink m).rd (Reg.macSts k) = s.rd (Reg.macSts k) := by
  refine s.rd_dropLink m ?_ ?_ fun n => ?_ <;> simp only [Reg.macSts, Reg.tmSts, Reg.wchCnt] <;> omega

theorem flag_dropLink_same (s : State) (m : Nat) : (s.dropLink m).flag (Reg.macSts m) 31 = false := by
  have hused : Reg.macSts m ≠ Reg.tmSts := by unfold Reg.macSts Reg.tmSts; omega
  refine (flag_of_rd ((rd_setF_ne _ _ _ _ _ _ hused).trans (rd_foldl _ _ (fun s f => ?_) _ _)) 31).trans
    (s.flag_setB_same (Reg.macSts m) 31 false (by decide))
  cases f.ch with
  | none => rfl
  | some n => exact s.rd_setF_ne _ _ _ _ _ (by unfold Reg.macSts Reg.wchCnt; omega)

/-- No port that loses its link gives another one its link back. -/
theorem flag_dropLink_down (s : State) (m : Nat) {k : Nat} (h : s.flag (Reg.macSts k) 31 = false) :
    (s.dropLink m).flag (Reg.macSts k) 31 = false := by
  by_cases hk : k = m
  · subst hk
    exact s.flag_dropLink_same k
  · exact (flag_of_rd (s.rd_dropLink_macSts_ne hk) 31).trans h

theorem flag_dropLinks (s : State) {l : List Nat} {m : Nat} (hm : m ∈ l) : (l.foldl dropLink s).flag (Reg.macSts m) 31 = false := by
  induction l generalizing s with
  | nil => cases hm
  | cons a l ih =>
    rcases List.mem_cons.mp hm with rfl | hm
    · exact l.foldlRecOn dropLink (motive := fun t => t.flag (Reg.macSts m) 31 = false) (s.flag_dropLink_same m)
        fun t ht a _ => t.flag_dropLink_down a ht
    · exact ih _ hm

/-! #### The users of a reference -/

/-- LANE_REF_STS and LANE_REF_PPM are none of the registers in which a reference's users lose it. -/
theorem rd_refUsersLost (s : State) (r : Nat) {off : Nat} (lo : 0xF80000 ≤ off) (hi : off < 0xF80020) :
    (s.refUsersLost r).rd off = s.rd off := by
  unfold refUsersLost
  split
  case isTrue =>
    refine rd_foldl_mem (fun m hm t => t.rd_dropLink m ?_ ?_ fun n => ?_) s
    · have hm42 : m < 42 := List.mem_range.mp (List.mem_filter.mp hm).1
      unfold Reg.macSts
      omega
    · unfold Reg.tmSts
      omega
    · unfold Reg.wchCnt
      omega
  case isFalse =>
    split
    case isTrue =>
      refine rd_foldl_mem (fun i hi t => t.rd_sdiRefLost r i (by omega) ?_) s
      have hi64 : i < 64 := List.mem_range.mp hi
      unfold Reg.ingSessSts
      omega
    case isFalse =>
      split
      case isTrue => rfl
      case isFalse =>
        refine rd_foldl _ off (fun t b => ?_) _ _
        split
        · exact t.rd_setTbState b 4 (by omega) (by unfold Reg.tbSts; omega)
        · rfl

/-- Every port of the reference reports no link. -/
theorem flag_refUsersLost (s : State) {r m : Nat} (hm : m < 42) (href : laneRef m = r) : (s.refUsersLost r).flag (Reg.macSts m) 31 = false := by
  have hr : r ≤ 2 := by
    subst href
    unfold laneRef
    split_ifs <;> omega
  rw [refUsersLost, if_pos hr]
  exact s.flag_dropLinks (List.mem_filter.mpr ⟨List.mem_range.mpr hm, beq_iff_eq.mpr href⟩)

theorem rd_refUsersBack (s : State) (r : Nat) {off : Nat} (lo : 0xF80000 ≤ off) (hi : off < 0xF80020) :
    (s.refUsersBack r).rd off = s.rd off := by
  have hne (b : Nat) : off ≠ Reg.tbSts b := by unfold Reg.tbSts; omega
  unfold refUsersBack
  split
  case isTrue =>
    refine rd_foldl _ off (fun t b => ?_) _ _
    split
    · rfl
    · split
      · exact t.rd_setTbState b 1 (by omega) (hne b)
      · exact rd_setTbState _ b 2 (by omega) (hne b)
  case isFalse => rfl

/-! #### The record of a loss and of a return (R417, R418) -/

/-- The state in which the loss of reference r is recorded, before its users lose it. -/
def lossNoted (s : State) (r : Fin 7) (ppm : BitVec 16) : State :=
  let t := ((s.setB Reg.laneRefSts r false).setB Reg.laneRefSts (8 + r) true).wr (Reg.laneRefPpm r) (ppm.zeroExtend 32)
  { t with sys := { t.sys with refLost := SMap.put t.sys.refLost r.val s.now } }

/-- The state in which the return of reference r is recorded, with the family of an SDI reference. -/
def returnNoted (s : State) (r : Fin 7) (ppm : BitVec 16) (fractional : Bool) : State :=
  let t := (s.setB Reg.laneRefSts r true).wr (Reg.laneRefPpm r) (ppm.zeroExtend 32)
  if r.val = 3 ∨ r.val = 4 then t.setB Reg.laneRefSts (13 + r) fractional else t

variable (s : State) (r : Fin 7) (ppm : BitVec 16)

theorem laneRefPpm_mem (r : Fin 7) : 0xF80004 ≤ Reg.laneRefPpm r ∧ Reg.laneRefPpm r < 0xF80020 := by unfold Reg.laneRefPpm; omega

theorem laneRefSts_ne_laneRefPpm : Reg.laneRefSts ≠ Reg.laneRefPpm r := by
  have h := laneRefPpm_mem r
  unfold Reg.laneRefSts
  omega

theorem flag_lossNoted_ok : (s.lossNoted r ppm).flag Reg.laneRefSts r = false := by
  refine (flag_of_rd (rd_wr_ne _ _ _ _ (laneRefSts_ne_laneRefPpm r)) r).trans ?_
  rw [flag_setB_apart _ _ _ _ _ (by omega) (by omega)]
  exact s.flag_setB_same _ _ _ (by omega)

theorem flag_lossNoted_lost : (s.lossNoted r ppm).flag Reg.laneRefSts (8 + r) = true :=
  (flag_of_rd (rd_wr_ne _ _ _ _ (laneRefSts_ne_laneRefPpm r)) _).trans (flag_setB_same _ _ _ _ (by omega))

theorem rd_lossNoted_ppm : (s.lossNoted r ppm).rd (Reg.laneRefPpm r) = ppm.zeroExtend 32 := rd_wr_same _ _ _

theorem flag_returnNoted_ok (fr : Bool) : (s.returnNoted r ppm fr).flag Reg.laneRefSts r = true := by
  have hset := (flag_of_rd (rd_wr_ne (s.setB Reg.laneRefSts r true) _ _ (ppm.zeroExtend 32) (laneRefSts_ne_laneRefPpm r)) r).trans
    (s.flag_setB_same _ _ _ (by omega))
  unfold returnNoted
  dsimp only
  split
  · exact (flag_setB_apart _ _ _ _ _ (by omega) (by omega)).trans hset
  · exact hset

theorem rd_returnNoted_ppm (fr : Bool) : (s.returnNoted r ppm fr).rd (Reg.laneRefPpm r) = ppm.zeroExtend 32 := by
  have hset := (s.setB Reg.laneRefSts r true).rd_wr_same (Reg.laneRefPpm r) (ppm.zeroExtend 32)
  unfold returnNoted
  dsimp only
  split
  · exact (rd_setB_ne _ _ _ _ _ (laneRefSts_ne_laneRefPpm r).symm).trans hset
  · exact hset

end State

/-! ### References lost and regained (R416, R418) -/

section References
variable {s : State} {r : Fin 7} {ppm : BitVec 16}

theorem exec_refLoss_of_lost (h : s.flag Reg.laneRefSts r = false) : exec (.refLoss r ppm) s = .next s :=
  congrArg Host.Outcome.next (if_pos (by simp [State.refOk, h]))

theorem exec_refLoss_of_ok (h : s.flag Reg.laneRefSts r = true) :
    exec (.refLoss r ppm) s = .next (((s.lossNoted r ppm).refUsersLost r).laneEvent r) :=
  congrArg Host.Outcome.next (if_neg (by simp [State.refOk, h]))

/-- A loss is recorded, and every port of the reference reports no link. -/
theorem refLoss_recorded (hok : s.flag Reg.laneRefSts r = true) :
    ∃ t, exec (.refLoss r ppm) s = .next t ∧ t.flag Reg.laneRefSts r = false ∧ t.flag Reg.laneRefSts (8 + r) = true ∧
      t.rd (Reg.laneRefPpm r) = ppm.zeroExtend 32 ∧ ∀ m : Fin 42, laneRef m = r → t.flag (Reg.macSts m) 31 = false := by
  have hkeeps (off : Nat) (lo : 0xF80000 ≤ off) (hi : off < 0xF80020) :
      (((s.lossNoted r ppm).refUsersLost r).laneEvent r).rd off = (s.lossNoted r ppm).rd off :=
    (State.rd_laneEvent _ r (by omega)).trans ((s.lossNoted r ppm).rd_refUsersLost r lo hi)
  have hsts := hkeeps Reg.laneRefSts (by decide) (by decide)
  obtain ⟨plo, phi⟩ := State.laneRefPpm_mem r
  refine ⟨_, exec_refLoss_of_ok hok, (State.flag_of_rd hsts _).trans (s.flag_lossNoted_ok r ppm),
    (State.flag_of_rd hsts _).trans (s.flag_lossNoted_lost r ppm), (hkeeps _ (by omega) phi).trans (s.rd_lossNoted_ppm r ppm), fun m hm => ?_⟩
  have hmac : 0x800000 ≤ Reg.macSts m := by unfold Reg.macSts; omega
  exact (State.flag_of_rd (State.rd_laneEvent _ r hmac) 31).trans ((s.lossNoted r ppm).flag_refUsersLost m.isLt hm)

theorem refMayReturn_early {t : Nat} (hlost : SMap.find? s.sys.refLost r.val = some t) (h : s.now < t + 1000000) :
    s.refMayReturn r ppm = false := by
  simp [State.refMayReturn, hlost, h]

theorem refMayReturn_due (hppm : r = 6 ∨ ppm.toInt.natAbs ≤ 2000)
    (hdue : ∀ t, SMap.find? s.sys.refLost r.val = some t → t + 1000000 ≤ s.now) : s.refMayReturn r ppm = true := by
  have hnear : (r == 6 || decide (ppm.toInt.natAbs ≤ 2000)) = true := by simpa using hppm
  unfold State.refMayReturn
  rw [hnear, Bool.true_and]
  cases hlost : SMap.find? s.sys.refLost r.val with
  | none => rfl
  | some t => exact decide_eq_true (hdue t hlost)

theorem exec_refRegain_ignored (fr : Bool) (h : s.flag Reg.laneRefSts r = true ∨ s.refMayReturn r ppm = false) :
    exec (.refRegain r ppm fr) s = .next s :=
  congrArg Host.Outcome.next (if_pos (by simpa [State.refOk] using h))

theorem exec_refRegain_of_due (fr : Bool) (hlost : s.flag Reg.laneRefSts r = false) (hmay : s.refMayReturn r ppm = true) :
    exec (.refRegain r ppm fr) s = .next (((s.returnNoted r ppm fr).refUsersBack r).laneEvent (256 + r)) :=
  congrArg Host.Outcome.next (if_neg (by simp [State.refOk, hlost, hmay]))

theorem refRegain_recorded (fr : Bool) (hlost : s.flag Reg.laneRefSts r = false) (hmay : s.refMayReturn r ppm = true) :
    ∃ t, exec (.refRegain r ppm fr) s = .next t ∧ t.flag Reg.laneRefSts r = true ∧ t.rd (Reg.laneRefPpm r) = ppm.zeroExtend 32 := by
  have hkeeps (off : Nat) (lo : 0xF80000 ≤ off) (hi : off < 0xF80020) :
      (((s.returnNoted r ppm fr).refUsersBack r).laneEvent (256 + r)).rd off = (s.returnNoted r ppm fr).rd off :=
    (State.rd_laneEvent _ _ (by omega)).trans ((s.returnNoted r ppm fr).rd_refUsersBack r lo hi)
  obtain ⟨plo, phi⟩ := State.laneRefPpm_mem r
  exact ⟨_, exec_refRegain_of_due fr hlost hmay,
    (State.flag_of_rd (hkeeps Reg.laneRefSts (by decide) (by decide)) r).trans (s.flag_returnNoted_ok r ppm fr),
    (hkeeps _ (by omega) phi).trans (s.rd_returnNoted_ppm r ppm fr)⟩

end References
end Sys2Proof.Machine

namespace Sys2Proof.Machine

/-! ### A lane's record, and what a write of it leaves alone -/

namespace State

@[simp] theorem laneAt_setLane (s : State) (i : Nat) (x : LaneSt) : (s.setLane i x).laneAt i = x := SMap.get_set_same _ _ _ _

@[simp] theorem laneAt_setF (s : State) (off hi lo v i : Nat) : (s.setF off hi lo v).laneAt i = s.laneAt i := rfl

@[simp] theorem laneAt_setB (s : State) (off b : Nat) (v : Bool) (i : Nat) : (s.setB off b v).laneAt i = s.laneAt i := rfl

end State

/-! ### Rate matching (R420) -/

section RateMatching
variable {s : State} {i : Fin 58} {fill : BitVec 6}

theorem exec_ebufRateMatch_of_no_buffer (hi : 42 ≤ (i : Nat)) (gap : Bool) : exec (.ebufRateMatch i fill gap) s = .next s :=
  congrArg Host.Outcome.next (if_pos hi)

theorem exec_ebufRateMatch_deletes (hi : (i : Nat) < 42) (hfull : fill.toNat ≤ 32) (hmany : 24 ≤ fill.toNat) :
    exec (.ebufRateMatch i fill true) s = .next (s.setLane i { s.laneAt i with ebuf := fill.toNat - 1 }) :=
  congrArg Host.Outcome.next ((if_neg (by omega)).trans ((if_neg (by simp; omega)).trans (if_pos ⟨rfl, hmany⟩)))

theorem exec_ebufRateMatch_inserts (hi : (i : Nat) < 42) (hfew : fill.toNat ≤ 8) :
    exec (.ebufRateMatch i fill true) s = .next (s.setLane i { s.laneAt i with ebuf := fill.toNat + 1 }) :=
  congrArg Host.Outcome.next ((if_neg (by omega)).trans ((if_neg (by simp; omega)).trans ((if_neg (by omega)).trans (if_pos ⟨rfl, hfew⟩))))

theorem exec_ebufRateMatch_overflows (hi : (i : Nat) < 42) (hover : 32 < fill.toNat) (gap : Bool) :
    exec (.ebufRateMatch i fill gap) s = .next (((State.addSat (s.setLane i { s.laneAt i with ebuf := min fill.toNat 32 })
      (Reg.macCntErr i) 31 0 1).setB (Reg.laneSts i) 28 true).laneEvent i) :=
  congrArg Host.Outcome.next ((if_neg (by omega)).trans (if_pos (.inl hover)))

/-- An overflow is shown in LANE_STS and counted as a damaged frame. -/
theorem overflow_counted (hi : (i : Nat) < 42) (hover : 32 < fill.toNat) (gap : Bool) :
    ∃ t, exec (.ebufRateMatch i fill gap) s = .next t ∧ t.flag (Reg.laneSts i) 28 = true ∧
      t.getF (Reg.macCntErr i) 31 0 = min (s.getF (Reg.macCntErr i) 31 0 + 1) (2 ^ 32 - 1) := by
  have hsts : 0x800000 ≤ Reg.laneSts i := by unfold Reg.laneSts; omega
  have hcnt : 0x800000 ≤ Reg.macCntErr i := by unfold Reg.macCntErr; omega
  have hne : Reg.macCntErr i ≠ Reg.laneSts i := by unfold Reg.macCntErr Reg.laneSts; omega
  refine ⟨_, exec_ebufRateMatch_overflows hi hover gap, ?_, ?_⟩
  · exact (State.flag_of_rd (State.rd_laneEvent _ _ hsts) 28).trans (State.flag_setB_same _ _ _ _ (by decide))
  · refine (State.getF_of_rd ((State.rd_laneEvent _ _ hcnt).trans (State.rd_setB_ne _ _ _ _ _ hne)) 31 0).trans ?_
    exact State.getF_addSat _ _ _ _ _ (by decide)

end RateMatching

/-! ### LANE_CTRL, LANE_RX and LANE_TX (R422-R428) -/

section LaneRegisters
variable {s : State} {ini : Ini} {i : Fin 58} {v : Word}

theorem exec_laneCtrlWrite_of_ok (h : s.regGate ini (Reg.laneCtrl i) true v = .ok) :
    exec (.laneCtrlWrite ini i v) s = .next { s.laneCtrlWrite i v with resp := .ok 0 } :=
  congrArg Host.Outcome.next (s.gatedWrite_of_ok ini _ v _ h)

theorem State.laneCtrlWrite_of_used (h : s.laneUsed i = true) : s.laneCtrlWrite i v = s.setB (Reg.laneSts i) 29 true :=
  if_pos (by rw [h, Bool.true_or])

theorem State.laneCtrlWrite_of_free (hfree : s.laneUsed i = false) (hloop : fld v 3 2 < 2) :
    s.laneCtrlWrite i v = s.plainWrite (Reg.laneCtrl i) v :=
  if_neg (by rw [hfree, Bool.false_or, decide_eq_true_iff]; omega)

theorem exec_laneTxWrite_of_ok (h : s.regGate ini (Reg.laneTx i) true v = .ok) :
    exec (.laneEqWrite ini i true v) s = .next { s.laneEqWrite i true v with resp := .ok 0 } :=
  congrArg Host.Outcome.next (s.gatedWrite_of_ok ini _ v _ h)

theorem exec_laneRxWrite_of_ok (h : s.regGate ini (Reg.laneRx i) true v = .ok) :
    exec (.laneEqWrite ini i false v) s = .next { s.laneEqWrite i false v with resp := .ok 0 } :=
  congrArg Host.Outcome.next (s.gatedWrite_of_ok ini _ v _ h)

/-- The equaliser's registers of an Ethernet lane are written also while it is in use. -/
theorem State.laneEqWrite_tx (hi : (i : Nat) < 42) : s.laneEqWrite i true v = s.plainWrite (Reg.laneTx i) v :=
  (if_neg (by omega)).trans (if_pos rfl)

/-- A fixed code is in force at once. -/
theorem State.laneEqWrite_fixed (hi : (i : Nat) < 42) (hfixed : bit v 5 = false) :
    (s.laneEqWrite i false v).getF (Reg.laneSts i) 20 16 = fld v 4 0 := by
  have hwrite : s.laneEqWrite i false v = (s.plainWrite (Reg.laneRx i) v).setF (Reg.laneSts i) 20 16 (fld v 4 0) :=
    (if_neg (by omega)).trans ((if_neg Bool.false_ne_true).trans (if_pos (.inr (by rw [hfixed]; rfl))))
  rw [hwrite, getF_setF_same _ _ 20 16 _ (by decide) (fld_lt v 4 0)]

end LaneRegisters

/-! ### A pattern's bits (R429) -/

/-- A generator's register one bit on. -/
def prbsStep (p : Nat) (r : BitVec 31) : BitVec 31 := prbsShift r (prbsNext p r)

theorem getLsbD_prbsShift_zero (r : BitVec 31) (b : Bool) : (prbsShift r b).getLsbD 0 = b := by
  cases b <;> simp [prbsShift]

theorem getLsbD_prbsShift_succ (r : BitVec 31) (b : Bool) {j : Nat} (hj : j + 1 < 31) : (prbsShift r b).getLsbD (j + 1) = r.getLsbD j := by
  simp [prbsShift, hj, BitVec.getLsbD_eq_getElem (show j < 31 by omega)]

/-- Bit k sent is what the register foretells after k steps. -/
theorem getD_prbsBits (p : Nat) (inv : Bool) {n k : Nat} (hk : k < n) (r : BitVec 31) :
    (prbsBits p inv n r).1.getD k false = (prbsNext p ((prbsStep p)^[k] r) ^^ inv) := by
  induction n generalizing k r with
  | zero => omega
  | succ n ih =>
    cases k with
    | zero => rfl
    | succ k => exact ih (by omega) (prbsStep p r)

/-- The register holds the latest bits, the newest first. -/
theorem getLsbD_prbsStep_iterate (p : Nat) (r : BitVec 31) {j k : Nat} (hj : j < 31) (hk : j < k) :
    ((prbsStep p)^[k] r).getLsbD j = prbsNext p ((prbsStep p)^[k - (j + 1)] r) := by
  obtain ⟨k, rfl⟩ : ∃ m, k = m + 1 := ⟨k - 1, by omega⟩
  rw [Function.iterate_succ_apply']
  induction j generalizing k with
  | zero => exact getLsbD_prbsShift_zero _ _
  | succ j ih =>
    obtain ⟨k, rfl⟩ : ∃ m, k = m + 1 := ⟨k - 1, by omega⟩
    refine (getLsbD_prbsShift_succ _ _ hj).trans ?_
    rw [Function.iterate_succ_apply', ih (by omega) k (by omega)]
    congr 2
    omega

theorem prbsTaps_bounds (p : Nat) : 0 < (prbsTaps p).2 ∧ (prbsTaps p).2 < (prbsTaps p).1 ∧ (prbsTaps p).1 ≤ 31 := by
  unfold prbsTaps
  split <;> decide

/-- Each bit is the sum of the two its polynomial names. -/
theorem prbsBits_polynomial (p : Nat) (inv : Bool) {n k : Nat} (r : BitVec 31) (hk : (prbsTaps p).1 ≤ k) (hn : k < n) :
    ((prbsBits p inv n r).1.getD k false ^^ inv) =
      (((prbsBits p inv n r).1.getD (k - (prbsTaps p).1) false ^^ inv) ^^ ((prbsBits p inv n r).1.getD (k - (prbsTaps p).2) false ^^ inv)) := by
  obtain ⟨hpos, hlt, hle⟩ := prbsTaps_bounds p
  have htap {a : Nat} (ha : 0 < a) (hak : a ≤ (prbsTaps p).1) :
      ((prbsStep p)^[k] r).getLsbD (a - 1) = ((prbsBits p inv n r).1.getD (k - a) false ^^ inv) := by
    rw [getLsbD_prbsStep_iterate p r (by omega) (by omega), getD_prbsBits p inv (by omega), Nat.sub_add_cancel ha, Bool.xor_assoc,
      Bool.xor_self, Bool.xor_false]
  rw [← htap (by omega) le_rfl, ← htap hpos hlt.le, getD_prbsBits p inv hn, Bool.xor_assoc, Bool.xor_self, Bool.xor_false, prbsNext]

end Sys2Proof.Machine

namespace Sys2Proof.Machine

/-! ### The checker (R431) -/

/-- A step that is taken or not keeps what it keeps when it is taken. -/
theorem State.kept_ite {α : Type} (f : State → α) {c : Prop} [Decidable c] {s t : State} (h : f t = f s) : f (if c then t else s) = f s := by
  split
  · exact h
  · rfl

namespace State

section Steps
variable (s : State) (i : Nat)

@[simp] theorem laneAt_prbsReseed : (s.prbsReseed i).laneAt i = { s.laneAt i with seeded := 0, run := 0, wrong := [] } := laneAt_setLane _ _ _

@[simp] theorem laneAt_prbsZero : (s.prbsZero i).laneAt i = { s.laneAt i with errors := 0, bits := 0 } := laneAt_setLane _ _ _

@[simp] theorem rd_prbsReseed (off : Nat) : (s.prbsReseed i).rd off = s.rd off := rfl

@[simp] theorem rd_prbsZero (off : Nat) : (s.prbsZero i).rd off = s.rd off := rfl

theorem prbsUnlock_of_locked (h : s.flag (Reg.laneSts i) 30 = true) :
    s.prbsUnlock i = ((s.setB (Reg.laneSts i) 30 false).addSat (Reg.laneSts i) 15 0 1).prbsReseed i := if_pos h

/-- A checker that loses lock keeps its counts, and its lane's generator. -/
theorem laneAt_prbsUnlock : ∃ n m l, (s.prbsUnlock i).laneAt i = { s.laneAt i with seeded := n, run := m, wrong := l } := by
  unfold prbsUnlock
  split
  · exact ⟨0, 0, [], laneAt_setLane _ _ _⟩
  · exact ⟨_, _, _, rfl⟩

theorem rd_prbsUnlock {off : Nat} (h : off ≠ Reg.laneSts i) : (s.prbsUnlock i).rd off = s.rd off := by
  unfold prbsUnlock
  split
  · rw [rd_prbsReseed, addSat, rd_setF_ne _ _ _ _ _ _ h, rd_setB_ne _ _ _ _ _ h]
  · rfl

/-- LANE_STS of a checker that loses lock: not locked, one relock more. -/
theorem laneSts_prbsUnlock (h : s.flag (Reg.laneSts i) 30 = true) :
    (s.prbsUnlock i).flag (Reg.laneSts i) 30 = false ∧
      (s.prbsUnlock i).getF (Reg.laneSts i) 15 0 = min (s.getF (Reg.laneSts i) 15 0 + 1) 65535 := by
  have hrd := rd_prbsReseed ((s.setB (Reg.laneSts i) 30 false).addSat (Reg.laneSts i) 15 0 1) i (Reg.laneSts i)
  rw [prbsUnlock_of_locked s i h, flag_of_rd hrd, getF_of_rd hrd, getF_addSat _ _ _ _ _ (by decide),
    getF_setB_apart _ _ _ _ _ _ (by decide) (by decide), addSat, flag_setF_apart _ _ _ _ _ _ (by decide) (by decide)]
  exact ⟨s.flag_setB_same _ _ _ (by decide), rfl⟩

end Steps

/-! #### One bit -/

/-- Is b another bit than the one lane i's checker foretells? -/
def prbsDiffers (s : State) (i : Nat) (b : Bool) : Bool :=
  (b ^^ s.flag (Reg.lanePrbs i) 29) ^^ prbsNext (s.getF (Reg.lanePrbs i) 28 26) (s.laneAt i).chk

/-- The record of lane i once its locked checker has counted bit b. -/
def counted (s : State) (i : Nat) (b : Bool) : LaneSt :=
  let x := s.laneAt i
  let d := s.prbsDiffers i b
  { x with
    chk := prbsShift x.chk (prbsNext (s.getF (Reg.lanePrbs i) 28 26) x.chk), wrong := (d :: x.wrong).take 1024
    bits := min prbsMax (x.bits + 1), errors := min prbsMax (x.errors + b2n d) }

/-- The record of lane i once its checker, not locked, has taken bit b, `run` bits having come as foretold. -/
def sought (s : State) (i : Nat) (b : Bool) (run : Nat) : LaneSt :=
  let x := s.laneAt i
  { x with
    chk := prbsShift x.chk (b ^^ s.flag (Reg.lanePrbs i) 29)
    seeded := min (prbsTaps (s.getF (Reg.lanePrbs i) 28 26)).1 (x.seeded + 1), run := run, wrong := [] }

variable (s : State) (i : Nat) (b : Bool)

theorem prbsTake_of_locked (h : s.prbsLocked i = true) : s.prbsTake i b =
    if 64 ≤ (s.counted i b).wrong.count true then (s.setLane i (s.counted i b)).prbsUnlock i else s.setLane i (s.counted i b) :=
  if_pos h

theorem prbsTake_of_unlocked (h : s.prbsLocked i = false) : ∃ run, s.prbsTake i b =
    (if run = 1024 then (s.setLane i (s.sought i b run)).setB (Reg.laneSts i) 30 true else s.setLane i (s.sought i b run)) ∧
    (s.prbsDiffers i b = false → (prbsTaps (s.getF (Reg.lanePrbs i) 28 26)).1 ≤ (s.laneAt i).seeded →
      prbsLive (s.getF (Reg.lanePrbs i) 28 26) (s.laneAt i).chk = true → run = (s.laneAt i).run + 1) :=
  ⟨_, if_neg (by rw [h]; exact Bool.false_ne_true), fun hd hseeded hlive => if_neg (by
    have hd' : ((b ^^ s.flag (Reg.lanePrbs i) 29) ^^ prbsNext (s.getF (Reg.lanePrbs i) 28 26) (s.laneAt i).chk) = false := hd
    rw [hd', hlive, decide_eq_false (by omega)]
    decide)⟩

/-- The checker leaves the lane's generator alone. -/
theorem gen_prbsTake : ((s.prbsTake i b).laneAt i).gen = (s.laneAt i).gen := by
  cases h : s.prbsLocked i with
  | true =>
    rw [prbsTake_of_locked s i b h]
    split
    · obtain ⟨n, m, l, hunlock⟩ := laneAt_prbsUnlock (s.setLane i (s.counted i b)) i
      rw [hunlock, laneAt_setLane]
      rfl
    · rw [laneAt_setLane]
      rfl
  | false =>
    obtain ⟨run, htake, -⟩ := prbsTake_of_unlocked s i b h
    rw [htake]
    split
    · rw [laneAt_setB, laneAt_setLane]
      rfl
    · rw [laneAt_setLane]
      rfl

theorem rd_prbsTake {off : Nat} (hoff : off ≠ Reg.laneSts i) : (s.prbsTake i b).rd off = s.rd off := by
  cases h : s.prbsLocked i with
  | true =>
    rw [prbsTake_of_locked s i b h]
    exact kept_ite (s := s.setLane i _) (fun t => t.rd off) (rd_prbsUnlock _ i hoff)
  | false =>
    obtain ⟨run, htake, -⟩ := prbsTake_of_unlocked s i b h
    rw [htake]
    exact kept_ite (s := s.setLane i _) (fun t => t.rd off) (rd_setB_ne _ _ _ _ _ hoff)

/-- The 1,024th bit in a row as foretold locks the checker, which has counted nothing yet. -/
theorem prbsTake_locks (hsts : s.flag (Reg.laneSts i) 30 = false) (hd : s.prbsDiffers i b = false)
    (hseeded : (prbsTaps (s.getF (Reg.lanePrbs i) 28 26)).1 ≤ (s.laneAt i).seeded)
    (hlive : prbsLive (s.getF (Reg.lanePrbs i) 28 26) (s.laneAt i).chk = true) (hrun : (s.laneAt i).run = 1023) :
    (s.prbsTake i b).flag (Reg.laneSts i) 30 = true ∧ ((s.prbsTake i b).laneAt i).errors = (s.laneAt i).errors ∧
      ((s.prbsTake i b).laneAt i).bits = (s.laneAt i).bits := by
  obtain ⟨run, htake, hnext⟩ := prbsTake_of_unlocked s i b (by rw [prbsLocked, hsts, Bool.false_and])
  rw [htake, if_pos (by rw [hnext hd hseeded hlive, hrun]), laneAt_setB, laneAt_setLane]
  exact ⟨flag_setB_same _ _ _ _ (by decide), rfl, rfl⟩

/-- A locked checker counts the bit, and whether it differs. -/
theorem prbsTake_counts (h : s.prbsLocked i = true) : ((s.prbsTake i b).laneAt i).bits = min (2 ^ 48 - 1) ((s.laneAt i).bits + 1) ∧
    ((s.prbsTake i b).laneAt i).errors = min (2 ^ 48 - 1) ((s.laneAt i).errors + b2n (s.prbsDiffers i b)) := by
  rw [prbsTake_of_locked s i b h]
  split
  · obtain ⟨n, m, l, hunlock⟩ := laneAt_prbsUnlock (s.setLane i (s.counted i b)) i
    rw [hunlock, laneAt_setLane]
    exact ⟨rfl, rfl⟩
  · rw [laneAt_setLane]
    exact ⟨rfl, rfl⟩

section Locked
variable (hsts : s.flag (Reg.laneSts i) 30 = true) (hfree : s.laneUsed i = false)
include hsts hfree

theorem prbsLocked_of_free : s.prbsLocked i = true := by rw [prbsLocked, hsts, hfree]; rfl

/-- Lock is lost at 64 wrong of the latest 1,024, and a relock counted. -/
theorem prbsTake_unlocks (hwrong : 64 ≤ ((s.prbsDiffers i b :: (s.laneAt i).wrong).take 1024).count true) :
    (s.prbsTake i b).flag (Reg.laneSts i) 30 = false ∧
      (s.prbsTake i b).getF (Reg.laneSts i) 15 0 = min (s.getF (Reg.laneSts i) 15 0 + 1) 65535 := by
  have htake := (prbsTake_of_locked s i b (prbsLocked_of_free s i hsts hfree)).trans (if_pos hwrong)
  rw [htake]
  exact laneSts_prbsUnlock (s.setLane i (s.counted i b)) i hsts

theorem prbsTake_stays_locked (hwrong : ((s.prbsDiffers i b :: (s.laneAt i).wrong).take 1024).count true < 64) :
    (s.prbsTake i b).flag (Reg.laneSts i) 30 = true ∧
      (s.prbsTake i b).getF (Reg.laneSts i) 15 0 = s.getF (Reg.laneSts i) 15 0 := by
  have htake := (prbsTake_of_locked s i b (prbsLocked_of_free s i hsts hfree)).trans (if_neg (Nat.not_le.mpr hwrong))
  rw [htake]
  exact ⟨hsts, rfl⟩

end Locked

/-! #### What a lane carries (R430) -/

variable (w : LaneBits)

theorem prbsSend_of_silent (n : Nat) (flip : Bool) (h : s.prbsSent i n flip = []) : s.prbsSend i n flip = s := by
  simp [prbsSend, h]

theorem prbsSent_of_off (hgen : s.flag (Reg.lanePrbs i) 31 = false) (n : Nat) (flip : Bool) : s.prbsSent i n flip = [] := by
  simp [prbsSent, hgen]

theorem prbsSent_zero : s.prbsSent i 0 false = [] := by
  simp [prbsSent, prbsBits]

theorem rd_prbsSend (n : Nat) (flip : Bool) (off : Nat) : (s.prbsSend i n flip).rd off = s.rd off := by
  unfold prbsSend
  dsimp only
  split <;> rfl

/-- Sending moves the generator alone. -/
theorem laneAt_prbsSend (n : Nat) (flip : Bool) : ∃ g, (s.prbsSend i n flip).laneAt i = { s.laneAt i with gen := g } := by
  unfold prbsSend
  dsimp only
  split
  · exact ⟨_, rfl⟩
  · exact ⟨_, laneAt_setLane s i _⟩

variable {s i w}

/-- With its checker off, a lane only sends. -/
theorem prbsCarry_of_unchecked (hchk : s.flag (Reg.lanePrbs i) 30 = false) : s.prbsCarry i w = s.prbsSend i w.sent false :=
  if_pos (by rw [hchk]; rfl)

theorem prbsCarry_of_used (hchk : s.flag (Reg.lanePrbs i) 30 = true) (hused : s.laneUsed i = true) :
    s.prbsCarry i w = ((s.prbsSend i w.sent false).setB (Reg.laneSts i) 30 false).prbsReseed i :=
  (if_neg (by rw [hchk]; decide)).trans (if_pos hused)

theorem prbsCarry_of_free (hchk : s.flag (Reg.lanePrbs i) 30 = true) (hfree : s.laneUsed i = false) :
    s.prbsCarry i w = (s.laneGot i w).foldl (fun t b => t.prbsTake i b) (s.prbsSend i w.sent false) :=
  (if_neg (by rw [hchk]; decide)).trans (if_neg (by rw [hfree]; exact Bool.false_ne_true))

/-- What comes in is taken in the polarity of rx_inv, unless the lane is looped back. -/
theorem laneGot_of_no_loop (hloop : s.getF (Reg.laneCtrl i) 3 2 ≠ 1) : s.laneGot i w = w.got.map (· ^^ s.flag (Reg.laneCtrl i) 1) := by
  rw [laneGot, if_neg hloop]

/-- A lane that sends nothing and receives one bit hands it to its checker. -/
theorem prbsCarry_one (hgen : s.flag (Reg.lanePrbs i) 31 = false) (hchk : s.flag (Reg.lanePrbs i) 30 = true) (hfree : s.laneUsed i = false)
    (hloop : s.getF (Reg.laneCtrl i) 3 2 ≠ 1) {b : Bool} (hgot : w.got = [b]) :
    s.prbsCarry i w = s.prbsTake i (b ^^ s.flag (Reg.laneCtrl i) 1) := by
  rw [prbsCarry_of_free hchk hfree, laneGot_of_no_loop hloop, hgot, prbsSend_of_silent s i _ _ (prbsSent_of_off s i hgen _ _)]
  rfl

variable (s i w)

theorem rd_prbsCarry {off : Nat} (h : off ≠ Reg.laneSts i) : (s.prbsCarry i w).rd off = s.rd off := by
  have hsend := s.rd_prbsSend i w.sent false off
  unfold prbsCarry
  dsimp only
  split
  · exact hsend
  · split
    · exact (rd_setB_ne _ _ _ _ _ h).trans hsend
    · exact (rd_foldl _ off (fun t b => t.rd_prbsTake i b h) _ _).trans hsend

/-- A lane that sends nothing keeps its generator where it is. -/
theorem gen_prbsCarry (hsent : w.sent = 0) : ((s.prbsCarry i w).laneAt i).gen = (s.laneAt i).gen := by
  have hsend : s.prbsSend i w.sent false = s := s.prbsSend_of_silent i _ _ (by rw [hsent, prbsSent_zero])
  unfold prbsCarry
  dsimp only
  rw [hsend]
  split
  · rfl
  · split
    · rw [laneAt_prbsReseed]
      rfl
    · exact List.foldlRecOn _ _ (motive := fun t : State => (t.laneAt i).gen = (s.laneAt i).gen) rfl
        fun t ht b _ => (t.gen_prbsTake i b).trans ht

end State
end Sys2Proof.Machine

namespace Sys2Proof.Machine

/-! ### Words of LANE_PRBS (R432) -/

/-- Fields are equal when their bits are. -/
theorem fld_congr {v u : Word} {hi lo : Nat} (h : ∀ k, lo ≤ k → k ≤ hi → v.getLsbD k = u.getLsbD k) : fld v hi lo = fld u hi lo := by
  refine Nat.eq_of_testBit_eq fun k => ?_
  rw [testBit_fld, testBit_fld]
  by_cases hk : k < hi + 1 - lo
  · rw [h (lo + k) (by omega) (by omega)]
  · simp [hk]

/-- The bits above the commands stay when a command is set. -/
theorem getLsbD_or_command (v : Word) {c : Word} (hc : c.toNat < 2 ^ 26) {k : Nat} (hk : 26 ≤ k) : (v ||| c).getLsbD k = v.getLsbD k := by
  have hlow : c.getLsbD k = false := Nat.testBit_lt_two_pow (hc.trans_le (Nat.pow_le_pow_right (by decide) hk))
  rw [BitVec.getLsbD_or, hlow, Bool.or_false]

theorem pattern_or_command (v : Word) {c : Word} (hc : c.toNat < 2 ^ 26) : fld (v ||| c) 28 26 = fld v 28 26 :=
  fld_congr fun _ lo _ => getLsbD_or_command v hc lo

/-- The settings of a word, gen to pattern, are what LANE_PRBS keeps of it. -/
theorem getLsbD_settings (v : Word) {k : Nat} (lo : 26 ≤ k) (hi : k < 32) : (v &&& 0xFC000000).getLsbD k = v.getLsbD k := by
  have hone : (0xFC000000 : Word).getLsbD k = true := by interval_cases k <;> decide
  rw [BitVec.getLsbD_and, hone, Bool.and_true]

theorem pattern_settings (v : Word) : fld (v &&& 0xFC000000) 28 26 = fld v 28 26 :=
  fld_congr fun _ lo hi => getLsbD_settings v lo (by omega)

/-- Writing back gen as it is changes nothing of the settings. -/
theorem putFld_gen_settings (v : Word) : putFld (v &&& 0xFC000000) 31 31 (b2n (bit v 31)) = v &&& 0xFC000000 := by
  refine BitVec.eq_of_getLsbD_eq fun k hk => ?_
  refine (bit_putFld _ 31 31 _ k (by decide)).trans ?_
  split
  case isTrue h =>
    obtain rfl : k = 31 := by omega
    rw [getLsbD_settings v (by decide) (by decide), bit]
    cases v.getLsbD 31 <;> rfl
  case isFalse => rfl

namespace State

/-! ### A write of LANE_PRBS (R430-R432) -/

/-- The settings of v, written over those of old: a checker that runs takes a change of pattern as a loss of lock. -/
def prbsSet (s : State) (i : Nat) (old v : Word) : State :=
  let s2 := s.wr (Reg.lanePrbs i) (v &&& 0xFC000000)
  let s3 := if bit old 30 && fld old 29 26 != fld v 29 26 then (s2.prbsUnlock i).prbsReseed i else s2
  if bit v 30 then s3 else s3.setB (Reg.laneSts i) 30 false

/-- A checker that v starts has counted nothing. -/
def prbsBegin (s : State) (i : Nat) (old v : Word) : State :=
  if !bit old 30 && bit v 30 then (s.prbsZero i).prbsReseed i else s

/-- The commands of v that act on the counts: snap, then clear. -/
def prbsCounts (s : State) (i : Nat) (v : Word) : State :=
  let s6 := if bit v 23 then s.prbsSnapshot i else s
  if bit v 25 then (s6.prbsZero i).setF (Reg.laneSts i) 15 0 0 else s6

/-- A generator that v starts, or gives another pattern than old, starts anew. -/
def prbsRestart (s : State) (i : Nat) (old v : Word) : State :=
  if bit (v &&& 0xFC000000) 31 && (!bit old 31 || fld old 28 26 != fld v 28 26) then s.prbsStart i else s

/-- The bit that inject has lane i send: the pattern's next one, wrong. -/
def injectedBit (s : State) (i : Nat) : Bool :=
  (!(prbsNext (s.getF (Reg.lanePrbs i) 28 26) (s.laneAt i).gen ^^ s.flag (Reg.lanePrbs i) 29)) ^^ s.flag (Reg.laneCtrl i) 0

variable (s : State) (i : Nat) (old v : Word) (w : LaneBits)

/-- The state a write of v leaves before it acts on the generator. -/
def prbsChecked (s : State) (i : Nat) (v : Word) (w : LaneBits) : State :=
  (((s.prbsCarry i w).prbsSet i (s.rd (Reg.lanePrbs i)) v).prbsBegin i (s.rd (Reg.lanePrbs i)) v).prbsCounts i v

/-- A write to a lane that no port or output uses, in its parts. -/
theorem prbsWrite_of_free (hfree : s.laneUsed i = false) (hpat : fld v 28 26 < 5) : s.prbsWrite i v w =
    let t := (s.prbsChecked i v w).prbsRestart i (s.rd (Reg.lanePrbs i)) v
    if bit v 24 then t.prbsSend i 1 true else t := by
  refine (if_neg (by rw [hfree]; simp; omega)).trans ?_
  simp only [hfree, Bool.and_false, Bool.false_eq_true, if_false, putFld_gen_settings]
  rfl

/-! #### The settings -/

theorem lanePrbs_ne_laneSts : Reg.lanePrbs i ≠ Reg.laneSts i := by unfold Reg.lanePrbs Reg.laneSts; omega

theorem laneCtrl_ne : Reg.laneCtrl i ≠ Reg.lanePrbs i ∧ Reg.laneCtrl i ≠ Reg.laneSts i := by
  unfold Reg.laneCtrl Reg.lanePrbs Reg.laneSts; omega

/-- Beyond LANE_PRBS, the settings change LANE_STS alone. -/
theorem rd_prbsSet {off : Nat} (h : off ≠ Reg.laneSts i) : (s.prbsSet i old v).rd off = (s.wr (Reg.lanePrbs i) (v &&& 0xFC000000)).rd off := by
  have hpattern {t : State} {c : Prop} [Decidable c] : (if c then (t.prbsUnlock i).prbsReseed i else t).rd off = t.rd off := by
    split
    · rw [rd_prbsReseed, rd_prbsUnlock t i h]
    · rfl
  unfold prbsSet
  dsimp only
  split
  · rw [hpattern]
  · rw [rd_setB_ne _ _ _ _ _ h, hpattern]

theorem rd_prbsSet_lanePrbs : (s.prbsSet i old v).rd (Reg.lanePrbs i) = v &&& 0xFC000000 := by
  rw [s.rd_prbsSet i old v (lanePrbs_ne_laneSts i), rd_wr_same]

/-- The settings touch neither the counts nor the generator. -/
theorem laneAt_prbsSet : ∃ n m l, (s.prbsSet i old v).laneAt i = { s.laneAt i with seeded := n, run := m, wrong := l } := by
  have hpattern {c : Prop} [Decidable c] (t : State) :
      ∃ n m l, (if c then (t.prbsUnlock i).prbsReseed i else t).laneAt i = { t.laneAt i with seeded := n, run := m, wrong := l } := by
    obtain ⟨n, m, l, hunlock⟩ := t.laneAt_prbsUnlock i
    split
    · exact ⟨0, 0, [], by rw [laneAt_prbsReseed, hunlock]⟩
    · exact ⟨_, _, _, rfl⟩
  unfold prbsSet
  dsimp only
  split
  · exact hpattern _
  · rw [laneAt_setB]
    exact hpattern _

theorem rd_prbsBegin (off : Nat) : (s.prbsBegin i old v).rd off = s.rd off := by
  unfold prbsBegin
  split
  · rw [rd_prbsReseed, rd_prbsZero]
  · rfl

theorem gen_prbsBegin : ((s.prbsBegin i old v).laneAt i).gen = (s.laneAt i).gen := by
  unfold prbsBegin
  split
  · rw [laneAt_prbsReseed, laneAt_prbsZero]
  · rfl

theorem counts_prbsBegin (hold : bit old 30 = false) (hon : bit v 30 = true) :
    ((s.prbsBegin i old v).laneAt i).errors = 0 ∧ ((s.prbsBegin i old v).laneAt i).bits = 0 := by
  rw [prbsBegin, if_pos (by rw [hold, hon]; rfl), laneAt_prbsReseed, laneAt_prbsZero]
  exact ⟨rfl, rfl⟩

/-- A checker that ran before does not begin anew. -/
theorem prbsBegin_of_running (hold : bit old 30 = true) : s.prbsBegin i old v = s :=
  if_neg (by rw [hold]; exact Bool.false_ne_true)

/-! #### Snap and clear -/

theorem rd_prbsSnapshot {off : Nat} (h : off < Reg.laneSnapErrLo i) : (s.prbsSnapshot i).rd off = s.rd off := by
  have hne : off ≠ Reg.laneSnapErrLo i ∧ off ≠ Reg.laneSnapErrHi i ∧ off ≠ Reg.laneSnapBitsLo i ∧ off ≠ Reg.laneSnapBitsHi i := by
    unfold Reg.laneSnapErrLo at h ⊢
    unfold Reg.laneSnapErrHi Reg.laneSnapBitsLo Reg.laneSnapBitsHi
    omega
  obtain ⟨h1, h2, h3, h4⟩ := hne
  exact (rd_wr_ne _ _ _ _ h4).trans ((rd_wr_ne _ _ _ _ h3).trans ((rd_wr_ne _ _ _ _ h2).trans (rd_wr_ne _ _ _ _ h1)))

theorem rd_prbsCounts {off : Nat} (hsts : off ≠ Reg.laneSts i) (hsnap : off < Reg.laneSnapErrLo i) : (s.prbsCounts i v).rd off = s.rd off := by
  unfold prbsCounts
  dsimp only
  refine Eq.trans (kept_ite (fun t => t.rd off) ?_) (kept_ite (fun t => t.rd off) (s.rd_prbsSnapshot i hsnap))
  rw [rd_setF_ne _ _ _ _ _ _ hsts, rd_prbsZero]

theorem gen_prbsCounts : ((s.prbsCounts i v).laneAt i).gen = (s.laneAt i).gen := by
  unfold prbsCounts
  dsimp only
  refine Eq.trans (kept_ite (fun t => (t.laneAt i).gen) ?_) (kept_ite (fun t => (t.laneAt i).gen) rfl)
  rw [laneAt_setF, laneAt_prbsZero]

theorem counts_prbsCounts_clear (hclear : bit v 25 = true) : ((s.prbsCounts i v).laneAt i).errors = 0 ∧ ((s.prbsCounts i v).laneAt i).bits = 0 ∧
    (s.prbsCounts i v).getF (Reg.laneSts i) 15 0 = 0 := by
  unfold prbsCounts
  dsimp only
  rw [if_pos hclear, laneAt_setF, laneAt_prbsZero]
  exact ⟨rfl, rfl, getF_setF_same _ _ _ _ _ (by decide) (by decide)⟩

/-- Counts at 0 stay there. -/
theorem counts_prbsCounts_zero (he : (s.laneAt i).errors = 0) (hb : (s.laneAt i).bits = 0) :
    ((s.prbsCounts i v).laneAt i).errors = 0 ∧ ((s.prbsCounts i v).laneAt i).bits = 0 := by
  cases hclear : bit v 25 with
  | true =>
    obtain ⟨he', hb', -⟩ := s.counts_prbsCounts_clear i v hclear
    exact ⟨he', hb'⟩
  | false =>
    have hkept : (s.prbsCounts i v).laneAt i = s.laneAt i := by
      unfold prbsCounts
      dsimp only
      rw [if_neg (by rw [hclear]; exact Bool.false_ne_true)]
      exact kept_ite (fun t => t.laneAt i) rfl
    rw [hkept]
    exact ⟨he, hb⟩

/-- Snap without clear copies the counts. -/
theorem rd_prbsCounts_snap (hsnap : bit v 23 = true) (hkeep : bit v 25 = false) :
    (s.prbsCounts i v).rd (Reg.laneSnapErrLo i) = BitVec.ofNat 32 (s.laneAt i).errors ∧
      (s.prbsCounts i v).rd (Reg.laneSnapBitsHi i) = BitVec.ofNat 32 ((s.laneAt i).bits / 2 ^ 32) := by
  have hcounts : s.prbsCounts i v = s.prbsSnapshot i := by
    unfold prbsCounts
    dsimp only
    rw [if_pos hsnap, if_neg (by rw [hkeep]; exact Bool.false_ne_true)]
  have hne : Reg.laneSnapErrLo i ≠ Reg.laneSnapErrHi i ∧ Reg.laneSnapErrLo i ≠ Reg.laneSnapBitsLo i ∧
      Reg.laneSnapErrLo i ≠ Reg.laneSnapBitsHi i := by
    unfold Reg.laneSnapErrLo Reg.laneSnapErrHi Reg.laneSnapBitsLo Reg.laneSnapBitsHi
    omega
  obtain ⟨h1, h2, h3⟩ := hne
  rw [hcounts]
  exact ⟨(rd_wr_ne _ _ _ _ h3).trans ((rd_wr_ne _ _ _ _ h2).trans ((rd_wr_ne _ _ _ _ h1).trans (rd_wr_same _ _ _))), rd_wr_same _ _ _⟩

/-! #### The generator -/

theorem rd_prbsRestart (off : Nat) : (s.prbsRestart i old v).rd off = s.rd off := kept_ite (fun t => t.rd off) rfl

theorem laneAt_prbsRestart : ∃ g, (s.prbsRestart i old v).laneAt i = { s.laneAt i with gen := g } := by
  unfold prbsRestart
  split
  · exact ⟨_, laneAt_setLane s i _⟩
  · exact ⟨_, rfl⟩

theorem prbsRestart_of_running (hgen : bit old 31 = true) (hpat : fld old 28 26 = fld v 28 26) : s.prbsRestart i old v = s :=
  if_neg (by simp [hgen, hpat])

/-- Inject sends one bit. -/
theorem outbox_prbsSend_inject (hgen : s.flag (Reg.lanePrbs i) 31 = true) :
    (s.prbsSend i 1 true).outbox.head? = some (.prbs i [s.injectedBit i]) := by
  have hsent : s.prbsSent i 1 true = [s.injectedBit i] := by
    simp [prbsSent, prbsBits, prbsPattern, hgen, injectedBit]
  simp [prbsSend, hsent, emit]

end State
end Sys2Proof.Machine

namespace Sys2Proof.Machine
namespace State

/-! #### What a write leaves -/

section Write
variable {s : State} {i : Nat} {v : Word} {w : LaneBits}

theorem rd_prbsChecked_lanePrbs : (s.prbsChecked i v w).rd (Reg.lanePrbs i) = v &&& 0xFC000000 := by
  have hsnap : Reg.lanePrbs i < Reg.laneSnapErrLo i := by unfold Reg.lanePrbs Reg.laneSnapErrLo; omega
  rw [prbsChecked, rd_prbsCounts _ _ _ (lanePrbs_ne_laneSts i) hsnap, rd_prbsBegin, rd_prbsSet_lanePrbs]

theorem rd_prbsChecked_laneCtrl : (s.prbsChecked i v w).rd (Reg.laneCtrl i) = s.rd (Reg.laneCtrl i) := by
  have hsnap : Reg.laneCtrl i < Reg.laneSnapErrLo i := by unfold Reg.laneCtrl Reg.laneSnapErrLo; omega
  obtain ⟨hprbs, hsts⟩ := laneCtrl_ne i
  rw [prbsChecked, rd_prbsCounts _ _ _ hsts hsnap, rd_prbsBegin, rd_prbsSet _ _ _ _ hsts, rd_wr_ne _ _ _ _ hprbs, rd_prbsCarry s i w hsts]

theorem gen_prbsChecked (hsent : w.sent = 0) : ((s.prbsChecked i v w).laneAt i).gen = (s.laneAt i).gen := by
  obtain ⟨n, m, l, hset⟩ := (s.prbsCarry i w).laneAt_prbsSet i (s.rd (Reg.lanePrbs i)) v
  rw [prbsChecked, gen_prbsCounts, gen_prbsBegin, hset, gen_prbsCarry s i w hsent]

variable (hfree : s.laneUsed i = false) (hpat : fld v 28 26 < 5)
include hfree hpat

/-- The generator's part of a write changes no register. -/
theorem rd_prbsWrite (off : Nat) : (s.prbsWrite i v w).rd off = (s.prbsChecked i v w).rd off := by
  rw [prbsWrite_of_free s i v w hfree hpat]
  dsimp only
  split
  · rw [rd_prbsSend, rd_prbsRestart]
  · rw [rd_prbsRestart]

/-- Nor does it touch the counts. -/
theorem counts_prbsWrite : ((s.prbsWrite i v w).laneAt i).errors = ((s.prbsChecked i v w).laneAt i).errors ∧
    ((s.prbsWrite i v w).laneAt i).bits = ((s.prbsChecked i v w).laneAt i).bits := by
  obtain ⟨g, hrestart⟩ := (s.prbsChecked i v w).laneAt_prbsRestart i (s.rd (Reg.lanePrbs i)) v
  rw [prbsWrite_of_free s i v w hfree hpat]
  dsimp only
  split
  · obtain ⟨g', hsend⟩ := ((s.prbsChecked i v w).prbsRestart i (s.rd (Reg.lanePrbs i)) v).laneAt_prbsSend i 1 true
    rw [hsend, hrestart]
    exact ⟨rfl, rfl⟩
  · rw [hrestart]
    exact ⟨rfl, rfl⟩

/-- A checker that is started has its counts cleared. -/
theorem prbsWrite_starts (hoff : s.flag (Reg.lanePrbs i) 30 = false) (hon : bit v 30 = true) :
    (s.prbsWrite i v w).rd (Reg.lanePrbs i) = v &&& 0xFC000000 ∧ ((s.prbsWrite i v w).laneAt i).errors = 0 ∧
      ((s.prbsWrite i v w).laneAt i).bits = 0 := by
  obtain ⟨he, hb⟩ := ((s.prbsCarry i w).prbsSet i (s.rd (Reg.lanePrbs i)) v).counts_prbsBegin i (s.rd (Reg.lanePrbs i)) v hoff hon
  obtain ⟨herr, hbits⟩ := counts_prbsCounts_zero _ i v he hb
  obtain ⟨hwerr, hwbits⟩ := counts_prbsWrite (w := w) hfree hpat
  exact ⟨(rd_prbsWrite hfree hpat _).trans rd_prbsChecked_lanePrbs, hwerr.trans herr, hwbits.trans hbits⟩

theorem prbsWrite_clears (hclear : bit v 25 = true) : ((s.prbsWrite i v w).laneAt i).errors = 0 ∧ ((s.prbsWrite i v w).laneAt i).bits = 0 ∧
    (s.prbsWrite i v w).getF (Reg.laneSts i) 15 0 = 0 := by
  obtain ⟨herr, hbits, hrelocks⟩ := counts_prbsCounts_clear (((s.prbsCarry i w).prbsSet i (s.rd (Reg.lanePrbs i)) v).prbsBegin i
    (s.rd (Reg.lanePrbs i)) v) i v hclear
  obtain ⟨hwerr, hwbits⟩ := counts_prbsWrite (w := w) hfree hpat
  exact ⟨hwerr.trans herr, hwbits.trans hbits, (getF_of_rd (rd_prbsWrite hfree hpat _) 15 0).trans hrelocks⟩

/-- A snap of a running checker copies what it has counted, the bits carried up to the write included. -/
theorem prbsWrite_snaps (hrun : s.flag (Reg.lanePrbs i) 30 = true) (hsnap : bit v 23 = true) (hkeep : bit v 25 = false) :
    (s.prbsWrite i v w).rd (Reg.laneSnapErrLo i) = BitVec.ofNat 32 ((s.prbsCarry i w).laneAt i).errors ∧
      (s.prbsWrite i v w).rd (Reg.laneSnapBitsHi i) = BitVec.ofNat 32 (((s.prbsCarry i w).laneAt i).bits / 2 ^ 32) := by
  obtain ⟨n, m, l, hset⟩ := (s.prbsCarry i w).laneAt_prbsSet i (s.rd (Reg.lanePrbs i)) v
  have hcounts := rd_prbsCounts_snap ((s.prbsCarry i w).prbsSet i (s.rd (Reg.lanePrbs i)) v) i v hsnap hkeep
  rw [rd_prbsWrite hfree hpat, rd_prbsWrite hfree hpat, prbsChecked, prbsBegin_of_running _ i _ v hrun]
  rwa [hset] at hcounts

/-- The state whose next bit an inject inverts: the generator has started, or gone on. -/
theorem prbsWrite_injects (hinject : bit v 24 = true) (hgen : bit v 31 = true) : (s.prbsWrite i v w).outbox.head? =
    some (.prbs i [((s.prbsChecked i v w).prbsRestart i (s.rd (Reg.lanePrbs i)) v).injectedBit i]) := by
  have hflag : ((s.prbsChecked i v w).prbsRestart i (s.rd (Reg.lanePrbs i)) v).flag (Reg.lanePrbs i) 31 = true := by
    rw [flag, rd_prbsRestart, rd_prbsChecked_lanePrbs]
    exact (getLsbD_settings v (by decide) (by decide)).trans hgen
  rw [prbsWrite_of_free s i v w hfree hpat]
  dsimp only
  rw [if_pos hinject, outbox_prbsSend_inject _ i hflag]

omit hfree hpat in
/-- A generator that ran on with its pattern and has sent nothing since: the bit is the wrong one of its next. -/
theorem injectedBit_of_running (hgen : s.flag (Reg.lanePrbs i) 31 = true) (hsame : s.getF (Reg.lanePrbs i) 28 26 = fld v 28 26)
    (hsent : w.sent = 0) : ((s.prbsChecked i v w).prbsRestart i (s.rd (Reg.lanePrbs i)) v).injectedBit i =
      ((!(prbsNext (fld v 28 26) (s.laneAt i).gen ^^ v.getLsbD 29)) ^^ s.flag (Reg.laneCtrl i) 0) := by
  rw [prbsRestart_of_running _ i _ v hgen hsame, injectedBit, getF, flag, rd_prbsChecked_lanePrbs, pattern_settings, bit,
    getLsbD_settings v (by decide) (by decide), gen_prbsChecked hsent, flag_of_rd rd_prbsChecked_laneCtrl]

end Write
end State

section Execution
variable {s : State} {ini : Ini} {i : Fin 58} {v : Word} {w : LaneBits}

theorem exec_lanePrbsWrite_of_ok (h : s.regGate ini (Reg.lanePrbs i) true v = .ok) :
    exec (.lanePrbsWrite ini ⟨i, w⟩ v) s = .next { s.prbsWrite i v w with resp := .ok 0 } :=
  congrArg Host.Outcome.next (s.gatedWrite_of_ok ini _ v _ h)

theorem exec_prbsClear_of_ok (h : s.regGate ini (Reg.lanePrbs i) true (v ||| 0x2000000) = .ok) :
    exec (.prbsClear ini i v w) s = .next { s.prbsWrite i (v ||| 0x2000000) w with resp := .ok 0 } :=
  congrArg Host.Outcome.next (s.gatedWrite_of_ok ini _ _ _ h)

theorem exec_prbsInject_of_ok (h : s.regGate ini (Reg.lanePrbs i) true (v ||| 0x1000000) = .ok) :
    exec (.prbsInject ini ⟨i, w⟩ v) s = .next { s.prbsWrite i (v ||| 0x1000000) w with resp := .ok 0 } :=
  congrArg Host.Outcome.next (s.gatedWrite_of_ok ini _ _ _ h)

theorem exec_prbsSnap_of_ok (h : s.regGate ini (Reg.lanePrbs i) true (v ||| 0x800000) = .ok) :
    exec (.prbsSnap ini i v w) s = .next { s.prbsWrite i (v ||| 0x800000) w with resp := .ok 0 } :=
  congrArg Host.Outcome.next (s.gatedWrite_of_ok ini _ _ _ h)

end Execution

/-! ### The statement about lanes and patterns -/

/-- Settles O49: references, elastic buffers, lane registers, commands of LANE_PRBS, a pattern's bits and the checker, each from its own
lemmas. That a written pattern or inv costs the lock only of a checker that ran, and that a checker that starts seeds itself anew, is log entry
118; that inject inverts the next bit sent, that a register of zeros locks nothing, and that a lane's bits are taken in up to each command, is
entry 175. -/
theorem lanesAndPatterns : Obligations.LanesAndPatterns := by
  unfold Obligations.LanesAndPatterns
  refine fun s => ⟨fun r ppm => ⟨exec_refLoss_of_lost, refLoss_recorded, fun fr hlost hppm hdue => ?regain, fun fr t hlost hearly => ?early,
    fun fr hok => exec_refRegain_ignored fr (.inl hok)⟩, ?buffers, ?control, ?equalisers, ?commands,
    fun p inv n k r hk hn => prbsBits_polynomial p inv r hk hn, ?checker⟩
  case regain => exact refRegain_recorded fr hlost (refMayReturn_due hppm hdue)
  case early => exact exec_refRegain_ignored fr (.inr (refMayReturn_early hlost hearly))
  case buffers =>
    exact fun i fill gap => ⟨fun hi => exec_ebufRateMatch_of_no_buffer hi gap, fun hi => ⟨exec_ebufRateMatch_deletes hi,
      exec_ebufRateMatch_inserts hi, fun hover => overflow_counted hi hover gap⟩⟩
  case control =>
    refine fun ini i v hgate => ⟨fun hused => ?_, fun hfree hloop => ?_⟩
    · rw [exec_laneCtrlWrite_of_ok hgate, State.laneCtrlWrite_of_used hused]
    · rw [exec_laneCtrlWrite_of_ok hgate, State.laneCtrlWrite_of_free hfree hloop]
  case equalisers =>
    refine fun ini i v hi => ⟨fun hgate => ?_, fun hgate hfixed => ⟨_, exec_laneRxWrite_of_ok hgate, State.laneEqWrite_fixed hi hfixed⟩⟩
    rw [exec_laneTxWrite_of_ok hgate, State.laneEqWrite_tx hi]
  case commands =>
    intro ini i v w hfree hpat
    have hpat' {c : Word} (hc : c.toNat < 2 ^ 26) : fld (v ||| c) 28 26 < 5 := (pattern_or_command v hc).trans_lt hpat
    refine ⟨fun hgate hoff hon => ⟨_, exec_lanePrbsWrite_of_ok hgate, State.prbsWrite_starts hfree hpat hoff hon⟩,
      fun hgate => ⟨_, exec_prbsClear_of_ok hgate, State.prbsWrite_clears hfree (hpat' (by decide)) (by simp [bit])⟩,
      fun hgate hgen => ⟨_, _, exec_prbsInject_of_ok hgate,
        State.prbsWrite_injects hfree (hpat' (by decide)) (by simp [bit]) ((getLsbD_or_command v (by decide) (by decide)).trans hgen),
        fun hruns hsame hsent => ?inject⟩,
      fun hgate hruns hkeep => ⟨_, exec_prbsSnap_of_ok hgate,
        State.prbsWrite_snaps hfree (hpat' (by decide)) hruns (by simp [bit]) (by simpa [bit] using hkeep)⟩⟩
    case inject =>
      have hbit := pattern_or_command v (c := 0x1000000) (by decide)
      rw [State.injectedBit_of_running hruns (hsame.trans hbit.symm) hsent, hbit, getLsbD_or_command v (by decide) (by decide)]
  case checker =>
    intro i w c hc hgen
    have hexec : exec c s = .next (s.prbsCarry i w) := by rcases hc with rfl | rfl <;> rfl
    have hsilent : s.prbsSend i w.sent false = s := s.prbsSend_of_silent i _ _ (s.prbsSent_of_off i hgen _ _)
    refine ⟨fun hoff => ?_, fun hchk hused => ?_, ?bit⟩
    · rw [hexec, State.prbsCarry_of_unchecked hoff, hsilent]
    · rw [hexec, State.prbsCarry_of_used hchk hused, hsilent]
    case bit =>
      rintro b x d hchk hfree hloop hgot rfl rfl
      have hcarry := hexec.trans (congrArg Host.Outcome.next (State.prbsCarry_one hgen hchk hfree hloop hgot))
      refine ⟨fun hsts hd hseeded hlive hrun => ⟨_, hcarry, State.prbsTake_locks s i _ hsts hd hseeded hlive hrun⟩, fun hsts => ?_⟩
      obtain ⟨hbits, herrors⟩ := State.prbsTake_counts s i (b ^^ s.flag (Reg.laneCtrl i) 1) (State.prbsLocked_of_free s i hsts hfree)
      exact ⟨_, hcarry, hbits, herrors, State.prbsTake_unlocks s i _ hsts hfree, State.prbsTake_stays_locked s i _ hsts hfree⟩

end Sys2Proof.Machine

namespace Sys2Proof.Machine

/-! ### Time bases: their records, states and clocks (R440, R444) -/

namespace State

@[simp] theorem tbAt_setTb (s : State) (t : Nat) (x : TbSt) : (s.setTb t x).tbAt t = x := SMap.get_set_same _ _ _ _

theorem tbAt_of_hostStep {s u : State} (h : s.hostStep u) (t : Nat) : u.tbAt t = s.tbAt t := by
  obtain ⟨_, _, _, rfl⟩ := h
  rfl

theorem hostStep_setTbState (s : State) (t st : Nat) : s.hostStep (s.setTbState t st) := by
  unfold setTbState
  split
  · exact s.hostStep_refl
  · exact hostStep_trans (hostStep_trans (s.hostStep_setF _ _ _ _) (hostStep_raiseEvt _ _)) (hostStep_hostEvent _ _ _)

@[simp] theorem tbAt_setTbState (s : State) (t st k : Nat) : (s.setTbState t st).tbAt k = s.tbAt k :=
  tbAt_of_hostStep (s.hostStep_setTbState t st) k

/-- The state just entered is the one TB_STS shows. -/
theorem tbState_setTbState (s : State) (t : Nat) {st : Nat} (hst : st < 8) : (s.setTbState t st).tbState t = st := by
  have hsts : 0x800000 ≤ Reg.tbSts t := by unfold Reg.tbSts; omega
  unfold setTbState
  split
  case isTrue h => exact h
  case isFalse =>
    exact (getF_of_rd ((rd_hostEvent _ _ _ _ (by omega)).trans (rd_raiseEvt _ _ _ hsts)) 31 29).trans
      (s.getF_setF_same (Reg.tbSts t) 31 29 st (by decide) hst)

theorem tbState_setTbState_ne (s : State) {t k : Nat} (st : Nat) (hne : k ≠ t) : (s.setTbState t st).tbState k = s.tbState k :=
  getF_of_rd (s.rd_setTbState t st (by unfold Reg.tbSts; omega) (by unfold Reg.tbSts; omega)) 31 29

@[simp] theorem tbOn_setTbState (s : State) (t st k : Nat) : (s.setTbState t st).tbOn k = s.tbOn k :=
  flag_of_rd (s.rd_setTbState t st (by unfold Reg.tbCtrl; omega) (by unfold Reg.tbCtrl Reg.tbSts; omega)) 31

/-! ### The servo (R443) -/

/-- Base t's record after a sample that makes no step: the integral and the rate move within max. -/
def steered (s : State) (t : Nat) (theta : Int) : TbSt :=
  let mx : Int := (s.getF (Reg.tbLimit t) 9 0 * 1000 * 2 ^ 32 : Nat)
  let i := clampI (-mx) mx ((s.tbAt t).i + ((s.rd (Reg.tbKi t)).toNat : Int) * theta)
  { s.tbAt t with
    i := i
    r := clampI (-mx) mx (-(((s.rd (Reg.tbKp t)).toNat : Int) * theta + i))
    good := if theta.natAbs ≤ 50 * 0x10000 then (s.tbAt t).good + 1 else 0
    lastSample := s.now }

/-- The state behind a sample that makes no step, before TB_STS follows it. -/
def sampled (s : State) (t : Nat) (theta : Int) : State :=
  ((s.wr (Reg.tbOff t) (satWord (theta / 256))).setTb t (s.steered t theta)).wr (Reg.tbRate t) (satWord ((s.steered t theta).r / 2 ^ 24))

@[simp] theorem tbAt_sampled (s : State) (t : Nat) (theta : Int) : (s.sampled t theta).tbAt t = s.steered t theta :=
  SMap.get_set_same _ _ _ _

theorem rd_sampled (s : State) (t : Nat) (theta : Int) {off : Nat} (hoff : off ≠ Reg.tbOff t) (hrate : off ≠ Reg.tbRate t) :
    (s.sampled t theta).rd off = s.rd off :=
  (rd_wr_ne _ _ _ _ hrate).trans (s.rd_wr_ne _ _ _ hoff)

theorem rd_sampled_rate (s : State) (t : Nat) (theta : Int) :
    (s.sampled t theta).rd (Reg.tbRate t) = satWord ((s.steered t theta).r / 2 ^ 24) := rd_wr_same _ _ _

theorem rd_sampled_off (s : State) (t : Nat) (theta : Int) : (s.sampled t theta).rd (Reg.tbOff t) = satWord (theta / 256) :=
  (rd_wr_ne _ _ _ _ (by unfold Reg.tbOff Reg.tbRate; omega)).trans (s.rd_wr_same _ _)

theorem tbState_sampled (s : State) (t : Nat) (theta : Int) : (s.sampled t theta).tbState t = s.tbState t :=
  getF_of_rd (s.rd_sampled t theta (by unfold Reg.tbSts Reg.tbOff; omega) (by unfold Reg.tbSts Reg.tbRate; omega)) 31 29

/-- A base that never steps steers by every sample, and its state follows: the sixteenth good one in a row locks an acquiring base. -/
theorem servo_steers {s : State} {t : Nat} (theta : Int) (hstep : s.getF (Reg.tbLimit t) 31 16 = 0) :
    ∃ st, s.servo t theta = (s.sampled t theta).setTbState t st ∧
      (s.tbState t = 2 → 15 ≤ (s.tbAt t).good → theta.natAbs ≤ 50 * 65536 → st = 3) := by
  have hstays : s.sampled t theta = (s.sampled t theta).setTbState t (s.tbState t) := (if_pos (s.tbState_sampled t theta)).symm
  generalize hu : s.servo t theta = u
  unfold servo at hu
  extract_lets b step mx kp ki big good i' s0 moved after s1 s2 at hu
  have hbig : big = false := by simp [big, step, hstep]
  have hs1 : s1 = s0.setTb t (s.steered t theta) := if_neg (by simp [hbig])
  have hs2 : s2 = s.sampled t theta := by simp only [s2, hs1, tbAt_setTb]; rfl
  rw [hs2] at hu
  split at hu
  next h2 =>
    have hgood (hb : 15 ≤ (s.tbAt t).good) (hθ : theta.natAbs ≤ 50 * 65536) : 16 ≤ good := by
      simpa [good, hθ] using hb
    split at hu
    next => exact ⟨3, hu.symm, fun _ _ _ => rfl⟩
    next hfew => exact ⟨_, hu.symm.trans hstays, fun _ hb hθ => absurd (hgood hb hθ) hfew⟩
  next h3 =>
    split at hu
    · exact ⟨2, hu.symm, fun h => by omega⟩
    · exact ⟨_, hu.symm.trans hstays, fun h => by omega⟩
  next h4 => exact ⟨2, hu.symm, fun h => by omega⟩
  next hno _ _ => exact ⟨_, hu.symm.trans hstays, fun h => absurd h hno⟩

/-! ### Silence and the loss of REF_SYS (R444, R454) -/

/-- REF_SYS_FAIL's walk over the bases: every enabled one it passes is FAILED, and stays so. -/
def failBases (s : State) (l : List Nat) : State := l.foldl (fun s t => if s.tbOn t then s.setTbState t 5 else s) s

theorem failBases_cons (s : State) (k : Nat) (l : List Nat) :
    s.failBases (k :: l) = (if s.tbOn k then s.setTbState k 5 else s).failBases l := rfl

theorem failBases_keeps_failed {s : State} (l : List Nat) {t : Nat} (h : s.tbState t = 5) : (s.failBases l).tbState t = 5 := by
  induction l generalizing s with
  | nil => exact h
  | cons k l ih =>
    rw [failBases_cons]
    refine ih ?_
    split
    · by_cases hk : t = k
      · subst hk
        exact s.tbState_setTbState t (by decide)
      · exact (s.tbState_setTbState_ne 5 hk).trans h
    · exact h

theorem failBases_fails {s : State} {l : List Nat} {t : Nat} (ht : t ∈ l) (hon : s.tbOn t = true) : (s.failBases l).tbState t = 5 := by
  induction l generalizing s with
  | nil => cases ht
  | cons k l ih =>
    rw [failBases_cons]
    rcases List.mem_cons.mp ht with rfl | hl
    · rw [if_pos hon]
      exact failBases_keeps_failed l (s.tbState_setTbState t (by decide))
    · refine ih hl ?_
      split
      · exact (s.tbOn_setTbState k 5 t).trans hon
      · exact hon

end State
end Sys2Proof.Machine

namespace Sys2Proof.Machine

/-! ### Captured times (R440, R453) -/

namespace State

/-- A time's seconds, nanoseconds and fraction stand in their registers. -/
theorem showTime_shows (s : State) {lo ns fr : Nat} {hi : Option Nat} (x : Nat) (hlons : lo ≠ ns) (hlofr : lo ≠ fr) (hnsfr : ns ≠ fr)
    (hhi : ∀ h ∈ hi, lo ≠ h) :
    (s.showTime lo hi ns fr x).rd ns = BitVec.ofNat 32 (ptNs x) ∧ (s.showTime lo hi ns fr x).rd lo = BitVec.ofNat 32 (x / secT) ∧
      (s.showTime lo hi ns fr x).rd fr = BitVec.ofNat 32 (x % 65536) := by
  unfold showTime
  extract_lets s1 s2
  have h2 : s2.rd lo = s1.rd lo := by
    unfold s2
    cases hi with
    | none => rfl
    | some h => exact s1.rd_wr_ne _ _ _ (hhi h rfl)
  refine ⟨?_, ?_, rd_wr_same _ _ _⟩
  · exact (rd_wr_ne _ _ _ _ hnsfr).trans (rd_wr_same _ _ _)
  · exact (rd_wr_ne _ _ _ _ hlofr).trans ((rd_wr_ne _ _ _ _ hlons).trans (h2.trans (s.rd_wr_same _ _)))

/-- A snapshot shows the base's time and the system counter of one instant. -/
theorem snapTb_shows (s : State) (t : Nat) :
    (s.snapTb t).rd (Reg.tbNowNs t) = BitVec.ofNat 32 (ptNs (s.timeOf t)) ∧
      (s.snapTb t).rd (Reg.tbNowSLo t) = BitVec.ofNat 32 (s.timeOf t / secT) ∧
      (s.snapTb t).rd (Reg.tbNowFrac t) = BitVec.ofNat 32 (s.timeOf t % 65536) ∧ (s.snapTb t).rd (Reg.tbSnapCtrLo t) = BitVec.ofNat 32 s.now := by
  obtain ⟨hns, hlo, hfr⟩ := s.showTime_shows (lo := Reg.tbNowSLo t) (ns := Reg.tbNowNs t) (fr := Reg.tbNowFrac t)
    (hi := some (Reg.tbNowSHi t)) (s.timeOf t) (by unfold Reg.tbNowSLo Reg.tbNowNs; omega) (by unfold Reg.tbNowSLo Reg.tbNowFrac; omega)
    (by unfold Reg.tbNowNs Reg.tbNowFrac; omega) (by rintro _ ⟨⟩; unfold Reg.tbNowSLo Reg.tbNowSHi; omega)
  have hkeeps {off : Nat} (h : off < Reg.tbSnapCtrLo t) : (s.snapTb t).rd off =
      (s.showTime (Reg.tbNowSLo t) (some (Reg.tbNowSHi t)) (Reg.tbNowNs t) (Reg.tbNowFrac t) (s.timeOf t)).rd off :=
    (rd_wr_ne _ _ _ _ (by unfold Reg.tbSnapCtrLo at h; unfold Reg.tbSnapCtrHi; omega)).trans (rd_wr_ne _ _ _ _ (by omega))
  refine ⟨(hkeeps ?_).trans hns, (hkeeps ?_).trans hlo, (hkeeps ?_).trans hfr,
    (rd_wr_ne _ _ _ _ (by unfold Reg.tbSnapCtrLo Reg.tbSnapCtrHi; omega)).trans (rd_wr_same _ _ _)⟩
  · unfold Reg.tbNowNs Reg.tbSnapCtrLo; omega
  · unfold Reg.tbNowSLo Reg.tbSnapCtrLo; omega
  · unfold Reg.tbNowFrac Reg.tbSnapCtrLo; omega

/-- An edge stamped for a base that takes no samples of PPS_IN. -/
theorem ppsIn_stamps {s : State} (hon : s.flag Reg.ppsInCfg 31 = true) (hno : s.takesSamples (s.getF Reg.ppsInCfg 2 0) 3 = false) :
    s.ppsIn = (s.showTime Reg.ppsInS none Reg.ppsInNs Reg.ppsInFrac (stampRes (s.timeOf (s.getF Reg.ppsInCfg 2 0))).toNat).raiseEvt Reg.timeEvt := by
  rw [ppsIn, if_pos hon]
  exact if_neg (by simp [hno])

/-! ### The offset of a descriptor (R450) -/

section Offset
variable {s : State} {i : Nat} {d : QDesc} (hd : s.firstWaiting 0x50 = some (i, d)) (hkind : d.kind = 1)
include hd hkind

theorem offsetDesc_of_no_base (ht : 8 ≤ byteAt d.bytes 8) : s.offsetDesc = s.completeAt 0x50 i 1 none := by
  simp [offsetDesc, hd, hkind, ht]

theorem offsetDesc_of_base (ht : byteAt d.bytes 8 < 8) (hz : zeroBytes d.bytes 9 7 = true) (hz' : zeroBytes d.bytes 24 8 = true) :
    s.offsetDesc = if s.takesSamples (byteAt d.bytes 8) 2 then
        (s.servo (byteAt d.bytes 8) (BitVec.ofNat 64 (leAt d.bytes 16 8)).toInt).completeAt 0x50 i 0 none
      else s.completeAt 0x50 i 4 none := by
  cases htakes : s.takesSamples (byteAt d.bytes 8) 2 <;> simp [offsetDesc, hd, hkind, hz, hz', Nat.not_le.mpr ht, htakes]

end Offset

/-! ### The accepted sender (R447, R448) -/

@[simp] theorem tpAt_setTp (s : State) (m : Nat) (x : TpSt) : (s.setTp m x).tpAt m = x := SMap.get_set_same _ _ _ _

@[simp] theorem qualified_setTp (s : State) (m k : Nat) (x : TpSt) : (s.setTp m x).qualified k = s.qualified k := rfl

/-- qualified is the one bit of TIME_PORT_QUAL that a write changes. -/
theorem accMask_timePortQual : ∀ m : Fin 42, accMask (Reg.timePortQual m) (fun a => a == .rw || a == .lv) = 1 ∧
    accMask (Reg.timePortQual m) (fun a => a == .w1c) = 0 ∧ accMask (Reg.timePortQual m) (fun a => a == .w1s) = 0 ∧
    shMask (Reg.timePortQual m) = 0 := by
  decide

theorem qualified_plainWrite (s : State) (m : Fin 42) (v : Word) : (s.plainWrite (Reg.timePortQual m) v).qualified m = v.getLsbD 0 := by
  obtain ⟨hst, hc, ho, hsh⟩ := accMask_timePortQual m
  simp [plainWrite, qualified, flag, bit, hst, hc, ho, hsh]

theorem qualWrite_of_same {s : State} {m : Nat} {v : Word} (h : s.qualified m = v.getLsbD 0) :
    s.qualWrite m v = s.plainWrite (Reg.timePortQual m) v := if_pos h

/-- Setting qualified forgets the accepted sender. -/
theorem qualWrite_sets {s : State} {m : Fin 42} {v : Word} (hset : v.getLsbD 0 = true) (hwas : s.qualified m = false) :
    (s.qualWrite m v).qualified m = true ∧ ((s.qualWrite m v).tpAt m).master = none := by
  have hchange : ¬ s.qualified m = bit v 0 := by simp [bit, hset, hwas]
  generalize hu : s.qualWrite m v = u
  unfold qualWrite at hu
  extract_lets was s1 t x s2 at hu
  rw [if_neg hchange, if_neg (by simp [was, hwas])] at hu
  have hq : s2.qualified m = true := (s1.qualified_setTp _ _ _).trans ((s.qualified_plainWrite m v).trans hset)
  have hmaster : (s2.tpAt m).master = none := congrArg TpSt.master (tpAt_setTp s1 m _)
  exact hu ▸ ⟨hq, hmaster⟩

end State
end Sys2Proof.Machine

namespace Sys2Proof.Machine

/-! ### The statement about time bases -/

section TimeBases
variable {s : State}

/-- A sample steers a base that follows a source and makes no steps. -/
theorem exec_servoSample_steers (t : Fin 8) (x : Int) (hon : s.tbOn t = true) (hsrc : s.getF (Reg.tbCtrl t) 30 29 ≠ 0)
    (href : s.sys.refSysLostAt = none) (hstep : s.getF (Reg.tbLimit t) 31 16 = 0) :
    ∃ u, exec (.servoSample t x) s = .next u ∧ u.tbAt t = s.steered t x ∧ u.rd (Reg.tbOff t) = satWord (x / 256) ∧
      u.rd (Reg.tbRate t) = satWord ((s.steered t x).r / 2 ^ 24) ∧
      (s.tbState t = 2 → 15 ≤ (s.tbAt t).good → x.natAbs ≤ 50 * 65536 → u.tbState t = 3) := by
  obtain ⟨st, hservo, hlock⟩ := State.servo_steers x hstep
  have hrd {off : Nat} (ho : 0x800000 ≤ off) (hne : off ≠ Reg.tbSts t) := (s.sampled t x).rd_setTbState t st ho hne
  refine ⟨_, congrArg Host.Outcome.next ((if_pos (by simp [hon, hsrc, href])).trans hservo), ?_, ?_, ?_, fun hacq hgood hx => ?_⟩
  · rw [State.tbAt_setTbState, State.tbAt_sampled]
  · rw [hrd (by unfold Reg.tbOff; omega) (by unfold Reg.tbOff Reg.tbSts; omega), State.rd_sampled_off]
  · rw [hrd (by unfold Reg.tbRate; omega) (by unfold Reg.tbRate Reg.tbSts; omega), State.rd_sampled_rate]
  · rw [hlock hacq hgood hx]
    exact State.tbState_setTbState _ _ (by decide)

theorem exec_refSysFail_due {at_ : Nat} (hlost : s.sys.refSysLostAt = some at_) (hdue : at_ + 1000000000 ≤ s.now) :
    exec .refSysFail s = .next (s.failBases (List.range 8)) :=
  congrArg Host.Outcome.next (if_pos (by simp [State.lossState, hlost, secNs, hdue]))

theorem exec_refSysFail_early {at_ : Nat} (hlost : s.sys.refSysLostAt = some at_) (hearly : s.now < at_ + 1000000000) :
    exec .refSysFail s = .next s :=
  congrArg Host.Outcome.next (if_neg (by simp [State.lossState, hlost, secNs, Nat.not_le.mpr hearly]))

theorem exec_tbSnap_of_ok {ini : Ini} {t : Fin 8} {v : Word} (h : s.regGate ini (Reg.tbSnap t) true v = .ok) (hsnap : v.getLsbD 0 = true) :
    exec (.tbSnap ini t v) s = .next { s.snapTb t with resp := .ok 0 } := by
  refine congrArg Host.Outcome.next ((s.gatedWrite_of_ok ini _ v _ h).trans ?_)
  rw [if_pos (show bit v 0 = true from hsnap)]

theorem exec_timePortQualWrite_of_ok {ini : Ini} {m : Fin 42} {v : Word} (h : s.regGate ini (Reg.timePortQual m) true v = .ok) :
    exec (.timePortQualWrite ini m v) s = .next { s.qualWrite m v with resp := .ok 0 } :=
  congrArg Host.Outcome.next (s.gatedWrite_of_ok ini _ v _ h)

theorem exec_sysCtrLoRead_of_ok {ini : Ini} (h : s.regGate ini Reg.sysCtrLo false 0 = .ok) :
    exec (.sysCtrLoRead ini) s = .next (s.readCtrLo ini) := congrArg Host.Outcome.next (State.gated_of_ok _ h)

/-! #### PPS_OUT (R453) -/

theorem exec_ppsOutPulse_rises (hen : (s.rd Reg.ppsOutCfg).getLsbD 31 = true) (hon : s.tbOn (fld (s.rd Reg.ppsOutCfg) 30 28) = true)
    (hwidth : fld (s.rd Reg.ppsOutCfg) 15 0 ≠ 0) (hlow : s.sys.ppsHigh = false)
    (hdue : ((s.timeOf (fld (s.rd Reg.ppsOutCfg) 30 28) : Int) - (s.rd Reg.ppsOutPhase).toInt * 65536) % (secT : Nat) < 65569) :
    exec (.ppsOutPulse true) s = .next { s with
      sys := { s.sys with ppsHigh := true, ppsAt := s.timeOf (fld (s.rd Reg.ppsOutCfg) 30 28) }, outbox := .pps true :: s.outbox } := by
  refine congrArg Host.Outcome.next ((if_pos rfl).trans (if_pos ?_))
  simp [bit, hen, hon, hwidth, hlow, hdue]

theorem exec_ppsOutPulse_falls (hhigh : s.sys.ppsHigh = true)
    (hdue : s.sys.ppsAt + fld (s.rd Reg.ppsOutCfg) 15 0 * 1000 * 65536 ≤ s.timeOf (fld (s.rd Reg.ppsOutCfg) 30 28)) :
    exec (.ppsOutPulse false) s = .next { s with sys := { s.sys with ppsHigh := false }, outbox := .pps false :: s.outbox } := by
  refine congrArg Host.Outcome.next ((if_neg Bool.false_ne_true).trans (if_pos ?_))
  simp [hhigh, hdue]

theorem exec_ppsOutPulse_rise_of_off (hoff : s.tbOn (fld (s.rd Reg.ppsOutCfg) 30 28) = false) : exec (.ppsOutPulse true) s = .next s :=
  congrArg Host.Outcome.next ((if_pos rfl).trans (if_neg (by simp [hoff])))

theorem exec_ppsOutPulse_fall_of_low (hlow : s.sys.ppsHigh = false) : exec (.ppsOutPulse false) s = .next s :=
  congrArg Host.Outcome.next ((if_neg Bool.false_ne_true).trans (if_neg (by simp [hlow])))

end TimeBases

/-- Settles O50: samples, silence, the loss of REF_SYS, captures, descriptors, the counter, pulses and qualified, each from its own lemma. That the
sixteen good samples may begin before a holdover is log entry 150, that PPS_OUT rises in the first tick at or behind its instant entry 121. -/
theorem timeBasesFollowSamples : Obligations.TimeBasesFollowSamples := by
  unfold Obligations.TimeBasesFollowSamples
  refine fun s => ⟨?samples, ?holdover, ?failed, ?snap, ?offset, ?counter, ?ppsIn, ?ppsOut, ?qualified⟩
  case samples =>
    rintro t x _ _ _ _ rfl rfl rfl rfl
    refine ⟨fun hoff => congrArg Host.Outcome.next (if_neg (by simp [hoff])), fun hon hsrc href hstep => ?_⟩
    obtain ⟨u, hexec, htb, hoff, hrate, hlock⟩ := exec_servoSample_steers t x hon hsrc href hstep
    exact ⟨u, hexec, congrArg TbSt.i htb, congrArg TbSt.r htb, (congrArg TbSt.time htb).trans rfl, congrArg TbSt.lastSample htb, hoff, hrate, hlock⟩
  case holdover =>
    refine fun t => ⟨fun hst hdue => ⟨_, congrArg Host.Outcome.next (if_pos ⟨hst, hdue⟩), State.tbState_setTbState _ _ (by decide)⟩,
      fun hearly => congrArg Host.Outcome.next (if_neg fun h => Nat.not_le.mpr hearly h.2)⟩
  case failed =>
    exact fun at_ hlost => ⟨fun hdue => ⟨_, exec_refSysFail_due hlost hdue,
      fun t hon => State.failBases_fails (List.mem_range.mpr t.isLt) hon⟩, exec_refSysFail_early hlost⟩
  case snap =>
    exact fun ini t v hgate hsnap => ⟨_, exec_tbSnap_of_ok hgate hsnap, s.snapTb_shows t⟩
  case offset =>
    rintro i d _ hd hkind rfl hz hz'
    refine ⟨fun ht htakes => congrArg Host.Outcome.next ?_, fun ht htakes => congrArg Host.Outcome.next ?_,
      fun ht => congrArg Host.Outcome.next (State.offsetDesc_of_no_base hd hkind ht)⟩
    · rw [State.offsetDesc_of_base hd hkind ht hz hz', if_pos htakes]
    · rw [State.offsetDesc_of_base hd hkind ht hz hz', if_neg (by simp [htakes])]
  case counter =>
    exact fun ini hgate => ⟨_, exec_sysCtrLoRead_of_ok hgate, rfl, SMap.get_set_same _ _ _ _⟩
  case ppsIn =>
    rintro _ _ rfl rfl
    refine ⟨fun hon hno => ⟨_, congrArg Host.Outcome.next (State.ppsIn_stamps hon hno), ?_⟩,
      fun hoff => congrArg Host.Outcome.next (if_neg (by simp [hoff]))⟩
    rw [State.rd_raiseEvt _ _ _ (by decide), State.rd_raiseEvt _ _ _ (by decide), State.rd_raiseEvt _ _ _ (by decide)]
    exact s.showTime_shows _ (by decide) (by decide) (by decide) (fun _ h => by cases h)
  case ppsOut =>
    rintro _ _ rfl rfl
    exact ⟨exec_ppsOutPulse_rises, exec_ppsOutPulse_falls, exec_ppsOutPulse_rise_of_off, exec_ppsOutPulse_fall_of_low⟩
  case qualified =>
    refine fun ini m v hgate => ⟨fun hsame => ?_, fun hset hwas => ⟨_, exec_timePortQualWrite_of_ok hgate, State.qualWrite_sets hset hwas⟩⟩
    rw [exec_timePortQualWrite_of_ok hgate, State.qualWrite_of_same hsame.symm]

end Sys2Proof.Machine

namespace Sys2Proof.Machine

/-! ### PTP messages that are formed (R447) -/

namespace State

/-- A message's type is the low half of its first byte. -/
theorem byteAt_ptpMsg_type (s : State) (m seq ctl intv : Nat) {typ : Nat} (h : typ < 16) (two : Bool) (corr : Int) (body : List Byte) :
    byteAt (s.ptpMsg m typ seq ctl intv two corr body) 0 % 16 = typ := by
  have hfirst : byteAt (s.ptpMsg m typ seq ctl intv two corr body) 0 =
      ((if s.getF (Reg.timePortCfg m) 29 28 = 2 then 0x10 else 0) + typ) % 2 ^ 8 := rfl
  rw [hfirst]
  split <;> omega

/-- Thirty bytes of header stand in front of a message's sequence number. -/
theorem beAt_ptpMsg_seq (s : State) (m typ seq ctl intv : Nat) (two : Bool) (corr : Int) (body : List Byte) :
    beAt (s.ptpMsg m typ seq ctl intv two corr body) 30 2 = seq % 2 ^ 16 := by
  unfold ptpMsg
  dsimp only
  rw [List.append_assoc, List.append_assoc, List.append_assoc, beAt_append_of_le (by simp)]
  simpa using beAt_beBytes_append 2 seq _

theorem beAt_ptpMsg_seqId (s : State) (m typ : Nat) (seq : BitVec 16) (ctl intv : Nat) (two : Bool) (corr : Int) (body : List Byte) :
    beAt (s.ptpMsg m typ seq.toNat ctl intv two corr body) 30 2 = seq.toNat :=
  (s.beAt_ptpMsg_seq m typ seq.toNat ctl intv two corr body).trans (Nat.mod_eq_of_lt seq.isLt)

/-! ### Messages sent at their intervals (R447, R448) -/

section Sends
variable {s : State} {m : Nat}

/-- The interval is over when the message before, if there was one, lies that far back. -/
theorem intervalOver_eq_true {last : Option Nat} {b : Nat} (h : ∀ t, last = some t → t + intervalNs b ≤ s.now) :
    s.intervalOver last b = true := by
  cases last with
  | none => rfl
  | some t => exact decide_eq_true (h t rfl)

theorem intervalOver_eq_false {t b : Nat} (h : s.now < t + intervalNs b) : s.intervalOver (some t) b = false :=
  decide_eq_false (Nat.not_le.mpr h)

theorem syncSend_due (hrun : s.portRuns m = true) (hrole : s.ptpRole m = 1)
    (hover : s.intervalOver (s.tpAt m).syncAt (s.getF (Reg.timePortIntv m) 23 16) = true) :
    ∃ a g st, s.syncSend m =
        (s.setTp m { s.tpAt m with syncSeq := ((s.tpAt m).syncSeq + 1) % 2 ^ 16, syncAt := some s.now }).sendTime m a g st ∧
      byteAt g 0 % 16 = 0 ∧ beAt g 30 2 = (s.tpAt m).syncSeq % 2 ^ 16 :=
  ⟨_, _, _, if_pos (by simp [syncDue, hrun, hrole, hover]), byteAt_ptpMsg_type _ _ _ _ _ (by decide) _ _ _, beAt_ptpMsg_seq _ _ _ _ _ _ _ _ _⟩

theorem syncSend_of_not_due (h : s.ptpRole m ≠ 1 ∨ s.intervalOver (s.tpAt m).syncAt (s.getF (Reg.timePortIntv m) 23 16) = false) :
    s.syncSend m = s := by
  refine if_neg ?_
  rcases h with hrole | hearly
  · simp [syncDue, hrole]
  · simp [syncDue, hearly]

/-- The interval field of the request a port sends: of Pdelay_Req where its profile measures peer delay, of Delay_Req elsewhere. -/
def reqInterval (s : State) (m : Nat) : Nat :=
  if s.ptpPeer m then s.getF (Reg.timePortIntv m) 7 0 else s.getF (Reg.timePortIntv m) 15 8

theorem reqDue_eq : s.reqDue m = (s.portRuns m && s.ptpRole m == 2 && s.intervalOver (s.tpAt m).reqAt (s.reqInterval m)) := rfl

theorem delayReqSend_due (hrun : s.portRuns m = true) (hrole : s.ptpRole m = 2)
    (hover : s.intervalOver (s.tpAt m).reqAt (s.reqInterval m) = true) :
    ∃ a g st, s.delayReqSend m = (s.setTp m { s.tpAt m with
        reqSeq := ((s.tpAt m).reqSeq + 1) % 2 ^ 16, reqAt := some s.now, req := some ((s.tpAt m).reqSeq, none), peer := none }).sendTime m a g st ∧
      byteAt g 0 % 16 = (if s.ptpPeer m then 2 else 1) ∧ beAt g 30 2 = (s.tpAt m).reqSeq % 2 ^ 16 :=
  ⟨_, _, _, if_pos (by simp [reqDue_eq, hrun, hrole, hover]), byteAt_ptpMsg_type _ _ _ _ _ (by split <;> decide) _ _ _,
    beAt_ptpMsg_seq _ _ _ _ _ _ _ _ _⟩

theorem delayReqSend_of_early (h : s.intervalOver (s.tpAt m).reqAt (s.reqInterval m) = false) : s.delayReqSend m = s :=
  if_neg (by simp [reqDue_eq, h])

/-- Profiles 1 and 2 measure peer delay. -/
theorem ptpPeer_iff : s.ptpPeer m = true ↔ s.getF (Reg.timePortCfg m) 29 28 = 1 ∨ s.getF (Reg.timePortCfg m) 29 28 = 2 := by
  simp [ptpPeer]

theorem not_ptpPeer (h : s.getF (Reg.timePortCfg m) 29 28 = 0 ∨ s.getF (Reg.timePortCfg m) 29 28 = 3) : s.ptpPeer m = false := by
  rcases h with h | h <;> simp [ptpPeer, h]

end Sends

/-! ### Messages heard (R447)

A port that is not qualified hears every sender and accepts none for good. -/

section Heard
variable {s : State} {m : Nat} {p : PtpMsg} (hears : s.ptpHears m p = true) (hqual : s.qualified m = false)

theorem heard_of_unqualified (hqual : s.qualified m = false) : s.heard m p = true := by simp [heard, hqual]

theorem lockSender_of_unqualified (hqual : s.qualified m = false) : s.lockSender m p = s := if_neg (by simp [hqual])

/-- Without peer delay a Sync's times wait for the next Delay_Resp. -/
theorem syncDone_e2e (hpeer : s.ptpPeer m = false) (t1 t2 : Int) (bytes : List Byte) :
    s.syncDone m t1 t2 bytes = s.setTp m { s.tpAt m with sync := none, meas := some (t1, t2) } := if_neg (by simp [hpeer])

section Slave
variable (hrole : s.ptpRole m = 2)
include hears hrole

/-- The Follow_Up of the Sync that waits for it. -/
theorem ptpFollowUp_done {r c : Int} (hsync : (s.tpAt m).sync = some (p.source, p.seqId.toNat, r, c)) :
    s.ptpFollowUp m p = s.syncDone m (p.carried + p.correction + c) r p.bytes := by
  simp [ptpFollowUp, hsync, hears, hrole]

theorem ptpPdelayFollow_done {t1 a t4 c : Int} (hreq : (s.tpAt m).req = some (p.seqId.toNat, some t1)) (hwait : (s.tpAt m).peer = some (a, t4, c))
    (hpeer : s.ptpPeer m = true) (hanswers : p.answers = s.portIdentity m) :
    s.ptpPdelayFollow m p = s.peerDone m t1 t4 (p.carried - a + p.correction + c) (some (p.carried + p.correction)) := by
  simp [ptpPdelayFollow, hreq, hwait, hears, hrole, hpeer, hanswers]

include hqual

theorem ptpSync_eq : s.ptpSync m p =
    if p.twoStep then s.setTp m { s.tpAt m with sync := some (p.source, p.seqId.toNat, s.ingress m p.crossing, p.correction) }
    else s.syncDone m (p.carried + p.correction) (s.ingress m p.crossing) p.bytes := by
  simp [ptpSync, hears, hrole, heard_of_unqualified hqual, lockSender_of_unqualified hqual]

theorem ptpDelayResp_done {t3 a b : Int} (hreq : (s.tpAt m).req = some (p.seqId.toNat, some t3)) (hmeas : (s.tpAt m).meas = some (a, b))
    (hpeer : s.ptpPeer m = false) (hanswers : p.answers = s.portIdentity m) :
    s.ptpDelayResp m p = ((s.setTp m { s.tpAt m with req := none }).setMpd m (((b - a) + (p.carried - p.correction - t3)) / 2)).deliver m
      (b - a - ((b - a) + (p.carried - p.correction - t3)) / 2) := by
  simp [ptpDelayResp, hreq, hmeas, hears, hrole, heard_of_unqualified hqual, hpeer, hanswers]

theorem ptpPdelayResp_eq {t1 : Int} (hreq : (s.tpAt m).req = some (p.seqId.toNat, some t1)) (hpeer : s.ptpPeer m = true)
    (hanswers : p.answers = s.portIdentity m) : s.ptpPdelayResp m p =
      if p.twoStep then s.setTp m { s.tpAt m with peer := some (p.carried, s.ingress m p.crossing, p.correction) }
      else s.peerDone m t1 (s.ingress m p.crossing) p.correction none := by
  simp [ptpPdelayResp, hreq, hears, hrole, heard_of_unqualified hqual, lockSender_of_unqualified hqual, hpeer, hanswers]

end Slave

section Master
variable (hrole : s.ptpRole m = 1)
include hears hrole

theorem ptpDelayReq_answers (hpeer : s.ptpPeer m = false) : ∃ a g, s.ptpDelayReq m p = s.sendTime m a g (.ptp .general 0 a g) ∧
    byteAt g 0 % 16 = 9 ∧ beAt g 30 2 = p.seqId.toNat :=
  ⟨_, _, if_pos (by simp [hears, hrole, hpeer]), byteAt_ptpMsg_type _ _ _ _ _ (by decide) _ _ _, beAt_ptpMsg_seqId _ _ _ _ _ _ _ _ _⟩

/-- Two steps where MACsec is set, one elsewhere. -/
theorem ptpPdelayReq_answers (hpeer : s.ptpPeer m = true) : ∃ a g st, s.ptpPdelayReq m p = s.sendTime m a g st ∧
    byteAt g 0 % 16 = 3 ∧ beAt g 30 2 = p.seqId.toNat := by
  generalize hu : s.ptpPdelayReq m p = u
  unfold ptpPdelayReq at hu
  extract_lets role s1 t2 a body at hu
  have hs1 : s1 = s := if_neg (by simp [role, hrole])
  rw [if_pos (by simp [hears, hpeer, role, hrole]), hs1] at hu
  split at hu
  all_goals exact ⟨_, _, _, hu.symm, byteAt_ptpMsg_type _ _ _ _ _ (by decide) _ _ _, beAt_ptpMsg_seqId _ _ _ _ _ _ _ _ _⟩

end Master

/-- A passive port takes no event message and answers none. -/
theorem passive_ignores (hrole : s.ptpRole m = 3) (p : PtpMsg) :
    s.ptpSync m p = s ∧ s.ptpDelayReq m p = s ∧ s.ptpPdelayReq m p = s ∧ s.ptpPdelayResp m p = s := by
  refine ⟨if_neg (by simp [hrole]), if_neg (by simp [hrole]), if_neg (by simp [hrole]), ?_⟩
  unfold ptpPdelayResp
  dsimp only
  split
  · exact if_neg (by simp [hrole])
  · rfl

end Heard

/-! ### General messages (R447, R450) -/

theorem ptpGeneral_to_ring {s : State} {m : Nat} (hrun : s.portRuns m = true) (hrole : s.ptpRole m ≠ 0) (p : PtpMsg) :
    s.ptpGeneral m p = s.ringWrite ⟨1, 0x81⟩ Reg.timeRxRing Reg.timeRxRingCtl 128
      (leBytes 4 m ++ leBytes 8 ((s.ingress m p.crossing).toNat / secT) ++ leBytes 4 (ptNs (s.ingress m p.crossing).toNat) ++
        padTo 112 (p.bytes.take 112)) := if_pos (by simp [hrun, hrole])

theorem ptpSend_sends {s r : State} {i m : Nat} {d : QDesc} {bs : List Byte} (hd : s.firstWaiting 0x50 = some (i, d)) (hkind : d.kind = 2)
    (hm : byteAt d.bytes 16 = m) (hm42 : m < 42) (hpos : 0 < leAt d.bytes 14 2) (hlen : leAt d.bytes 14 2 ≤ 1024)
    (hz : zeroBytes d.bytes 17 15 = true) (hread : s.memRead ⟨1, 0x81⟩ (leAt d.bytes 8 6) (leAt d.bytes 14 2) = (r, .ok, bs)) :
    s.ptpSend = (r.sendTime m (s.ptpAddr m false false) bs (.ptp .general 0 (s.ptpAddr m false false) bs)).completeAt 0x50 i 0 none := by
  simp [ptpSend, hd, hkind, hm, hz, hread, Nat.not_le.mpr hm42, Nat.not_lt.mpr hlen, hpos.ne']

end State
end Sys2Proof.Machine

namespace Sys2Proof.Machine

/-! ### TIME_ECHO (R460): what an answer leaves of the receivers' records -/

/-- t keeps the receivers' records of s. -/
def State.RxKept (s t : State) : Prop := t.rx = s.rx

namespace State
namespace RxKept

theorem closed : MemoryClosed RxKept where
  refl _ := rfl
  trans h1 h2 := Eq.trans h2 h1
  events h _ := by
    obtain ⟨_, _, _, rfl⟩ := h
    rfl
  stores _ _ _ _ _ _ _ := rfl

theorem trans {s t u : State} (h1 : s.RxKept t) (h2 : t.RxKept u) : s.RxKept u := Eq.trans h2 h1

theorem rxAt {s t : State} (h : s.RxKept t) (f : Nat) : t.rxAt f = s.rxAt f := by rw [State.rxAt, h, State.rxAt]

theorem addSat (s : State) (off hi lo n : Nat) : s.RxKept (s.addSat off hi lo n) := rfl

theorem toPort (s : State) (m : Nat) (f : Fifo) : s.RxKept (s.toPort m f) := by
  unfold State.toPort
  refine closed.ite rfl ?_
  cases f.ch with
  | some n => exact addSat s _ _ _ _
  | none => exact rfl

theorem sendTime (s : State) (m : Nat) (a : Addr) (msg : List Byte) (st : Stamp) : s.RxKept (s.sendTime m a msg st) :=
  have hprp : s.RxKept s.nextPrp := rfl
  closed.ite ((hprp.trans (toPort _ _ _)).trans (toPort _ _ _)) (toPort _ _ _)

theorem sealFolio (s : State) (n : Nat) (pay : List Byte) : s.RxKept (s.sealFolio n pay).2 := rfl

theorem echoResult (s : State) (p : Upstream) : s.RxKept (s.echoResult p) :=
  closed.ite (closed.memWrite _ _ _ _) (closed.refl s)

theorem echoCount (s : State) (f : Nat) : s.RxKept (s.echoCount f) := (closed.readFree s _ _ _).trans (closed.memWrite _ _ _ _)

theorem echoReply (s : State) (p : Upstream) (t2 : Nat) (a : List Byte) : s.RxKept (s.echoReply p t2 a) :=
  (sealFolio s _ _).trans (sendTime _ _ _ _ _)

end RxKept

/-- The answers of the last second to the receiver of p. -/
def recentEchoes (s : State) (p : Upstream) : List Nat :=
  (s.rxAt (upFolio p)).echoTimes.filter (fun t => decide (s.now < t + 1000000000))

theorem recentEchoes_noteSeq (s : State) (p : Upstream) : (s.noteSeq p).recentEchoes p = s.recentEchoes p := by
  obtain ⟨epoch, seen, hrx⟩ := s.rxAt_noteSeq p
  have hnow : (s.noteSeq p).now = s.now := rfl
  rw [recentEchoes, hrx, hnow, recentEchoes]

theorem timeEcho_limited {s : State} {p : Upstream} (h : 64 ≤ (s.recentEchoes p).length) : s.timeEcho p = s.addSat Reg.timeEchoCnt 31 16 1 :=
  if_pos h

/-- An answered echo is counted among the receiver's answers of this second. -/
theorem timeEcho_answers {s : State} {p : Upstream} (hfew : (s.recentEchoes p).length < 64) (hlane : p.lane.toNat < 42)
    (hsends : (s.turnEpoch p.channel.val).chSends p.channel.val = true) :
    ((s.timeEcho p).rxAt (upFolio p)).echoTimes = s.now :: s.recentEchoes p := by
  generalize hu : s.timeEcho p = u
  unfold timeEcho at hu
  extract_lets f m times s0 pathB t2 x s1 addr bad r s2 at hu
  have hfew' : ¬ 64 ≤ times.length := Nat.not_le.mpr hfew
  have hstamped : (s1.rxAt f).echoTimes = s.now :: times :=
    congrArg RxSt.echoTimes (((RxKept.echoResult _ p).rxAt f).trans (rxAt_setRx _ _ _))
  have hread : s1.RxKept s2 :=
    (RxKept.closed.readFree s1 _ _ _).trans (RxKept.closed.ite (RxKept.addSat _ _ _ _ _) (RxKept.closed.refl _))
  rw [if_neg hfew', if_neg (by simp [s0, m, hsends, hlane])] at hu
  have hrx := (hread.trans ((RxKept.echoReply s2 p t2 r.2).trans (RxKept.echoCount _ f))).rxAt f
  rw [hu] at hrx
  exact (congrArg RxSt.echoTimes hrx).trans hstamped

end State
end Sys2Proof.Machine

namespace Sys2Proof.Machine

/-! ### The statement about PTP -/

section Messages
variable {s : State} {m : Fin 42}

/-- Event messages at a slave port that hears every sender, by the delay its profile measures. -/
theorem slave_hears {p : PtpMsg} (hears : s.ptpHears m p = true) (hqual : s.qualified m = false) (hrole : s.ptpRole m = 2) :
    (p.twoStep = true → exec (.sync m p) s = .next (s.setTp m { s.tpAt m with
        sync := some (p.source, p.seqId.toNat, s.ingress m p.crossing, p.correction) })) ∧
    (p.twoStep = false → s.ptpPeer m = false → exec (.sync m p) s = .next (s.setTp m { s.tpAt m with
        sync := none, meas := some (p.carried + p.correction, s.ingress m p.crossing) })) ∧
    (∀ r c, (s.tpAt m).sync = some (p.source, p.seqId.toNat, r, c) → s.ptpPeer m = false → exec (.followUp m p) s =
      .next (s.setTp m { s.tpAt m with sync := none, meas := some (p.carried + p.correction + c, r) })) := by
  refine ⟨fun htwo => congrArg Host.Outcome.next ?_, fun hone hpeer => congrArg Host.Outcome.next ?_,
    fun r c hsync hpeer => congrArg Host.Outcome.next ?_⟩
  · rw [State.ptpSync_eq hears hqual hrole, if_pos htwo]
  · rw [State.ptpSync_eq hears hqual hrole, if_neg (by simp [hone]), State.syncDone_e2e hpeer]
  · rw [State.ptpFollowUp_done hears hrole hsync, State.syncDone_e2e hpeer]

/-- Answers to the peer delay request that a slave port sent. -/
theorem slave_hears_peer {p : PtpMsg} {t1 : Int} (hears : s.ptpHears m p = true) (hqual : s.qualified m = false) (hrole : s.ptpRole m = 2)
    (hreq : (s.tpAt m).req = some (p.seqId.toNat, some t1)) (hpeer : s.ptpPeer m = true) (hanswers : p.answers = s.portIdentity m) :
    (p.twoStep = true → exec (.pdelayResp m p) s = .next (s.setTp m { s.tpAt m with
        peer := some (p.carried, s.ingress m p.crossing, p.correction) })) ∧
    (p.twoStep = false → exec (.pdelayResp m p) s = .next (s.peerDone m t1 (s.ingress m p.crossing) p.correction none)) ∧
    (∀ a t4 c, (s.tpAt m).peer = some (a, t4, c) → exec (.pdelayRespFollowUp m p) s =
      .next (s.peerDone m t1 t4 (p.carried - a + p.correction + c) (some (p.carried + p.correction)))) := by
  refine ⟨fun htwo => congrArg Host.Outcome.next ?_, fun hone => congrArg Host.Outcome.next ?_,
    fun a t4 c hwait => congrArg Host.Outcome.next (State.ptpPdelayFollow_done hears hrole hreq hwait hpeer hanswers)⟩
  · rw [State.ptpPdelayResp_eq hears hqual hrole hreq hpeer hanswers, if_pos htwo]
  · rw [State.ptpPdelayResp_eq hears hqual hrole hreq hpeer hanswers, if_neg (by simp [hone])]

end Messages

/-- Settles O51: what is sent at its interval, what each message that is heard gives, general messages, and TIME_ECHO on the state that has noted
the packet's sequence number. Message types and fields are those of IEEE 1588 (log entry 119, presumed), a Delay_Resp is taken with the latest Sync
(entry 120), and the 64 answers of a second are counted for each receiver (entry 123). -/
theorem ptpExchanges : Obligations.PtpExchanges := by
  unfold Obligations.PtpExchanges
  rintro m s _ _ rfl rfl
  refine ⟨?syncs, fun hrole => congrArg Host.Outcome.next (State.syncSend_of_not_due (.inl hrole)), ?requests, ?heard,
    fun p hrun hrole => congrArg Host.Outcome.next (State.ptpGeneral_to_ring hrun hrole p),
    fun p hrole => congrArg Host.Outcome.next (if_neg (by simp [hrole])), ?send, ?echoes⟩
  case syncs =>
    refine fun hrun hrole => ⟨fun hover => ?_, fun t hlast hearly => congrArg Host.Outcome.next (State.syncSend_of_not_due (.inr ?_))⟩
    · obtain ⟨a, g, st, hsend, hmsg⟩ := State.syncSend_due hrun hrole (State.intervalOver_eq_true hover)
      exact ⟨a, g, st, congrArg Host.Outcome.next hsend, hmsg⟩
    · rw [hlast]
      exact State.intervalOver_eq_false hearly
  case requests =>
    rintro _ rfl hrun hrole
    have hintv : (if s.getF (Reg.timePortCfg m) 29 28 = 1 ∨ s.getF (Reg.timePortCfg m) 29 28 = 2 then s.getF (Reg.timePortIntv m) 7 0
        else s.getF (Reg.timePortIntv m) 15 8) = s.reqInterval m := by simp only [State.reqInterval, State.ptpPeer_iff]
    rw [hintv]
    refine ⟨fun hover => ?_, fun t hlast hearly => congrArg Host.Outcome.next (State.delayReqSend_of_early ?_)⟩
    · obtain ⟨a, g, st, hsend, hmsg⟩ := State.delayReqSend_due hrun hrole (State.intervalOver_eq_true hover)
      simp only [State.ptpPeer_iff] at hmsg
      exact ⟨a, g, st, congrArg Host.Outcome.next hsend, hmsg⟩
    · rw [hlast]
      exact State.intervalOver_eq_false hearly
  case heard =>
    rintro p _ hears hqual rfl
    refine ⟨fun hrole => ?slave, fun hrole => ⟨fun hpf => ?_, fun hpf => ?_⟩, fun hrole => ?passive⟩
    case slave =>
      obtain ⟨htwo, hone, hfollow⟩ := slave_hears hears hqual hrole
      refine ⟨htwo, fun h hpf => hone h (State.not_ptpPeer hpf), fun r c h hpf => hfollow r c h (State.not_ptpPeer hpf), ?_,
        fun t1 hreq hpf hanswers => slave_hears_peer hears hqual hrole hreq (State.ptpPeer_iff.mpr hpf) hanswers⟩
      rintro t3 a b _ hreq hmeas hpf hanswers rfl
      exact congrArg Host.Outcome.next (State.ptpDelayResp_done hears hqual hrole hreq hmeas (State.not_ptpPeer hpf) hanswers)
    · obtain ⟨a, g, hsend, hmsg⟩ := State.ptpDelayReq_answers hears hrole (State.not_ptpPeer hpf)
      exact ⟨a, g, congrArg Host.Outcome.next hsend, hmsg⟩
    · obtain ⟨a, g, st, hsend, hmsg⟩ := State.ptpPdelayReq_answers hears hrole (State.ptpPeer_iff.mpr hpf)
      exact ⟨a, g, st, congrArg Host.Outcome.next hsend, hmsg⟩
    case passive =>
      obtain ⟨hsync, hreq, hpreq, hpresp⟩ := State.passive_ignores hrole p
      exact ⟨congrArg Host.Outcome.next hsync, congrArg Host.Outcome.next hreq, congrArg Host.Outcome.next hpreq,
        congrArg Host.Outcome.next hpresp⟩
  case send =>
    rintro i d r bs _ hd hkind hm hpos hlen hz rfl hread
    exact congrArg Host.Outcome.next (State.ptpSend_sends hd hkind hm m.isLt hpos hlen hz hread)
  case echoes =>
    intro u htype
    have hhandled {p : Upstream} (h : s.accepts u = some p) (hcode : upCode p = 5) : exec (.timeEcho u) s = .next ((s.noteSeq p).timeEcho p) :=
      congrArg Host.Outcome.next (State.upControl_handled h ((State.ptype_of_accepts h).symm.trans htype) hcode _)
    refine ⟨fun h => congrArg Host.Outcome.next (State.upControl_discarded h htype _ _), fun p h hcode hmany => ?_,
      fun p h hcode hfew hlane hsends => ⟨_, hhandled h hcode, ?_⟩⟩
    · rw [hhandled h hcode, State.timeEcho_limited (by rwa [State.recentEchoes_noteSeq])]
    · rw [State.timeEcho_answers (by rwa [State.recentEchoes_noteSeq]) hlane hsends, State.recentEchoes_noteSeq]
      rfl

end Sys2Proof.Machine

namespace Sys2Proof.Machine

/-! ### The whole block -/

/-- Settles O1: the queue's front is what step looks at. -/
theorem stepRunsFrontCommand : Obligations.StepRunsFrontCommand := fun _ _ _ => rfl

/-- Settles O5: whatever the command, its arm of exec ends in a next state (the reading of log entry 5). -/
theorem everyCommandCompletes : Obligations.EveryCommandCompletes := by
  intro c s
  cases c <;> exact ⟨_, rfl⟩

/-- No gathering's engine is enabled by the reset words. -/
theorem State.anyEngine_reset : State.reset.anyEngine = false := by decide +kernel

/-- The reset words of the host's queue registers (R508). -/
theorem State.queues_reset : ∀ q : Fin 64, State.reset.flag (Reg.hifSqCfg q) 31 = false ∧ State.reset.flag (Reg.hifCqCfg q) 31 = false ∧
    State.reset.getF (Reg.hifCqSts q) 12 12 = 1 := by decide +kernel

/-- Settles O2: each register is read back from its reset word, and everything else is empty by definition. -/
theorem resetState : Obligations.ResetState := by
  refine ⟨_, rfl, rfl, rfl, rfl, rfl, rfl, rfl, State.anyEngine_reset, rfl, by decide, by decide, by decide, by decide, by decide, by decide,
    by decide, by decide, State.queues_reset, by decide, by decide, by decide, by decide, by decide, rfl⟩

end Sys2Proof.Machine

namespace Sys2Proof.Machine

/-! ### What events and memory writes leave of the management plane -/

/-- t has the registers below the host interface's, the counter, and the records of the system and of Clasp as s has them, and has sent all that s
has. -/
structure State.PlaneKept (s t : State) : Prop where
  regs : s.MbxKept t
  sysctr : t.sysctr = s.sysctr
  sys : t.sys = s.sys
  clasp : t.clasp = s.clasp
  sent : s.outbox ⊆ t.outbox

namespace State.PlaneKept

theorem refl (s : State) : s.PlaneKept s := ⟨.refl s, rfl, rfl, rfl, List.Subset.refl _⟩

theorem trans {s t u : State} (h1 : s.PlaneKept t) (h2 : t.PlaneKept u) : s.PlaneKept u where
  regs := h1.regs.trans h2.regs
  sysctr := h2.sysctr.trans h1.sysctr
  sys := h2.sys.trans h1.sys
  clasp := h2.clasp.trans h1.clasp
  sent := List.Subset.trans h1.sent h2.sent

theorem ite {s t u : State} {c : Prop} [Decidable c] (ht : s.PlaneKept t) (hu : s.PlaneKept u) : s.PlaneKept (if c then t else u) := by
  split
  · exact ht
  · exact hu

theorem foldl {α : Type} {f : State → α → State} (hf : ∀ (s : State) a, s.PlaneKept (f s a)) (l : List α) (s : State) :
    s.PlaneKept (l.foldl f s) := by
  induction l generalizing s with
  | nil => exact refl s
  | cons a l ih => exact (hf s a).trans (ih _)

theorem of_hostStep {s t : State} (h : s.hostStep t) (regs : s.MbxKept t) (sent : s.outbox ⊆ t.outbox) : s.PlaneKept t := by
  obtain ⟨_, _, _, rfl⟩ := h
  exact ⟨regs, rfl, rfl, rfl, sent⟩

/-- What changes none of these. -/
theorem of_eq {s t : State} (h : { t with reg := s.reg, sysctr := s.sysctr, sys := s.sys, clasp := s.clasp, outbox := s.outbox } = t) :
    s.PlaneKept t := by
  rw [← h]
  exact ⟨fun _ _ => rfl, rfl, rfl, rfl, List.Subset.refl _⟩

theorem now {s t : State} (h : s.PlaneKept t) : t.now = s.now := by rw [State.now, h.sysctr, State.now]

theorem rd {s t : State} (h : s.PlaneKept t) {off : Nat} (ho : off < 0x30000) : t.rd off = s.rd off := h.regs off ho

theorem getF {s t : State} (h : s.PlaneKept t) {off : Nat} (ho : off < 0x30000) (hi lo : Nat) : t.getF off hi lo = s.getF off hi lo :=
  getF_of_rd (h.rd ho) hi lo

theorem flag {s t : State} (h : s.PlaneKept t) {off : Nat} (ho : off < 0x30000) (b : Nat) : t.flag off b = s.flag off b :=
  flag_of_rd (h.rd ho) b

/-! #### Events (R110, R513, R516) -/

theorem wr (s : State) {off : Nat} (v : Word) (h : 0x30000 ≤ off) : s.PlaneKept (s.wr off v) :=
  ⟨.wr s v h, rfl, rfl, rfl, List.Subset.refl _⟩

theorem evcSet (s : State) (g src : Nat) : s.PlaneKept (s.evcSet g src) :=
  ite (wr s _ (by unfold Reg.evcPend; omega)) (refl s)

theorem raiseEvt (s : State) (e : Nat) : s.PlaneKept (s.raiseEvt e) := ite (evcSet s _ _) (refl s)

theorem fireVec (s : State) (v : Nat) : s.PlaneKept (s.fireVec v) := by
  refine of_hostStep (s.hostStep_fireVec v) (fun _ _ => rfl) ?_
  unfold State.fireVec
  dsimp only
  split
  · exact List.Subset.refl _
  · exact List.subset_cons_self _ _

theorem setHif (s : State) (h : Hif) : s.PlaneKept { s with hif := h } := of_eq rfl

theorem requestVec (s : State) (v : Nat) : s.PlaneKept (s.requestVec v) := by
  unfold State.requestVec
  dsimp only
  exact ite (refl s) (ite (setHif s _) (ite ((setHif s _).trans (fireVec _ v)) (setHif s _)))

theorem emit (s : State) (o : Output) : s.PlaneKept (s.emit o) := ⟨.refl s, rfl, rfl, rfl, List.subset_cons_self _ _⟩

theorem writeEntry (s : State) (e : Entry) : s.PlaneKept (s.writeEntry e) := by
  have hsts : 0x30000 ≤ Reg.hifCqSts e.cq := by unfold Reg.hifCqSts; omega
  exact (((emit s _).trans (wr _ _ hsts)).trans (wr _ _ hsts)).trans (requestVec _ _)

theorem pmeOnHold (s : State) : s.PlaneKept s.pmeOnHold := by
  refine ite ⟨fun _ _ => rfl, rfl, rfl, rfl, ?_⟩ (refl s)
  dsimp only
  repeat' split
  all_goals simp

theorem putEntry (s : State) (e : Entry) : s.PlaneKept (s.putEntry e) :=
  ite ((setHif s _).trans (pmeOnHold _)) (writeEntry s e)

theorem placeEvent (s : State) (e : Nat) : s.PlaneKept (s.placeEvent e) :=
  ite (((wr s _ (by decide)).trans (setHif _ _)).trans (putEntry _ _)) (refl s)

theorem hostEvent (s : State) (code detail : Nat) : s.PlaneKept (s.hostEvent code detail) :=
  ((wr s _ (by decide)).trans (setHif _ _)).trans (foldl placeEvent _ _)

theorem memEvent (s : State) (kind detail : Nat) : s.PlaneKept (s.memEvent kind detail) := (raiseEvt s _).trans (hostEvent _ _ _)

/-! #### Memory writes -/

theorem violation (s : State) (t : Tx) (w : Bool) (addr target : Nat) : s.PlaneKept (s.violation t w addr target) := by
  unfold State.violation
  exact ((ite (refl s) (((wr s _ (by decide)).trans (wr _ _ (by decide))).trans (wr _ _ (by decide)))).trans (wr _ _ (by decide))).trans
    (memEvent _ _ _)

theorem hbmCount (s : State) (i : Nat) : s.PlaneKept (s.hbmCount i) := by
  have hp : 0x30000 ≤ Reg.hbmPcErr (hbmPc (i * 32)) := by unfold Reg.hbmPcErr; omega
  unfold State.hbmCount
  dsimp only
  split
  · exact wr s _ hp
  · exact wr s _ hp
  · exact refl s

theorem ssWrite (s : State) (t : Tx) (a o : Nat) (bs : List Byte) : s.PlaneKept (s.ssWrite t a o bs).1 := by
  have hstore (m e) : s.PlaneKept { s with ss := m, ssErr := e } := of_eq rfl
  unfold State.ssWrite
  dsimp only
  split
  · exact violation _ _ _ _ _
  · split
    · exact (hstore _ _).trans (memEvent _ _ _)
    · exact hstore _ _

theorem hbmWrite (s : State) (t : Tx) (a o : Nat) (bs : List Byte) : s.PlaneKept (s.hbmWrite t a o bs).1 := by
  have hstore (t : State) (m e) : t.PlaneKept { t with hbm := m, hbmErr := e } := of_eq rfl
  have hqueue (t : State) (o : Nat) : t.PlaneKept (t.hbmQueue true true o) := of_eq rfl
  unfold State.hbmWrite
  dsimp only
  split
  · exact violation _ _ _ _ _
  · have hsecs : s.PlaneKept ((blocks 32 o bs.length).foldl
        (fun s i => (if whole 32 o bs.length i then s else s.hbmCount i).hbmQueue true true (i * 32)) s) :=
      foldl (fun s i => (ite (refl s) (hbmCount s i)).trans (hqueue _ _)) _ s
    split
    · exact (hsecs.trans (hstore _ _ _)).trans (memEvent _ _ _)
    · exact hsecs.trans (hstore _ _ _)

theorem memWrite (s : State) (t : Tx) (a : Nat) (bs : List Byte) : s.PlaneKept (s.memWrite t a bs).1 := by
  unfold State.memWrite
  split
  · exact refl s
  · split
    · split
      · exact refl s
      · exact ssWrite _ _ _ _ _
    · exact ssWrite _ _ _ _ _
    · exact hbmWrite _ _ _ _ _
    · exact refl s
    · exact violation _ _ _ _ _

/-! #### Key requests and epochs (R296, R325) -/

theorem requestKey (s : State) (keep : Bool) (f : Nat) : s.PlaneKept (s.requestKey keep f) := by
  have hrx (x : RxSt) : s.PlaneKept (s.setRx f x) := of_eq rfl
  unfold State.requestKey
  dsimp only
  split
  · exact (hrx _).trans (memWrite _ _ _ _)
  · exact hrx _

theorem newEpoch (s : State) (n : Nat) : s.PlaneKept (s.newEpoch n) := by
  have hsts : 0x30000 ≤ Reg.wchSts n := by unfold Reg.wchSts; omega
  have hepoch : 0x30000 ≤ Reg.wchEpoch n := by unfold Reg.wchEpoch; omega
  have hseq : 0x30000 ≤ Reg.wchSeq n := by unfold Reg.wchSeq; omega
  have hch (t : State) (x : ChSt) : t.PlaneKept (t.setCh n x) := of_eq rfl
  exact ite (refl s) (ite (((wr s _ hsts).trans (wr _ _ hsts)).trans (raiseEvt _ _))
    ((((wr s _ hepoch).trans (wr _ _ hseq)).trans (hch _ _)).trans (foldl (fun s f => requestKey s false f) _ _)))

end State.PlaneKept

/-! ### The claim (R546-R550) -/

namespace State

theorem twinEvent_keeps (s : State) (code detail : Nat) : s.PlaneKept (s.twinEvent code detail) := .ite (.refl s) (.hostEvent s code detail)

theorem driveTwin_keeps (s : State) (on : Bool) : (s.setB Reg.sysTwinSts 30 on).PlaneKept (s.driveTwin on) :=
  (PlaneKept.emit _ _).trans (.raiseEvt _ _)

/-- What a state shows of a claim that has ended with a cause, for good when `lost` is set (R549, R550). -/
structure ClaimDropped (s t : State) (cause : Nat) (lost : Bool) : Prop where
  claimed : t.claimed = false
  claimLost : t.claimLost = (lost || s.claimLost)
  cause : t.getF Reg.sysTwinSts 28 26 = cause
  twinIn : t.twinIn = s.twinIn
  count : t.getF Reg.sysTwinSts 15 0 = s.getF Reg.sysTwinSts 15 0
  regs : ∀ off, off < 0x30000 → off ≠ Reg.sysTwinSts → t.rd off = s.rd off

/-- SYS_TWIN_STS as the end of the claim leaves it, before anything is sent. -/
def dropShown (s : State) (cause : Nat) (lost : Bool) : State :=
  let s1 := s.setF Reg.sysTwinSts 28 26 cause
  let s2 := if lost then s1.setB Reg.sysTwinSts 29 true else s1
  if s.claimed then s2.setB Reg.sysTwinSts 30 false else s2

theorem dropClaim_keeps (s : State) (cause : Nat) (lost : Bool) : (s.dropShown cause lost).PlaneKept (s.dropClaim cause lost) := by
  unfold dropShown dropClaim
  dsimp only
  cases s.claimed with
  | true => exact (driveTwin_keeps _ _).trans (twinEvent_keeps _ _ _)
  | false => exact .refl _

/-- What bits 29 and 30 do not carry is as the cause's write leaves it. -/
theorem dropShown_apart {α : Type} (f : State → α) (hlost : ∀ u : State, f (u.setB Reg.sysTwinSts 29 true) = f u)
    (hout : ∀ u : State, f (u.setB Reg.sysTwinSts 30 false) = f u) (s : State) (cause : Nat) (lost : Bool) :
    f (s.dropShown cause lost) = f (s.setF Reg.sysTwinSts 28 26 cause) := by
  unfold dropShown
  cases lost <;> cases s.claimed <;> simp [hlost, hout]

theorem dropShown_claimed (s : State) (cause : Nat) (lost : Bool) : (s.dropShown cause lost).claimed = false := by
  unfold dropShown
  cases h : s.claimed with
  | true => exact flag_setB_same _ _ 30 false (by decide)
  | false =>
    have hcause : (s.setF Reg.sysTwinSts 28 26 cause).claimed = false := (flag_setF_apart _ _ _ _ _ _ (by decide) (by decide)).trans h
    cases lost with
    | true => exact (flag_setB_apart _ _ _ _ _ (by decide) (by decide)).trans hcause
    | false => exact hcause

theorem dropShown_claimLost (s : State) (cause : Nat) (lost : Bool) : (s.dropShown cause lost).claimLost = (lost || s.claimLost) := by
  have hout (u : State) : (if s.claimed then u.setB Reg.sysTwinSts 30 false else u).claimLost = u.claimLost := by
    split
    · exact flag_setB_apart _ _ _ _ _ (by decide) (by decide)
    · rfl
  refine (hout _).trans ?_
  cases lost with
  | true => exact flag_setB_same _ _ 29 true (by decide)
  | false => exact flag_setF_apart _ _ _ _ _ _ (by decide) (by decide)

theorem dropShown_claimDropped (s : State) {cause : Nat} (hcause : cause < 8) (lost : Bool) : s.ClaimDropped (s.dropShown cause lost) cause lost where
  claimed := s.dropShown_claimed cause lost
  claimLost := s.dropShown_claimLost cause lost
  cause := (dropShown_apart (State.getF · Reg.sysTwinSts 28 26) (fun u => u.getF_setB_apart _ _ _ _ _ (by decide) (by decide))
    (fun u => u.getF_setB_apart _ _ _ _ _ (by decide) (by decide)) s cause lost).trans (s.getF_setF_same _ _ _ _ (by decide) hcause)
  twinIn := (dropShown_apart twinIn (fun u => u.flag_setB_apart _ _ _ _ (by decide) (by decide))
    (fun u => u.flag_setB_apart _ _ _ _ (by decide) (by decide)) s cause lost).trans (s.flag_setF_apart _ _ _ _ _ (by decide) (by decide))
  count := (dropShown_apart (State.getF · Reg.sysTwinSts 15 0) (fun u => u.getF_setB_apart _ _ _ _ _ (by decide) (by decide))
    (fun u => u.getF_setB_apart _ _ _ _ _ (by decide) (by decide)) s cause lost).trans (s.getF_setF_apart _ _ _ _ _ _ (by decide) (by decide))
  regs _ _ hne := (dropShown_apart (State.rd · _) (fun u => u.rd_setB_ne _ _ _ _ hne) (fun u => u.rd_setB_ne _ _ _ _ hne) s cause lost).trans
    (s.rd_setF_ne _ _ _ _ _ hne)

theorem dropClaim_drops (s : State) {cause : Nat} (hcause : cause < 8) (lost : Bool) : s.ClaimDropped (s.dropClaim cause lost) cause lost := by
  have hkept := s.dropClaim_keeps cause lost
  have hsts : Reg.sysTwinSts < 0x30000 := by decide
  obtain ⟨claimed, claimLost, hcause, twinIn, count, regs⟩ := s.dropShown_claimDropped hcause lost
  exact ⟨(hkept.flag hsts 30).trans claimed, (hkept.flag hsts 29).trans claimLost, (hkept.getF hsts 28 26).trans hcause,
    (hkept.flag hsts 31).trans twinIn, (hkept.getF hsts 15 0).trans count, fun off ho hne => (hkept.rd ho).trans (regs off ho hne)⟩

/-- The units' registers are not the claim's. -/
theorem rd_dropClaim (s : State) (cause : Nat) (lost : Bool) {off : Nat} (ho : 0x800000 ≤ off) : (s.dropClaim cause lost).rd off = s.rd off := by
  have hne : off ≠ Reg.sysTwinSts := by unfold Reg.sysTwinSts; omega
  have hshown : (if lost then (s.setF Reg.sysTwinSts 28 26 cause).setB Reg.sysTwinSts 29 true else s.setF Reg.sysTwinSts 28 26 cause).rd off = s.rd off := by
    split
    · exact (rd_setB_ne _ _ _ _ _ hne).trans (s.rd_setF_ne _ _ _ _ _ hne)
    · exact s.rd_setF_ne _ _ _ _ _ hne
  have hevent (u : State) (code detail : Nat) : (u.twinEvent code detail).rd off = u.rd off := by
    unfold twinEvent
    split
    · rfl
    · exact u.rd_hostEvent _ _ _ (by omega)
  unfold dropClaim
  dsimp only
  split
  · exact (hevent _ _ _).trans ((rd_raiseEvt _ _ _ ho).trans ((rd_setB_ne _ _ _ _ _ hne).trans hshown))
  · exact hshown

/-- The claim is asserted: shown, sent out, and the keepalive timer starts (R548). -/
theorem assertClaim_claims (s : State) : s.assertClaim.claimed = true ∧ .twinOut true ∈ s.assertClaim.outbox ∧
    s.assertClaim.sys.claimedAt = s.now ∧ s.assertClaim.sys.keepAt = s.now := by
  generalize hu : s.assertClaim = u
  unfold assertClaim at hu
  extract_lets s1 y1 s2 at hu
  have hdrive : (s.setB Reg.sysTwinSts 30 true).PlaneKept (s.driveTwin true) := s.driveTwin_keeps true
  have h1 : (s.driveTwin true).PlaneKept s1 := twinEvent_keeps _ _ _
  have h2 : s2.PlaneKept u := hu ▸ PlaneKept.foldl PlaneKept.newEpoch _ s2
  have hout : Output.twinOut true ∈ (s.driveTwin true).outbox := (PlaneKept.raiseEvt _ _).sent (List.mem_cons_self ..)
  have hsts : Reg.sysTwinSts < 0x30000 := by decide
  refine ⟨?_, h2.sent (h1.sent hout), congrArg Sys.claimedAt h2.sys, ?_⟩
  · exact (h2.flag hsts 30).trans ((h1.flag hsts 30).trans ((hdrive.flag hsts 30).trans (s.flag_setB_same _ 30 true (by decide))))
  · exact (congrArg Sys.keepAt h2.sys).trans (hdrive.trans h1).now

theorem mayClaim_iff (s : State) : s.mayClaim = true ↔ s.flag Reg.sysTwinCfg 31 = true ∧ s.claimLost = false ∧
    (s.flag Reg.sysTwinCfg 30 = true ∨ s.flag Reg.sysTwinCfg 29 = true) ∧ s.twinIn = false ∧ s.claimed = false ∧ s.sys.backoff = false ∧
    s.sys.inReleasedAt + (if s.twinPrio then 10000 else 110000) ≤ s.now := by
  have hdelay : s.sys.inReleasedAt + s.claimDelay ≤ s.now ↔ s.sys.inReleasedAt + (if s.twinPrio then 10000 else 110000) ≤ s.now := Iff.rfl
  simp only [mayClaim, Bool.and_eq_true, Bool.or_eq_true, Bool.not_eq_true', decide_eq_true_eq, hdelay, and_assoc]

/-- The state in which a collision is resolved: counted, reported, and remembered for the next claim (R549). -/
def collided (s : State) : State :=
  let s1 := (s.addSat Reg.sysTwinSts 15 0 1).raiseEvt Reg.sysTwinEvt
  State.twinEvent { s1 with sys := { s1.sys with afterCollision := true } } 0x12 (s1.getF Reg.sysTwinSts 15 0)

theorem rd_collided (s : State) {off : Nat} (ho : off < 0x30000) : s.collided.rd off = (s.addSat Reg.sysTwinSts 15 0 1).rd off :=
  ((twinEvent_keeps _ _ _).rd ho).trans ((PlaneKept.raiseEvt _ _).rd ho)

theorem collide_eq (s : State) : s.collide =
    if s.twinPrio = Config.partnerPrio then State.bumpFree (State.dropClaim { s.collided with
      sys := { s.collided.sys with backoff := true, backoffUntil := s.now + 10000 + s.collided.fresh % 90001 } } 5 false)
    else if s.twinPrio then s.collided else s.collided.dropClaim 5 false := rfl

/-- What a collision shows (R549): it is counted, and the device keeps the claim only when it alone is strapped high. -/
theorem collide_shows (s : State) : s.collide.twinIn = s.twinIn ∧
    s.collide.getF Reg.sysTwinSts 15 0 = min 65535 (s.getF Reg.sysTwinSts 15 0 + 1) ∧ s.collide.claimLost = s.claimLost ∧
    (s.twinPrio = true → Config.partnerPrio = false → s.collide.claimed = s.claimed) ∧
    (s.twinPrio = false → s.collide.claimed = false ∧ s.collide.getF Reg.sysTwinSts 28 26 = 5) := by
  have hsts : Reg.sysTwinSts < 0x30000 := by decide
  have hrd := s.rd_collided hsts
  have hflag (b : Nat) (hb : 15 < b) : s.collided.flag Reg.sysTwinSts b = s.flag Reg.sysTwinSts b :=
    (flag_of_rd hrd b).trans (s.flag_setF_apart _ _ _ _ _ (by decide) (.inr hb))
  have hcount : s.collided.getF Reg.sysTwinSts 15 0 = min 65535 (s.getF Reg.sysTwinSts 15 0 + 1) := by
    rw [getF_of_rd hrd, addSat_value _ _ _ _ _ (by decide)]
    omega
  have hdrop (u : State) (hu : u.rd Reg.sysTwinSts = s.collided.rd Reg.sysTwinSts) :
      (u.dropClaim 5 false).twinIn = s.twinIn ∧ (u.dropClaim 5 false).getF Reg.sysTwinSts 15 0 = min 65535 (s.getF Reg.sysTwinSts 15 0 + 1) ∧
        (u.dropClaim 5 false).claimLost = s.claimLost ∧ (u.dropClaim 5 false).claimed = false ∧
        (u.dropClaim 5 false).getF Reg.sysTwinSts 28 26 = 5 := by
    obtain ⟨claimed, claimLost, cause, twinIn, count, _⟩ := u.dropClaim_drops (by decide : 5 < 8) false
    exact ⟨twinIn.trans ((flag_of_rd hu 31).trans (hflag 31 (by decide))), count.trans ((getF_of_rd hu 15 0).trans hcount),
      claimLost.trans ((flag_of_rd hu 29).trans (hflag 29 (by decide))), claimed, cause⟩
  rw [collide_eq]
  by_cases hequal : s.twinPrio = Config.partnerPrio
  · rw [if_pos hequal]
    obtain ⟨hin, hcnt, hlost, hclaimed, hcause⟩ := hdrop { s.collided with
      sys := { s.collided.sys with backoff := true, backoffUntil := s.now + 10000 + s.collided.fresh % 90001 } } rfl
    exact ⟨hin, hcnt, hlost, fun hprio hpartner => absurd (hprio.symm.trans (hequal.trans hpartner)) (by decide), fun _ => ⟨hclaimed, hcause⟩⟩
  · rw [if_neg hequal]
    by_cases hprio : s.twinPrio = true
    · rw [if_pos hprio]
      exact ⟨hflag 31 (by decide), hcount, hflag 29 (by decide), fun _ _ => hflag 30 (by decide),
        fun h => absurd (h.symm.trans hprio) (by decide)⟩
    · rw [if_neg hprio]
      obtain ⟨hin, hcnt, hlost, hclaimed, hcause⟩ := hdrop s.collided rfl
      exact ⟨hin, hcnt, hlost, fun h => absurd h hprio, fun _ => ⟨hclaimed, hcause⟩⟩

/-- The word a write leaves in SYS_TWIN_CFG: en reads 0 in service mode, a timeout of 0 leaves the one in force, release reads 0 (R541, R546). -/
def twinCfgWord (s : State) (v : Word) : Word :=
  let v1 := if s.svcMode then putFld v 31 31 0 else v
  (if fld v 15 8 = 0 then putFld v1 15 8 (s.getF Reg.sysTwinCfg 15 8) else v1) &&& 0xE000FF00

theorem twinCfgWrite_release {s : State} {v : Word} (h : bit v 28 = true) :
    s.twinCfgWrite v = (s.wr Reg.sysTwinCfg (s.twinCfgWord v)).dropClaim 2 true := if_pos h

theorem twinCfgWord_release (s : State) (v : Word) : bit (s.twinCfgWord v) 28 = false := by
  simp [bit, twinCfgWord]

theorem twinCfgWord_en {s : State} {v : Word} (h : s.svcMode = true) : bit (s.twinCfgWord v) 31 = false := by
  have hcleared : bit (putFld v 31 31 0) 31 = false := by simp [bit_putFld]
  have hword : bit (if fld v 15 8 = 0 then putFld (putFld v 31 31 0) 15 8 (s.getF Reg.sysTwinCfg 15 8) else putFld v 31 31 0) 31 = false := by
    split
    · rw [bit_putFld _ _ _ _ _ (by decide), if_neg (by decide), hcleared]
    · exact hcleared
  rw [twinCfgWord, if_pos h, bit, BitVec.getLsbD_and]
  exact Bool.and_eq_false_iff.mpr (.inl hword)

theorem twinCfgWord_timeout {s : State} {v : Word} (h : fld v 15 8 = 0) : fld (s.twinCfgWord v) 15 8 = s.getF Reg.sysTwinCfg 15 8 := by
  have hmask (w : Word) : fld (w &&& 0xE000FF00) 15 8 = fld w 15 8 := fld_congr fun k lo hi => by
    have hbit : (0xE000FF00 : Word).getLsbD k = true := by interval_cases k <;> decide
    rw [BitVec.getLsbD_and, hbit, Bool.and_true]
  rw [twinCfgWord, if_pos h, hmask, fld_putFld_same _ _ _ _ (by decide)]
  exact Nat.mod_eq_of_lt (s.getF_lt _ 15 8)

end State

/-! ### The statement about the claim -/

section Claim
variable {s : State}

theorem exec_sysTwinKeep_of_ok {ini : Ini} {v : Word} (h : s.regGate ini Reg.sysTwinKeep true v = .ok) :
    exec (.sysTwinKeep ini v) s = .next { s with sys := { s.sys with keepAt := s.now, keepSet := true }, resp := .ok 0 } :=
  congrArg Host.Outcome.next (s.gatedWrite_of_ok ini _ v _ h)

/-- A write with release set ends the claim for good (R550). -/
theorem exec_twinRelease_of_ok {ini : Ini} {v : Word} (h : s.regGate ini Reg.sysTwinCfg true (v ||| 0x10000000) = .ok) :
    exec (.twinRelease ini v) s = .next { (s.wr Reg.sysTwinCfg (s.twinCfgWord (v ||| 0x10000000))).dropClaim 2 true with resp := .ok 0 } := by
  have hrelease : bit (v ||| 0x10000000) 28 = true := by simp [bit]
  rw [← State.twinCfgWrite_release hrelease]
  exact congrArg Host.Outcome.next (s.gatedWrite_of_ok ini _ _ _ h)

theorem fld_timeout_or_release (v : Word) : fld (v ||| 0x10000000) 15 8 = fld v 15 8 := fld_congr fun k lo hi => by
  have hbit : (0x10000000 : Word).getLsbD k = false := by interval_cases k <;> decide
  rw [BitVec.getLsbD_or, hbit, Bool.or_false]

theorem twinRelease_shows {ini : Ini} {v : Word} (h : s.regGate ini Reg.sysTwinCfg true (v ||| 0x10000000) = .ok) :
    ∃ t, exec (.twinRelease ini v) s = .next t ∧ t.resp = .ok 0 ∧ t.claimed = false ∧ t.claimLost = true ∧
      t.getF Reg.sysTwinSts 28 26 = 2 ∧ t.flag Reg.sysTwinCfg 28 = false ∧ (s.svcMode = true → t.flag Reg.sysTwinCfg 31 = false) ∧
      (fld v 15 8 = 0 → t.getF Reg.sysTwinCfg 15 8 = s.getF Reg.sysTwinCfg 15 8) := by
  obtain ⟨claimed, claimLost, cause, _, _, regs⟩ :=
    (s.wr Reg.sysTwinCfg (s.twinCfgWord (v ||| 0x10000000))).dropClaim_drops (by decide : 2 < 8) true
  have hcfg := (regs Reg.sysTwinCfg (by decide) (by decide)).trans (s.rd_wr_same _ _)
  refine ⟨_, exec_twinRelease_of_ok h, rfl, claimed, claimLost, cause, ?_, fun hsvc => ?_, fun hzero => ?_⟩
  · exact (congrArg (bit · 28) hcfg).trans (s.twinCfgWord_release _)
  · exact (congrArg (bit · 31) hcfg).trans (State.twinCfgWord_en hsvc)
  · exact (congrArg (fld · 15 8) hcfg).trans (State.twinCfgWord_timeout ((fld_timeout_or_release v).trans hzero))

theorem exec_twinInAssert_fresh (h : s.twinIn = false) : exec .twinInAssert s = .next
    (if s.claimed && decide (s.now ≤ s.sys.claimedAt + 5000) then (s.setB Reg.sysTwinSts 31 true).collide else s.setB Reg.sysTwinSts 31 true) :=
  congrArg Host.Outcome.next (if_neg (by simp [h]))

/-- The input shows (R547); within 5 µs of the claim this is a collision (R549). -/
theorem twinInAssert_shows : ∃ t, exec .twinInAssert s = .next t ∧ t.twinIn = true ∧
    (s.claimed = false ∨ s.twinIn = true → t.claimed = s.claimed ∧ t.getF Reg.sysTwinSts 15 0 = s.getF Reg.sysTwinSts 15 0) ∧
    (s.twinIn = false → s.claimed = true → s.sys.claimedAt + 5000 < s.now →
      t.claimed = true ∧ t.getF Reg.sysTwinSts 15 0 = s.getF Reg.sysTwinSts 15 0) ∧
    (s.twinIn = false → s.claimed = true → s.now ≤ s.sys.claimedAt + 5000 →
      t.getF Reg.sysTwinSts 15 0 = min 65535 (s.getF Reg.sysTwinSts 15 0 + 1) ∧ t.claimLost = s.claimLost ∧
      (s.twinPrio = true → Config.partnerPrio = false → t.claimed = true) ∧
      (s.twinPrio = false → t.claimed = false ∧ t.getF Reg.sysTwinSts 28 26 = 5)) := by
  cases hin : s.twinIn with
  | true =>
    exact ⟨s, congrArg Host.Outcome.next (if_pos hin), hin, fun _ => ⟨rfl, rfl⟩, fun h => (nomatch h), fun h => (nomatch h)⟩
  | false =>
    have hshown : (s.setB Reg.sysTwinSts 31 true).twinIn = true := s.flag_setB_same _ 31 true (by decide)
    have hclaimed : (s.setB Reg.sysTwinSts 31 true).claimed = s.claimed := s.flag_setB_apart _ _ _ _ (by decide) (by decide)
    have hlost : (s.setB Reg.sysTwinSts 31 true).claimLost = s.claimLost := s.flag_setB_apart _ _ _ _ (by decide) (by decide)
    have hcount : (s.setB Reg.sysTwinSts 31 true).getF Reg.sysTwinSts 15 0 = s.getF Reg.sysTwinSts 15 0 :=
      s.getF_setB_apart _ _ _ _ _ (by decide) (by decide)
    have hprio : (s.setB Reg.sysTwinSts 31 true).twinPrio = s.twinPrio := State.flag_of_rd (s.rd_setB_ne _ _ _ _ (by decide)) 2
    refine ⟨_, exec_twinInAssert_fresh hin, ?_⟩
    by_cases hcollides : s.claimed = true ∧ s.now ≤ s.sys.claimedAt + 5000
    · obtain ⟨tin, tcount, tlost, thigh, tlow⟩ := (s.setB Reg.sysTwinSts 31 true).collide_shows
      rw [hprio] at thigh tlow
      rw [if_pos (by simpa using hcollides)]
      refine ⟨tin.trans hshown, ?_, fun _ _ hlate => absurd hcollides.2 (Nat.not_le.mpr hlate), fun _ _ _ =>
        ⟨tcount.trans (by rw [hcount]), tlost.trans hlost, fun hp hpartner => (thigh hp hpartner).trans (hclaimed.trans hcollides.1), tlow⟩⟩
      rintro (h | h)
      · exact absurd (h.symm.trans hcollides.1) (by decide)
      · cases h
    · rw [if_neg (by simpa using hcollides)]
      exact ⟨hshown, fun _ => ⟨hclaimed, hcount⟩, fun _ h _ => ⟨hclaimed.trans h, hcount⟩, fun _ h hnow => absurd ⟨h, hnow⟩ hcollides⟩

theorem twinInRelease_shows : ∃ t, exec .twinInRelease s = .next t ∧ t.twinIn = false ∧ (s.twinIn = true → t.sys.inReleasedAt = s.now) ∧
    t.claimed = s.claimed := by
  cases hin : s.twinIn with
  | true =>
    exact ⟨_, congrArg Host.Outcome.next (if_pos hin), s.flag_setB_same _ 31 false (by decide), fun _ => rfl,
      s.flag_setB_apart _ _ _ _ (by decide) (by decide)⟩
  | false => exact ⟨s, congrArg Host.Outcome.next (if_neg (by simp [hin])), hin, fun h => (nomatch h), rfl⟩

theorem collisionBackoffExpiry_shows : ∃ t, exec .collisionBackoffExpiry s = .next t ∧
    t.sys.backoff = (s.sys.backoff && decide (s.now < s.sys.backoffUntil)) ∧ { t with sys := s.sys } = s := by
  by_cases hover : s.sys.backoffUntil ≤ s.now
  · cases hb : s.sys.backoff with
    | true => exact ⟨_, congrArg Host.Outcome.next (if_pos (by simp [hb, hover])), by simp [Nat.not_lt.mpr hover], rfl⟩
    | false => exact ⟨s, congrArg Host.Outcome.next (if_neg (by simp [hb])), by simp [hb], rfl⟩
  · exact ⟨s, congrArg Host.Outcome.next (if_neg (by simp [hover])), by simp [Nat.not_le.mp hover], rfl⟩

theorem keepaliveExpiry_shows : ∃ t, exec .keepaliveExpiry s = .next t ∧
    (s.sys.keepSet = false ∨ s.now < s.sys.keepAt + s.getF Reg.sysTwinCfg 15 8 * 1000000 → t = s) ∧
    (s.sys.keepSet = true → s.sys.keepAt + s.getF Reg.sysTwinCfg 15 8 * 1000000 ≤ s.now → s.flag Reg.sysTwinCfg 31 = true → s.claimed = true →
      t.claimed = false ∧ t.claimLost = true ∧ t.getF Reg.sysTwinSts 28 26 = 1) := by
  by_cases hdue : s.sys.keepSet = true ∧ s.sys.keepAt + s.keepTimeout ≤ s.now
  · refine ⟨_, congrArg Host.Outcome.next (if_pos (by simpa using hdue)), ?_, fun _ _ hen hclaimed => ?_⟩
    · rintro (h | h)
      · exact absurd (h.symm.trans hdue.1) (by decide)
      · exact absurd hdue.2 (Nat.not_le.mpr h)
    · obtain ⟨claimed, claimLost, cause, _⟩ :=
        ({ s with sys := { s.sys with keepSet := false } } : State).dropClaim_drops (by decide : 1 < 8) true
      dsimp only
      rw [if_neg (by simp [hen]), if_pos hclaimed]
      exact ⟨claimed, claimLost, cause⟩
  · exact ⟨s, congrArg Host.Outcome.next (if_neg (by simpa using hdue)), fun _ => rfl, fun hset hover => absurd ⟨hset, hover⟩ hdue⟩

/-- A stack outside retraining that is not ready ends the claim (R550). -/
theorem hbmStackFail_shows (p : Fin 64) : ∃ t, exec (.hbmStackFail p) s = .next t ∧ (s.flag (Reg.hbmPcSts p) 30 = true → t = s) ∧
    (s.flag (Reg.hbmPcSts p) 30 = false → t.flag (Reg.hbmPcSts p) 31 = false ∧ t.claimed = false ∧ t.claimLost = true ∧
      t.getF Reg.sysTwinSts 28 26 = 3) := by
  cases hret : s.flag (Reg.hbmPcSts p) 30 with
  | true => exact ⟨s, congrArg Host.Outcome.next (if_pos hret), fun _ => rfl, fun h => (nomatch h)⟩
  | false =>
    obtain ⟨claimed, claimLost, cause, _⟩ := (s.setB (Reg.hbmPcSts p) 31 false).dropClaim_drops (by decide : 3 < 8) true
    refine ⟨_, congrArg Host.Outcome.next (if_neg (by simp [hret])), fun h => (nomatch h), fun _ => ⟨?_, claimed, claimLost, cause⟩⟩
    have hready : 0x800000 ≤ Reg.hbmPcSts p := by unfold Reg.hbmPcSts; omega
    exact (State.flag_of_rd (State.rd_dropClaim _ 3 true hready) 31).trans (s.flag_setB_same _ 31 false (by decide))

end Claim

/-- Settles O60: what each command shows of the claim, from what its end, a collision and SYS_TWIN_CFG's word show. A cause is recorded while the
claim is not held as well (log entry 49); the partner's strap, the back-off and the keepalive's start are those of log entry 144. -/
theorem twinClaim : Obligations.TwinClaim := by
  unfold Obligations.TwinClaim
  refine fun ini v p s => ⟨fun h => congrArg Host.Outcome.next (if_neg (by simp [h])),
    fun h => ⟨_, congrArg Host.Outcome.next (if_pos h), s.assertClaim_claims⟩, s.mayClaim_iff, twinInAssert_shows, twinInRelease_shows,
    collisionBackoffExpiry_shows, exec_sysTwinKeep_of_ok, twinRelease_shows, keepaliveExpiry_shows, hbmStackFail_shows p, ?_⟩
  obtain ⟨claimed, claimLost, cause, _⟩ := s.dropClaim_drops (by decide : 4 < 8) true
  exact ⟨_, rfl, claimed, claimLost, cause⟩

end Sys2Proof.Machine

namespace Sys2Proof.Machine

/-! ### Entries, held entries and vectors of the host interface (R508, R512, R513, R516) -/

theorem SMap.find?_dropKeys {α : Type} (p : Nat → Bool) (m : SMap α) (k : Nat) :
    SMap.find? (SMap.dropKeys p m) k = if p k then none else SMap.find? m k := by
  induction m with
  | nil => simp [SMap.dropKeys, SMap.find?]
  | cons e m ih =>
    obtain ⟨j, v⟩ := e
    unfold SMap.dropKeys at ih ⊢
    by_cases hj : p j = true <;> by_cases hk : k = j
    · subst hk; simp [hj, ih]
    · simp [hj, ih, SMap.find?, hk]
    · subst hk; simp [hj, SMap.find?]
    · simp [hj, ih, SMap.find?, hk]

/-- A dropped key reads as unlisted, every other key as before. -/
theorem SMap.get_dropKeys {α : Type} (d : Nat → α) (p : Nat → Bool) (m : SMap α) (k : Nat) :
    SMap.get d (SMap.dropKeys p m) k = if p k then d k else SMap.get d m k := by
  rw [SMap.get, SMap.find?_dropKeys, SMap.get]
  split <;> rfl

/-- t is s after entries were written, held or placed and vectors fired: registers, the held entries, the counts of events, the vectors, PME_Status
and what is sent may differ, and of the registers the queues' status and HIF_EVT_PEND alone. -/
structure State.EntryStep (s t : State) : Prop where
  rest : ∃ r held cnt v pme o, t = { s with
    reg := r, hif := { s.hif with held := held, evtCount := cnt, vec := v, pmeStatus := pme }, outbox := o }
  regs : ∀ off, off % 0x20 ≠ 0x10 → off ≠ Reg.hifEvtPend → t.rd off = s.rd off

namespace State

@[simp] theorem vecAt_setVec (h : Hif) (v w : Nat) (r : Vec) :
    { h with vec := SMap.set (fun _ => Vec.reset) h.vec v r }.vecAt w = if w = v then r else h.vecAt w := SMap.get_set _ _ _ _ _

namespace EntryStep

theorem refl (s : State) : s.EntryStep s := ⟨⟨_, _, _, _, _, _, rfl⟩, fun _ _ _ => rfl⟩

theorem trans {s t u : State} (h1 : s.EntryStep t) (h2 : t.EntryStep u) : s.EntryStep u := by
  refine ⟨?_, fun off hs hp => (h2.regs off hs hp).trans (h1.regs off hs hp)⟩
  obtain ⟨_, _, _, _, _, _, rfl⟩ := h1.rest
  obtain ⟨r, held, cnt, v, pme, o, rfl⟩ := h2.rest
  exact ⟨r, held, cnt, v, pme, o, rfl⟩

theorem ite {s t u : State} {c : Prop} [Decidable c] (ht : s.EntryStep t) (hu : s.EntryStep u) : s.EntryStep (if c then t else u) := by
  split
  · exact ht
  · exact hu

theorem foldl {α : Type} {f : State → α → State} (hf : ∀ (s : State) a, s.EntryStep (f s a)) (l : List α) (s : State) :
    s.EntryStep (l.foldl f s) := by
  induction l generalizing s with
  | nil => exact refl s
  | cons a l ih => exact (hf s a).trans (ih _)

/-- Changes beside the registers. -/
theorem of_hif (s : State) (held cnt v pme o) : s.EntryStep { s with
    hif := { s.hif with held := held, evtCount := cnt, vec := v, pmeStatus := pme }, outbox := o } := ⟨⟨_, _, _, _, _, _, rfl⟩, fun _ _ _ => rfl⟩

theorem wr (s : State) {off : Nat} (v : Word) (h : off % 0x20 = 0x10 ∨ off = Reg.hifEvtPend) : s.EntryStep (s.wr off v) := by
  refine ⟨⟨_, _, _, _, _, _, rfl⟩, fun i hs hp => s.rd_wr_ne _ _ _ ?_⟩
  rintro rfl
  exact h.elim hs hp

/-! #### What an entry step keeps -/

section Keeps
variable {s t : State} (h : s.EntryStep t)
include h

theorem holding : t.hif.holding = s.hif.holding := by
  obtain ⟨_, _, _, _, _, _, rfl⟩ := h.rest
  rfl

theorem power : t.hif.d3Pf0 = s.hif.d3Pf0 ∧ t.hif.d3Pf1 = s.hif.d3Pf1 ∧ t.hif.linkDown = s.hif.linkDown ∧ t.hif.pmeEn = s.hif.pmeEn := by
  obtain ⟨_, _, _, _, _, _, rfl⟩ := h.rest
  exact ⟨rfl, rfl, rfl, rfl⟩

theorem masked (v : Nat) : t.hif.masked v = s.hif.masked v := by
  obtain ⟨_, _, _, _, _, _, rfl⟩ := h.rest
  rfl

end Keeps

/-! #### The steps -/

theorem fireVec (s : State) (v : Nat) : s.EntryStep (s.fireVec v) := of_hif s _ _ _ _ _

theorem requestVec (s : State) (v : Nat) : s.EntryStep (s.requestVec v) :=
  ite (refl s) (ite (of_hif s _ _ _ _ _) (ite ((of_hif s _ _ _ _ s.outbox).trans (fireVec _ v)) (of_hif s _ _ _ _ _)))

theorem writeEntry (s : State) (e : Entry) : s.EntryStep (s.writeEntry e) := by
  have hsts : Reg.hifCqSts e.cq % 0x20 = 0x10 := by unfold Reg.hifCqSts; omega
  exact (((of_hif s _ _ _ _ _ : s.EntryStep (s.emit _)).trans (wr _ _ (.inl hsts))).trans (wr _ _ (.inl hsts))).trans (requestVec _ _)

theorem pmeOnHold (s : State) : s.EntryStep s.pmeOnHold := ite (of_hif s _ _ _ _ _) (refl s)

theorem putEntry (s : State) (e : Entry) : s.EntryStep (s.putEntry e) :=
  ite ((of_hif s _ _ _ _ s.outbox).trans (pmeOnHold _)) (writeEntry s e)

theorem placeEvent (s : State) (e : Nat) : s.EntryStep (s.placeEvent e) :=
  ite (((wr s _ (.inr rfl)).trans (of_hif _ _ _ _ _ s.outbox)).trans (putEntry _ _)) (refl s)

theorem placeEvents (s : State) : s.EntryStep s.placeEvents := foldl placeEvent _ s

theorem drainList (es : List Entry) (stuck : List Nat) (s : State) : s.EntryStep (s.drainList stuck es) := by
  induction es generalizing stuck s with
  | nil => exact refl s
  | cons e es ih => exact ite ((of_hif s _ _ _ _ s.outbox).trans (ih _ _)) ((writeEntry s e).trans (ih _ _))

theorem drainHeld (s : State) : s.EntryStep s.drainHeld := ite (refl s) ((of_hif s _ _ _ _ s.outbox).trans (drainList _ _ _))

theorem fireAll (s : State) : s.EntryStep s.fireAll := foldl (fun s v => ite (refl s) (fireVec s v)) _ s

theorem firePf1 (s : State) : s.EntryStep s.firePf1 := foldl (fun s _ => ite (refl s) (of_hif s _ _ _ _ _)) _ s

end EntryStep

/-! #### Held entries stay for queues that cannot take them (R512) -/

/-- No queue that an entry is held for can take one. -/
def HeldStuck (s : State) : Prop := ∀ e ∈ s.hif.held, s.cqReady e.cq = false

theorem cqReady_congr {s t : State} {c : Nat} (hcfg : t.rd (Reg.hifCqCfg c) = s.rd (Reg.hifCqCfg c)) (hsts : t.rd (Reg.hifCqSts c) = s.rd (Reg.hifCqSts c))
    (hhead : t.rd (Reg.hifCqHead c) = s.rd (Reg.hifCqHead c)) : t.cqReady c = s.cqReady c := by
  unfold cqReady cqUnread flag getF
  rw [hcfg, hsts, hhead]

theorem held_requestVec (s : State) (v : Nat) : (s.requestVec v).hif.held = s.hif.held := by
  unfold requestVec
  dsimp only
  repeat' split
  all_goals rfl

theorem held_writeEntry (s : State) (e : Entry) : (s.writeEntry e).hif.held = s.hif.held := held_requestVec _ _

/-- Of the queues' status registers a written entry moves its own queue's. -/
theorem rd_writeEntry_ne (s : State) (e : Entry) {off : Nat} (h : off ≠ Reg.hifCqSts e.cq) : (s.writeEntry e).rd off = s.rd off :=
  (rd_requestVec _ _ off).trans ((rd_setF_ne _ _ _ _ _ _ h).trans (rd_setF_ne _ _ _ _ _ _ h))

theorem cqReady_writeEntry (s : State) (e : Entry) {c : Nat} (h : c ≠ e.cq) : (s.writeEntry e).cqReady c = s.cqReady c :=
  cqReady_congr (s.rd_writeEntry_ne e (by unfold Reg.hifCqCfg Reg.hifCqSts; omega)) (s.rd_writeEntry_ne e (by unfold Reg.hifCqSts; omega))
    (s.rd_writeEntry_ne e (by unfold Reg.hifCqHead Reg.hifCqSts; omega))

theorem HeldStuck.writeEntry {s : State} (h : s.HeldStuck) {e : Entry} (hready : s.cqReady e.cq = true) : (s.writeEntry e).HeldStuck := by
  intro f hf
  rw [held_writeEntry] at hf
  have hne : f.cq ≠ e.cq := fun heq => Bool.false_ne_true ((h f hf).symm.trans (heq ▸ hready))
  exact (s.cqReady_writeEntry e hne).trans (h f hf)

/-- An entry held behind those held before it. -/
def holdEntry (s : State) (e : Entry) : State := { s with hif := { s.hif with held := s.hif.held ++ [e] } }

theorem putEntry_eq (s : State) (e : Entry) : s.putEntry e =
    if s.hif.holding || s.hif.held.any (fun h => h.cq == e.cq) || !s.cqReady e.cq then (s.holdEntry e).pmeOnHold else s.writeEntry e := rfl

/-- One more entry is held for a queue that cannot take it. -/
theorem HeldStuck.hold {s : State} (h : s.HeldStuck) {e : Entry} (hready : s.cqReady e.cq = false) :
    (s.holdEntry e).HeldStuck := by
  intro f hf
  rcases List.mem_append.mp hf with hf | hf
  · exact h f hf
  · exact (List.mem_singleton.mp hf) ▸ hready

theorem pmeOnHold_awake {s : State} (h : s.hif.holding = false) : s.pmeOnHold = s := by
  have hd3 : s.hif.d3Pf0 = false := by
    simp only [Hif.holding, Bool.or_eq_false_iff] at h
    exact h.1.1.1
  exact if_neg (by simp [hd3])

theorem HeldStuck.putEntry {s : State} (h : s.HeldStuck) (hawake : s.hif.holding = false) (e : Entry) : (s.putEntry e).HeldStuck := by
  rw [putEntry_eq]
  by_cases hready : s.cqReady e.cq = true
  · have hnone : s.hif.held.any (fun f => f.cq == e.cq) = false := by
      refine List.any_eq_false.mpr fun f hf heq => ?_
      exact Bool.false_ne_true ((h f hf).symm.trans ((beq_iff_eq.mp heq) ▸ hready))
    rw [if_neg (by simp [hawake, hnone, hready])]
    exact h.writeEntry hready
  · have hfull : s.cqReady e.cq = false := by simpa using hready
    rw [if_pos (by simp [hfull]), pmeOnHold_awake (s := s.holdEntry e) hawake]
    exact h.hold hfull

/-- Another register, or the events' counts, is nothing to the held entries. -/
theorem HeldStuck.congr {s t : State} (h : s.HeldStuck) (hheld : t.hif.held = s.hif.held)
    (hregs : ∀ off, 0x32000 ≤ off → t.rd off = s.rd off) : t.HeldStuck := by
  intro e he
  rw [hheld] at he
  refine (cqReady_congr (hregs _ ?_) (hregs _ ?_) (hregs _ ?_)).trans (h e he)
  · unfold Reg.hifCqCfg; omega
  · unfold Reg.hifCqSts; omega
  · unfold Reg.hifCqHead; omega

theorem HeldStuck.placeEvent {s : State} (h : s.HeldStuck) (hawake : s.hif.holding = false) (e : Nat) : (s.placeEvent e).HeldStuck := by
  unfold State.placeEvent
  dsimp only
  split
  · refine HeldStuck.putEntry ?_ ?_ _
    · exact h.congr rfl fun off ho => s.rd_setB_ne _ _ _ _ (by unfold Reg.hifEvtPend; omega)
    · exact hawake
  · exact h

theorem HeldStuck.placeEvents {s : State} (h : s.HeldStuck) (hawake : s.hif.holding = false) : s.placeEvents.HeldStuck := by
  unfold State.placeEvents
  generalize List.range 32 = l
  induction l generalizing s with
  | nil => exact h
  | cons e l ih => exact ih (h.placeEvent hawake e) ((EntryStep.placeEvent s e).holding.trans hawake)

/-- Draining leaves an entry only for a queue that cannot take it. -/
theorem HeldStuck.drainList {s : State} (h : s.HeldStuck) (es : List Entry) {stuck : List Nat} (hstuck : ∀ c ∈ stuck, s.cqReady c = false) :
    (s.drainList stuck es).HeldStuck := by
  induction es generalizing s stuck with
  | nil => exact h
  | cons e es ih =>
    unfold State.drainList
    by_cases hready : stuck.contains e.cq = false ∧ s.cqReady e.cq = true
    · obtain ⟨hfree, hready⟩ := hready
      rw [if_neg (by rw [hfree, hready]; decide)]
      refine ih (h.writeEntry hready) fun c hc => (s.cqReady_writeEntry e ?_).trans (hstuck c hc)
      rintro rfl
      exact Bool.false_ne_true ((hstuck _ hc).symm.trans hready)
    · have hnot : s.cqReady e.cq = false := by
        by_cases hc : stuck.contains e.cq = true
        · exact hstuck _ (by simpa using hc)
        · by_contra hne
          exact hready ⟨by simpa using hc, by simpa using hne⟩
      rw [if_pos (by simp [hnot])]
      refine ih (h.hold hnot) fun c hc => ?_
      rcases List.mem_cons.mp hc with rfl | hc
      · exact hnot
      · exact hstuck c hc

theorem drainHeld_stuck {s : State} (h : s.hif.holding = false) : s.drainHeld.HeldStuck := by
  rw [drainHeld, if_neg (by simp [h])]
  exact HeldStuck.drainList (s := { s with hif := { s.hif with held := [] } }) (fun _ h => nomatch h) _ fun _ h => nomatch h

/-! #### Vectors fired (R516, R517, R519) -/

theorem vecAt_fireVec (s : State) (v w : Nat) :
    (s.fireVec v).hif.vecAt w = if w = v then ⟨0, 0, (s.hif.vecAt v).pba || s.hif.masked v⟩ else s.hif.vecAt w := vecAt_setVec _ _ _ _

theorem fireDue_of_none {s : State} {v : Nat} (h : (s.hif.vecAt v).count = 0) : s.fireDue v = s := if_pos h

theorem fireDue_of_some {s : State} {v : Nat} (h : (s.hif.vecAt v).count ≠ 0) : s.fireDue v = s.fireVec v := if_neg h

theorem count_fireDue (s : State) (v w : Nat) : ((s.fireDue v).hif.vecAt w).count = if w = v then 0 else (s.hif.vecAt w).count := by
  by_cases h : (s.hif.vecAt v).count = 0
  · rw [fireDue_of_none h]
    split
    · next heq => rw [heq, h]
    · rfl
  · rw [fireDue_of_some h, vecAt_fireVec]
    split <;> rfl

theorem count_fireDues (l : List Nat) (s : State) (w : Nat) :
    ((l.foldl fireDue s).hif.vecAt w).count = if w ∈ l then 0 else (s.hif.vecAt w).count := by
  induction l generalizing s with
  | nil => rfl
  | cons v l ih =>
    rw [List.foldl_cons, ih, count_fireDue]
    by_cases hl : w ∈ l <;> by_cases hv : w = v <;> simp [hl, hv]

theorem count_fireAll (s : State) {v : Nat} (hv : v < 120) : (s.fireAll.hif.vecAt v).count = 0 :=
  (count_fireDues _ s v).trans (if_pos (List.mem_range.mpr hv))

/-- PF1's vectors are keyed from 128. -/
theorem vecAt_firePf1 (s : State) {v : Nat} (hv : v < 128) : s.firePf1.hif.vecAt v = s.hif.vecAt v := by
  unfold firePf1
  generalize List.range 8 = l
  induction l generalizing s with
  | nil => rfl
  | cons w l ih =>
    refine (ih _).trans ?_
    dsimp only
    split
    · rfl
    · exact (vecAt_setVec _ _ _ _).trans (if_neg (by omega))

end State
end Sys2Proof.Machine

namespace Sys2Proof.Machine

/-! ### What mailbox traffic leaves of the rest (R129-R135, R493, R501) -/

/-- t is s after messages were posted, read or cleared and their ends told: the registers, PF0's and PF1's vectors, what Clasp has waiting in its
channels, what is sent and the free values may differ, and of the registers those of the mailboxes and the gatherings alone. -/
structure State.MailStep (s t : State) : Prop where
  rest : ∃ r m v tr nd o n, t = { s with
    reg := r, mbxTouched := m, hif := { s.hif with vec := v }, clasp := { s.clasp with trig := tr, noticeDue := nd }, outbox := o, free := n }
  regs : ∀ off, off < 0x20000 ∨ 0x22000 ≤ off ∧ off < 0x400000 → t.rd off = s.rd off

namespace State
namespace MailStep

theorem refl (s : State) : s.MailStep s := ⟨⟨_, _, _, _, _, _, _, rfl⟩, fun _ _ => rfl⟩

theorem trans {s t u : State} (h1 : s.MailStep t) (h2 : t.MailStep u) : s.MailStep u := by
  refine ⟨?_, fun off ho => (h2.regs off ho).trans (h1.regs off ho)⟩
  obtain ⟨_, _, _, _, _, _, _, rfl⟩ := h1.rest
  obtain ⟨r, m, v, tr, nd, o, n, rfl⟩ := h2.rest
  exact ⟨r, m, v, tr, nd, o, n, rfl⟩

theorem ite {s t u : State} {c : Prop} [Decidable c] (ht : s.MailStep t) (hu : s.MailStep u) : s.MailStep (if c then t else u) := by
  split
  · exact ht
  · exact hu

theorem foldl {α : Type} {f : State → α → State} {l : List α} (hf : ∀ (s : State), ∀ a ∈ l, s.MailStep (f s a)) (s : State) :
    s.MailStep (l.foldl f s) := by
  induction l generalizing s with
  | nil => exact refl s
  | cons a l ih => exact (hf s a (by simp)).trans (ih (fun s b hb => hf s b (by simp [hb])) _)

/-- Changes beside the registers. -/
theorem of_rest (s : State) (m v tr nd o n) : s.MailStep { s with
    mbxTouched := m, hif := { s.hif with vec := v }, clasp := { s.clasp with trig := tr, noticeDue := nd }, outbox := o, free := n } :=
  ⟨⟨_, _, _, _, _, _, _, rfl⟩, fun _ _ => rfl⟩

theorem wr (s : State) {off : Nat} (v : Word) (h : 0x20000 ≤ off ∧ off < 0x22000 ∨ 0x400000 ≤ off) : s.MailStep (s.wr off v) :=
  ⟨⟨_, _, _, _, _, _, _, rfl⟩, fun i hi => s.rd_wr_ne off i v (by omega)⟩

/-- The words of a channel are written. -/
theorem words (s : State) {n : Nat} (hn : n < 48) (word : Nat → Word) :
    s.MailStep { s with reg := (List.range 16).foldl (fun m k => SMap.set resetWord m (Reg.mbxData n k) (word k)) s.reg } := by
  refine ⟨⟨_, _, _, _, _, _, _, rfl⟩, fun off ho => SMap.get_foldl_set_ne _ _ word _ _ _ fun k hk => ?_⟩
  have hk16 := List.mem_range.mp hk
  unfold Reg.mbxData
  omega

/-! #### What a step keeps -/

section Keeps
variable {s t : State} (h : s.MailStep t)
include h

theorem hif : ∃ v, t.hif = { s.hif with vec := v } := by
  obtain ⟨_, _, v, _, _, _, _, rfl⟩ := h.rest
  exact ⟨v, rfl⟩

theorem clasp : ∃ tr nd, t.clasp = { s.clasp with trig := tr, noticeDue := nd } := by
  obtain ⟨_, _, _, tr, nd, _, _, rfl⟩ := h.rest
  exact ⟨tr, nd, rfl⟩

theorem sys : t.sys = s.sys := by
  obtain ⟨_, _, _, _, _, _, _, rfl⟩ := h.rest
  rfl

theorem mem : t.ss = s.ss ∧ t.hbm = s.hbm ∧ t.eng = s.eng := by
  obtain ⟨_, _, _, _, _, _, _, rfl⟩ := h.rest
  exact ⟨rfl, rfl, rfl⟩

end Keeps

/-! #### The steps -/

theorem evcSet (s : State) (g src : Nat) : s.MailStep (s.evcSet g src) :=
  ite (wr s _ (.inr (by unfold Reg.evcPend; omega))) (refl s)

theorem setVec (s : State) (v : SMap Vec) (o : List Output) : s.MailStep { s with hif := { s.hif with vec := v }, outbox := o } :=
  of_rest s s.mbxTouched v s.clasp.trig s.clasp.noticeDue o s.free

theorem requestVec (s : State) (v : Nat) : s.MailStep (s.requestVec v) :=
  ite (refl s) (ite (setVec s _ _) (ite ((setVec s _ s.outbox).trans (setVec _ _ _)) (setVec s _ _)))

theorem notify (s : State) (n : Nat) (dst : MbxEnd) (k : Notice) : s.MailStep (s.notify n dst k) := by
  have hpf1 (v : Nat) : s.MailStep (s.requestPf1 v) := ite (setVec s _ _) (setVec s s.hif.vec _)
  exact ite (evcSet s _ _) (ite (ite (requestVec s _) (refl s)) (ite (ite (hpf1 0) (ite (hpf1 1) (ite (hpf1 2) (refl s)))) (refl s)))

theorem mbxPost (s : State) {n : Nat} (hn : n < 48) : s.MailStep (s.mbxPost n) := by
  have hsts : 0x20000 ≤ Reg.mbxSts n ∧ Reg.mbxSts n < 0x22000 ∨ 0x400000 ≤ Reg.mbxSts n := by unfold Reg.mbxSts; omega
  have htold : s.MailStep (((s.setB (Reg.mbxSts n) 31 true).addWrap (Reg.mbxSts n) 15 0 1).notify n (s.mbxReceiver n) .receive) :=
    ((wr s _ hsts).trans (wr _ _ hsts)).trans (notify _ _ _ _)
  exact ite (htold.trans (of_rest _ _ _ _ _ _ _)) htold

theorem sendNotice (s : State) : s.MailStep s.sendNotice := by
  have hwords (nd : List Nat) (word : Nat → Word) (f : Nat) : s.MailStep { s with
      clasp := { s.clasp with noticeDue := nd }
      reg := (List.range 16).foldl (fun m k => SMap.set resetWord m (Reg.mbxData 36 k) (word k)) s.reg
      free := f } :=
    (of_rest s s.mbxTouched s.hif.vec s.clasp.trig nd s.outbox f).trans (words _ (by decide) word)
  unfold State.sendNotice
  split
  · exact refl s
  · exact ite (refl s) ((hwords _ _ _).trans (mbxPost _ (by decide)))

theorem mbxWipe (s : State) {n : Nat} (hn : n < 48) : s.MailStep (s.mbxWipe n) :=
  (of_rest s (SMap.set (fun _ => false) s.mbxTouched n false) s.hif.vec s.clasp.trig s.clasp.noticeDue s.outbox s.free).trans
    (words _ hn fun _ => 0)

theorem mbxResetOne (s : State) (dst : MbxEnd) {n : Nat} (hn : n < 48) : s.MailStep (s.mbxResetOne dst n) := by
  have hsts : 0x20000 ≤ Reg.mbxSts n ∧ Reg.mbxSts n < 0x22000 ∨ 0x400000 ≤ Reg.mbxSts n := by unfold Reg.mbxSts; omega
  have hwiped := (wr s _ hsts).trans (mbxWipe (s.setB (Reg.mbxSts n) 31 false) hn)
  exact ite (ite ((hwiped.trans (wr _ _ hsts)).trans (notify _ _ _ _)) hwiped) (ite (mbxWipe s hn) (refl s))

theorem mbxReset (s : State) (dst : MbxEnd) : s.MailStep (s.mbxReset dst) :=
  foldl (fun s _ hn => mbxResetOne s dst (List.mem_range.mp hn)) s

end MailStep

/-! ### Power states (R519, R520) -/

/-- Everything held is written, or only counted while the function still sleeps (R519 item 5). -/
def drainFor (s : State) (h : Hif) : State :=
  if h.holding then s else State.drainList { s with hif := { s.hif with held := [] } } [] s.hif.held

/-- The events and vectors of PF0 that waited, unless it still sleeps. -/
def sendDue (s : State) : State := if s.hif.holding then s else s.placeEvents.fireAll

/-- What a function that writes again sends. -/
def wake (s : State) : State :=
  if s.sendDue.hif.d3Pf1 || s.sendDue.hif.linkDown || s.sendDue.hif.turnedOff || s.sendDue.hif.l2 then s.sendDue else s.sendDue.firePf1

theorem resume_eq (s : State) (awake : Hif → Hif) :
    s.resume awake = State.wake { s.drainFor (awake s.hif) with hif := awake (s.drainFor (awake s.hif)).hif } := rfl

theorem sendDue_awake {s : State} (h : s.hif.holding = false) : s.sendDue = s.placeEvents.fireAll := if_neg (by simp [h])

theorem drainFor_entryStep (s : State) (h : Hif) : s.EntryStep (s.drainFor h) :=
  .ite (.refl s) ((EntryStep.of_hif s _ _ _ _ s.outbox).trans (.drainList _ _ _))

theorem drainFor_stuck (s : State) {h : Hif} (hawake : h.holding = false) : (s.drainFor h).HeldStuck := by
  rw [drainFor, if_neg (by simp [hawake])]
  exact HeldStuck.drainList (s := { s with hif := { s.hif with held := [] } }) (fun _ h => nomatch h) _ fun _ h => nomatch h

theorem wake_entryStep (s : State) : s.EntryStep s.wake := by
  have hdue : s.EntryStep s.sendDue := .ite (.refl s) ((EntryStep.placeEvents s).trans (.fireAll _))
  exact .ite hdue (hdue.trans (.firePf1 _))

/-- Vectors fired change neither the held entries nor the queues. -/
theorem HeldStuck.fireAll {s : State} (h : s.HeldStuck) : s.fireAll.HeldStuck := by
  unfold State.fireAll
  generalize List.range 120 = l
  induction l generalizing s with
  | nil => exact h
  | cons v l ih =>
    refine ih ?_
    unfold fireDue
    split
    · exact h
    · exact h.congr rfl fun _ _ => rfl

theorem HeldStuck.firePf1 {s : State} (h : s.HeldStuck) : s.firePf1.HeldStuck := by
  unfold State.firePf1
  generalize List.range 8 = l
  induction l generalizing s with
  | nil => exact h
  | cons v l ih =>
    refine ih ?_
    dsimp only
    split
    · exact h
    · exact h.congr rfl fun _ _ => rfl

theorem HeldStuck.wake {s : State} (h : s.HeldStuck) (hawake : s.hif.holding = false) : s.wake.HeldStuck := by
  have hdue : s.sendDue.HeldStuck := sendDue_awake hawake ▸ (h.placeEvents hawake).fireAll
  unfold State.wake
  split
  · exact hdue
  · exact hdue.firePf1

theorem count_wake {s : State} (hawake : s.hif.holding = false) {v : Nat} (hv : v < 120) : (s.wake.hif.vecAt v).count = 0 := by
  have hdue : (s.sendDue.hif.vecAt v).count = 0 := sendDue_awake hawake ▸ count_fireAll _ hv
  unfold wake
  split
  · exact hdue
  · rw [vecAt_firePf1 _ (by omega), hdue]

/-! ### Resets of a function (R520) -/

/-- What a reset of PF0 clears before its mailboxes: the queues and the other registers of the host interface, held completions, vectors. -/
def pf0Cleared (s : State) : State := { s with
  reg := SMap.dropKeys (fun k => inRange k 0x30000 0x40000 && !(decide (k = Reg.hifEvtPend) || decide (k = Reg.hifVer))) s.reg
  hif := { s.hif with
    held := s.hif.held.filter Entry.isEvent
    vec := SMap.dropKeys (fun k => decide (k < 128)) s.hif.vec
    msixMask := SMap.dropKeys (fun k => decide (k < 128)) s.hif.msixMask
    d3Pf0 := false } }

theorem rd_pf0Cleared (s : State) (off : Nat) : s.pf0Cleared.rd off =
    if inRange off 0x30000 0x40000 && !(decide (off = Reg.hifEvtPend) || decide (off = Reg.hifVer)) then resetWord off else s.rd off :=
  SMap.get_dropKeys resetWord (fun k => inRange k 0x30000 0x40000 && !(decide (k = Reg.hifEvtPend) || decide (k = Reg.hifVer))) s.reg off

theorem flrPf0_mailStep (s : State) : (s.pf0Cleared.setF Reg.hifVer 31 24 0).MailStep s.flrPf0 := .mbxReset _ _

/-- Of the registers a mailbox reset leaves, a reset of PF0 changes those of the host interface (R520). -/
theorem rd_flrPf0 (s : State) {off : Nat} (h : off < 0x20000 ∨ 0x22000 ≤ off ∧ off < 0x400000) :
    s.flrPf0.rd off = (s.pf0Cleared.setF Reg.hifVer 31 24 0).rd off := s.flrPf0_mailStep.regs off h

theorem hif_flrPf0 (s : State) : ∃ v, s.flrPf0.hif = { s.pf0Cleared.hif with vec := v } := s.flrPf0_mailStep.hif

theorem mem_flrPf0 (s : State) : s.flrPf0.ss = s.ss ∧ s.flrPf0.hbm = s.hbm ∧ s.flrPf0.eng = s.eng := s.flrPf0_mailStep.mem

theorem hostVersion_flrPf0 (s : State) : s.flrPf0.getF Reg.hifVer 31 24 = 0 :=
  (getF_of_rd (s.rd_flrPf0 (.inr (by decide))) 31 24).trans (getF_setF_same _ _ _ _ _ (by decide) (by decide))

/-- What a reset of PF1 clears before its mailboxes. -/
def pf1Cleared (s : State) : State := { s with
  clasp := { s.clasp with owed := s.clasp.owed.filter (fun o => decide (o.1 ≠ 33)) }
  hif := { s.hif with
    vec := SMap.dropKeys (fun k => decide (128 ≤ k)) s.hif.vec
    msixMask := SMap.dropKeys (fun k => decide (128 ≤ k)) s.hif.msixMask
    d3Pf1 := false } }

theorem flrPf1_mailStep (s : State) : s.pf1Cleared.MailStep s.flrPf1 := (MailStep.mbxReset _ _).trans (.sendNotice _)

theorem hif_flrPf1 (s : State) : ∃ v, s.flrPf1.hif = { s.pf1Cleared.hif with vec := v } := s.flrPf1_mailStep.hif

theorem mem_flrPf1 (s : State) : s.flrPf1.ss = s.ss ∧ s.flrPf1.hbm = s.hbm ∧ s.flrPf1.eng = s.eng := s.flrPf1_mailStep.mem

end State

/-! ### The statement about power states and resets -/

section Power
variable {s : State}

/-- A queue's registers read their reset words after a reset of PF0. -/
theorem rd_queue_flrPf0 {off : Nat} (lo : 0x31000 ≤ off) (hi : off < 0x33000) : s.flrPf0.rd off = State.reset.rd off := by
  have hne : off ≠ Reg.hifVer := by unfold Reg.hifVer; omega
  have hpend : off ≠ Reg.hifEvtPend := by unfold Reg.hifEvtPend; omega
  rw [s.rd_flrPf0 (.inr (by omega)), State.rd_setF_ne _ _ _ _ _ _ hne, State.rd_pf0Cleared, if_pos]
  · rfl
  · simp [inRange, hne, hpend]
    omega

theorem flrPf0_shows : ∃ t, exec .pcieFlrPf0 s = .next t ∧ t.getF Reg.hifVer 31 24 = 0 ∧ t.rd Reg.hifEvtPend = s.rd Reg.hifEvtPend ∧
    (∀ q, q < 64 → t.flag (Reg.hifSqCfg q) 31 = false ∧ t.flag (Reg.hifCqCfg q) 31 = false) ∧
    (∀ e ∈ t.hif.held, e.isEvent = true) ∧ t.ss = s.ss ∧ t.hbm = s.hbm ∧ t.eng = s.eng := by
  obtain ⟨v, hhif⟩ := s.hif_flrPf0
  refine ⟨_, rfl, s.hostVersion_flrPf0, ?_, fun q hq => ?_, fun e he => ?_, s.mem_flrPf0⟩
  · exact (s.rd_flrPf0 (.inr (by decide))).trans ((State.rd_setF_ne _ _ _ _ _ _ (by decide)).trans (s.rd_pf0Cleared _))
  · obtain ⟨hsq, hcq, _⟩ := State.queues_reset ⟨q, hq⟩
    exact ⟨(State.flag_of_rd (rd_queue_flrPf0 (by unfold Reg.hifSqCfg; omega) (by unfold Reg.hifSqCfg; omega)) 31).trans hsq,
      (State.flag_of_rd (rd_queue_flrPf0 (by unfold Reg.hifCqCfg; omega) (by unfold Reg.hifCqCfg; omega)) 31).trans hcq⟩
  · rw [hhif] at he
    exact List.of_mem_filter he

theorem flrPf1_shows : ∃ t, exec .pcieFlrPf1 s = .next t ∧ t.hif.d3Pf1 = false ∧ (∀ o ∈ t.clasp.owed, o.1 ≠ 33) ∧ t.ss = s.ss ∧ t.hbm = s.hbm ∧
    t.eng = s.eng := by
  obtain ⟨v, hhif⟩ := s.hif_flrPf1
  obtain ⟨tr, nd, hclasp⟩ := s.flrPf1_mailStep.clasp
  refine ⟨_, rfl, congrArg Hif.d3Pf1 hhif, fun o ho => ?_, s.mem_flrPf1⟩
  rw [hclasp] at ho
  exact of_decide_eq_true (Option.mem_filter_iff.mp ho).2

theorem pcieReset_shows : ∃ t, exec .pcieConventionalReset s = .next t ∧ t.getF Reg.hifVer 31 24 = 0 ∧ t.hif.d3Pf0 = false ∧
    t.hif.d3Pf1 = false ∧ t.hif.linkDown = false ∧ t.ss = s.ss ∧ t.hbm = s.hbm ∧ t.eng = s.eng := by
  obtain ⟨_, hhif0⟩ := s.hif_flrPf0
  obtain ⟨_, hhif1⟩ := s.flrPf0.hif_flrPf1
  obtain ⟨hss, hhbm, heng⟩ := s.flrPf0.mem_flrPf1
  obtain ⟨hss0, hhbm0, heng0⟩ := s.mem_flrPf0
  refine ⟨_, rfl, ?_, ?_, congrArg Hif.d3Pf1 hhif1, rfl, hss.trans hss0, hhbm.trans hhbm0, heng.trans heng0⟩
  · exact (State.getF_of_rd (s.flrPf0.flrPf1_mailStep.regs Reg.hifVer (.inr (by decide))) 31 24).trans s.hostVersion_flrPf0
  · exact (congrArg Hif.d3Pf0 hhif1).trans (congrArg Hif.d3Pf0 hhif0)

/-- A function that returns keeps its power state as the return leaves it. -/
theorem power_resume (awake : Hif → Hif) (hkept : ∀ h held cnt v pme, awake { h with held := held, evtCount := cnt, vec := v, pmeStatus := pme } =
      { awake h with held := held, evtCount := cnt, vec := v, pmeStatus := (awake { h with pmeStatus := pme }).pmeStatus }) :
    (s.resume awake).hif.holding = (awake s.hif).holding ∧ (s.resume awake).hif.d3Pf0 = (awake s.hif).d3Pf0 ∧
      (s.resume awake).hif.d3Pf1 = (awake s.hif).d3Pf1 ∧ (s.resume awake).hif.linkDown = (awake s.hif).linkDown ∧
      (s.resume awake).hif.pmeEn = (awake s.hif).pmeEn := by
  obtain ⟨r, held, cnt, v, pme, o, hdrain⟩ := (s.drainFor_entryStep (awake s.hif)).rest
  have hwoken := State.wake_entryStep { s.drainFor (awake s.hif) with hif := awake (s.drainFor (awake s.hif)).hif }
  obtain ⟨hd3, hd3Pf1, hdown, hpme⟩ := hwoken.power
  have hhif : awake (s.drainFor (awake s.hif)).hif = { awake s.hif with
      held := held, evtCount := cnt, vec := v, pmeStatus := (awake { s.hif with pmeStatus := pme }).pmeStatus } := by
    rw [hdrain]
    exact hkept _ _ _ _ _
  have hholding := congrArg Hif.holding hhif
  have hd3' := congrArg Hif.d3Pf0 hhif
  have hd3Pf1' := congrArg Hif.d3Pf1 hhif
  have hdown' := congrArg Hif.linkDown hhif
  have hpme' := congrArg Hif.pmeEn hhif
  exact ⟨hwoken.holding.trans hholding, hd3.trans hd3', hd3Pf1.trans hd3Pf1', hdown.trans hdown', hpme.trans hpme'⟩

/-- What waited is sent when PF0 writes again. -/
theorem resume_sends (awake : Hif → Hif) (hwoken : ∀ h, (awake h).holding = false) (hheld : ∀ h, (awake h).held = h.held) :
    (s.resume awake).HeldStuck ∧ ∀ v, v < 120 → ((s.resume awake).hif.vecAt v).count = 0 := by
  have hstuck := s.drainFor_stuck (hwoken s.hif)
  have hset : State.HeldStuck { s.drainFor (awake s.hif) with hif := awake (s.drainFor (awake s.hif)).hif } :=
    hstuck.congr (hheld _) fun _ _ => rfl
  exact ⟨hset.wake (hwoken _), fun v hv => State.count_wake (hwoken _) hv⟩

/-- What a return of PF0 to D0 leaves of its power state. -/
def wokenPf0 (en clr : Bool) (h : Hif) : Hif :=
  { ({ h with turnedOff := false, l2 := false, linkDown := false } : Hif).pmcsr en clr with d3Pf0 := false }

/-- What a return of PF1 to D0 leaves. -/
def wokenPf1 (h : Hif) : Hif := { h with turnedOff := false, l2 := false, linkDown := false, d3Pf1 := false }

/-- What a link that returns leaves. -/
def linkedAgain (h : Hif) : Hif := { h with linkDown := false, turnedOff := false, l2 := false }

theorem d0Return_pf0 (en clr : Bool) : exec (.d0Return false en clr) s = .next (s.resume (wokenPf0 en clr)) := rfl

theorem d0Return_pf1 (en clr : Bool) : exec (.d0Return true en clr) s = .next (s.resume wokenPf1) := rfl

theorem linkReturns : exec (.pcieLinkLoss true) s = .next (s.resume linkedAgain) := rfl

theorem d0Return_shows (en clr : Bool) : ∃ t, exec (.d0Return false en clr) s = .next t ∧ t.hif.holding = false ∧
    (∀ e ∈ t.hif.held, t.cqReady e.cq = false) ∧ (∀ v, v < 120 → (t.hif.vecAt v).count = 0) ∧ t.hif.pmeEn = en := by
  obtain ⟨hholding, _, _, _, hpme⟩ := power_resume (s := s) (wokenPf0 en clr) fun _ _ _ _ _ => rfl
  obtain ⟨hstuck, hcount⟩ := resume_sends (s := s) (wokenPf0 en clr) (fun _ => rfl) fun _ => rfl
  exact ⟨_, d0Return_pf0 en clr, hholding, hstuck, hcount, hpme⟩

theorem d0ReturnPf1_shows (en clr : Bool) : ∃ t, exec (.d0Return true en clr) s = .next t ∧ t.hif.d3Pf1 = false ∧
    t.hif.d3Pf0 = s.hif.d3Pf0 := by
  obtain ⟨_, hd3, hd3Pf1, _, _⟩ := power_resume (s := s) wokenPf1 fun _ _ _ _ _ => rfl
  exact ⟨_, d0Return_pf1 en clr, hd3Pf1, hd3⟩

theorem linkReturns_shows : ∃ t, exec (.pcieLinkLoss true) s = .next t ∧ t.hif.linkDown = false ∧ t.hif.d3Pf0 = s.hif.d3Pf0 := by
  obtain ⟨_, hd3, _, hdown, _⟩ := power_resume (s := s) linkedAgain fun _ _ _ _ _ => rfl
  exact ⟨_, linkReturns, hdown, hd3⟩

end Power

/-- Settles O57. That the link enters L2 after PME_TO_Ack, and PME_En and PME_Status at a power state write, are the model's reading (log entry
46); so is that the events held and pending survive a function-level reset (log entry 140). -/
theorem powerStatesHoldAndResets : Obligations.PowerStatesHoldAndResets := by
  unfold Obligations.PowerStatesHoldAndResets
  intro s en clr
  exact ⟨rfl, rfl, rfl, d0Return_shows en clr, d0ReturnPf1_shows en clr, rfl, linkReturns_shows, flrPf0_shows, flrPf1_shows, pcieReset_shows⟩

end Sys2Proof.Machine

namespace Sys2Proof.Machine

/-! ### Clasp's reply (R493) -/

/-- t is s after a reply of Clasp's was sent or stayed owed: the registers, the vectors, what Clasp owes and has waiting, and what is sent may
differ, and of the registers those of the mailboxes and above alone. -/
structure State.ReplyStep (s t : State) : Prop where
  rest : ∃ r v tr ow o, t = { s with
    reg := r, hif := { s.hif with vec := v }, clasp := { s.clasp with trig := tr, owed := ow }, outbox := o }
  regs : ∀ off, off < 0x20000 → t.rd off = s.rd off

namespace State
namespace ReplyStep

theorem refl (s : State) : s.ReplyStep s := ⟨⟨_, _, _, _, _, rfl⟩, fun _ _ => rfl⟩

theorem trans {s t u : State} (h1 : s.ReplyStep t) (h2 : t.ReplyStep u) : s.ReplyStep u := by
  refine ⟨?_, fun off ho => (h2.regs off ho).trans (h1.regs off ho)⟩
  obtain ⟨_, _, _, _, _, rfl⟩ := h1.rest
  obtain ⟨r, v, tr, ow, o, rfl⟩ := h2.rest
  exact ⟨r, v, tr, ow, o, rfl⟩

theorem ite {s t u : State} {c : Prop} [Decidable c] (ht : s.ReplyStep t) (hu : s.ReplyStep u) : s.ReplyStep (if c then t else u) := by
  split
  · exact ht
  · exact hu

theorem of_rest (s : State) (v tr ow o) : s.ReplyStep { s with
    hif := { s.hif with vec := v }, clasp := { s.clasp with trig := tr, owed := ow }, outbox := o } := ⟨⟨_, _, _, _, _, rfl⟩, fun _ _ => rfl⟩

theorem wr (s : State) {off : Nat} (v : Word) (h : 0x20000 ≤ off) : s.ReplyStep (s.wr off v) :=
  ⟨⟨_, _, _, _, _, rfl⟩, fun i hi => s.rd_wr_ne off i v (by omega)⟩

theorem setVec (s : State) (v : SMap Vec) (o : List Output) : s.ReplyStep { s with hif := { s.hif with vec := v }, outbox := o } :=
  of_rest s v s.clasp.trig s.clasp.owed o

theorem requestVec (s : State) (v : Nat) : s.ReplyStep (s.requestVec v) :=
  ite (refl s) (ite (setVec s _ _) (ite ((setVec s _ s.outbox).trans (setVec _ _ _)) (setVec s _ _)))

theorem notify (s : State) (n : Nat) (dst : MbxEnd) (k : Notice) : s.ReplyStep (s.notify n dst k) := by
  have hevc (g src : Nat) : s.ReplyStep (s.evcSet g src) := ite (wr s _ (by unfold Reg.evcPend; omega)) (refl s)
  have hpf1 (v : Nat) : s.ReplyStep (s.requestPf1 v) := ite (setVec s _ _) (setVec s s.hif.vec _)
  exact ite (hevc _ _) (ite (ite (requestVec s _) (refl s)) (ite (ite (hpf1 0) (ite (hpf1 1) (ite (hpf1 2) (refl s)))) (refl s)))

theorem mbxPost (s : State) (n : Nat) : s.ReplyStep (s.mbxPost n) := by
  have hsts : 0x20000 ≤ Reg.mbxSts n := by unfold Reg.mbxSts; omega
  have htold : s.ReplyStep (((s.setB (Reg.mbxSts n) 31 true).addWrap (Reg.mbxSts n) 15 0 1).notify n (s.mbxReceiver n) .receive) :=
    ((wr s _ hsts).trans (wr _ _ hsts)).trans (notify _ _ _ _)
  exact ite (htold.trans (of_rest _ _ _ _ _)) htold

theorem sendOwed (s : State) : s.ReplyStep s.sendOwed := by
  have hwords (n : Nat) (word : Nat → Word) : s.ReplyStep { s with
      clasp := { s.clasp with owed := none }
      reg := (List.range 16).foldl (fun m k => SMap.set resetWord m (Reg.mbxData n k) (word k)) s.reg } := by
    refine ⟨⟨_, _, _, _, _, rfl⟩, fun off ho => SMap.get_foldl_set_ne _ _ word _ _ _ fun k _ => ?_⟩
    unfold Reg.mbxData
    omega
  unfold State.sendOwed
  split
  · exact refl s
  · exact ite (refl s) ((hwords _ _).trans (mbxPost _ _))

end ReplyStep
end State

/-! ### Device reset and its end (R532-R535) -/

section Boot
variable {s : State}

namespace State

/-- Of the registers a device reset leaves SYS_TWIN_STS.in as the input drives it (R546). -/
theorem rd_deviceReset (s : State) {off : Nat} (h : off ≠ Reg.clsSts) : s.deviceReset.rd off = (State.reset.setB Reg.sysTwinSts 31 s.twinIn).rd off :=
  (rd_setF_ne _ _ _ _ _ _ h).trans ((rd_setB_ne _ _ _ _ _ h).trans ((rd_setB_ne _ _ _ _ _ h).trans (rd_setB_ne _ _ _ _ _ h)))

theorem sys_showCls (s : State) : s.showCls.sys = s.sys := rfl

theorem clasp_showCls (s : State) : s.showCls.clasp = s.clasp := rfl

theorem sys_setB (s : State) (off b : Nat) (v : Bool) : (s.setB off b v).sys = s.sys := rfl

theorem clasp_setB (s : State) (off b : Nat) (v : Bool) : (s.setB off b v).clasp = s.clasp := rfl

/-- The flash outlives a device reset (R532). -/
theorem sys_deviceReset (s : State) : s.deviceReset.sys = { Sys.reset with flash := s.sys.flash } := by
  unfold deviceReset
  rw [sys_showCls, sys_setB]

/-- The fuses outlive a device reset (R497, R532). -/
theorem clasp_deviceReset (s : State) : s.deviceReset.clasp = { Clasp.reset with
    fusedClaimed := s.clasp.fusedClaimed, gen := s.clasp.gen, minClasp := s.clasp.minClasp, minSpine := s.clasp.minSpine
    raisesClasp := s.clasp.raisesClasp, raisesSpine := s.clasp.raisesSpine } := by
  unfold deviceReset
  rw [clasp_showCls, clasp_setB]

theorem claimed_deviceReset (s : State) : s.deviceReset.claimed = false :=
  (flag_of_rd (s.rd_deviceReset (by decide)) 30).trans ((flag_setB_apart _ _ _ _ _ (by decide) (by decide)).trans (by decide))

theorem twinIn_deviceReset (s : State) : s.deviceReset.twinIn = s.twinIn :=
  (flag_of_rd (s.rd_deviceReset (by decide)) 31).trans (flag_setB_same _ _ _ _ (by decide))

/-- The word the straps are read into (R534). -/
def strapWord (st : Straps) : Word := BitVec.ofNat 32 (b2n st.twinPrio * 4 + b2n st.svcMode * 2 + b2n st.bootSrc)

theorem bit_strapWord (st : Straps) : bit (strapWord st) 0 = st.bootSrc ∧ bit (strapWord st) 1 = st.svcMode ∧ bit (strapWord st) 2 = st.twinPrio := by
  have hword : ∀ b m p : Bool, bit (BitVec.ofNat 32 (b2n p * 4 + b2n m * 2 + b2n b)) 0 = b ∧
      bit (BitVec.ofNat 32 (b2n p * 4 + b2n m * 2 + b2n b)) 1 = m ∧ bit (BitVec.ofNat 32 (b2n p * 4 + b2n m * 2 + b2n b)) 2 = p := by decide
  exact hword _ _ _

theorem clasp_setF (s : State) (off hi lo v : Nat) : (s.setF off hi lo v).clasp = s.clasp := rfl

theorem sys_domainWrites (l : List Nat) (s : State) : (l.foldl (fun s i => s.domainWrite false i 0 0xC) s).sys = s.sys := by
  induction l generalizing s with
  | nil => rfl
  | cons i l ih => exact ih _

theorem sys_setReady (l : List Nat) (s : State) : (l.foldl (fun s p => s.setB (Reg.hbmPcSts p) 31 true) s).sys = s.sys := by
  induction l generalizing s with
  | nil => rfl
  | cons i l ih => exact ih _

/-- Stage 0 before the pseudo-channels are trained: nonce, keys, the granules of the Spine and of the host boot area (R495, R535). -/
def stage0Opened (s : State) : State :=
  let nonce := Config.random s.free 8
  let s1 := (s.wr (Reg.clsNonce 0) (BitVec.ofNat 32 (leAt nonce 0 4))).wr (Reg.clsNonce 1) (BitVec.ofNat 32 (leAt nonce 4 4))
  let s2 := { s1.bumpFree with
    hbmGen := s1.hbmGen + 1
    clasp := { s1.clasp with vendorGranules := if s.hostBoot then hostGranules ++ spineGranules else spineGranules } }
  if s.hostBoot then hostGranules.foldl (fun s i => s.domainWrite false i 0 0xC) s2 else s2

theorem claspStage0_eq (s : State) : s.claspStage0 =
    ((List.range 64).foldl (fun s p => s.setB (Reg.hbmPcSts p) 31 true) s.stage0Opened).setF Reg.sysBoot 31 28 (if s.hostBoot then 2 else 1) := rfl

theorem rd_stage0Opened (s : State) {off : Nat} (h : off < 0x10000) : s.stage0Opened.rd off = s.rd off := by
  have hnonce (i : Nat) : off ≠ Reg.clsNonce i := by unfold Reg.clsNonce; omega
  have hgranule (i : Nat) : off ≠ Reg.memDomSs i := by unfold Reg.memDomSs; omega
  have hone (t : State) (i : Nat) : (t.domainWrite false i 0 0xC).rd off = t.rd off := t.rd_wr_ne _ _ _ (hgranule i)
  have hdom (l : List Nat) (t : State) : (l.foldl (fun s i => s.domainWrite false i 0 0xC) t).rd off = t.rd off :=
    rd_foldl _ off hone l t
  unfold stage0Opened
  dsimp only
  split
  · exact (hdom _ _).trans ((rd_wr_ne _ _ _ _ (hnonce 1)).trans (rd_wr_ne _ _ _ _ (hnonce 0)))
  · exact (rd_wr_ne _ _ _ _ (hnonce 1)).trans (rd_wr_ne _ _ _ _ (hnonce 0))

theorem sys_stage0Opened (s : State) : s.stage0Opened.sys = s.sys := by
  unfold stage0Opened
  dsimp only
  split
  · exact sys_domainWrites _ _
  · rfl

theorem rd_claspStage0 (s : State) {off : Nat} (h : off < 0x10000) (hne : off ≠ Reg.sysBoot) : s.claspStage0.rd off = s.rd off := by
  rw [claspStage0_eq, rd_setF_ne _ _ _ _ _ _ hne]
  exact (rd_foldl _ off (fun s p => s.rd_setB_ne _ _ _ _ (by unfold Reg.hbmPcSts; omega)) _ _).trans (s.rd_stage0Opened h)

theorem sys_claspStage0 (s : State) : s.claspStage0.sys = s.sys := by
  rw [claspStage0_eq, setF_sys, sys_setReady, sys_stage0Opened]

theorem flag_setReady (s : State) (n p : Nat) (hp : p < n) :
    ((List.range n).foldl (fun s p => s.setB (Reg.hbmPcSts p) 31 true) s).flag (Reg.hbmPcSts p) 31 = true := by
  induction n with
  | zero => omega
  | succ n ih =>
    rw [List.range_succ, List.foldl_append, List.foldl_cons, List.foldl_nil]
    by_cases hlast : p = n
    · rw [hlast]
      exact flag_setB_same _ _ _ _ (by decide)
    · have hne : Reg.hbmPcSts p ≠ Reg.hbmPcSts n := by unfold Reg.hbmPcSts; omega
      exact (flag_of_rd (rd_setB_ne _ _ _ _ _ hne) 31).trans (ih (by omega))

theorem ready_claspStage0 (s : State) {p : Nat} (hp : p < 64) : s.claspStage0.flag (Reg.hbmPcSts p) 31 = true := by
  have hne : Reg.hbmPcSts p ≠ Reg.sysBoot := by unfold Reg.hbmPcSts Reg.sysBoot; omega
  exact (flag_of_rd (rd_setF_ne _ _ _ _ _ _ hne) 31).trans (flag_setReady _ 64 p hp)

theorem step_claspStage0 (s : State) : s.claspStage0.getF Reg.sysBoot 31 28 = if s.hostBoot then 2 else 1 := by
  rw [claspStage0_eq]
  refine getF_setF_same _ _ _ _ _ (by decide) ?_
  split <;> decide

end State

theorem deviceReset_shows (r : Fin 9) : ∃ t, exec (.railInvalid r) s = .next t ∧ exec .sysResetAssert s = .next t ∧
    exec .testEnHigh s = .next t ∧ t.sys.inReset = true ∧ t.eng = [] ∧ t.ss = [] ∧ t.sys.flash = s.sys.flash ∧ t.clasp.gen = s.clasp.gen ∧
    t.clasp.fusedClaimed = s.clasp.fusedClaimed ∧ t.clasp.owner = none ∧ t.claimed = false ∧ t.twinIn = s.twinIn := by
  refine ⟨s.deviceReset, rfl, rfl, rfl, rfl, rfl, rfl, ?_, ?_, ?_, rfl, s.claimed_deviceReset, s.twinIn_deviceReset⟩
  · rw [s.sys_deviceReset]
  · rw [s.clasp_deviceReset]
  · rw [s.clasp_deviceReset]

theorem deviceResetEnd_held (st : Straps) (h : s.sys.inReset = false ∨ st.testEn = true) : exec (.deviceResetEnd st) s = .next s := by
  have hheld : ¬ (s.sys.inReset && !st.testEn) = true := by
    rcases h with h | h <;> simp [h]
  exact congrArg _ (if_neg hheld)

theorem deviceResetEnd_shows (st : Straps) (hin : s.sys.inReset = true) (hte : st.testEn = false) : ∃ t, exec (.deviceResetEnd st) s = .next t ∧
    t.sys.inReset = false ∧ t.hostBoot = st.bootSrc ∧ t.svcMode = st.svcMode ∧ t.twinPrio = st.twinPrio ∧
    t.getF Reg.sysBoot 31 28 = (if st.bootSrc then 2 else 1) ∧ ∀ p, p < 64 → t.flag (Reg.hbmPcSts p) 31 = true := by
  obtain ⟨hsrc, hsvc, hprio⟩ := State.bit_strapWord st
  let u : State := State.wr { s with sys := { s.sys with inReset := false } } Reg.sysStrap (State.strapWord st)
  have hstrap : u.claspStage0.rd Reg.sysStrap = State.strapWord st :=
    (u.rd_claspStage0 (by decide) (by decide)).trans (State.rd_wr_same _ _ _)
  have hboot : u.hostBoot = st.bootSrc := (congrArg (bit · 0) (State.rd_wr_same _ _ _)).trans hsrc
  have hrun : exec (.deviceResetEnd st) s = .next u.claspStage0 := by
    change execDeviceResetEnd st s = _
    unfold execDeviceResetEnd
    rw [if_pos (by simp [hin, hte])]
    rfl
  have hsys : u.claspStage0.sys.inReset = false := by rw [u.sys_claspStage0]; rfl
  refine ⟨u.claspStage0, hrun, hsys, ?_, ?_, ?_, ?_, fun p hp => u.ready_claspStage0 hp⟩
  · exact (congrArg (bit · 0) hstrap).trans hsrc
  · exact (congrArg (bit · 1) hstrap).trans hsvc
  · exact (congrArg (bit · 2) hstrap).trans hprio
  · rw [u.step_claspStage0, hboot]

/-! ### Images and the Spine (R495, R535-R540) -/

namespace State

theorem step_bootFail (s : State) (err : Nat) : (s.bootFail err).getF Reg.sysBoot 31 28 = 0xF := getF_setF_same _ _ _ _ _ (by decide) (by decide)

theorem error_bootFail (s : State) {err : Nat} (h : err < 256) : (s.bootFail err).getF Reg.clsSts 23 16 = err :=
  (getF_of_rd (rd_setF_ne _ _ _ _ _ _ (by decide)) 23 16).trans (getF_setF_same _ _ _ _ _ (by decide) h)

/-- The configuration writes of the secure channels change no other register. -/
theorem rd_runClasp (s : State) (i : Image) {off : Nat} (h : off < 0x20000) : (s.runClasp i).rd off =
    ((((s.raiseClasp i).setF Reg.clsVer 15 0 i.version).setF Reg.clsSts 31 29 1).setF Reg.sysBoot 31 28 3).rd off := by
  have hcfg (n : Nat) : off ≠ Reg.mbxCfg n := by unfold Reg.mbxCfg; omega
  unfold runClasp
  rw [rd_wr_ne _ _ _ _ (hcfg 36), rd_wr_ne _ _ _ _ (hcfg 35), rd_wr_ne _ _ _ _ (hcfg 34), rd_wr_ne _ _ _ _ (hcfg 33),
    rd_wr_ne _ _ _ _ (hcfg 32)]
  rfl

theorem runClasp_shows (s : State) (i : Image) : (s.runClasp i).getF Reg.sysBoot 31 28 = 3 ∧
    (s.runClasp i).getF Reg.clsVer 15 0 = i.version % 2 ^ 16 ∧ (s.runClasp i).getF Reg.clsSts 31 29 = 1 := by
  refine ⟨?_, ?_, ?_⟩
  · exact (getF_of_rd (s.rd_runClasp i (by decide)) 31 28).trans (getF_setF_same _ _ _ _ _ (by decide) (by decide))
  · refine (getF_of_rd (s.rd_runClasp i (by decide)) 15 0).trans ?_
    rw [getF, rd_setF_ne _ _ _ _ _ _ (by decide), rd_setF_ne _ _ _ _ _ _ (by decide), setF, rd_wr_same]
    exact fld_putFld_same _ _ _ _ (by decide)
  · refine (getF_of_rd (s.rd_runClasp i (by decide)) 31 29).trans ?_
    exact (getF_of_rd (rd_setF_ne _ _ _ _ _ _ (by decide)) 31 29).trans (getF_setF_same _ _ _ _ _ (by decide) (by decide))

theorem placeSpine_shows (s : State) (i : Image) : (s.placeSpine i).getF Reg.sysBoot 31 28 = 4 ∧ (s.placeSpine i).getF Reg.clsSts 31 29 = 2 ∧
    (s.placeSpine i).clasp.spineHash = i.hash := by
  refine ⟨getF_setF_same _ _ _ _ _ (by decide) (by decide), ?_, ?_⟩
  · exact (getF_of_rd (rd_setF_ne _ _ _ _ _ _ (by decide)) 31 29).trans (getF_setF_same _ _ _ _ _ (by decide) (by decide))
  · have hdom (l : List Nat) (t : State) : (l.foldl (fun s g => s.wr (Reg.memDomSs g) 0x10) t).clasp = t.clasp := by
      induction l generalizing t with
      | nil => rfl
      | cons g l ih => exact ih _
    unfold placeSpine
    dsimp only
    split
    · rw [clasp_setF, clasp_setF, hdom]
    · rfl

end State

theorem imageErr_lt (m : Option Image) (least : Nat) : imageErr m least < 256 := by
  unfold imageErr
  repeat' split
  all_goals decide

/-- A directory whose Clasp image is sound is used (R495). -/
theorem tryClasp_sound {host again : Bool} {code : Nat} {d : List Byte} {ds : List (Nat × List Byte)} {i : Image} (hi : s.claspImage host d = some i)
    (hok : imageErr (some i) s.clasp.minClasp = 0) : s.tryClasp host again ((code, d) :: ds) = (s.useDir code d again).runClasp i := by
  unfold State.tryClasp
  simp only [hi, hok]

/-- The only directory's unsound Clasp image is the boot's error (R495). -/
theorem tryClasp_unsound {host again : Bool} {code : Nat} {d : List Byte} {i : Image} (hi : s.claspImage host d = some i)
    (hbad : imageErr (some i) s.clasp.minClasp ≠ 0) (hfirst : s.sys.bootErr = 0) : s.tryClasp host again [(code, d)] =
      State.bootFail { s with sys := { s.sys with bootErr := imageErr (some i) s.clasp.minClasp } } (imageErr (some i) s.clasp.minClasp) := by
  unfold State.tryClasp
  simp only [hi, hfirst, if_true]
  split
  · next h => exact absurd h hbad
  · unfold State.tryClasp
    simp only [hbad, if_false]

theorem claspImageCheck_shows : ∃ t, exec .claspImageCheck s = .next t ∧
    (s.clasp.alive = false ∨ s.getF Reg.sysBoot 31 28 ≠ 1 → t = s) ∧
    (∀ i, s.clasp.alive = true → s.getF Reg.sysBoot 31 28 = 1 → s.hostBoot = true → s.claspImage true s.sys.bootDir = some i →
      (imageErr (some i) s.clasp.minClasp = 0 → t.getF Reg.sysBoot 31 28 = 3 ∧ t.getF Reg.clsVer 15 0 = i.version % 2 ^ 16 ∧
        t.getF Reg.clsSts 31 29 = 1) ∧
      (imageErr (some i) s.clasp.minClasp ≠ 0 → s.sys.bootErr = 0 → t.getF Reg.sysBoot 31 28 = 0xF ∧
        t.getF Reg.clsSts 23 16 = imageErr (some i) s.clasp.minClasp)) := by
  refine ⟨_, rfl, fun h => if_neg ?_, fun i halive hstep hhost hi => ?_⟩
  · rcases h with h | h <;> simp [h]
  · rw [if_pos (by simp [halive, hstep]), hhost, if_pos rfl]
    refine ⟨fun hok => ?_, fun hbad hfirst => ?_⟩
    · rw [tryClasp_sound hi hok]
      exact State.runClasp_shows _ _
    · rw [tryClasp_unsound hi hbad hfirst]
      exact ⟨State.step_bootFail _ _, State.error_bootFail _ (imageErr_lt _ _)⟩

theorem spineRelease_shows : ∃ t, exec .spineRelease s = .next t ∧
    (s.clasp.alive = false ∨ s.getF Reg.sysBoot 31 28 ≠ 3 → t = s) ∧
    (∀ i, s.clasp.alive = true → s.getF Reg.sysBoot 31 28 = 3 → s.spineImage s.hostBoot s.sys.bootDir = some i →
      imageErr (some i) s.clasp.minSpine = 0 → t.getF Reg.sysBoot 31 28 = 4 ∧ t.getF Reg.clsSts 31 29 = 2 ∧ t.clasp.spineHash = i.hash) := by
  refine ⟨_, rfl, fun h => if_neg ?_, fun i halive hstep hi hok => ?_⟩
  · rcases h with h | h <;> simp [h]
  · have hplaced : s.spineRelease = s.placeSpine i := by
      unfold State.spineRelease
      simp only [hi, hok]
    rw [if_pos (by simp [halive, hstep]), hplaced]
    exact s.placeSpine_shows i

theorem spineReady_shows : ∃ t, exec .spineReady s = .next t ∧ (s.getF Reg.sysBoot 31 28 ≠ 4 → t = s) ∧
    (s.getF Reg.sysBoot 31 28 = 4 → s.hif.running = none → t.sys.spineUp = true ∧ t.getF Reg.sysBoot 31 28 = 5 ∧ t.flag Reg.sysMap 0 = true) := by
  refine ⟨_, rfl, fun h => if_neg h, fun hstep hnone => ?_⟩
  rw [if_pos hstep, hnone]
  refine ⟨rfl, State.getF_setF_same _ _ _ _ _ (by decide) (by decide), ?_⟩
  have hremap : (s.setB Reg.sysMap 0 true).flag Reg.sysMap 0 = true := State.flag_setB_same _ _ _ _ (by decide)
  exact (State.flag_of_rd (State.rd_setF_ne _ _ _ _ _ _ (by decide)) 0).trans hremap

theorem bootDirPoll_shows : ∃ t, exec .bootDirPoll s = .next t ∧
    (s.getF Reg.sysBoot 31 28 ≠ 2 ∨ s.now < s.sys.polledAt + msNs → t = s) ∧
    (s.clasp.alive = true → s.getF Reg.sysBoot 31 28 = 2 → s.sys.polledAt + msNs ≤ s.now → dirValid true (s.bootBytes true 0 64) = false →
      t = { s with sys := { s.sys with polledAt := s.now } }) ∧
    (s.clasp.alive = true → s.getF Reg.sysBoot 31 28 = 2 → s.sys.polledAt + msNs ≤ s.now → dirValid true (s.bootBytes true 0 64) = true →
      t.getF Reg.sysBoot 31 28 = 1 ∧ t.sys.bootDir = s.bootBytes true 0 64) := by
  refine ⟨_, rfl, fun h => if_neg ?_, fun halive hstep hdue hbad => ?_, fun halive hstep hdue hgood => ?_⟩
  · rcases h with h | h
    · simp [h]
    · simp [Nat.not_le.mpr h]
  · rw [if_pos (by simp [halive, hstep, hdue]), if_neg (by simp [hbad])]
  · rw [if_pos (by simp [halive, hstep, hdue]), if_pos hgood]
    exact ⟨State.getF_setF_same _ _ _ _ _ (by decide) (by decide), rfl⟩

/-- The watchdog's restart counts and goes back to the placed Spine (R540); what is told of it leaves SYS_BOOT as it is. -/
theorem rd_watchdogTold (u : State) (detail : Nat) : ((u.mbxReset ⟨2, 0⟩).sendOwed.hostEvent 0x15 detail).rd Reg.sysBoot = u.rd Reg.sysBoot :=
  ((State.PlaneKept.hostEvent _ _ _).rd (by decide)).trans
    (((State.ReplyStep.sendOwed _).regs _ (by decide)).trans ((State.MailStep.mbxReset _ _).regs _ (.inl (by decide))))

theorem watchdogExpiry_shows : ∃ t, exec .watchdogExpiry s = .next t ∧
    (s.sys.spineUp = true ∨ s.getF Reg.sysBoot 31 28 ≠ 5 ∨ s.now < s.sys.spineTick + 50 * msNs → t = s) ∧
    (s.sys.spineUp = false → s.getF Reg.sysBoot 31 28 = 5 → s.sys.spineTick + 50 * msNs ≤ s.now →
      t.getF Reg.sysBoot 31 28 = (if s.spineIntact then 4 else 0xF) ∧
      t.getF Reg.sysBoot 23 16 = min 255 (s.getF Reg.sysBoot 23 16 + 1)) := by
  refine ⟨_, rfl, fun h => if_neg ?_, fun hdown hstep hdue => ?_⟩
  · rcases h with h | h | h
    · simp [h]
    · exact fun hc => h hc.1
    · exact fun hc => absurd hc.2.2 (Nat.not_le.mpr h)
  · rw [if_pos ⟨hstep, by simp [hdown], hdue⟩]
    have hcount : ((s.addSat Reg.sysBoot 23 16 1).setF Reg.sysBoot 31 28 4).getF Reg.sysBoot 23 16 = min 255 (s.getF Reg.sysBoot 23 16 + 1) := by
      rw [State.getF_setF_apart _ _ _ _ _ _ _ (by decide) (by decide), State.addSat_value _ _ _ _ _ (by decide), Nat.min_comm]
      rfl
    have htold (hi lo detail : Nat) := State.getF_of_rd
      (rd_watchdogTold ((s.addSat Reg.sysBoot 23 16 1).setF Reg.sysBoot 31 28 4) detail) hi lo
    dsimp only
    split
    · exact ⟨(htold 31 28 _).trans (State.getF_setF_same _ _ _ _ _ (by decide) (by decide)), (htold 23 16 _).trans hcount⟩
    · refine ⟨State.step_bootFail _ _, ?_⟩
      refine (State.getF_setF_apart _ _ _ _ _ _ _ (by decide) (by decide)).trans ?_
      rw [State.getF, State.rd_setF_ne _ _ _ _ _ _ (by decide), State.rd_setF_ne _ _ _ _ _ _ (by decide)]
      exact (htold 23 16 _).trans hcount

theorem spineStop_shows (cmd : Option (Fin 64 × BitVec 16)) : ∃ t, exec (.spineStop cmd) s = .next t ∧ t.sys.spineUp = false ∧ t.eng = s.eng ∧
    t.ss = s.ss ∧ t.outbox = s.outbox := by
  refine ⟨_, rfl, ?_⟩
  cases hup : s.sys.spineUp with
  | false => exact ⟨hup, rfl, rfl, rfl⟩
  | true =>
    match cmd with
    | none => exact ⟨rfl, rfl, rfl, rfl⟩
    | some (q, id) =>
      dsimp only
      rw [if_pos rfl]
      split
      · exact ⟨rfl, rfl, rfl, rfl⟩
      · exact ⟨rfl, rfl, rfl, rfl⟩

end Boot

/-- Settles O59. What ends device reset and what it keeps are the model's reading (log entry 142), as are the errors a boot and the watchdog's
check report (log entry 143). -/
theorem bootSequence : Obligations.BootSequence := by
  unfold Obligations.BootSequence
  intro r s
  exact ⟨deviceReset_shows r, deviceResetEnd_held, deviceResetEnd_shows, claspImageCheck_shows, spineRelease_shows, spineReady_shows,
    bootDirPoll_shows, watchdogExpiry_shows, spineStop_shows, rfl⟩

end Sys2Proof.Machine

namespace Sys2Proof.Machine

/-! ### Clasp takes a command (R493) -/

section Take
variable {side : ClaspSide} {s s0 s1 : State} {e : Envelope} {code r : Nat} {bs : List Byte}

/-- The state a command of a side runs on: its trigger taken from the queue and its channel drained. -/
def State.taken (s : State) (side : ClaspSide) : State :=
  State.mbxDrain { s with clasp := { s.clasp with trig := s.clasp.trig.tail } } (sideChannel side)

/-- The result of the check a side's command fails. -/
def State.checkResult (s : State) (side : ClaspSide) : Option Nat :=
  (s.taken side).claspFail side (s.envelope side) (s.rd (Reg.mbxData (sideChannel side) 0)).toNat
    ((List.range 15).all (fun k => s.rd (Reg.mbxData (sideChannel side) (k + 1)) == 0))

theorem claspRun_of_fail {n : Nat} {rest0 : Bool} (h : s0.claspFail side e n rest0 = some r) : s0.claspRun side e n rest0 = some (s0, r, []) := by
  rw [State.claspRun, h]
  rfl

theorem claspRun_of_wait {n : Nat} {rest0 : Bool} (h : s0.claspFail side e n rest0 = none) (heff : s0.claspEffect e = none) :
    s0.claspRun side e n rest0 = none := by
  rw [State.claspRun, h, heff]

/-- A command that passes has its effect; a signed one that is done consumes its sequence number. -/
theorem claspRun_of_pass {n : Nat} {rest0 : Bool} (h : s0.claspFail side e n rest0 = none) (heff : s0.claspEffect e = some (s1, r, bs)) :
    s0.claspRun side e n rest0 = some (if r = 0 then e.accepted s1 else s1, r, bs) := by
  simp only [State.claspRun, h, heff, Envelope.accepted]
  by_cases hr : r = 0 <;> by_cases hs : e.signer = 0xFF <;> simp [hr, hs]

/-- A command taken is replied to. -/
theorem claspTake_of_run (h : (s.taken side).claspRun side (s.envelope side) (s.rd (Reg.mbxData (sideChannel side) 0)).toNat
      ((List.range 15).all (fun k => s.rd (Reg.mbxData (sideChannel side) (k + 1)) == 0)) = some (s1, r, bs)) :
    s.claspTake side = (s.envelope side).replied side s1 r bs := by
  unfold State.claspTake
  dsimp only
  rw [show State.mbxDrain { s with clasp := { s.clasp with trig := s.clasp.trig.tail } } (sideChannel side) = s.taken side from rfl, h]
  rfl

/-- A command that must wait for memory leaves everything as it was. -/
theorem claspTake_of_wait (h : (s.taken side).claspRun side (s.envelope side) (s.rd (Reg.mbxData (sideChannel side) 0)).toNat
      ((List.range 15).all (fun k => s.rd (Reg.mbxData (sideChannel side) (k + 1)) == 0)) = none) : s.claspTake side = s := by
  unfold State.claspTake
  dsimp only
  rw [show State.mbxDrain { s with clasp := { s.clasp with trig := s.clasp.trig.tail } } (sideChannel side) = s.taken side from rfl, h]

theorem claspTake_of_fail (h : s.checkResult side = some r) : s.claspTake side = (s.envelope side).replied side (s.taken side) r [] :=
  claspTake_of_run (claspRun_of_fail h)

theorem claspTake_of_pass (h : s.checkResult side = none) (heff : (s.taken side).claspEffect (s.envelope side) = some (s1, r, bs)) :
    s.claspTake side = (s.envelope side).replied side (if r = 0 then (s.envelope side).accepted s1 else s1) r bs :=
  claspTake_of_run (claspRun_of_pass h heff)

theorem claspCommand_of_busy (h : s.claspReady side = false) (c : Option Nat) : s.claspCommand c side = s := if_neg (by simp [h])

theorem claspCommand_any (h : s.claspReady side = true) : s.claspCommand none side = s.claspTake side := if_pos (by simp [h])

theorem claspCommand_of_other (h : (s.envelope side).code ≠ code) : s.claspCommand (some code) side = s := if_neg (by simp [h])

theorem claspCommand_of_code (h : s.claspReady side = true) (hcode : (s.envelope side).code = code) :
    s.claspCommand (some code) side = s.claspTake side := if_pos (by simp [h, hcode])

/-! #### The checks -/

theorem claspFail_of_malformed {n : Nat} {rest0 : Bool} (h : e.malformed n rest0 = true) : s0.claspFail side e n rest0 = some 1 := if_pos h

/-- A signed command's checks after its form: freshness, signer and signature in this order. -/
theorem claspFail_signed {n : Nat} {rest0 : Bool} (h : e.malformed n rest0 = false) (hsigned : e.signer ≠ 0xFF) : s0.claspFail side e n rest0 =
    if (e.bytes.drop 4).take 8 ≠ s0.nonceBytes ∨ (e.bytes.drop 16).take 16 ≠ serialBytes ∨ e.seq < s0.nextSeq e.signer then some 3
    else (s0.signerKey e).elim (some 4) fun k =>
      if !Config.ecdsaVerify k (Config.sha384 (e.bytes.take (32 + e.len))) e.sig then some 2
      else if !signerOk e.code e.signer then some 4
      else none := by
  unfold State.claspFail
  rw [if_neg (by simp [h]), if_neg hsigned]
  cases s0.signerKey e with
  | none => rfl
  | some k => rfl

theorem claspFail_of_stale {n : Nat} {rest0 : Bool} (h : e.malformed n rest0 = false) (hsigned : e.signer ≠ 0xFF)
    (hstale : (e.bytes.drop 4).take 8 ≠ s0.nonceBytes ∨ (e.bytes.drop 16).take 16 ≠ serialBytes ∨ e.seq < s0.nextSeq e.signer) :
    s0.claspFail side e n rest0 = some 3 := (claspFail_signed h hsigned).trans (if_pos hstale)

theorem claspFail_of_noKey {n : Nat} {rest0 : Bool} (h : e.malformed n rest0 = false) (hsigned : e.signer ≠ 0xFF)
    (hfresh : ¬ ((e.bytes.drop 4).take 8 ≠ s0.nonceBytes ∨ (e.bytes.drop 16).take 16 ≠ serialBytes ∨ e.seq < s0.nextSeq e.signer))
    (hkey : s0.signerKey e = none) : s0.claspFail side e n rest0 = some 4 := by
  rw [claspFail_signed h hsigned, if_neg hfresh, hkey, Option.elim_none]

theorem claspFail_of_badSignature {n : Nat} {rest0 : Bool} {k : List Byte} (h : e.malformed n rest0 = false) (hsigned : e.signer ≠ 0xFF)
    (hfresh : ¬ ((e.bytes.drop 4).take 8 ≠ s0.nonceBytes ∨ (e.bytes.drop 16).take 16 ≠ serialBytes ∨ e.seq < s0.nextSeq e.signer))
    (hkey : s0.signerKey e = some k) (hsig : Config.ecdsaVerify k (Config.sha384 (e.bytes.take (32 + e.len))) e.sig = false) :
    s0.claspFail side e n rest0 = some 2 := by
  rw [claspFail_signed h hsigned, if_neg hfresh, hkey, Option.elim_some, if_pos (by simp [hsig])]

end Take

/-- Settles O53. That the form is checked first, then freshness, the signer and the signature, is the model's reading (log entry 128). -/
theorem claspChecksCommands : Obligations.ClaspChecksCommands := by
  unfold Obligations.ClaspChecksCommands
  rintro side s _ _ _ _ rfl rfl rfl rfl
  refine ⟨fun hbusy => congrArg _ (claspCommand_of_busy hbusy none), fun hready => ⟨fun r hfail => ?_, fun s1 r bs hpass heff => ?_, fun hcode => ?_⟩,
    claspFail_of_malformed, fun hform hsigned => ⟨claspFail_of_stale hform hsigned, fun hnonce hserial hseq => ?_⟩⟩
  · exact congrArg _ ((claspCommand_any hready).trans (claspTake_of_fail hfail))
  · exact congrArg _ ((claspCommand_any hready).trans (claspTake_of_pass hpass heff))
  · exact congrArg _ (claspCommand_of_other hcode)
  · refine ⟨claspFail_of_noKey hform hsigned ?_, fun k => claspFail_of_badSignature hform hsigned ?_⟩
    all_goals
      rintro (h | h | h)
      · exact h hnonce
      · exact h hserial
      · omega

end Sys2Proof.Machine

namespace Sys2Proof.Machine

/-! ### What a command asked of Clasp does (R493) -/

section Asked
variable {side : ClaspSide} {s s0 s1 : State} {e : Envelope} {code r : Nat} {bs : List Byte}

theorem asks_takes (h : s.claspAsks side code e s0) :
    e.code = code ∧ s.claspCommand (some code) side = s.claspTake side ∧ s.checkResult side = none ∧ s0 = s.taken side ∧ e = s.envelope side := by
  obtain ⟨hready, rfl, hcode, rfl, hpass⟩ := h
  exact ⟨hcode, claspCommand_of_code hready hcode, hpass, rfl, rfl⟩

theorem asks_runs (h : s.claspAsks side code e s0) (heff : e.code = code → s0.claspEffect e = some (s1, r, bs)) :
    s.claspCommand (some code) side = e.replied side (if r = 0 then e.accepted s1 else s1) r bs := by
  obtain ⟨hcode, htake, hpass, rfl, rfl⟩ := asks_takes h
  exact htake.trans (claspTake_of_pass hpass (heff hcode))

/-- A command that is done. -/
theorem asks_done (h : s.claspAsks side code e s0) (heff : e.code = code → s0.claspEffect e = some (s1, 0, bs)) :
    s.claspCommand (some code) side = e.replied side (e.accepted s1) 0 bs :=
  (asks_runs h heff).trans (by rw [if_pos rfl])

/-- A command that ends with another result than 0. -/
theorem asks_ends (h : s.claspAsks side code e s0) (hr : r ≠ 0) (heff : e.code = code → s0.claspEffect e = some (s1, r, bs)) :
    s.claspCommand (some code) side = e.replied side s1 r bs := (asks_runs h heff).trans (by rw [if_neg hr])

/-- A command that waits for memory. -/
theorem asks_waits (h : s.claspAsks side code e s0) (heff : e.code = code → s0.claspEffect e = none) : s.claspCommand (some code) side = s := by
  obtain ⟨hcode, htake, hpass, rfl, rfl⟩ := asks_takes h
  exact htake.trans (claspTake_of_wait (claspRun_of_wait hpass (heff hcode)))

/-! #### What the answer leaves of the effect -/

theorem putWindow_rest (s : State) (base : Nat) (bs : List Byte) : ∃ g, s.putWindow base bs = { s with reg := g } := by
  unfold State.putWindow
  dsimp only
  generalize List.range (ceilDiv bs.length 4) = l
  generalize bs ++ (s.windowBytes base (4 * ceilDiv bs.length 4)).drop bs.length = all
  induction l generalizing s with
  | nil => exact ⟨_, rfl⟩
  | cons i l ih =>
    obtain ⟨g, hg⟩ := ih (s.wr (base + 4 * i) (BitVec.ofNat 32 (leAt all (4 * i) 4)))
    exact ⟨g, hg⟩

theorem accepted_rest (e : Envelope) (s : State) : ∃ q, e.accepted s = { s with clasp := { s.clasp with lastSeq := q } } := by
  unfold Envelope.accepted
  split
  · exact ⟨_, rfl⟩
  · exact ⟨_, rfl⟩

theorem replied_rest (e : Envelope) (side : ClaspSide) (s : State) (r : Nat) (bs : List Byte) : ∃ tr ow,
    (e.replied side s r bs).clasp = { s.clasp with trig := tr, owed := ow } ∧ (e.replied side s r bs).port = s.port := by
  obtain ⟨g, hg⟩ := putWindow_rest s (sideReply side) bs
  unfold Envelope.replied
  dsimp only
  rw [hg]
  obtain ⟨_, _, tr, ow, _, hsent⟩ := (State.ReplyStep.sendOwed _).rest
  rw [hsent]
  exact ⟨tr, ow, rfl, rfl⟩

/-- Of Clasp's record and the ports an answer to a command that is done leaves all but the sequence numbers and the mailboxes' business. -/
theorem answered_rest (e : Envelope) (side : ClaspSide) (s : State) (bs : List Byte) : ∃ q tr ow,
    (e.replied side (e.accepted s) 0 bs).clasp = { s.clasp with lastSeq := q, trig := tr, owed := ow } ∧
    (e.replied side (e.accepted s) 0 bs).port = s.port := by
  obtain ⟨tr, ow, hclasp, hport⟩ := replied_rest e side (e.accepted s) 0 bs
  obtain ⟨q, hq⟩ := accepted_rest e s
  rw [hq] at hclasp hport
  exact ⟨q, tr, ow, (congrArg State.clasp (congrArg (e.replied side · 0 bs) hq)).trans hclasp,
    (congrArg State.port (congrArg (e.replied side · 0 bs) hq)).trans hport⟩

/-- A command that is done shows, of Clasp's record and the ports, what its effect left there. -/
theorem done_shows {P : State → Prop} {eff : ClaspEnd} (h : s.claspAsks side code e s0) (hcode : e.code = code → s0.claspEffect e = eff)
    (heff : eff = s1.done)
    (hP : ∀ t q tr ow, t.clasp = { s1.clasp with lastSeq := q, trig := tr, owed := ow } → t.port = s1.port → P t) :
    ∃ t, (.next (s.claspCommand (some code) side) : Host.Outcome State Fault Refusal) = .next t ∧ P t := by
  obtain ⟨q, tr, ow, hclasp, hport⟩ := answered_rest e side s1 []
  exact ⟨_, congrArg _ (asks_done h fun hc => (hcode hc).trans heff), hP _ q tr ow hclasp hport⟩

end Asked

/-! ### The granules and Clasp's record (R495-R497, R499) -/

namespace State

theorem clasp_domainWrite (s : State) (hbm : Bool) (i tag flags : Nat) : (s.domainWrite hbm i tag flags).clasp = s.clasp := rfl

/-- A retired tag loses its keys and its tenant; the rest of Clasp's record stays. -/
theorem clasp_retireTag (s : State) (tag : Nat) : ∃ gens, (s.retireTag tag).clasp = { s.clasp with
    hbmKeyGen := gens
    content := SMap.dropKeys (fun k => decide (k / 4 = tag)) s.clasp.content
    tenants := SMap.erase s.clasp.tenants tag } := by
  have hfold (l : List Nat) (t : State) : (l.foldl (fun s k => if k < 0x1320000 then s.domainWrite false ((k - 0x1310000) / 4) 0 0
      else s.domainWrite true ((k - 0x1320000) / 4) 0 0) t).clasp = t.clasp := by
    induction l generalizing t with
    | nil => rfl
    | cons k l ih =>
      rw [List.foldl_cons, ih]
      split
      · exact clasp_domainWrite _ _ _ _ _
      · exact clasp_domainWrite _ _ _ _ _
  unfold retireTag
  dsimp only
  rw [hfold]
  exact ⟨_, rfl⟩

theorem gen_retireTags (l : List Nat) (s : State) : (l.foldl retireTag s).clasp.gen = s.clasp.gen := by
  induction l generalizing s with
  | nil => rfl
  | cons tag l ih =>
    obtain ⟨gens, hclasp⟩ := s.clasp_retireTag tag
    rw [List.foldl_cons, ih, hclasp]

end State

/-! ### Keys and reports (R390, R494-R498, R501, R502) -/

section Reports
variable {side : ClaspSide} {s s0 : State} {e : Envelope}

theorem attest_shows (h : s.claspAsks side 0x01 e s0) : ∃ rep, exec (.attest side) s =
    .next (e.replied side (e.accepted s0) 0 (rep ++ Config.identitySign (Config.sha384 rep))) := by
  obtain ⟨rep, hrep⟩ : ∃ rep, s0.attest e = some (s0, 0, rep ++ Config.identitySign (Config.sha384 rep)) := ⟨_, rfl⟩
  exact ⟨rep, congrArg _ (asks_done h fun hc => by simp only [State.claspEffect, hc, hrep])⟩

theorem placement_shows (h : s.claspAsks side 0x05 e s0) : ∃ rep, exec (.placement side) s =
    .next (e.replied side (e.accepted s0) 0 (rep ++ Config.identitySign (Config.sha384 rep))) := by
  obtain ⟨rep, hrep⟩ : ∃ rep, s0.placement e = some (s0, 0, rep ++ Config.identitySign (Config.sha384 rep)) := ⟨_, rfl⟩
  exact ⟨rep, congrArg _ (asks_done h fun hc => by simp only [State.claspEffect, hc, hrep])⟩

theorem alarmRead_shows (h : s.claspAsks side 0x04 e s0) : exec (.alarmRead side) s = .next (e.replied side (e.accepted s0) 0
    ((s0.clasp.alarms.take 8).flatMap (fun r => r ++ Config.identitySign (Config.sha384 (r ++ s0.nonceBytes))))) :=
  congrArg _ (asks_done h fun hc => by simp only [State.claspEffect, hc, State.alarmRead])

/-- A book is restored under the sealing key when it names this device and its generation. -/
theorem restore_of_own {sb : SealedBook} {k : KeyBook} (hstage : s0.getF Reg.clsSts 31 29 = 2) (hclosed : s0.debugOpen = false)
    (hsealed : Config.sealedOf e.body = some sb) (hown : sb.eph = none) (hserial : sb.serial = serialBytes) (hgen : sb.gen = s0.clasp.gen)
    (hopen : (Config.gcmOpen Config.sealingKey sb.iv (Config.bookAad sb.serial sb.gen) sb.body).bind Config.bookOf = some k) :
    s0.restore e = (s0.loadBook k).done := by
  unfold State.restore
  rw [if_neg (by simp [hstage, hclosed]), hsealed]
  dsimp only
  rw [if_neg (by simp [hserial, hgen])]
  simp only [hown, hopen]
  rw [if_neg (by simp)]

theorem owner_loadBook (s0 : State) (k : KeyBook) : (s0.loadBook k).clasp.owner = k.owner := rfl

theorem stage_loadBook (s0 : State) (k : KeyBook) : (s0.loadBook k).getF Reg.clsSts 31 29 = 3 := by
  unfold State.loadBook State.showCls
  dsimp only
  rw [State.getF_setF_apart _ _ _ _ _ _ _ (by decide) (by decide), State.getF_setB_apart _ _ _ _ _ _ (by decide) (by decide),
    State.getF_setB_apart _ _ _ _ _ _ (by decide) (by decide), State.getF_setB_apart _ _ _ _ _ _ (by decide) (by decide),
    State.getF_setF_same _ _ _ _ _ (by decide) (by decide)]

theorem seal_shows (h : s.claspAsks side 0x03 e s0) : ∃ iv body, exec (.seal side) s = .next (e.replied side (e.accepted s0.bumpFree) 0
    (Config.sealedBytes ⟨serialBytes, s0.clasp.gen, none, iv, body⟩)) ∧
    body = Config.gcmSeal Config.sealingKey iv (Config.bookAad serialBytes s0.clasp.gen) (Config.bookBytes s0.book) :=
  ⟨Config.random s0.free 12, _, congrArg _ (asks_done h fun hc => by simp only [State.claspEffect, hc, State.seal, State.sealUnder]), rfl⟩

theorem twinExport_shows (h : s.claspAsks side 0x61 e s0) : ∃ iv body, exec (.twinExport side) s = .next (e.replied side (e.accepted s0.bumpFree) 0
    (Config.sealedBytes ⟨(e.body.drop 97).take 16, s0.clasp.gen, some (Config.ephPublic s0.free), iv, body⟩)) :=
  ⟨Config.random s0.free 12,
    Config.gcmSeal (twinKey ((e.body.drop 97).take 16) (Config.ephShared s0.free (e.body.take 97))) (Config.random s0.free 12)
      (Config.bookAad ((e.body.drop 97).take 16) s0.clasp.gen) (Config.bookBytes s0.book),
    congrArg _ (asks_done h fun hc => by simp only [State.claspEffect, hc, State.twinExport, State.sealUnder])⟩

/-- The owner a signature of the present one names is enrolled, and tenants and safety authority go (R497). -/
theorem enrolOwner_of_root {k : List Byte} (hroot : (if s0.clasp.fusedClaimed then s0.clasp.owner else some Config.vendorRoot) = some k)
    (hgen : s0.clasp.gen < 64)
    (hsig : Config.ecdsaVerify k (Config.sha384 (serialBytes ++ e.body.take 97)) ((e.body.drop 97).take 96) = true) :
    s0.enrolOwner e = State.done (State.showCls { (s0.clasp.tenants.map Prod.fst).foldl State.retireTag s0 with
      clasp := { ((s0.clasp.tenants.map Prod.fst).foldl State.retireTag s0).clasp with
        owner := some (e.body.take 97), safety := none
        gen := ((s0.clasp.tenants.map Prod.fst).foldl State.retireTag s0).clasp.gen + 1, fusedClaimed := true } }) := by
  unfold State.enrolOwner
  simp only [hroot]
  rw [if_neg (by simp [hsig]), if_neg (by omega)]

theorem enrolOwner_shows {k : List Byte} (h : s.claspAsks side 0x10 e s0)
    (hroot : (if s0.clasp.fusedClaimed then s0.clasp.owner else some Config.vendorRoot) = some k) (hgen : s0.clasp.gen < 64)
    (hsig : Config.ecdsaVerify k (Config.sha384 (serialBytes ++ e.body.take 97)) ((e.body.drop 97).take 96) = true) :
    ∃ t, exec (.enrolOwner side) s = .next t ∧ t.clasp.owner = some (e.body.take 97) ∧ t.clasp.safety = none ∧
      t.clasp.gen = s0.clasp.gen + 1 ∧ t.clasp.fusedClaimed = true := by
  refine done_shows h (fun hc => by simp only [State.claspEffect, hc]) (enrolOwner_of_root hroot hgen hsig) fun t q tr ow hclasp _ => ?_
  rw [hclasp, State.clasp_showCls]
  exact ⟨rfl, rfl, congrArg (· + 1) (State.gen_retireTags _ _), rfl⟩

theorem enrolSafety_of_none (hclosed : s0.debugOpen = false) (hnone : s0.clasp.safety = none) : s0.enrolSafety e =
    if e.len ≠ 97 then s0.refuse 1
    else if 64 ≤ s0.clasp.gen then s0.refuse 5
    else State.done (State.showCls { s0 with clasp := { s0.clasp with safety := some (e.body.take 97), gen := s0.clasp.gen + 1 } }) := by
  unfold State.enrolSafety
  dsimp only
  rw [if_neg (by simp [hclosed]), hnone]

/-- The first safety authority of a generation (R497). -/
theorem enrolSafety_first (hclosed : s0.debugOpen = false) (hnone : s0.clasp.safety = none) (hgen : s0.clasp.gen < 64) (hlen : e.len = 97) :
    s0.enrolSafety e = State.done (State.showCls { s0 with
      clasp := { s0.clasp with safety := some (e.body.take 97), gen := s0.clasp.gen + 1 } }) := by
  rw [enrolSafety_of_none hclosed hnone, if_neg (by simp [hlen]), if_neg (by omega)]

theorem enrolSafety_shows (h : s.claspAsks side 0x11 e s0) (hclosed : s0.debugOpen = false) (hnone : s0.clasp.safety = none)
    (hgen : s0.clasp.gen < 64) : (e.len = 97 → ∃ t, exec (.enrolSafety side) s = .next t ∧ t.clasp.safety = some (e.body.take 97) ∧
      t.clasp.gen = s0.clasp.gen + 1) ∧ (e.len = 193 → exec (.enrolSafety side) s = .next (e.replied side s0 1 [])) := by
  refine ⟨fun hlen => done_shows h (fun hc => by simp only [State.claspEffect, hc]) (enrolSafety_first hclosed hnone hgen hlen)
      fun t q tr ow hclasp _ => ?_, fun hlen => congrArg _ (asks_ends h (by decide) fun hc => ?_)⟩
  · rw [hclasp]
    exact ⟨rfl, rfl⟩
  · simp only [State.claspEffect, hc]
    rw [enrolSafety_of_none hclosed hnone, if_pos (by omega)]
    rfl

theorem tenantAdd_of_free (hlo : 1 ≤ byteAt e.body 0) (hhi : byteAt e.body 0 ≤ 64) (hfree : s0.tenantKey (0x3F + byteAt e.body 0) = []) :
    s0.tenantAdd e = State.done { s0 with clasp := { s0.clasp with
      tenants := SMap.set (fun _ => []) s0.clasp.tenants (0x3F + byteAt e.body 0) ((e.body.drop 1).take 97) } } :=
  (if_neg (by omega)).trans (if_neg (by simp [hfree]))

theorem tenantAdd_shows (h : s.claspAsks side 0x12 e s0) (hlo : 1 ≤ byteAt e.body 0) (hhi : byteAt e.body 0 ≤ 64) :
    (s0.tenantKey (0x3F + byteAt e.body 0) = [] → ∃ t, exec (.tenantAdd side) s = .next t ∧
      t.tenantKey (0x3F + byteAt e.body 0) = (e.body.drop 1).take 97) ∧
    (s0.tenantKey (0x3F + byteAt e.body 0) ≠ [] → exec (.tenantAdd side) s = .next (e.replied side s0 6 [])) := by
  have hrange : ¬ (byteAt e.body 0 = 0 ∨ 64 < byteAt e.body 0) := by omega
  refine ⟨fun hfree => done_shows h (fun hc => by simp only [State.claspEffect, hc]) (tenantAdd_of_free hlo hhi hfree)
      fun t q tr ow hclasp _ => ?_, fun htaken => congrArg _ (asks_ends h (by decide) fun hc => ?_)⟩
  · rw [State.tenantKey, hclasp]
    exact SMap.get_set_same _ _ _ _
  · simp only [State.claspEffect, hc, State.tenantAdd]
    rw [if_neg hrange, if_pos (by simp [htaken])]
    rfl

theorem tenantRetire_shows (h : s.claspAsks side 0x13 e s0) (hlo : 1 ≤ byteAt e.body 0) (hhi : byteAt e.body 0 ≤ 64) :
    ∃ t, exec (.tenantRetire side) s = .next t ∧ t.tenantKey (0x3F + byteAt e.body 0) = [] ∧
      ∀ j : Fin 4, SMap.get (fun _ => []) t.clasp.content (4 * (0x3F + byteAt e.body 0) + j) = [] := by
  obtain ⟨gens, hretired⟩ := s0.clasp_retireTag (0x3F + byteAt e.body 0)
  have heff : s0.tenantRetire e = (s0.retireTag (0x3F + byteAt e.body 0)).done := if_neg (by omega)
  refine done_shows h (fun hc => by simp only [State.claspEffect, hc]) heff fun t q tr ow hclasp _ => ?_
  rw [State.tenantKey, hclasp, hretired]
  refine ⟨?_, fun j => ?_⟩
  · simp [SMap.get]
  · rw [SMap.get_dropKeys, if_pos]
    have := j.isLt
    simp only [decide_eq_true_eq]
    omega

theorem contentKey_of_key {k : List Byte} (hclosed : s0.debugOpen = false) (hslot : byteAt e.body 0 ≤ 3)
    (hkey : unwrapKey (wrapTenant e.signer) (byteAt e.body 0) ((e.body.drop 1).take 97) ((e.body.drop 98).take 40) = some k) :
    s0.contentKey e = State.done { s0 with clasp := { s0.clasp with
      content := SMap.set (fun _ => []) s0.clasp.content (4 * e.signer + byteAt e.body 0) k } } := by
  simp only [State.contentKey, hkey]
  rw [if_neg (by simp [hclosed]), if_neg (by omega)]

theorem contentKey_shows (h : s.claspAsks side 0x20 e s0) (hclosed : s0.debugOpen = false) :
    (3 < byteAt e.body 0 → exec (.contentKey side) s = .next (e.replied side s0 7 [])) ∧
    (∀ k, byteAt e.body 0 ≤ 3 → unwrapKey (wrapTenant e.signer) (byteAt e.body 0) ((e.body.drop 1).take 97) ((e.body.drop 98).take 40) = some k →
      ∃ t, exec (.contentKey side) s = .next t ∧ SMap.get (fun _ => []) t.clasp.content (4 * e.signer + byteAt e.body 0) = k) := by
  refine ⟨fun hslot => congrArg _ (asks_ends h (by decide) fun hc => ?_),
    fun k hslot hkey => done_shows h (fun hc => by simp only [State.claspEffect, hc]) (contentKey_of_key hclosed hslot hkey)
      fun t q tr ow hclasp _ => ?_⟩
  · simp only [State.claspEffect, hc, State.contentKey]
    rw [if_neg (by simp [hclosed]), if_pos hslot]
    rfl
  · rw [hclasp]
    exact SMap.get_set_same _ _ _ _

theorem wallSeed_of_key {k : List Byte} (hclosed : s0.debugOpen = false) (hslot : byteAt e.body 0 ≤ 3)
    (hkey : unwrapKey 0 (byteAt e.body 0) ((e.body.drop 1).take 97) ((e.body.drop 98).take 40) = some k) :
    s0.wallSeed e = State.done { s0 with clasp := { s0.clasp with
      seeds := SMap.set (fun _ => []) s0.clasp.seeds (byteAt e.body 0) k } } := by
  simp only [State.wallSeed, hkey]
  rw [if_neg (by simp [hclosed]), if_neg (by omega)]

theorem wallSeed_shows {k : List Byte} (h : s.claspAsks side 0x40 e s0) (hclosed : s0.debugOpen = false) (hslot : byteAt e.body 0 ≤ 3)
    (hkey : unwrapKey 0 (byteAt e.body 0) ((e.body.drop 1).take 97) ((e.body.drop 98).take 40) = some k) :
    ∃ t, exec (.wallSeed side) s = .next t ∧ SMap.get (fun _ => []) t.clasp.seeds (byteAt e.body 0) = k := by
  refine done_shows h (fun hc => by simp only [State.claspEffect, hc]) (wallSeed_of_key hclosed hslot hkey) fun t q tr ow hclasp _ => ?_
  rw [hclasp]
  exact SMap.get_set_same _ _ _ _

/-- The key a wall slot gets from a seed (R494). -/
def wallKeyOf (seed : List Byte) (b : List Byte) : List Byte :=
  Config.hkdf (ascii "FOLIO-WALL") seed (ascii "FOLIO-WCH" ++ beBytes 2 (leAt b 2 2) ++ [BitVec.ofNat 8 (byteAt b 4)]) 32

theorem wallKey_of_seed (hrange : ¬ (1023 < leAt e.body 0 2 ∨ 511 < leAt e.body 2 2 ∨ 3 < byteAt e.body 5))
    (hfree : s0.slotInUse (leAt e.body 0 2) = false) (hsome : SMap.get (fun _ => []) s0.clasp.seeds (byteAt e.body 5) ≠ []) :
    s0.wallKey e = State.done { s0 with clasp := { s0.clasp with
      wall := SMap.set (fun _ => none) s0.clasp.wall (leAt e.body 0 2)
        (some ⟨wallKeyOf (SMap.get (fun _ => []) s0.clasp.seeds (byteAt e.body 5)) e.body, leAt e.body 2 2, byteAt e.body 4,
          byteAt e.body 6 % 2 == 1⟩) } } := by
  simp only [State.wallKey]
  rw [if_neg hrange, if_neg (by simp [hfree]), if_neg (by simp [hsome])]
  rfl

theorem wallKey_shows (h : s.claspAsks side 0x41 e s0) (hslot : leAt e.body 0 2 ≤ 1023) (hch : leAt e.body 2 2 ≤ 511) (hseed : byteAt e.body 5 ≤ 3) :
    (s0.slotInUse (leAt e.body 0 2) = true → exec (.wallKey side) s = .next (e.replied side s0 6 [])) ∧
    (s0.slotInUse (leAt e.body 0 2) = false → SMap.get (fun _ => []) s0.clasp.seeds (byteAt e.body 5) = [] →
      exec (.wallKey side) s = .next (e.replied side s0 5 [])) ∧
    (s0.slotInUse (leAt e.body 0 2) = false → SMap.get (fun _ => []) s0.clasp.seeds (byteAt e.body 5) ≠ [] →
      ∃ t, exec (.wallKey side) s = .next t ∧ SMap.get (fun _ => none) t.clasp.wall (leAt e.body 0 2) =
        some ⟨wallKeyOf (SMap.get (fun _ => []) s0.clasp.seeds (byteAt e.body 5)) e.body, leAt e.body 2 2, byteAt e.body 4,
          byteAt e.body 6 % 2 == 1⟩) := by
  have hrange : ¬ (1023 < leAt e.body 0 2 ∨ 511 < leAt e.body 2 2 ∨ 3 < byteAt e.body 5) := by omega
  refine ⟨fun hused => congrArg _ (asks_ends h (by decide) fun hc => ?_), fun hfree hnone => congrArg _ (asks_ends h (by decide) fun hc => ?_),
    fun hfree hsome => done_shows h (fun hc => by simp only [State.claspEffect, hc]) (wallKey_of_seed hrange hfree hsome)
      fun t q tr ow hclasp _ => ?_⟩
  · simp only [State.claspEffect, hc, State.wallKey]
    rw [if_neg hrange, if_pos hused]
    rfl
  · simp only [State.claspEffect, hc, State.wallKey]
    rw [if_neg hrange, if_neg (by simp [hfree]), if_pos (by simp [hnone])]
    rfl
  · rw [hclasp]
    dsimp only
    rw [SMap.get_set_same]

theorem macsecCak_of_key {k : List Byte} (hclosed : s0.debugOpen = false) (hlo : 0x20 ≤ byteAt e.body 0) (hhi : byteAt e.body 0 ≤ 0x29)
    (hmin : 1 ≤ byteAt e.body 1) (hmax : byteAt e.body 1 ≤ 32)
    (hkey : unwrapKey 0 (byteAt e.body 0) ((e.body.drop 34).take 97) ((e.body.drop 131).take 40) = some k) :
    s0.macsecCak e = State.done (s0.setPort (byteAt e.body 0) { s0.portAt (byteAt e.body 0) with
      cak := k, ckn := (e.body.drop 2).take (byteAt e.body 1) }) := by
  simp only [State.macsecCak, hkey]
  rw [if_neg (by simp [hclosed]), if_neg (by omega)]

theorem macsecCak_shows {k : List Byte} (h : s.claspAsks side 0x42 e s0) (hclosed : s0.debugOpen = false) (hlo : 0x20 ≤ byteAt e.body 0)
    (hhi : byteAt e.body 0 ≤ 0x29) (hmin : 1 ≤ byteAt e.body 1) (hmax : byteAt e.body 1 ≤ 32)
    (hkey : unwrapKey 0 (byteAt e.body 0) ((e.body.drop 34).take 97) ((e.body.drop 131).take 40) = some k) :
    ∃ t, exec (.macsecCak side) s = .next t ∧ (t.portAt (byteAt e.body 0)).cak = k ∧
      (t.portAt (byteAt e.body 0)).ckn = (e.body.drop 2).take (byteAt e.body 1) := by
  refine done_shows h (fun hc => by simp only [State.claspEffect, hc]) (macsecCak_of_key hclosed hlo hhi hmin hmax hkey)
    fun t q tr ow _ hport => ?_
  rw [State.portAt, hport, State.setPort, SMap.get_set_same]
  exact ⟨rfl, rfl⟩

theorem mkaOp_shows {m : Nat} {w : List Byte} (h : s.claspAsks side 0x43 e s0) (hlo : 32 ≤ m) (hhi : m ≤ 41) (hcak : (s0.portAt m).cak ≠ []) :
    (∀ icv, icv = Config.cmac (Config.mkaIck (s0.portAt m).cak (s0.portAt m).ckn) w → Config.mkaOf e.body = some (.icv m w) →
      exec (.mkaOp side) s = .next (e.replied side (e.accepted (s0.mkaSend m (w ++ icv))) 0 icv)) ∧
    (∀ k, Config.mkaOf e.body = some (.unwrap m w) → Config.keyUnwrap (Config.mkaKek (s0.portAt m).cak (s0.portAt m).ckn) w = some k →
      exec (.mkaOp side) s = .next (e.replied side (e.accepted (s0.installSak m k)) 0 [])) := by
  have hport : ¬ (m < 32 ∨ 41 < m) := by omega
  have hkeyed : ¬ (s0.portAt m).cak.isEmpty = true := by simp [hcak]
  refine ⟨fun icv hicv hop => congrArg _ (asks_done h fun hc => ?_), fun k hop hkey => congrArg _ (asks_done h fun hc => ?_)⟩
  · simp only [State.claspEffect, hc, State.mkaRun, hop, mkaPort]
    rw [hicv]
    exact (if_neg hport).trans (if_neg hkeyed)
  · simp only [State.claspEffect, hc, State.mkaRun, hop, mkaPort, hkey]
    exact (if_neg hport).trans (if_neg hkeyed)

theorem debugUnlock_shows (h : s.claspAsks side 0x60 e s0) (hbook : s0.clasp.bookLoaded = false)
    (hsig : Config.ecdsaVerify Config.vendorRoot (Config.sha384 (serialBytes ++ s0.nonceBytes ++ e.body.take 4)) ((e.body.drop 4).take 96) = true) :
    ∃ t, exec (.debugUnlock side) s = .next t ∧ t.clasp.debugScope = Nat.lor s0.clasp.debugScope (leAt e.body 0 4) := by
  have heff : s0.debugUnlock e = State.done (State.showCls { s0 with
      clasp := { s0.clasp with debugScope := Nat.lor s0.clasp.debugScope (leAt e.body 0 4) } }) :=
    (if_neg (by simp [hbook])).trans (if_neg (by rw [hsig]; decide))
  refine done_shows h (fun hc => by simp only [State.claspEffect, hc]) heff fun t q tr ow hclasp _ => ?_
  rw [hclasp]
  rfl

end Reports

/-- Settles O54. What enrolment clears and burns (log entry 129), where an SAK goes (log entry 133), what RESTORE and TWIN_EXPORT check and carry
(log entry 134) and when a wall slot is in use (log entry 51) are the model's reading. -/
theorem claspKeysAndReports : Obligations.ClaspKeysAndReports := by
  unfold Obligations.ClaspKeysAndReports
  rintro side s e s0 _ rfl
  refine ⟨attest_shows, fun sb k h hstage hclosed hsealed hown hserial hgen hopen => ⟨?_, owner_loadBook s0 k, stage_loadBook s0 k⟩, seal_shows,
    alarmRead_shows, placement_shows, fun k => enrolOwner_shows, enrolSafety_shows, tenantAdd_shows, tenantRetire_shows, contentKey_shows,
    fun k => wallSeed_shows, wallKey_shows, fun k => macsecCak_shows, fun m w => mkaOp_shows, debugUnlock_shows, twinExport_shows⟩
  exact congrArg _ (asks_done h fun hc => by
    simp only [State.claspEffect, hc, restore_of_own hstage hclosed hsealed hown hserial hgen hopen, State.done])

end Sys2Proof.Machine

namespace Sys2Proof.Machine

/-! ### What Clasp writes (R495, R499-R501) -/

section Writes
variable {side : ClaspSide} {s s0 : State} {e : Envelope}

/-- GRANULE for one Sheet store granule without flags, past its range and ownership checks: a safety granule wants the safety authority. -/
theorem granule_one {i tag : Nat} (hfirst : i = leAt e.body 0 4) (hi : i < 1024) (hcount : leAt e.body 4 4 = 1) (htag : tag = byteAt e.body 8)
    (hflags : byteAt e.body 9 = 0) (hok : s0.tagOk tag = true) (hvendor : s0.clasp.vendorGranules.contains i = false)
    (hcode : s0.codeGranule i = false) : s0.granule e =
      if s0.getF (Reg.memDomSs i) 23 16 = 2 then
        s0.clasp.safety.elim (s0.refuse 4) fun k =>
          if ((e.body.drop 10).take 96).all (· == 0) then s0.refuse 4
          else if Config.ecdsaVerify k (Config.sha384 (e.bytes.take 42)) ((e.body.drop 10).take 96) then (s0.domainWrite false i tag 0).done
          else s0.refuse 2
      else (s0.domainWrite false i tag 0).done := by
  have hss : ¬ 2 ^ 31 ≤ leAt e.body 0 4 := by omega
  have hmod : leAt e.body 0 4 % 2 ^ 31 = i := by omega
  have hrun : (List.range 1).map (· + i) = [i] := by simp
  unfold State.granule
  simp only [hss, hmod, hcount, ← htag, hflags, hrun, decide_false, Bool.false_eq_true, if_false, Nat.one_ne_zero, hok, flagsBad, List.any_cons,
    List.any_nil, hvendor, hcode, List.foldl_cons, List.foldl_nil]
  rw [if_neg (by simp; omega)]
  by_cases hsafe : s0.getF (Reg.memDomSs i) 23 16 = 2
  · cases hkey : s0.clasp.safety with
    | none => simp [hsafe]
    | some k => simp [hsafe]
  · simp [hsafe]

theorem granule_shows {i tag : Nat} (h : s.claspAsks side 0x14 e s0) (hfirst : i = leAt e.body 0 4) (hi : i < 1024) (hcount : leAt e.body 4 4 = 1)
    (htag : tag = byteAt e.body 8) (hflags : byteAt e.body 9 = 0) (hok : s0.tagOk tag = true)
    (hvendor : s0.clasp.vendorGranules.contains i = false) (hcode : s0.codeGranule i = false) :
    (s0.getF (Reg.memDomSs i) 23 16 ≠ 2 → exec (.granule side) s = .next (e.replied side (e.accepted (s0.domainWrite false i tag 0)) 0 [])) ∧
    (s0.getF (Reg.memDomSs i) 23 16 = 2 → s0.clasp.safety = none → exec (.granule side) s = .next (e.replied side s0 4 [])) ∧
    (∀ k, s0.getF (Reg.memDomSs i) 23 16 = 2 → s0.clasp.safety = some k → ((e.body.drop 10).take 96).all (· == 0) = false →
      Config.ecdsaVerify k (Config.sha384 (e.bytes.take 42)) ((e.body.drop 10).take 96) = true →
      exec (.granule side) s = .next (e.replied side (e.accepted (s0.domainWrite false i tag 0)) 0 [])) := by
  have heff (hc : e.code = 0x14) : s0.claspEffect e = _ :=
    (by simp only [State.claspEffect, hc] : s0.claspEffect e = s0.granule e).trans (granule_one hfirst hi hcount htag hflags hok hvendor hcode)
  refine ⟨fun hplain => congrArg _ (asks_done h fun hc => (heff hc).trans (if_neg hplain)),
    fun hsafe hnone => congrArg _ (asks_ends h (by decide) fun hc => (heff hc).trans ?_),
    fun k hsafe hkey hsigned hsig => congrArg _ (asks_done h fun hc => (heff hc).trans ?_)⟩
  · rw [if_pos hsafe, hnone]
    rfl
  · rw [if_pos hsafe, hkey, Option.elim_some, if_neg (by rw [hsigned]; decide), if_pos hsig]
    rfl

/-! #### CODE_CHECK (R495) -/

/-- The regions of owner code after a region is marked. -/
def markedRegions (rs : List (Nat × Nat)) (o n : Nat) : List (Nat × Nat) := if rs.contains (o, n) then rs else rs ++ [(o, n)]

theorem contains_markedRegions (rs : List (Nat × Nat)) (o n : Nat) : (markedRegions rs o n).contains (o, n) = true := by
  unfold markedRegions
  split
  · assumption
  · simp

/-- CODE_CHECK of a region inside the Sheet store that is no vendor's and no safety granule's. -/
theorem codeCheck_inside {o n : Nat} (ho : o = leAt e.body 0 6 - ssBase) (hn : n = leAt e.body 6 4) (hpos : 0 < n)
    (hregion : regionOf (leAt e.body 0 6) n = .ss)
    (hfree : (ssGranules o n).any (fun i => s0.clasp.vendorGranules.contains i || s0.getF (Reg.memDomSs i) 23 16 == 2) = false) : s0.codeCheck e =
      if s0.scrubbing o n then none
      else if (blocks 8 o n).any (fun w => errAt s0.ssErr w == 2) then
        State.refuse (State.memEvent { s0 with ssErr := s0.ssMend false o n } 2 0xC1) 9
      else if Config.sha384 ((List.range n).map (fun i => s0.ssByte (o + i))) ≠ (e.body.drop 10).take 48 then
        State.refuse { s0 with ssErr := s0.ssMend false o n } 2
      else
        let s1 := (ssGranules o n).foldl (fun s i => s.domainWrite false i 1 1) { s0 with ssErr := s0.ssMend false o n }
        State.done { s1 with clasp := { s1.clasp with regions := markedRegions s1.clasp.regions o n } } := by
  have hinside : ¬ (regionOf (leAt e.body 0 6) n ≠ .ss ∨
      (ssGranules o n).any (fun i => s0.clasp.vendorGranules.contains i || s0.getF (Reg.memDomSs i) 23 16 == 2) = true) := by
    rw [hregion, hfree]
    simp
  unfold State.codeCheck
  simp only [← ho, ← hn]
  rw [if_neg (by omega), if_neg hinside]
  rfl

theorem codeCheck_shows {o n : Nat} (h : s.claspAsks side 0x50 e s0) (ho : o = leAt e.body 0 6 - ssBase) (hn : n = leAt e.body 6 4) (hpos : 0 < n)
    (hregion : regionOf (leAt e.body 0 6) n = .ss)
    (hfree : (ssGranules o n).any (fun i => s0.clasp.vendorGranules.contains i || s0.getF (Reg.memDomSs i) 23 16 == 2) = false) :
    (s0.scrubbing o n = true → exec (.codeCheck side) s = .next s) ∧
    (∀ m, s0.scrubbing o n = false → m = { s0 with ssErr := s0.ssMend false o n } →
      ((blocks 8 o n).any (fun w => errAt s0.ssErr w == 2) = true → exec (.codeCheck side) s = .next (e.replied side (m.memEvent 2 0xC1) 9 [])) ∧
      ((blocks 8 o n).any (fun w => errAt s0.ssErr w == 2) = false →
        (Config.sha384 ((List.range n).map (fun i => s0.ssByte (o + i))) = (e.body.drop 10).take 48 →
          ∃ t, exec (.codeCheck side) s = .next t ∧ t.clasp.regions.contains (o, n) = true) ∧
        (Config.sha384 ((List.range n).map (fun i => s0.ssByte (o + i))) ≠ (e.body.drop 10).take 48 →
          exec (.codeCheck side) s = .next (e.replied side m 2 [])))) := by
  have hin := codeCheck_inside ho hn hpos hregion hfree
  have hcode (hc : e.code = 0x50) : s0.claspEffect e = s0.codeCheck e := by simp only [State.claspEffect, hc]
  refine ⟨fun hzero => congrArg _ (asks_waits h fun hc => (hcode hc).trans (hin.trans (if_pos hzero))), ?_⟩
  rintro m hzero rfl
  have hready : ¬ s0.scrubbing o n = true := by simp [hzero]
  refine ⟨fun hbad => congrArg _ (asks_ends h (by decide) fun hc => (hcode hc).trans (hin.trans ((if_neg hready).trans (if_pos hbad)))),
    fun hgood => ⟨fun hhash => ?_, fun hhash => congrArg _ (asks_ends h (by decide) fun hc => (hcode hc).trans (hin.trans ?_))⟩⟩
  · refine done_shows h hcode (hin.trans ((if_neg hready).trans ((if_neg (by simp [hgood])).trans (if_neg (not_not.mpr hhash)))))
      fun t q tr ow hclasp _ => ?_
    rw [hclasp]
    exact contains_markedRegions _ _ _
  · rw [if_neg hready, if_neg (by simp [hgood]), if_pos hhash]
    rfl

/-! #### SEALED_WRITE (R496) -/

theorem sealedStore_ok {r w : State} {tag dst res : Nat} {bs : List Byte} (hwaits : r.memWaits ⟨tag, 0xC1⟩ dst bs.length = false)
    (hwrite : r.memWrite ⟨tag, 0xC1⟩ dst bs = (w, .ok)) : r.sealedStore tag dst bs res = some (w, res, []) := by
  unfold State.sealedStore
  dsimp only
  rw [if_neg (by simp [hwaits]), hwrite]
  rfl

/-- SEALED_WRITE of bytes the content's key opens or does not, past its checks. -/
theorem sealedWrite_read {key ct : List Byte} {n src dst : Nat} {r : State} (hclosed : s0.debugOpen = false) (hslot : byteAt e.body 0 ≤ 3)
    (hn : n = leAt e.body 16 4) (hpos : 0 < n) (hsrc : src = leAt e.body 4 6) (hdst : dst = leAt e.body 10 6)
    (hkey : key = SMap.get (fun _ => []) s0.clasp.content (4 * e.signer + byteAt e.body 0)) (hsome : key ≠ []) (hsrcHeld : s0.heldBy 3 src n = true)
    (hdstHeld : s0.heldBy e.signer dst n = true) (hwaits : s0.memWaits ⟨3, 0xC1⟩ src n = false)
    (hread : s0.memRead ⟨3, 0xC1⟩ src n = (r, .ok, ct)) : s0.sealedWrite e =
      (Config.gcmOpen key ((e.body.drop 20).take 12) [] (ct ++ (e.body.drop 32).take 16)).elim
        (r.sealedStore e.signer dst (List.replicate n 0) 8) fun pt => r.sealedStore e.signer dst pt 0 := by
  unfold State.sealedWrite
  simp only [← hn, ← hsrc, ← hdst, ← hkey]
  rw [if_neg (by simp [hclosed]), if_neg (by omega), if_neg (by omega), if_neg (by simp [hsome]), if_neg (by simp [hsrcHeld, hdstHeld]),
    if_neg (by simp [hwaits]), hread]
  dsimp only
  cases hopen : Config.gcmOpen key ((e.body.drop 20).take 12) [] (ct ++ (e.body.drop 32).take 16) with
  | none => rfl
  | some pt => rfl

/-! #### SAFETY_WRITE (R500) -/

/-- SAFETY_WRITE of one entry that arms nothing. -/
theorem safetyWrite_one {x : SafetyEntry} (hx : safetyEntries e.body = [x]) (hn : leAt e.body 0 2 = 1) (harm : byteAt e.body 2 = 0)
    (hroom : s0.stagingRoom [x] = true) : s0.safetyWrite e =
      if s0.safetyMay [x] x then
        State.done { (s0.busWrite (.clasp 2) x.1 (leBytes x.2.1 x.2.2)).1 with resp := s0.resp }
      else s0.refuse 7 := by
  unfold State.safetyWrite
  simp only [hx, hn, harm, List.any_cons, List.any_nil, hroom, List.foldl_cons, List.foldl_nil, Nat.zero_testBit, Bool.false_eq_true,
    if_false]
  by_cases hmay : s0.safetyMay [x] x = true
  · rw [if_neg (by simp [hmay]), if_pos hmay]
    rfl
  · rw [if_pos (by simp [hmay]), if_neg hmay]

theorem safetyWrite_shows {x : SafetyEntry} (h : s.claspAsks side 0x30 e s0) (hx : safetyEntries e.body = [x]) (hn : leAt e.body 0 2 = 1)
    (harm : byteAt e.body 2 = 0) (hroom : s0.stagingRoom [x] = true) :
    (s0.safetyMay [x] x = true → exec (.safetyWrite side) s = .next (e.replied side (e.accepted
      { (s0.busWrite (.clasp 2) x.1 (leBytes x.2.1 x.2.2)).1 with resp := s0.resp }) 0 [])) ∧
    (s0.safetyMay [x] x = false → exec (.safetyWrite side) s = .next (e.replied side s0 7 [])) := by
  have hone := safetyWrite_one hx hn harm hroom
  have hcode (hc : e.code = 0x30) : s0.claspEffect e = s0.safetyWrite e := by simp only [State.claspEffect, hc]
  exact ⟨fun hmay => congrArg _ (asks_done h fun hc => (hcode hc).trans (hone.trans (if_pos hmay))),
    fun hmay => congrArg _ (asks_ends h (by decide) fun hc => (hcode hc).trans (hone.trans (if_neg (by simp [hmay]))))⟩

theorem alarmAck_shows (h : s.claspAsks side 0x31 e s0) : ∃ t, exec (.alarmAck side) s = .next t ∧
    t.clasp.alarms = s0.clasp.alarms.filter (fun r => decide (leAt e.body 0 4 < leAt r 0 4)) :=
  done_shows h (fun hc => by simp only [State.claspEffect, hc]) (eff := s0.alarmAck e) rfl fun _ _ _ _ hclasp _ => congrArg Clasp.alarms hclasp

end Writes

/-- Settles O55. GRANULE's refusals and their order (log entry 130) and what CODE_CHECK, SEALED_WRITE and SAFETY_WRITE answer (log entry 131) are the
model's reading. -/
theorem claspWritesMemory : Obligations.ClaspWritesMemory := by
  unfold Obligations.ClaspWritesMemory
  rintro side s e s0 _ rfl
  refine ⟨fun i tag => granule_shows, fun o n => codeCheck_shows, ?_, fun x => safetyWrite_shows, alarmAck_shows⟩
  intro key n src dst r ct w h hclosed hslot hn hpos hsrc hdst hkey hsome hsrcHeld hdstHeld hwaits hread
  have hopened := sealedWrite_read hclosed hslot hn hpos hsrc hdst hkey hsome hsrcHeld hdstHeld hwaits hread
  have hcode (hc : e.code = 0x21) : s0.claspEffect e = s0.sealedWrite e := by simp only [State.claspEffect, hc]
  refine ⟨fun pt hpt hfree hwrite => congrArg _ (asks_done h fun hc => (hcode hc).trans (hopened.trans ?_)),
    fun hnone hfree hwrite => congrArg _ (asks_ends h (by decide) fun hc => (hcode hc).trans (hopened.trans ?_))⟩
  · rw [hpt]
    exact sealedStore_ok hfree hwrite
  · rw [hnone]
    exact sealedStore_ok (by rw [List.length_replicate]; exact hfree) hwrite

end Sys2Proof.Machine

namespace Sys2Proof.Machine

/-! ### Audio: commit points, locks and status bits (R465-R469) -/

namespace State

/-- A group armed alone is tried by itself at its commit point. -/
theorem commitPoint_alone {s : State} {u : CommitUnit} {g : Nat} {a : Arm} (harm : s.armOf u g = some a) (hlink : a.link = 0) :
    s.commitPoint u g = s.commitTogether [(u, g)] := by
  rw [commitPoint, harm]
  exact if_pos hlink

theorem setAudBit_same {s : State} {off i : Nat} {on : Bool} (h : s.flag off i = on) : s.setAudBit off i on = s := if_pos h

theorem setAudBit_change {s : State} {off i : Nat} {on : Bool} (h : s.flag off i ≠ on) :
    s.setAudBit off i on = (s.setB off i on).raiseEvt Reg.audEvt := if_neg h

/-- The bit reads as it was set. -/
theorem flag_setAudBit (s : State) {off i : Nat} (on : Bool) (hi : i < 32) (hoff : 0x800000 ≤ off) : (s.setAudBit off i on).flag off i = on := by
  by_cases h : s.flag off i = on
  · rw [setAudBit_same h, h]
  · rw [setAudBit_change h, flag_of_rd (rd_raiseEvt _ _ _ hoff), flag_setB_same _ _ _ _ hi]

/-- Events are registers only: the audio records stay. -/
theorem audio_raiseEvt (s : State) (e : Nat) : (s.raiseEvt e).sp = s.sp ∧ (s.raiseEvt e).grp = s.grp := by
  unfold raiseEvt evcSet
  split
  · split
    · exact ⟨rfl, rfl⟩
    · exact ⟨rfl, rfl⟩
  · exact ⟨rfl, rfl⟩

theorem audio_setAudBit (s : State) (off i : Nat) (on : Bool) : (s.setAudBit off i on).sp = s.sp ∧ (s.setAudBit off i on).grp = s.grp := by
  by_cases h : s.flag off i = on
  · rw [setAudBit_same h]
    exact ⟨rfl, rfl⟩
  · rw [setAudBit_change h]
    exact audio_raiseEvt _ _

theorem spAt_setSp (s : State) (k : Nat) (x : SpSt) : (s.setSp k x).spAt k = x := SMap.get_set_same _ _ _ _

theorem grpAt_setGrp (s : State) (g : Nat) (x : GrpSt) : (s.setGrp g x).grpAt g = x := SMap.get_set_same _ _ _ _

end State

section Clock
variable {s : State}

theorem audioBoundary_shows {g : BitVec 16} {a : Arm} (harm : s.armOf .aud g.toNat = some a) (hlink : a.link = 0) :
    (s.audBoundary g.toNat = true → exec (.audioBlockBoundary g) s = .next (s.commitTogether [(.aud, g.toNat)])) ∧
    ((s.audClock g.toNat).1 + 128 * 1000000000 / max 1 (s.audClock g.toNat).2 ≤ s.now →
      exec (.audioClockStopped g) s = .next (s.commitTogether [(.aud, g.toNat)])) ∧
    (s.now < (s.audClock g.toNat).1 + 128 * 1000000000 / max 1 (s.audClock g.toNat).2 → exec (.audioClockStopped g) s = .next s) := by
  have hpoint := State.commitPoint_alone harm hlink
  exact ⟨fun hb => congrArg _ ((if_pos hb).trans hpoint), fun hdue => congrArg _ ((if_pos hdue).trans hpoint),
    fun hearly => congrArg _ (if_neg (Nat.not_le.mpr hearly))⟩

end Clock

/-! ### Serial ports (R466, R467) -/

section Serial
variable {s : State} {p : Nat} {smp : List Word}

/-- The slots a port takes from a frame sync. -/
def State.slots (s : State) (p : Nat) (smp : List Word) : List Word :=
  (List.range (fld (s.rd (Reg.audSpCfg p)) 21 17)).map (fun i => smp.getD i 0 &&& slotMask (fld (s.rd (Reg.audSpCfg p)) 16 15))

/-- A running input port with its frame sync seen. -/
def State.synced (s : State) (p good : Nat) : State := s.setSp p { s.spAt p with good := good, lastAt := s.now }

theorem serialSync_stopped (h : s.flag (Reg.audSpSts p) 31 = false) (on : Bool) : s.serialSync p on smp = s := if_pos (by simp [h])

/-- A running port after a frame sync at its place: locked once 16 have been seen. -/
def State.syncedInPlace (s : State) (p : Nat) : State :=
  if 16 ≤ (s.spAt p).good + 1 then (s.synced p ((s.spAt p).good + 1)).setSpLock p true else s.synced p ((s.spAt p).good + 1)

/-- A running port after a frame sync off its place: counted, and unlocked. -/
def State.syncedOff (s : State) (p : Nat) : State := ((s.synced p 0).addSat (Reg.audSpCnt p) 31 0 1).setSpLock p false

/-- What a locked input port feeds its groups. -/
def State.feedLocked (s : State) (p : Nat) (slots : List Word) : State :=
  if s.flag (Reg.audSpSts p) 30 then s.feedGroups 0 p none 0 [slots] else s

theorem serialSync_inPlace (hrun : s.flag (Reg.audSpSts p) 31 = true) (hin : (s.rd (Reg.audSpCfg p)).getLsbD 30 = false) :
    s.serialSync p true smp = (s.syncedInPlace p).feedLocked p (s.slots p smp) :=
  (if_neg (by simp [hrun])).trans (if_neg (by rw [bit, hin]; decide))

theorem serialSync_off (hrun : s.flag (Reg.audSpSts p) 31 = true) (hin : (s.rd (Reg.audSpCfg p)).getLsbD 30 = false) :
    s.serialSync p false smp = (s.syncedOff p).feedLocked p (s.slots p smp) := by
  unfold State.serialSync
  simp only [hrun, bit, hin, Bool.not_true, Bool.not_false, Bool.false_eq_true, if_false, if_true]
  rfl

theorem audSpSts_high (p : Nat) : 0x800000 ≤ Reg.audSpSts p := by unfold Reg.audSpSts; omega

theorem serialSync_locked (hrun : s.flag (Reg.audSpSts p) 31 = true) (hin : (s.rd (Reg.audSpCfg p)).getLsbD 30 = false)
    (hlock : s.flag (Reg.audSpSts p) 30 = true) :
    s.serialSync p true smp = (s.synced p ((s.spAt p).good + 1)).feedGroups 0 p none 0 [s.slots p smp] := by
  have hkept : (s.synced p ((s.spAt p).good + 1)).setSpLock p true = s.synced p ((s.spAt p).good + 1) := State.setAudBit_same hlock
  rw [serialSync_inPlace hrun hin, State.syncedInPlace, hkept, ite_self]
  exact if_pos hlock

theorem serialSync_locks (hrun : s.flag (Reg.audSpSts p) 31 = true) (hin : (s.rd (Reg.audSpCfg p)).getLsbD 30 = false)
    (hlock : s.flag (Reg.audSpSts p) 30 = false) (hgood : 15 ≤ (s.spAt p).good) : s.serialSync p true smp =
      State.feedGroups (((s.synced p ((s.spAt p).good + 1)).setB (Reg.audSpSts p) 30 true).raiseEvt Reg.audEvt) 0 p none 0 [s.slots p smp] := by
  have hset : (s.synced p ((s.spAt p).good + 1)).setSpLock p true =
      ((s.synced p ((s.spAt p).good + 1)).setB (Reg.audSpSts p) 30 true).raiseEvt Reg.audEvt :=
    State.setAudBit_change (fun h => Bool.false_ne_true (hlock.symm.trans h))
  rw [serialSync_inPlace hrun hin, State.syncedInPlace, if_pos (by omega), ← hset]
  exact if_pos (State.flag_setAudBit _ true (by decide) (audSpSts_high p))

theorem serialSync_gathers (hrun : s.flag (Reg.audSpSts p) 31 = true) (hin : (s.rd (Reg.audSpCfg p)).getLsbD 30 = false)
    (hlock : s.flag (Reg.audSpSts p) 30 = false) (hgood : (s.spAt p).good < 15) :
    s.serialSync p true smp = s.synced p ((s.spAt p).good + 1) := by
  rw [serialSync_inPlace hrun hin, State.syncedInPlace, if_neg (by omega)]
  exact if_neg (fun h => Bool.false_ne_true (hlock.symm.trans h))

theorem serialSync_unlocks (hrun : s.flag (Reg.audSpSts p) 31 = true) (hin : (s.rd (Reg.audSpCfg p)).getLsbD 30 = false)
    (hlock : s.flag (Reg.audSpSts p) 30 = true) : s.serialSync p false smp =
      (((s.synced p 0).addSat (Reg.audSpCnt p) 31 0 1).setB (Reg.audSpSts p) 30 false).raiseEvt Reg.audEvt := by
  have hne : Reg.audSpSts p ≠ Reg.audSpCnt p := by unfold Reg.audSpSts Reg.audSpCnt; omega
  have hcounted : ((s.synced p 0).addSat (Reg.audSpCnt p) 31 0 1).flag (Reg.audSpSts p) 30 = true :=
    (State.flag_of_rd (State.rd_setF_ne _ _ _ _ _ _ hne) 30).trans hlock
  have hset : ((s.synced p 0).addSat (Reg.audSpCnt p) 31 0 1).setSpLock p false =
      (((s.synced p 0).addSat (Reg.audSpCnt p) 31 0 1).setB (Reg.audSpSts p) 30 false).raiseEvt Reg.audEvt :=
    State.setAudBit_change (fun h => Bool.false_ne_true (h.symm.trans hcounted))
  have hflag : (s.syncedOff p).flag (Reg.audSpSts p) 30 = false := State.flag_setAudBit _ false (by decide) (audSpSts_high p)
  rw [serialSync_off hrun hin, ← hset]
  exact if_neg (by rw [hflag]; decide)

theorem serial_shows (p : Fin 16) (smp : List Word) :
    (s.flag (Reg.audSpSts p) 31 = true → (s.rd (Reg.audSpCfg p)).getLsbD 30 = false →
      (s.flag (Reg.audSpSts p) 30 = true → exec (.audioFrameSync (.serial p) true smp) s =
        .next ((s.synced p ((s.spAt p).good + 1)).feedGroups 0 p none 0 [s.slots p smp])) ∧
      (s.flag (Reg.audSpSts p) 30 = false → 15 ≤ (s.spAt p).good → exec (.audioFrameSync (.serial p) true smp) s =
        .next (State.feedGroups (((s.synced p ((s.spAt p).good + 1)).setB (Reg.audSpSts p) 30 true).raiseEvt Reg.audEvt) 0 p none 0
          [s.slots p smp])) ∧
      (s.flag (Reg.audSpSts p) 30 = false → (s.spAt p).good < 15 → exec (.audioFrameSync (.serial p) true smp) s =
        .next (s.synced p ((s.spAt p).good + 1))) ∧
      ((s.rd (Reg.audSpCfg p)).getLsbD 27 = false → s.flag (Reg.audSpSts p) 30 = true → exec (.audioFrameSync (.serial p) false smp) s =
        .next ((((s.synced p 0).addSat (Reg.audSpCnt p) 31 0 1).setB (Reg.audSpSts p) 30 false).raiseEvt Reg.audEvt))) ∧
    (s.flag (Reg.audSpSts p) 31 = false → exec (.audioFrameSync (.serial p) true smp) s = .next s) :=
  ⟨fun hrun hin => ⟨fun hlock => congrArg _ (serialSync_locked hrun hin hlock), fun hlock hgood => congrArg _ (serialSync_locks hrun hin hlock hgood),
    fun hlock hgood => congrArg _ (serialSync_gathers hrun hin hlock hgood), fun _ hlock => congrArg _ (serialSync_unlocks hrun hin hlock)⟩,
    fun hstop => congrArg _ (serialSync_stopped hstop true)⟩

theorem portLockLoss_shows (p : Fin 16) :
    (s.flag (Reg.audSpSts p) 31 = true → (s.rd (Reg.audSpCfg p)).getLsbD 27 = false → s.flag (Reg.audSpSts p) 30 = true →
      (s.spAt p).lastAt + 2 * 1000000000 / max 1 (audRate (fld (s.rd (Reg.audSpCfg p)) 25 22)) ≤ s.now →
      ∃ t, exec (.audioPortLockLoss p) s = .next t ∧ t.flag (Reg.audSpSts p) 30 = false ∧ (t.spAt p).good = 0) ∧
    ((s.rd (Reg.audSpCfg p)).getLsbD 27 = true → exec (.audioPortLockLoss p) s = .next s) := by
  refine ⟨fun hrun hslave _ hdue => ⟨_, congrArg Host.Outcome.next (if_pos ?_), State.flag_setAudBit _ false (by decide) (audSpSts_high p), ?_⟩,
    fun hmaster => congrArg Host.Outcome.next (if_neg ?_)⟩
  · rw [hrun, bit, hslave]
    exact decide_eq_true hdue
  · have hkept := (State.audio_setAudBit (s.setSp p.val { s.spAt p.val with good := 0 }) (Reg.audSpSts p) 30 false).1
    rw [State.spAt, State.setSpLock, hkept]
    exact congrArg SpSt.good (s.spAt_setSp _ _)
  · rw [bit, hmaster]
    simp

end Serial

/-! ### AES3 (R468, R469, R471) -/

section Aes3
variable {s : State}

theorem aes3Block_shows (a : Fin 4) (b : Aes3Block) (v : SpSt) (s1 s2 : State) (hen : s.flag (Reg.audArCfg a) 31 = true)
    (hlock : s.flag (Reg.audArSts a) 31 = true) (hv : v = s.spAt (0x10 + a))
    (h1 : s1 = (if v.anyV then (s.setSp (0x10 + a) { v with anyV := false }).addSat (Reg.audArCnt a) 15 0 1 else s))
    (h2 : s2 = ((((s1.putWords (Reg.audArCs0 a 0) b.csA).putWords (Reg.audArCs1 a 0) b.csB).putWords (Reg.audArU0 a 0) b.uA).putWords
      (Reg.audArU1 a 0) b.uB).addWrap (Reg.audArSeq a) 31 0 1) :
    (badStatus b.csA = false → badStatus b.csB = false →
      ((b.csA.getD 0 0).getLsbD 1 = false → exec (.aes3Block a b) s = .next ((s2.arSettle a).feedStatus 1 a none [])) ∧
      ((b.csA.getD 0 0).getLsbD 1 = true → exec (.aes3Block a b) s = .next ((s2.setArNonaudio a true).feedStatus 1 a none [0]))) ∧
    (badStatus b.csA = true ∨ badStatus b.csB = true →
      exec (.aes3Block a b) s = .next ((s1.addSat (Reg.audArCnt a) 31 16 1).raiseEvt Reg.audEvt)) := by
  subst hv
  have htaken : s.aes3Block a b =
      if badStatus b.csA || badStatus b.csB then (s1.addSat (Reg.audArCnt a) 31 16 1).raiseEvt Reg.audEvt
      else if (b.csA.getD 0 0).getLsbD 1 then (s2.setArNonaudio a true).feedStatus 1 a none [0] else (s2.arSettle a).feedStatus 1 a none [] := by
    rw [h2, h1]
    exact if_neg (by simp [hen, hlock])
  refine ⟨fun hA hB => ⟨fun haudio => congrArg _ (htaken.trans ?_), fun hcoded => congrArg _ (htaken.trans ?_)⟩,
    fun hbad => congrArg _ (htaken.trans (if_pos ?_))⟩
  · rw [if_neg (by simp [hA, hB]), if_neg (by rw [haudio]; decide)]
  · rw [if_neg (by simp [hA, hB]), if_pos hcoded]
  · rcases hbad with h | h <;> simp [h]

/-- The receiver's lock and rate as AES3_LOCK_CHANGE leaves them. -/
theorem aes3LockChange_leaves (a : Fin 4) (locked : Bool) (rate : BitVec 4) : ∃ t, exec (.aes3LockChange a locked rate) s = .next t ∧
    t.flag (Reg.audArSts a) 31 = (locked && s.flag (Reg.audArCfg a) 31) ∧
    t.getF (Reg.audArSts a) 3 0 = if locked && s.flag (Reg.audArCfg a) 31 then rate.toNat else 0xF := by
  have hhigh : 0x800000 ≤ Reg.audArSts a := by unfold Reg.audArSts; omega
  have hrate : (if locked && s.flag (Reg.audArCfg a) 31 then rate.toNat else 0xF) < 16 := by
    split
    · exact rate.isLt
    · decide
  refine ⟨_, rfl, ?_⟩
  dsimp only
  split
  · next hsame => exact ⟨(State.flag_setF_apart _ _ _ _ _ _ (by decide) (by decide)).trans hsame, State.getF_setF_same _ _ _ _ _ (by decide) hrate⟩
  · constructor
    · rw [State.flag_of_rd (State.rd_raiseEvt _ _ _ hhigh), State.flag_setF_apart _ _ _ _ _ _ (by decide) (by decide),
        State.flag_setB_same _ _ _ _ (by decide)]
    · rw [State.getF_of_rd (State.rd_raiseEvt _ _ _ hhigh), State.getF_setF_same _ _ _ _ _ (by decide) hrate]

theorem aes3Locks_shows (a : Fin 4) (r : BitVec 4) (hen : s.flag (Reg.audArCfg a) 31 = true) : ∃ t, exec (.aes3LockChange a true r) s = .next t ∧
    t.flag (Reg.audArSts a) 31 = true ∧ t.getF (Reg.audArSts a) 3 0 = r.toNat := by
  obtain ⟨t, hrun, hflag, hrate⟩ := aes3LockChange_leaves (s := s) a true r
  exact ⟨t, hrun, by simpa [hen] using hflag, by simpa [hen] using hrate⟩

theorem aes3Unlocks_shows (a : Fin 4) (r : BitVec 4) : ∃ t, exec (.aes3LockChange a false r) s = .next t ∧
    t.flag (Reg.audArSts a) 31 = false ∧ t.getF (Reg.audArSts a) 3 0 = 15 := by
  obtain ⟨t, hrun, hflag, hrate⟩ := aes3LockChange_leaves (s := s) a false r
  exact ⟨t, hrun, by simpa using hflag, by simpa using hrate⟩

theorem nonaudioExit_shows (g : Fin 16) (pr : Fin 8) (x : GrpSt) (hx : x = s.grpAt g) :
    (x.nonaudio.contains pr.val = true → 4096 ≤ SMap.get (fun _ => 0) x.quiet pr.val → x.coded.contains pr.val = false →
      ∃ t, exec (.nonaudioExit g pr) s = .next t ∧ (t.grpAt g).nonaudio = x.nonaudio.filter (fun k => k != pr.val) ∧
        t.flag (Reg.audGrpSts g) 30 = !(x.nonaudio.filter (fun k => k != pr.val)).isEmpty) ∧
    (SMap.get (fun _ => 0) x.quiet pr.val < 4096 ∨ x.coded.contains pr.val = true → exec (.nonaudioExit g pr) s = .next s) := by
  subst hx
  have hhigh : 0x800000 ≤ Reg.audGrpSts g := by unfold Reg.audGrpSts; omega
  refine ⟨fun hin hquiet haudio => ⟨_, congrArg Host.Outcome.next (if_pos ?_), ?_, ?_⟩, fun hstays => congrArg Host.Outcome.next (if_neg ?_)⟩
  · simp only [hin, hquiet, haudio]
    decide
  · rw [State.grpAt, (State.audio_raiseEvt _ _).2]
    exact congrArg GrpSt.nonaudio (s.grpAt_setGrp _ _)
  · rw [State.flag_of_rd (State.rd_raiseEvt _ _ _ hhigh), State.flag_setB_same _ _ _ _ (by decide)]
  · rcases hstays with h | h
    · simp [Nat.not_le.mpr h]
    · simp only [h]
      simp

end Aes3

/-! ### Groups, mutes and outputs (R475-R482) -/

section Groups
variable {s : State}

/-- A group with no block in progress produces nothing. -/
theorem grpRun_idle {g : Nat} (h : (s.grpAt g).blk = none) : s.grpRun g = s := by
  unfold State.grpRun
  dsimp only
  rw [h]

/-- The block boundary of a running group clocked by a time base, with no block in progress. -/
theorem outputBlock_idle {g : Nat} (hon : s.grpOn g = true) (htb : s.flag (Reg.audGrpOut g) 31 = false) (hidle : (s.grpAt g).blk = none) :
    s.outputBlock g =
      if ((s.grpAt g).written.map (· + 1)).getD 0 ≤ s.grpIndex g / 64 then s.beginBlock g (s.grpIndex g / 64) else s := by
  unfold State.outputBlock
  simp only [hon, htb, grpRun_idle hidle, hidle, Bool.not_true, Bool.false_eq_true, if_false]

/-- With block b in progress and the next one due. -/
theorem outputBlock_due {g b : Nat} (hon : s.grpOn g = true) (htb : s.flag (Reg.audGrpOut g) 31 = false)
    (hblk : ((s.grpRun g).grpAt g).blk = some b) (hidx : (s.grpRun g).grpIndex g / 64 = b + 1) :
    s.outputBlock g = ((s.grpRun g).writeBlock g b).beginBlock g (b + 1) := by
  unfold State.outputBlock
  simp only [hon, htb, hblk, hidx, Bool.not_true, Bool.false_eq_true, if_false, if_true]

theorem outputBlock_off {g : Nat} (h : s.grpOn g = false) : s.outputBlock g = s := if_pos (by simp [h])

theorem outputBlock_begins {g n : Nat} (hon : s.grpOn g = true) (htb : s.flag (Reg.audGrpOut g) 31 = false) (hn : n = s.grpIndex g / 64)
    (hidle : (s.grpAt g).blk = none) (hnext : ∀ w, (s.grpAt g).written = some w → w < n) : s.outputBlock g = s.beginBlock g n := by
  have hdue : ((s.grpAt g).written.map (· + 1)).getD 0 ≤ s.grpIndex g / 64 := by
    cases hw : (s.grpAt g).written with
    | none => exact Nat.zero_le _
    | some w => exact hn ▸ hnext w hw
  rw [outputBlock_idle hon htb hidle, hn]
  exact if_pos hdue

theorem sourceLoss_shows (g : Fin 16) (hon : s.grpOn g = true) (hhad : (s.grpAt g).lost = false)
    (hdue : (s.grpAt g).lastFrameAt + 128 * 1000000000 / max 1 (s.grpRate g) ≤ s.now) :
    ∃ t, exec (.audioSourceLoss g) s = .next t ∧ (t.grpAt g).lost = true ∧ (t.grpAt g).fifo = [] ∧ t.grpLocked g = false := by
  have hhigh : 0x800000 ≤ Reg.audGrpSts g := by unfold Reg.audGrpSts; omega
  have hgrp (u : State) (x : GrpSt) : (((u.setGrp g x).setGrpLock g false).setF (Reg.audGrpSts g) 7 0 0).grpAt g = x := by
    have hkept := (State.audio_setAudBit (u.setGrp g x) (Reg.audGrpSts g) 31 false).2
    exact (congrArg (SMap.get (fun _ => GrpSt.reset) · g) hkept).trans (u.grpAt_setGrp g x)
  refine ⟨_, congrArg Host.Outcome.next (if_pos ?_), congrArg GrpSt.lost (hgrp _ _), congrArg GrpSt.fifo (hgrp _ _), ?_⟩
  · rw [hon, hhad]
    exact decide_eq_true hdue
  · exact (State.flag_setF_apart _ _ _ _ _ _ (by decide) (by decide)).trans (State.flag_setAudBit _ false (by decide) hhigh)

theorem sourceLoss_early (g : Fin 16) (h : s.now < (s.grpAt g).lastFrameAt + 128 * 1000000000 / max 1 (s.grpRate g)) :
    exec (.audioSourceLoss g) s = .next s := by
  have hearly : ¬ (s.grpAt g).lastFrameAt + 128 * secNs / max 1 (s.grpRate g) ≤ s.now := Nat.not_le.mpr h
  exact congrArg _ (if_neg (by simp [hearly]))

theorem mute_shows {i : Nat} {d : QDesc} {g : Nat} (hd : s.firstWaiting 0x60 = some (i, d)) (hkind : d.kind = 1) (hg : g = byteAt d.bytes 8)
    (hzero : zeroBytes d.bytes 10 22 = true) :
    (g < 16 → byteAt d.bytes 9 < 2 → exec .mute s =
      .next ((s.startAt 0x60 i (g + 1)).setGrp g { s.grpAt g with muteNext := some (byteAt d.bytes 9 == 1) })) ∧
    (16 ≤ g ∨ 2 ≤ byteAt d.bytes 9 → exec .mute s = .next (s.completeAt 0x60 i 1 none)) := by
  subst hg
  have htaken : s.muteDesc =
      if 16 ≤ byteAt d.bytes 8 ∨ 2 ≤ byteAt d.bytes 9 ∨ !zeroBytes d.bytes 10 22 then s.completeAt 0x60 i 1 none
      else (s.startAt 0x60 i (byteAt d.bytes 8 + 1)).setGrp (byteAt d.bytes 8)
        { s.grpAt (byteAt d.bytes 8) with muteNext := some (byteAt d.bytes 9 == 1) } := by
    unfold State.muteDesc
    rw [hd]
    exact if_neg (by simp [hkind])
  refine ⟨fun hlt hv => congrArg _ (htaken.trans (if_neg ?_)), fun hbad => congrArg _ (htaken.trans (if_pos ?_))⟩
  · rw [hzero]
    simp only [Bool.not_true, Bool.false_eq_true, or_false]
    omega
  · rcases hbad with h | h
    · exact .inl h
    · exact .inr (.inl h)

theorem outputSend_shows (o : Fin 16) {g w lo b stamp : Nat} {r : State} {fs : List (List Word)} (hg : g = fld (s.rd (Reg.audOutCfg o)) 27 24)
    (hw : (s.grpAt g).written = some w) (hlo : lo = max (s.aoAt o).blk (w + 1 - s.getF (Reg.audGrpRingCtl g) 5 0))
    (hen : (s.rd (Reg.audOutCfg o)).getLsbD 31 = true)
    (hfind : ((List.range (w + 1 - lo)).map (· + lo)).find?
      (fun b => (s.readBlock g b (fld (s.rd (Reg.audOutCfg o)) 23 19) (fld (s.rd (Reg.audOutCfg o)) 18 14)).2.isSome) = some b)
    (hread : s.readBlock g b (fld (s.rd (Reg.audOutCfg o)) 23 19) (fld (s.rd (Reg.audOutCfg o)) 18 14) = (r, some (stamp, fs))) :
    exec (.audioOutputSend o) s = .next (r.sendBlock o g b stamp fs) := by
  subst hg hlo
  refine congrArg Host.Outcome.next ?_
  unfold State.outputSend
  dsimp only
  rw [hw]
  dsimp only
  rw [if_neg (by rw [bit, hen]; decide), hfind]
  dsimp only
  rw [hread]

theorem outputSend_off (o : Fin 16) (h : s.flag (Reg.audOutCfg o) 31 = false) : exec (.audioOutputSend o) s = .next s := by
  have hoff : (!bit (s.rd (Reg.audOutCfg o)) 31) = true := by
    rw [show bit (s.rd (Reg.audOutCfg o)) 31 = false from h]
    rfl
  refine congrArg Host.Outcome.next ?_
  unfold State.outputSend
  dsimp only
  split
  · rfl
  · exact if_pos hoff

end Groups

/-- Settles O52. That an output sends the oldest block not yet sent, one for each ring block (log entry 125), and a mute acts from the next block
(log entry 126), are the model's reading; the polynomial of the CRCC is presumed (log entry 124). -/
theorem audioBlocks : Obligations.AudioBlocks := by
  unfold Obligations.AudioBlocks
  intro s
  refine ⟨fun g a harm hlink => audioBoundary_shows harm hlink, ?_, fun a b v s1 s2 => aes3Block_shows a b v s1 s2, fun a r => aes3Locks_shows a r,
    fun a r => aes3Unlocks_shows a r, fun g pr x => nonaudioExit_shows g pr x, ?_, fun i d g hd hkind hg hzero => mute_shows hd hkind hg hzero, ?_,
    fun o => outputSend_off o⟩
  · rintro p _ _ smp rfl rfl
    obtain ⟨hrunning, hstopped⟩ := serial_shows (s := s) p smp
    obtain ⟨hloss, hmaster⟩ := portLockLoss_shows (s := s) p
    exact ⟨hrunning, hstopped, hloss, hmaster⟩
  · rintro g _ n rfl htb hn
    refine ⟨fun hoff => congrArg _ (outputBlock_off hoff), fun hon hidle hnext => congrArg _ (outputBlock_begins hon htb hn hidle hnext), ?_,
      fun hon hhad hdue => sourceLoss_shows g hon hhad hdue, fun hearly => sourceLoss_early g hearly⟩
    rintro b _ hon rfl hblk hidx
    exact congrArg _ (outputBlock_due hon htb hblk hidx)
  · rintro o _ g w lo b r stamp fs rfl hg hw hlo hen hfind hread
    exact outputSend_shows o hg hw hlo hen hfind hread

end Sys2Proof.Machine

namespace Sys2Proof.Machine

/-! ### Registers whose every writable bit a write stores (R5) -/

/-- A write of the register stores the bits of the mask and does nothing else. -/
def Stores (off : Nat) (st : Word) : Prop :=
  accMask off (fun a => a == .rw || a == .lv) = st ∧ accMask off (fun a => a == .w1c) = 0 ∧ accMask off (fun a => a == .w1s) = 0 ∧ shMask off = 0

theorem stores_hifSqCfg : ∀ q : Fin 64, Stores (Reg.hifSqCfg q) 0x803F1FFF := by
  unfold Stores
  decide

theorem stores_hifCqCfg : ∀ q : Fin 64, Stores (Reg.hifCqCfg q) 0x800FFFFF := by
  unfold Stores
  decide

theorem stores_hifEvtCfg : Stores Reg.hifEvtCfg 0x8000003F := by
  unfold Stores
  decide

theorem stores_hifIdleHint : Stores Reg.hifIdleHint 1 := by
  unfold Stores
  decide

/-- A stored bit reads as written. -/
theorem getLsbD_stored (w v st : Word) {i : Nat} (h : st.getLsbD i = true) : ((w &&& ~~~st) ||| (v &&& st)).getLsbD i = v.getLsbD i := by
  simp [h]

namespace State
section Plain
variable (s : State) {off : Nat} {st : Word} (v : Word) (h : Stores off st)
include h

theorem plainWrite_of_stores : s.plainWrite off v = s.wr off ((s.rd off &&& ~~~st) ||| (v &&& st)) := by
  obtain ⟨hst, hc, ho, hsh⟩ := h
  have hnone (a : Word) : (a &&& ~~~(v &&& 0)) ||| (v &&& 0) = a := by
    rw [show v &&& 0 = 0#32 from BitVec.and_zero, BitVec.not_zero, BitVec.and_allOnes, BitVec.or_zero]
  unfold plainWrite
  simp only [hst, hc, ho, hsh, hnone, if_true]

theorem flag_plainWrite {i : Nat} (hi : st.getLsbD i = true) : (s.plainWrite off v).flag off i = v.getLsbD i := by
  rw [plainWrite_of_stores s v h, flag, rd_wr_same]
  exact getLsbD_stored _ _ _ hi

theorem getF_plainWrite {hi lo : Nat} (hbits : ∀ i, i < hi + 1 - lo → st.getLsbD (lo + i) = true) :
    (s.plainWrite off v).getF off hi lo = fld v hi lo := by
  rw [plainWrite_of_stores s v h, getF, rd_wr_same]
  refine Nat.eq_of_testBit_eq fun i => ?_
  rw [testBit_fld, testBit_fld]
  by_cases hlt : i < hi + 1 - lo
  · rw [getLsbD_stored _ _ _ (hbits i hlt)]
  · simp [hlt]

theorem hif_plainWrite : (s.plainWrite off v).hif = s.hif ∧ (s.plainWrite off v).outbox = s.outbox := by
  rw [plainWrite_of_stores s v h]
  exact ⟨rfl, rfl⟩

end Plain

/-! ### Events placed (R512, R513) -/

theorem held_pmeOnHold (s : State) : s.pmeOnHold.hif.held = s.hif.held := by
  unfold pmeOnHold
  split
  · rfl
  · rfl

/-- An entry is written or held: the held ones grow at most. -/
theorem heldLength_putEntry (s : State) (e : Entry) : s.hif.held.length ≤ (s.putEntry e).hif.held.length := by
  rw [putEntry_eq]
  split
  · rw [held_pmeOnHold, holdEntry, List.length_append]
    exact Nat.le_add_right _ _
  · rw [held_writeEntry]

theorem rd_putEntry_pend (s : State) (e : Entry) : (s.putEntry e).rd Reg.hifEvtPend = s.rd Reg.hifEvtPend := by
  have hne : Reg.hifEvtPend ≠ Reg.hifCqSts e.cq := by unfold Reg.hifEvtPend Reg.hifCqSts; omega
  rw [putEntry_eq]
  split
  · exact rd_pmeOnHold _ _
  · exact rd_writeEntry_ne _ _ hne

/-- Can pending code e be placed now (R513)? -/
def placeable (s : State) (e : Nat) : Bool :=
  s.flag Reg.hifEvtCfg 31 && s.flag Reg.hifEvtMask e && s.flag Reg.hifEvtPend e && decide (s.hif.held.length < holdingCap)

theorem placeEvent_of_not {s : State} {e : Nat} (h : s.placeable e = false) : s.placeEvent e = s := if_neg (by rw [← placeable, h]; decide)

/-- A placed code is no longer pending, and its entry is put. -/
theorem placeEvent_of_placeable {s : State} {e : Nat} (h : s.placeable e = true) : ∃ (u : State) (en : Entry), s.placeEvent e = u.putEntry en ∧
    u.rd Reg.hifEvtPend = (s.setB Reg.hifEvtPend e false).rd Reg.hifEvtPend ∧ u.hif.held = s.hif.held :=
  ⟨_, _, if_pos h, rfl, rfl⟩

theorem heldLength_placeEvent (s : State) (e : Nat) : s.hif.held.length ≤ (s.placeEvent e).hif.held.length := by
  cases h : s.placeable e with
  | false => rw [placeEvent_of_not h]
  | true =>
    obtain ⟨u, en, hput, _, hheld⟩ := placeEvent_of_placeable h
    rw [hput, ← hheld]
    exact u.heldLength_putEntry en

theorem heldLength_placeEvents (l : List Nat) (s : State) : s.hif.held.length ≤ (l.foldl placeEvent s).hif.held.length := by
  induction l generalizing s with
  | nil => exact Nat.le_refl _
  | cons e l ih => exact Nat.le_trans (s.heldLength_placeEvent e) (ih _)

/-- Of the pending codes placing e clears its own at most. -/
theorem pend_placeEvent {s : State} {e i : Nat} (he : e < 32) (h : s.flag Reg.hifEvtPend i = false ∨ i = e ∧ s.placeable e = true) :
    (s.placeEvent e).flag Reg.hifEvtPend i = false := by
  cases hp : s.placeable e with
  | false =>
    rw [placeEvent_of_not hp]
    rcases h with h | ⟨_, h⟩
    · exact h
    · exact absurd (hp.symm.trans h) Bool.false_ne_true
  | true =>
    obtain ⟨u, en, hput, hpend, _⟩ := placeEvent_of_placeable hp
    rw [hput, flag_of_rd (u.rd_putEntry_pend en), flag_of_rd hpend]
    by_cases hi : i = e
    · rw [hi]
      exact flag_setB_same _ _ _ _ he
    · rw [flag_setB_apart _ _ _ _ _ he hi]
      exact h.resolve_right fun hc => hi hc.1

theorem pend_placeEvents {l : List Nat} (hl : ∀ e ∈ l, e < 32) {s : State} {i : Nat} (h : s.flag Reg.hifEvtPend i = false) :
    (l.foldl placeEvent s).flag Reg.hifEvtPend i = false := by
  induction l generalizing s with
  | nil => exact h
  | cons e l ih => exact ih (fun a ha => hl a (by simp [ha])) (pend_placeEvent (hl e (by simp)) (.inl h))

/-- While events are enabled and the holding buffer has room at the end, every unmasked code of the list has been placed. -/
theorem placeEvents_places {l : List Nat} (hl : ∀ e ∈ l, e < 32) {s : State} (hen : (l.foldl placeEvent s).flag Reg.hifEvtCfg 31 = true)
    (hroom : (l.foldl placeEvent s).hif.held.length < holdingCap) {e : Nat} (he : e ∈ l)
    (hmask : (l.foldl placeEvent s).flag Reg.hifEvtMask e = true) : (l.foldl placeEvent s).flag Reg.hifEvtPend e = false := by
  induction l generalizing s with
  | nil => exact absurd he List.not_mem_nil
  | cons a l ih =>
    have htail : ∀ e ∈ l, e < 32 := fun b hb => hl b (by simp [hb])
    by_cases hin : e ∈ l
    · exact ih htail hen hroom hin hmask
    · have hea : e = a := (List.mem_cons.mp he).resolve_right hin
      refine pend_placeEvents htail (pend_placeEvent (hl a (by simp)) ?_)
      have hkept : s.EntryStep ((a :: l).foldl placeEvent s) := EntryStep.foldl EntryStep.placeEvent _ s
      have hcfg : s.flag Reg.hifEvtCfg 31 = true := (flag_of_rd (hkept.regs _ (by decide) (by decide)) 31).symm.trans hen
      have hmsk : s.flag Reg.hifEvtMask e = true := (flag_of_rd (hkept.regs _ (by decide) (by decide)) e).symm.trans hmask
      have hlen : s.hif.held.length < holdingCap := Nat.lt_of_le_of_lt (heldLength_placeEvents (a :: l) s) hroom
      cases hpend : s.flag Reg.hifEvtPend e with
      | false => exact .inl rfl
      | true => exact .inr ⟨hea, by rw [← hea]; simp [placeable, hcfg, hmsk, hpend, hlen]⟩

/-! ### Vectors fired (R516, R517) -/

theorem rd_fireAll (s : State) (off : Nat) : s.fireAll.rd off = s.rd off := by
  refine rd_foldl _ off (fun s v => ?_) _ s
  unfold fireDue
  split
  · rfl
  · rfl

theorem sent_fireDue (s : State) (v : Nat) : s.outbox ⊆ (s.fireDue v).outbox := by
  unfold fireDue
  split
  · exact List.Subset.refl _
  · exact (PlaneKept.fireVec s v).sent

theorem sent_fireDues (l : List Nat) (s : State) : s.outbox ⊆ (l.foldl fireDue s).outbox := by
  induction l generalizing s with
  | nil => exact List.Subset.refl _
  | cons v l ih => exact List.Subset.trans (s.sent_fireDue v) (ih _)

/-- An unmasked vector that has counted requests is sent. -/
theorem msix_mem_fireDues {l : List Nat} {s : State} {n : Nat} (hn : n ∈ l) (hmask : s.hif.masked n = false) (hcount : (s.hif.vecAt n).count ≠ 0) :
    .msix false n ∈ (l.foldl fireDue s).outbox := by
  induction l generalizing s with
  | nil => exact absurd hn List.not_mem_nil
  | cons v l ih =>
    by_cases hv : n = v
    · refine sent_fireDues l _ ?_
      rw [← hv, fireDue_of_some hcount, fireVec, hmask]
      simp
    · have hvec : (s.fireDue v).hif.vecAt n = s.hif.vecAt n := by
        unfold fireDue
        split
        · rfl
        · rw [vecAt_fireVec, if_neg hv]
      have hmasked : (s.fireDue v).hif.masked n = false := by
        unfold fireDue
        split
        · exact hmask
        · exact hmask
      exact ih ((List.mem_cons.mp hn).resolve_left hv) hmasked (hvec ▸ hcount)

end State

/-! ### The queues' registers (R507-R509) -/

section Queues
variable {s : State} {ini : Ini} {q : Fin 64} {v : Word}

theorem sqTailWrite_shows (hgate : s.regGate ini (Reg.hifSqTail q) true v = .ok) :
    (s.getF (Reg.hifSqCfg q) 12 0 ≤ fld v 11 0 →
      exec (.hifSqTailWrite ini q v) s = .next { s.setB (Reg.hifSqSts q) 30 true with resp := .ok 0 }) ∧
    (fld v 11 0 < s.getF (Reg.hifSqCfg q) 12 0 → exec (.hifSqTailWrite ini q v) s = .next { s.setF (Reg.hifSqTail q) 11 0 (fld v 11 0) with
      hif := { s.hif with sqSince := if s.sqWaits q then s.hif.sqSince else SMap.set (fun _ => 0) s.hif.sqSince q s.now }, resp := .ok 0 }) := by
  have hrun : exec (.hifSqTailWrite ini q v) s = .next { s.sqTailWrite q v with resp := .ok 0 } := congrArg _ (s.gatedWrite_of_ok ini _ v _ hgate)
  refine ⟨fun hout => hrun.trans ?_, fun hin => hrun.trans ?_⟩
  · rw [State.sqTailWrite, if_pos hout]
  · rw [State.sqTailWrite, if_neg (Nat.not_le.mpr hin)]
    dsimp only
    split
    · rfl
    · rfl

theorem sqCfgWrite_run (hgate : s.regGate ini (Reg.hifSqCfg q) true v = .ok) :
    exec (.hifQueueCfgWrite ini false q v) s = .next { s.sqCfgWrite q v with resp := .ok 0 } := congrArg _ (s.gatedWrite_of_ok ini _ v _ hgate)

theorem cqCfgWrite_run (hgate : s.regGate ini (Reg.hifCqCfg q) true v = .ok) :
    exec (.hifQueueCfgWrite ini true q v) s = .next { s.cqCfgWrite q v with resp := .ok 0 } := congrArg _ (s.gatedWrite_of_ok ini _ v _ hgate)

theorem sqCfgWrite_enabled (hen : s.flag (Reg.hifSqCfg q) 31 = true) : s.sqCfgWrite q v = s.setB (Reg.hifSqCfg q) 31 (v.getLsbD 31) := if_pos hen

/-- A command queue enabled within its limits is emptied, any other stays off with err. -/
theorem sqCfgWrite_enables (hoff : s.flag (Reg.hifSqCfg q) 31 = false) (hset : v.getLsbD 31 = true) : s.sqCfgWrite q v =
    if decide (1 ≤ fld v 12 0) && decide (fld v 12 0 ≤ 4096) && s.flag (Reg.hifCqCfg (fld v 21 16)) 31 then
      ((s.plainWrite (Reg.hifSqCfg q) v).setF (Reg.hifSqSts q) 11 0 0).wr (Reg.hifSqTail q) 0
    else ((s.plainWrite (Reg.hifSqCfg q) v).setB (Reg.hifSqCfg q) 31 false).setB (Reg.hifSqSts q) 28 true :=
  (if_neg (by simp [hoff])).trans (if_neg (by simp [bit, hset]))

section
variable (hoff : s.flag (Reg.hifSqCfg q) 31 = false) (hset : v.getLsbD 31 = true)
include hoff hset

theorem sqCfgWrite_inLimits (hlo : 1 ≤ fld v 12 0) (hhi : fld v 12 0 ≤ 4096) (hcq : s.flag (Reg.hifCqCfg (fld v 21 16)) 31 = true) :
    (s.sqCfgWrite q v).flag (Reg.hifSqCfg q) 31 = true ∧ (s.sqCfgWrite q v).getF (Reg.hifSqSts q) 11 0 = 0 ∧
      (s.sqCfgWrite q v).rd (Reg.hifSqTail q) = 0 := by
  have hcs : Reg.hifSqCfg q ≠ Reg.hifSqSts q := by unfold Reg.hifSqCfg Reg.hifSqSts; omega
  have hct : Reg.hifSqCfg q ≠ Reg.hifSqTail q := by unfold Reg.hifSqCfg Reg.hifSqTail; omega
  have hst : Reg.hifSqSts q ≠ Reg.hifSqTail q := by unfold Reg.hifSqSts Reg.hifSqTail; omega
  have hlimits : (decide (1 ≤ fld v 12 0) && decide (fld v 12 0 ≤ 4096) && s.flag (Reg.hifCqCfg (fld v 21 16)) 31) = true := by
    rw [hcq, decide_eq_true hlo, decide_eq_true hhi]
    rfl
  rw [sqCfgWrite_enables hoff hset, if_pos hlimits]
  refine ⟨?_, ?_, State.rd_wr_same _ _ _⟩
  · rw [State.flag_of_rd (State.rd_wr_ne _ _ _ _ hct), State.flag_of_rd (State.rd_setF_ne _ _ _ _ _ _ hcs),
      s.flag_plainWrite v (stores_hifSqCfg q) (by decide), hset]
  · rw [State.getF_of_rd (State.rd_wr_ne _ _ _ _ hst), State.getF_setF_same _ _ _ _ _ (by decide) (by decide)]

theorem sqCfgWrite_outside (hbad : fld v 12 0 = 0 ∨ 4096 < fld v 12 0 ∨ s.flag (Reg.hifCqCfg (fld v 21 16)) 31 = false) :
    (s.sqCfgWrite q v).flag (Reg.hifSqCfg q) 31 = false ∧ (s.sqCfgWrite q v).flag (Reg.hifSqSts q) 28 = true := by
  have hcs : Reg.hifSqCfg q ≠ Reg.hifSqSts q := by unfold Reg.hifSqCfg Reg.hifSqSts; omega
  have hlimits : ¬ (decide (1 ≤ fld v 12 0) && decide (fld v 12 0 ≤ 4096) && s.flag (Reg.hifCqCfg (fld v 21 16)) 31) = true := by
    simp only [Bool.and_eq_true, decide_eq_true_eq]
    rintro ⟨⟨hlo, hhi⟩, hcq⟩
    rcases hbad with h | h | h
    · omega
    · omega
    · exact Bool.false_ne_true (h.symm.trans hcq)
  rw [sqCfgWrite_enables hoff hset, if_neg hlimits]
  refine ⟨?_, State.flag_setB_same _ _ _ _ (by decide)⟩
  rw [State.flag_of_rd (State.rd_setB_ne _ _ _ _ _ hcs), State.flag_setB_same _ _ _ _ (by decide)]

end

theorem cqCfgWrite_disables (hen : s.flag (Reg.hifCqCfg q) 31 = true) (hclear : v.getLsbD 31 = false) : s.cqCfgWrite q v =
    if s.cqNamed q then s.setB (Reg.hifCqSts q) 28 true else s.setB (Reg.hifCqCfg q) 31 false := by
  unfold State.cqCfgWrite
  simp only [hen, bit, hclear, Bool.not_false, Bool.true_and, if_true]

theorem cqCfgWrite_enables (hoff : s.flag (Reg.hifCqCfg q) 31 = false) (hset : v.getLsbD 31 = true) : s.cqCfgWrite q v =
    if decide (2 ≤ fld v 12 0) && decide (fld v 12 0 ≤ 4096) then
      (((((s.plainWrite (Reg.hifCqCfg q) v).setF (Reg.hifCqSts q) 11 0 0).setF (Reg.hifCqSts q) 12 12 1).wr (Reg.hifCqHead q) 0).drainHeld).placeEvents
    else ((s.plainWrite (Reg.hifCqCfg q) v).setB (Reg.hifCqCfg q) 31 false).setB (Reg.hifCqSts q) 28 true :=
  (if_neg (by simp [hoff])).trans (if_neg (by simp [bit, hset]))

/-- Entries written after a queue's registers leave its configuration and its head. -/
theorem settled_entryStep (u : State) : u.EntryStep u.drainHeld.placeEvents := (State.EntryStep.drainHeld u).trans (.placeEvents _)

section
variable (hoff : s.flag (Reg.hifCqCfg q) 31 = false) (hset : v.getLsbD 31 = true)
include hoff hset

theorem cqCfgWrite_outside (hbad : fld v 12 0 < 2 ∨ 4096 < fld v 12 0) :
    (s.cqCfgWrite q v).flag (Reg.hifCqCfg q) 31 = false ∧ (s.cqCfgWrite q v).flag (Reg.hifCqSts q) 28 = true := by
  have hcs : Reg.hifCqCfg q ≠ Reg.hifCqSts q := by unfold Reg.hifCqCfg Reg.hifCqSts; omega
  have hlimits : ¬ (decide (2 ≤ fld v 12 0) && decide (fld v 12 0 ≤ 4096)) = true := by
    simp only [Bool.and_eq_true, decide_eq_true_eq]
    omega
  rw [cqCfgWrite_enables hoff hset, if_neg hlimits]
  refine ⟨?_, State.flag_setB_same _ _ _ _ (by decide)⟩
  rw [State.flag_of_rd (State.rd_setB_ne _ _ _ _ _ hcs), State.flag_setB_same _ _ _ _ (by decide)]

theorem cqCfgWrite_inLimits (hlo : 2 ≤ fld v 12 0) (hhi : fld v 12 0 ≤ 4096) :
    (s.cqCfgWrite q v).getF (Reg.hifCqCfg q) 12 0 = fld v 12 0 ∧ (s.cqCfgWrite q v).flag (Reg.hifCqCfg q) 31 = true ∧
      (s.cqCfgWrite q v).rd (Reg.hifCqHead q) = 0 := by
  have hcs : Reg.hifCqCfg q ≠ Reg.hifCqSts q := by unfold Reg.hifCqCfg Reg.hifCqSts; omega
  have hch : Reg.hifCqCfg q ≠ Reg.hifCqHead q := by unfold Reg.hifCqCfg Reg.hifCqHead; omega
  have hcfgKept : Reg.hifCqCfg q % 0x20 ≠ 0x10 ∧ Reg.hifCqCfg q ≠ Reg.hifEvtPend := by unfold Reg.hifCqCfg Reg.hifEvtPend; omega
  have hheadKept : Reg.hifCqHead q % 0x20 ≠ 0x10 ∧ Reg.hifCqHead q ≠ Reg.hifEvtPend := by unfold Reg.hifCqHead Reg.hifEvtPend; omega
  have hlimits : (decide (2 ≤ fld v 12 0) && decide (fld v 12 0 ≤ 4096)) = true := by
    rw [decide_eq_true hlo, decide_eq_true hhi]
    rfl
  rw [cqCfgWrite_enables hoff hset, if_pos hlimits]
  have hkept := settled_entryStep
    ((((s.plainWrite (Reg.hifCqCfg q) v).setF (Reg.hifCqSts q) 11 0 0).setF (Reg.hifCqSts q) 12 12 1).wr (Reg.hifCqHead q) 0)
  have hcfg := hkept.regs _ hcfgKept.1 hcfgKept.2
  rw [State.rd_wr_ne _ _ _ _ hch, State.rd_setF_ne _ _ _ _ _ _ hcs, State.rd_setF_ne _ _ _ _ _ _ hcs] at hcfg
  refine ⟨?_, ?_, ?_⟩
  · rw [State.getF_of_rd hcfg, s.getF_plainWrite v (stores_hifCqCfg q) (by decide)]
  · rw [State.flag_of_rd hcfg, s.flag_plainWrite v (stores_hifCqCfg q) (by decide), hset]
  · rw [hkept.regs _ hheadKept.1 hheadKept.2, State.rd_wr_same]

end

theorem cqHeadWrite_shows (hgate : s.regGate ini (Reg.hifCqHead q) true v = .ok) :
    (s.getF (Reg.hifCqCfg q) 12 0 ≤ fld v 11 0 →
      exec (.hifCqHeadWrite ini q v) s = .next { s.setB (Reg.hifCqSts q) 30 true with resp := .ok 0 }) ∧
    (fld v 11 0 < s.getF (Reg.hifCqCfg q) 12 0 →
      ∃ t, exec (.hifCqHeadWrite ini q v) s = .next t ∧ t.getF (Reg.hifCqHead q) 11 0 = fld v 11 0 ∧
        (s.hif.holding = false → ∀ e ∈ t.hif.held, t.cqReady e.cq = false)) := by
  have hrun : exec (.hifCqHeadWrite ini q v) s = .next { s.cqHeadWrite q v with resp := .ok 0 } := congrArg _ (s.gatedWrite_of_ok ini _ v _ hgate)
  refine ⟨fun hout => hrun.trans ?_, fun hin => ⟨_, hrun, ?_⟩⟩
  · rw [State.cqHeadWrite, if_pos hout]
  · rw [State.cqHeadWrite, if_neg (Nat.not_le.mpr hin)]
    have hkept := settled_entryStep (s.setF (Reg.hifCqHead q) 11 0 (fld v 11 0))
    refine ⟨?_, fun hawake => ?_⟩
    · refine (State.getF_of_rd (hkept.regs (Reg.hifCqHead q) (by unfold Reg.hifCqHead; omega) (by unfold Reg.hifCqHead Reg.hifEvtPend; omega))
        11 0).trans (State.getF_setF_same _ _ _ _ _ (by decide) (fld_lt v 11 0))
    · have hdrained : (s.setF (Reg.hifCqHead q) 11 0 (fld v 11 0)).drainHeld.HeldStuck := State.drainHeld_stuck hawake
      have hstuck := hdrained.placeEvents ((State.EntryStep.drainHeld _).holding.trans hawake)
      exact hstuck.congr rfl fun _ _ => rfl

theorem evtCfgWrite_shows (hgate : s.regGate ini Reg.hifEvtCfg true v = .ok) : ∃ t, exec (.hifEvtCfgWrite ini v) s = .next t ∧
    t.flag Reg.hifEvtCfg 31 = (v.getLsbD 31 && s.flag (Reg.hifCqCfg (fld v 5 0)) 31) ∧ t.getF Reg.hifEvtCfg 5 0 = fld v 5 0 ∧
    (t.flag Reg.hifEvtCfg 31 = true → t.hif.held.length < holdingCap →
      ∀ e, e < 32 → t.flag Reg.hifEvtMask e = true → t.flag Reg.hifEvtPend e = false) := by
  have hrun : exec (.hifEvtCfgWrite ini v) s = .next { s.evtCfgWrite v with resp := .ok 0 } := congrArg _ (s.gatedWrite_of_ok ini _ v _ hgate)
  have hcfg := (State.EntryStep.placeEvents
    ((s.plainWrite Reg.hifEvtCfg v).setB Reg.hifEvtCfg 31 (bit v 31 && s.flag (Reg.hifCqCfg (fld v 5 0)) 31))).regs Reg.hifEvtCfg (by decide) (by decide)
  refine ⟨_, hrun, ?_, ?_, fun hen hroom e he hmask => ?_⟩
  · exact (State.flag_of_rd hcfg 31).trans (State.flag_setB_same _ _ _ _ (by decide))
  · refine (State.getF_of_rd hcfg 5 0).trans ((State.getF_setB_apart _ _ _ _ _ _ (by decide) (by decide)).trans ?_)
    exact s.getF_plainWrite v stores_hifEvtCfg (by decide)
  · exact State.placeEvents_places (l := List.range 32) (fun _ h => List.mem_range.mp h) hen hroom (List.mem_range.mpr he) hmask

end Queues

/-! ### Commands fetched (R510, R511, R522-R524) -/

section Fetch
variable {s : State}

theorem rd_fetched_ne (s : State) (q : Nat) {off : Nat} (h : off ≠ Reg.hifSqSts q) : (s.fetched q).rd off = s.rd off := State.rd_setF_ne _ _ _ _ _ _ h

theorem head_fetched (s : State) (q : Nat) : (s.fetched q).getF (Reg.hifSqSts q) 11 0 = s.nextHead q % 2 ^ 12 := by
  rw [State.getF, State.fetched, State.setF, State.rd_wr_same]
  exact fld_putFld_same _ _ _ _ (by decide)

theorem hostVersion_fetched (s : State) (q : Nat) : (s.fetched q).getF Reg.hifVer 31 24 = s.getF Reg.hifVer 31 24 :=
  State.getF_of_rd (rd_fetched_ne s q (by unfold Reg.hifVer Reg.hifSqSts; omega)) 31 24

theorem commandFetch_of_not {q : Nat} {c : HostCmd} (h : s.mayFetch q = false) : s.commandFetch q c = s := if_neg (by simp [h])

theorem commandFetch_of_may {q : Nat} {c : HostCmd} (h : s.mayFetch q = true) : s.commandFetch q c =
    ((s.fetched q).runCommand c).1.complCmd q (leAt c.entry 2 2) ((s.fetched q).runCommand c).2.1 ((s.fetched q).runCommand c).2.2 := if_pos h

theorem runCommand_unnegotiated {c : HostCmd} (h : s.getF Reg.hifVer 31 24 = 0) (hid : byteAt c.entry 0 ≠ 1) (hneg : byteAt c.entry 0 ≠ 2) :
    s.runCommand c = (s, 2, none) := if_pos ⟨h, hid, hneg⟩

theorem runCommand_unknown {c : HostCmd} (h : s.getF Reg.hifVer 31 24 ≠ 0) (hop : opcodeVersion (byteAt c.entry 0) = none) :
    s.runCommand c = (s, 1, none) := by
  unfold State.runCommand
  dsimp only
  rw [if_neg (by simp [h]), hop]

/-- The rotation passes no queue that has waited 50 µs: such a queue is not between the queue served last and one in turn (R510). -/
theorem inTurn_fair {q : Fin 64} {k : Nat} (hk : k < 64) (hturn : s.inTurn q = true) (hwaits : s.sqWaits k = true)
    (hseen : SMap.get (fun _ => 0) s.hif.sqSince k + 50000 ≤ s.now) :
    (q.val + 63 - s.hif.turn % 64) % 64 ≤ (k + 63 - s.hif.turn % 64) % 64 := by
  by_contra hlt
  have hplace : (s.hif.turn + 1 + (k + 63 - s.hif.turn % 64) % 64) % 64 = k := by omega
  have hpassed : (List.range ((q.val + 63 - s.hif.turn % 64) % 64)).any (fun d => s.sqSeen ((s.hif.turn + 1 + d) % 64)) = true :=
    List.any_eq_true.mpr ⟨_, List.mem_range.mpr (Nat.not_le.mp hlt), by rw [hplace]; simp [State.sqSeen, hwaits, hseen]⟩
  rw [State.inTurn, hpassed] at hturn
  exact absurd hturn (by decide)

theorem commandFetch_shows {q : Fin 64} {c : HostCmd} (hmay : s.mayFetch q = true) :
    (∀ op, s.fetches q op c (s.fetched q) → exec (.commandFetch q c) s = .next
      (((s.fetched q).runCommand c).1.complCmd q (leAt c.entry 2 2) ((s.fetched q).runCommand c).2.1 ((s.fetched q).runCommand c).2.2)) ∧
    (s.getF Reg.hifVer 31 24 = 0 → byteAt c.entry 0 ≠ 1 → byteAt c.entry 0 ≠ 2 →
      exec (.commandFetch q c) s = .next ((s.fetched q).complCmd q (leAt c.entry 2 2) 2 none)) ∧
    (s.getF Reg.hifVer 31 24 ≠ 0 → opcodeVersion (byteAt c.entry 0) = none →
      exec (.commandFetch q c) s = .next ((s.fetched q).complCmd q (leAt c.entry 2 2) 1 none)) := by
  have hfetch := commandFetch_of_may (c := c) hmay
  refine ⟨fun _ _ => congrArg _ hfetch, fun hver hid hneg => congrArg _ (hfetch.trans ?_), fun hver hop => congrArg _ (hfetch.trans ?_)⟩
  · rw [runCommand_unnegotiated ((hostVersion_fetched s q).trans hver) hid hneg]
  · rw [runCommand_unknown (fun h => hver ((hostVersion_fetched s q).symm.trans h)) hop]

end Fetch

/-! ### Vectors (R515-R517) -/

section Vectors
variable {s : State} {n : Fin 120}

theorem timerExpiry_waits (h : (s.hif.vecAt n).count = 0 ∨ s.hif.holding = true ∨
    s.now < (s.hif.vecAt n).since + 1000 * s.getF (Reg.hifMod n) 31 16) : exec (.msixTimerExpiry n) s = .next s := congrArg _ (if_pos h)

theorem timerExpiry_fires (hcount : (s.hif.vecAt n).count ≠ 0) (hawake : s.hif.holding = false)
    (hdue : (s.hif.vecAt n).since + 1000 * s.getF (Reg.hifMod n) 31 16 ≤ s.now) :
    ∃ t, exec (.msixTimerExpiry n) s = .next t ∧ t.hif.vecAt n = ⟨0, 0, (s.hif.vecAt n).pba || s.hif.masked n⟩ ∧
      (∀ m, m ≠ n.val → t.hif.vecAt m = s.hif.vecAt m) ∧ t.outbox = if s.hif.masked n then s.outbox else .msix false n :: s.outbox := by
  have hfire : ¬ ((s.hif.vecAt n).count = 0 ∨ s.hif.holding = true ∨ s.now < (s.hif.vecAt n).since + 1000 * s.getF (Reg.hifMod n) 31 16) := by
    rintro (h | h | h)
    · exact hcount h
    · exact Bool.false_ne_true (hawake.symm.trans h)
    · omega
  refine ⟨s.fireVec n, congrArg _ (if_neg hfire), ?_, fun m hm => ?_, rfl⟩
  · rw [State.vecAt_fireVec, if_pos rfl]
  · rw [State.vecAt_fireVec, if_neg hm]

theorem idleHint_shows {ini : Ini} {v : Word} (hgate : s.regGate ini Reg.hifIdleHint true v = .ok) :
    ∃ t, exec (.hifIdleHintWrite ini v) s = .next t ∧ t.resp = .ok 0 ∧ t.flag Reg.hifIdleHint 0 = v.getLsbD 0 ∧
      (v.getLsbD 0 = false ∨ s.hif.holding = true → t.hif = s.hif ∧ t.outbox = s.outbox) ∧
      (v.getLsbD 0 = true → s.hif.holding = false → (t.hif.vecAt n).count = 0 ∧
        (s.hif.masked n = false → (s.hif.vecAt n).count ≠ 0 → .msix false n ∈ t.outbox)) := by
  have hrun : exec (.hifIdleHintWrite ini v) s = .next { s.idleHintWrite v with resp := .ok 0 } := congrArg _ (s.gatedWrite_of_ok ini _ v _ hgate)
  have hflag := s.flag_plainWrite v stores_hifIdleHint (i := 0) (by decide)
  obtain ⟨hhif, hout⟩ := s.hif_plainWrite v stores_hifIdleHint
  by_cases hfires : v.getLsbD 0 = true ∧ s.hif.holding = false
  · obtain ⟨hset, hawake⟩ := hfires
    have hwrite : s.idleHintWrite v = (s.plainWrite Reg.hifIdleHint v).fireAll := if_pos (by simp [bit, hset, hawake])
    have hfired : (s.plainWrite Reg.hifIdleHint v).fireAll.flag Reg.hifIdleHint 0 = v.getLsbD 0 :=
      (State.flag_of_rd (State.rd_fireAll _ _) 0).trans hflag
    have hcounted : ((s.plainWrite Reg.hifIdleHint v).fireAll.hif.vecAt n).count = 0 := State.count_fireAll _ n.isLt
    have hsent (hmask : s.hif.masked n = false) (hcount : (s.hif.vecAt n).count ≠ 0) :
        .msix false n ∈ (s.plainWrite Reg.hifIdleHint v).fireAll.outbox :=
      State.msix_mem_fireDues (List.mem_range.mpr n.isLt) (hhif.symm ▸ hmask) (hhif.symm ▸ hcount)
    rw [hwrite] at hrun
    generalize (s.plainWrite Reg.hifIdleHint v).fireAll = fired at hrun hfired hcounted hsent
    refine ⟨_, hrun, rfl, hfired, fun hno => ?_, fun _ _ => ⟨hcounted, hsent⟩⟩
    rcases hno with h | h
    · exact absurd (h.symm.trans hset) Bool.false_ne_true
    · exact absurd (hawake.symm.trans h) Bool.false_ne_true
  · have hkeeps : ¬ (bit v 0 && !s.hif.holding) = true := by
      simp only [bit, Bool.and_eq_true, Bool.not_eq_true']
      exact hfires
    have hwrite : s.idleHintWrite v = s.plainWrite Reg.hifIdleHint v := if_neg hkeeps
    rw [hwrite] at hrun
    exact ⟨_, hrun, rfl, hflag, fun _ => ⟨hhif, hout⟩, fun hset hawake => absurd ⟨hset, hawake⟩ hfires⟩

end Vectors

/-- Settles O56. The rotation and its 50 µs (log entry 137), entries held for a queue that is disabled or full (log entry 138) and a timer of 0
(log entry 139) are the model's reading. -/
theorem hostQueuesAndVectors : Obligations.HostQueuesAndVectors := by
  unfold Obligations.HostQueuesAndVectors
  refine ⟨?_, fun ini n v s => ⟨timerExpiry_waits, timerExpiry_fires, idleHint_shows⟩⟩
  rintro ini q v c s _ rfl
  refine ⟨⟨head_fetched s q, rfl⟩, sqTailWrite_shows, fun hgate hen => ?_, fun hgate hoff hset => ?_, fun hgate hen hclear => ?_,
    fun hgate hoff hset => ?_,
    cqHeadWrite_shows, evtCfgWrite_shows, fun hno => congrArg _ (commandFetch_of_not hno), fun k => inTurn_fair, commandFetch_shows⟩
  · rw [sqCfgWrite_run hgate, sqCfgWrite_enabled hen]
  · exact ⟨_, sqCfgWrite_run hgate, rfl, fun ⟨hlo, hhi, hcq⟩ => sqCfgWrite_inLimits hoff hset hlo hhi hcq, sqCfgWrite_outside hoff hset⟩
  · rw [cqCfgWrite_run hgate, cqCfgWrite_disables hen hclear]
  · exact ⟨_, cqCfgWrite_run hgate, cqCfgWrite_outside hoff hset, cqCfgWrite_inLimits hoff hset⟩

end Sys2Proof.Machine

namespace Sys2Proof.Machine

/-! ### What the scheduler and the event controller leave of the system record (R45, R104, R115-R121) -/

/-- The system record is as it was. -/
def State.SysKept (s t : State) : Prop := t.sys = s.sys

namespace State.SysKept

theorem refl (s : State) : s.SysKept s := Eq.refl s.sys

theorem trans {s t u : State} (h1 : s.SysKept t) (h2 : t.SysKept u) : s.SysKept u := Eq.trans h2 h1

theorem of_hostStep {s t : State} (h : s.hostStep t) : s.SysKept t := by
  obtain ⟨_, _, _, rfl⟩ := h
  exact refl s

theorem closed : MemoryClosed State.SysKept where
  refl := refl
  trans := trans
  events h _ := of_hostStep h
  stores _ _ _ _ _ _ _ := Eq.refl _

theorem evcSet (s : State) (g src : Nat) : s.SysKept (s.evcSet g src) := closed.ite (Eq.refl _) (refl s)

theorem taskEvent (s : State) (cpl : Nat) : s.SysKept (s.taskEvent cpl) := closed.ite (evcSet s _ _) (refl s)

theorem completeTask (s : State) (g id result status : Nat) (cpl : Option Word) : s.SysKept (s.completeTask g id result status cpl) := by
  have hread := closed.memRead s (tsuTx g) (s.descAddr g id + 20) 12
  unfold State.completeTask
  dsimp only
  generalize s.memRead (tsuTx g) (s.descAddr g id + 20) 12 = r at hread ⊢
  obtain ⟨s1, acc, old⟩ := r
  exact (hread.trans (closed.ite (closed.memWrite s1 _ _ _) (refl s1))).trans (taskEvent _ _)

theorem tready (s : State) (g id : Nat) : s.SysKept (s.tready g id).1 := by
  have hcount : s.SysKept (s.countUnbound g) := trans (t := s.addSat (Reg.tsuUnbound g) 31 0 1) (Eq.refl _) (evcSet _ _ _)
  unfold State.tready
  dsimp only
  split
  · exact refl s
  split
  · exact hcount
  split
  · exact trans (Eq.refl _) (completeTask _ _ _ _ _ _)
  split
  · exact refl s
  split
  · exact trans (Eq.refl _) (evcSet _ _ _)
  · exact Eq.refl _

theorem strandSrc (s : State) (g src : Nat) : s.SysKept (s.strandSrc g src) :=
  closed.ite (refl s) (closed.ite (trans (Eq.refl _) (PlaneKept.hostEvent _ _ _).sys) (Eq.refl _))

theorem restartHoldoff (s : State) (g src : Nat) : s.SysKept (s.restartHoldoff g src) := by
  unfold State.restartHoldoff
  split
  · exact Eq.refl _
  · exact refl s

theorem present (s : State) (g src : Nat) : s.SysKept (s.present g src) := by
  have hready := trans (t := s.unstrand g src) (Eq.refl _) (tready (s.unstrand g src) g (s.routeTarget g src))
  unfold State.present
  generalize (s.unstrand g src).tready g (s.routeTarget g src) = r at hready ⊢
  obtain ⟨s1, code⟩ := r
  refine closed.ite (Eq.refl _) (closed.ite (strandSrc s g src) (closed.ite (Eq.refl _) (closed.ite ?_ ?_)))
  · dsimp only
    split
    · exact Eq.refl _
    · refine trans ?_ (restartHoldoff _ _ _)
      split
      · exact Eq.refl _
      · exact Eq.refl _
  · refine trans (trans hready (restartHoldoff s1 g src)) ?_
    dsimp only
    split
    · exact Eq.refl _
    · exact Eq.refl _

theorem represent (s : State) (g : Nat) : s.SysKept (s.represent g) := closed.foldl (fun s src => present s g src) _ s

theorem retryTasks (s : State) (g : Nat) : s.SysKept (s.retryTasks g) :=
  closed.foldl (fun s src => closed.ite (present s g src) (refl s)) _ s

theorem dispatchFree (g n : Nat) (s : State) : s.SysKept (State.dispatchFree g n s) := by
  induction n generalizing s with
  | zero => exact refl s
  | succ n ih =>
    unfold State.dispatchFree
    split
    · exact trans (Eq.refl _) (ih _)
    · exact refl s

theorem preempt (g : Nat) (ts : List Task) (s : State) : s.SysKept (State.preempt g ts s) := by
  induction ts generalizing s with
  | nil => exact refl s
  | cons t ts ih =>
    unfold State.preempt
    split
    · exact trans (Eq.refl _) (ih _)
    · exact ih s

theorem dispatch (s : State) (g : Nat) : s.SysKept (s.dispatch g) :=
  closed.ite (refl s) (((dispatchFree g 16 s).trans (preempt g _ _)).trans (retryTasks _ g))

theorem enableWrite (s : State) (g e : Nat) (v : Word) : s.SysKept (s.enableWrite g e v) := by
  unfold State.enableWrite
  dsimp only
  refine trans (closed.ite (trans ?_ (dispatch _ _)) ?_) (represent _ _)
  all_goals
    split
    · split
      · exact closed.ite (Eq.refl _) (closed.ite (Eq.refl _) (Eq.refl _))
      · exact Eq.refl _
    · exact Eq.refl _

end State.SysKept

end Sys2Proof.Machine

namespace Sys2Proof.Machine

/-! ### Bytes and words of a command entry (R511) -/

theorem ofLe_lt (bs : List Byte) : ofLe bs < 256 ^ bs.length := by
  induction bs with
  | nil => decide
  | cons b bs ih =>
    have hb : b.toNat < 256 := b.isLt
    rw [ofLe, List.length_cons, Nat.pow_succ]
    omega

theorem leAt_lt (bs : List Byte) (i n : Nat) : leAt bs i n < 256 ^ n :=
  Nat.lt_of_lt_of_le (ofLe_lt _) (Nat.pow_le_pow_right (by decide) (by rw [List.length_take]; exact Nat.min_le_left _ _))

theorem byteAt_lt (bs : List Byte) (i : Nat) : byteAt bs i < 256 := (bs.getD i 0).isLt

/-- The lowest bit of a number in the entry is that of its first byte. -/
theorem leAt_mod_two (bs : List Byte) (i n : Nat) : leAt bs i (n + 1) % 2 = byteAt bs i % 2 := by
  unfold leAt byteAt
  by_cases h : i < bs.length
  · rw [List.drop_eq_getElem_cons h, List.take_succ_cons, ofLe, List.getD_eq_getElem _ _ h]
    omega
  · rw [List.drop_eq_nil_of_le (Nat.not_lt.mp h), List.getD_eq_default _ _ (Nat.not_lt.mp h)]
    rfl

/-- Two halves of a word read as they were put. -/
theorem fld_halves {a b : Nat} (ha : a < 2 ^ 16) (hb : b < 2 ^ 16) : fld (BitVec.ofNat 32 (a * 2 ^ 16 + b)) 15 0 = b ∧
    fld (BitVec.ofNat 32 (a * 2 ^ 16 + b)) 31 16 = a := by
  unfold fld bitsN
  rw [BitVec.toNat_ofNat]
  omega

/-- Two low bytes of a word read as they were put. -/
theorem fld_lowBytes {a b : Nat} (ha : a < 2 ^ 8) (hb : b < 2 ^ 8) : fld (BitVec.ofNat 32 (a * 2 ^ 8 + b)) 7 0 = b ∧
    fld (BitVec.ofNat 32 (a * 2 ^ 8 + b)) 15 8 = a := by
  unfold fld bitsN
  rw [BitVec.toNat_ofNat]
  omega

theorem commandVersion_eq (bm : Nat) : commandVersion bm = if bm % 4 = 0 then 0 else bm % 4 / 2 + 1 := by
  unfold commandVersion
  split <;> split <;> omega

theorem length_flatMap_const {α β : Type} {f : α → List β} {n : Nat} (hf : ∀ a, (f a).length = n) (l : List α) :
    (l.flatMap f).length = n * l.length := by
  induction l with
  | nil => rfl
  | cons a l ih => rw [List.flatMap_cons, List.length_append, hf, ih, List.length_cons, Nat.mul_succ, Nat.add_comm]

/-- Piece i of pieces of one length. -/
theorem take_drop_flatMap {α β : Type} {f : α → List β} {n : Nat} (hf : ∀ a, (f a).length = n) (l : List α) (i : Nat) (hi : i < l.length) :
    ((l.flatMap f).drop (n * i)).take n = f l[i] := by
  induction l generalizing i with
  | nil => cases hi
  | cons a l ih =>
    cases i with
    | zero => rw [List.flatMap_cons, Nat.mul_zero, List.drop_zero, List.take_left' (hf a), List.getElem_cons_zero]
    | succ i =>
      have hlen : (f a).length ≤ n * (i + 1) := by rw [hf, Nat.mul_succ]; exact Nat.le_add_left _ _
      have hpast : (f a ++ l.flatMap f).drop (n * (i + 1)) = (l.flatMap f).drop (n * i) := by
        rw [List.drop_append, List.drop_eq_nil_of_le hlen, List.nil_append, hf, Nat.mul_succ, Nat.add_sub_cancel]
      rw [List.flatMap_cons, hpast, ih i (by simpa using hi), List.getElem_cons_succ]

/-! ### A command the Spine takes (R510, R522, R524) -/

/-- What the command of an opcode ends with (R523). -/
def State.commandEnd (u : State) (op : Nat) (c : HostCmd) : CmdEnd :=
  if op = 0x01 then u.identify c
  else if op = 0x02 then u.hostNegotiate c
  else if op = 0x10 then u.avsLimits c
  else if op = 0x11 then u.thermLimits c
  else if op = 0x12 then u.sensorDump c
  else if op = 0x20 then u.programStart c
  else if op = 0x21 then u.hostRoute c
  else if op = 0x30 then u.flashRead c
  else if op = 0x31 then u.flashWrite c
  else if op = 0x40 then u.trunkSet c
  else if op = 0x50 then u.gpio c
  else u.smbus c

/-- PROGRAM_START's opcode, through the tests of the opcodes before it (left to `rfl` this would evaluate both commands). -/
theorem commandEnd_programStart (u : State) (c : HostCmd) : u.commandEnd 0x20 c = u.programStart c := by
  unfold State.commandEnd
  rw [if_neg (by decide), if_neg (by decide), if_neg (by decide), if_neg (by decide), if_neg (by decide), if_pos rfl]

section Fetches
variable {s u : State} {q op v : Nat} {c : HostCmd}

/-- A command of an accepted version with its reserved bytes 0 is run by its opcode. -/
theorem runCommand_accepted (hop : byteAt c.entry 0 = op) (hres : reservedOk c.entry = true) (hv : opcodeVersion op = some v) (hpos : 1 ≤ v)
    (hver : op = 1 ∨ op = 2 ∨ v ≤ u.getF Reg.hifVer 31 24) : u.runCommand c = u.commandEnd op c := by
  unfold State.runCommand
  simp only [hop, hv, hres]
  rw [if_neg (by omega), if_neg (by omega), if_neg (by decide)]
  rfl

/-- A fetched command is run on the state the fetch leaves and completed with its id. -/
theorem fetchOp_of_fetches (h : s.fetches q op c u) (hv : opcodeVersion op = some v) (hpos : 1 ≤ v) : s.fetchOp op q c =
    (u.commandEnd op c).1.complCmd q (leAt c.entry 2 2) (u.commandEnd op c).2.1 (u.commandEnd op c).2.2 := by
  obtain ⟨hmay, hop, hres, hver, rfl⟩ := h
  have hver' : op = 1 ∨ op = 2 ∨ v ≤ (s.fetched q).getF Reg.hifVer 31 24 := by
    rw [hostVersion_fetched]
    rcases hver with h | h | ⟨w, hw, hle⟩
    · exact .inl h
    · exact .inr (.inl h)
    · rw [hv, Option.some.injEq] at hw
      exact .inr (.inr (hw ▸ hle))
  rw [State.fetchOp, if_pos hop, commandFetch_of_may hmay, runCommand_accepted hop hres hv hpos hver']

/-- A command that ends with state w, status st and result r. -/
theorem fetchOp_ends {w : State} {st : Nat} {r : Option Nat} (h : s.fetches q op c u) (hv : opcodeVersion op = some v) (hpos : 1 ≤ v)
    (hend : u.commandEnd op c = (w, st, r)) : s.fetchOp op q c = w.complCmd q (leAt c.entry 2 2) st r := by
  rw [fetchOp_of_fetches h hv hpos, hend]

theorem exec_ends {i : Instr} {w : State} {st : Nat} {r : Option Nat} (hrun : exec i s = .next (s.fetchOp op q c)) (h : s.fetches q op c u)
    (hv : opcodeVersion op = some v) (hpos : 1 ≤ v) (hend : u.commandEnd op c = (w, st, r)) :
    exec i s = .next (w.complCmd q (leAt c.entry 2 2) st r) := by
  rw [hrun, fetchOp_ends h hv hpos hend]

end Fetches

/-! ### The commands (R523-R528) -/

section Commands
variable {u : State} {c : HostCmd}

theorem toHost_of_fail (h : c.pcieFail = true) (addr : Nat) (bs : List Byte) (r : Option Nat) : u.toHost c addr bs r = (u, 6, none) := if_pos h

theorem toHost_of_ok (h : c.pcieFail = false) (addr : Nat) (bs : List Byte) (r : Option Nat) :
    u.toHost c addr bs r = (u.emit (.hostWrite addr bs), 0, r) := if_neg (by simp [h])

theorem hostNegotiate_ends : u.hostNegotiate c = if byteAt c.entry 8 % 4 = 0 then (u, 2, none)
    else (u.setF Reg.hifVer 31 24 (byteAt c.entry 8 % 4 / 2 + 1), 0, some (byteAt c.entry 8 % 4 / 2 + 1)) := by
  unfold State.hostNegotiate
  rw [commandVersion_eq]
  by_cases h : byteAt c.entry 8 % 4 = 0
  · simp [h]
  · simp [h]

/-- AVS_LIMITS within its limits (R528). -/
theorem avsLimits_ends (h : 550 ≤ leAt c.entry 8 2 ∧ leAt c.entry 10 2 ≤ 900 ∧ leAt c.entry 8 2 ≤ leAt c.entry 10 2 ∧ leAt c.entry 8 2 % 5 = 0 ∧
      leAt c.entry 10 2 % 5 = 0 ∧ byteAt c.entry 12 < byteAt c.entry 13 ∧ byteAt c.entry 13 ≤ 100) :
    ∃ w, u.avsLimits c = (w, 0, none) ∧ w.getF Reg.avsCfg 15 0 = leAt c.entry 8 2 ∧ w.getF Reg.avsCfg 31 16 = leAt c.entry 10 2 ∧
      w.getF Reg.avsThr 7 0 = byteAt c.entry 12 ∧ w.getF Reg.avsThr 15 8 = byteAt c.entry 13 ∧ w.flag Reg.avsSts 31 = false := by
  have hok : ¬ (leAt c.entry 8 2 < 550 ∨ 900 < leAt c.entry 10 2 ∨ leAt c.entry 10 2 < leAt c.entry 8 2 ∨ leAt c.entry 8 2 % 5 ≠ 0 ∨
      leAt c.entry 10 2 % 5 ≠ 0 ∨ byteAt c.entry 13 ≤ byteAt c.entry 12 ∨ 100 < byteAt c.entry 13) := by omega
  obtain ⟨hmin, hmax⟩ := fld_halves (leAt_lt c.entry 10 2) (leAt_lt c.entry 8 2)
  obtain ⟨hlo, hhi⟩ := fld_lowBytes (byteAt_lt c.entry 13) (byteAt_lt c.entry 12)
  obtain ⟨t, ht⟩ : ∃ t, t = ((u.wr Reg.avsCfg (BitVec.ofNat 32 (leAt c.entry 10 2 * 2 ^ 16 + leAt c.entry 8 2))).wr Reg.avsThr
    (BitVec.ofNat 32 (byteAt c.entry 13 * 2 ^ 8 + byteAt c.entry 12))).setB Reg.avsSts 31 false := ⟨_, rfl⟩
  have hcfg : t.rd Reg.avsCfg = BitVec.ofNat 32 (leAt c.entry 10 2 * 2 ^ 16 + leAt c.entry 8 2) := by
    rw [ht, State.rd_setB_ne _ _ _ _ _ (by decide), State.rd_wr_ne _ _ _ _ (by decide), State.rd_wr_same]
  have hthr : t.rd Reg.avsThr = BitVec.ofNat 32 (byteAt c.entry 13 * 2 ^ 8 + byteAt c.entry 12) := by
    rw [ht, State.rd_setB_ne _ _ _ _ _ (by decide), State.rd_wr_same]
  have hsts : t.flag Reg.avsSts 31 = false := by rw [ht, State.flag_setB_same _ _ _ _ (by decide)]
  have hend : u.avsLimits c = ({ t with sys := { t.sys with mismatchTicks := 0, busTicks := 0 } }, 0, none) := ht ▸ if_neg hok
  exact ⟨_, hend, (congrArg (fld · 15 0) hcfg).trans hmin, (congrArg (fld · 31 16) hcfg).trans hmax, (congrArg (fld · 7 0) hthr).trans hlo,
    (congrArg (fld · 15 8) hthr).trans hhi, hsts⟩

theorem thermLimits_ends : ∃ w, u.thermLimits c = (w, 0, none) ∧ w.getF Reg.snsTherm 15 0 = leAt c.entry 8 2 ∧
    w.getF Reg.snsTherm 31 16 = leAt c.entry 10 2 := by
  obtain ⟨hlow, hhigh⟩ := fld_halves (leAt_lt c.entry 10 2) (leAt_lt c.entry 8 2)
  have hrd := State.rd_wr_same u Reg.snsTherm (BitVec.ofNat 32 (leAt c.entry 10 2 * 2 ^ 16 + leAt c.entry 8 2))
  exact ⟨_, rfl, (congrArg (fld · 15 0) hrd).trans hlow, (congrArg (fld · 31 16) hrd).trans hhigh⟩

/-- The words of SENSOR_DUMP, one after the other. -/
def State.sensorBytes (u : State) : List Byte := (List.range 0x205).flatMap (fun i => leBytes 4 (u.rd (0x1400000 + 4 * i)).toNat)

theorem length_sensorBytes : u.sensorBytes.length = 0x814 := by
  unfold State.sensorBytes
  rw [length_flatMap_const (fun i => length_leBytes 4 _), List.length_range]

theorem take_drop_sensorBytes (i : Nat) (hi : i < 0x205) :
    (u.sensorBytes.drop (4 * i)).take 4 = leBytes 4 (u.rd (0x1400000 + 4 * i)).toNat := by
  have hpiece := take_drop_flatMap (f := fun i => leBytes 4 (u.rd (0x1400000 + 4 * i)).toNat) (fun i => length_leBytes 4 _)
    (List.range 0x205) i (by rwa [List.length_range])
  rwa [List.getElem_range] at hpiece

theorem programStart_none (hlen : leAt c.entry 14 4 = 0) : u.programStart c = (u, 0, none) := if_pos hlen

/-- PROGRAM_START while a program runs (R525). -/
theorem programStart_busy (hlen : leAt c.entry 14 4 ≠ 0) (h : u.sys.programStarted = true ∨ u.anyEngine = true) : u.programStart c = (u, 4, none) := by
  have hbusy : (u.sys.programStarted || u.anyEngine || regionOf (leAt c.entry 8 6) (leAt c.entry 14 4) != .ss ||
      !u.ownerCode (leAt c.entry 8 6 - ssBase) (leAt c.entry 14 4)) = true := by
    rcases h with h | h <;> simp [h]
  exact (if_neg hlen).trans (if_pos hbusy)

/-- A state with the code's first page in every engine and engine 0 of group 0 at its entry (R525). -/
def State.programLoaded (r : State) (bs : List Byte) (c : HostCmd) : State :=
  let s1 := { r with
    eng := (List.range 1024).foldl (fun m i =>
      SMap.set (fun _ => Eng.reset) m i ((SMap.get (fun _ => Eng.reset) m i).fillPage 0 bs)) r.eng
    sys := { r.sys with programStarted := true } }
  let x := s1.engAt 0 0
  s1.setEng 0 0 { x with norm := x.norm.start (leAt c.entry 18 2) (commandVersion (byteAt c.entry 20)) (leAt c.entry 8 6 - ssBase) (leAt c.entry 14 4) }

/-- PROGRAM_START with a code it can load (R525) starts engine 0 of group 0 and settles the ABI version. -/
theorem programStart_loads {r : State} {bs : List Byte} (hst : u.sys.programStarted = false) (heng : u.anyEngine = false)
    (hreg : regionOf (leAt c.entry 8 6) (leAt c.entry 14 4) = .ss) (hown : u.ownerCode (leAt c.entry 8 6 - ssBase) (leAt c.entry 14 4) = true)
    (hentry : leAt c.entry 18 2 < 512) (hlen : 2048 ≤ leAt c.entry 14 4) (habi : commandVersion (byteAt c.entry 20) ≠ 0)
    (hread : u.ssRead ⟨1, 0⟩ (leAt c.entry 8 6) (leAt c.entry 8 6 - ssBase) 2048 = (r, .ok, bs)) :
    u.programStart c = (((r.programLoaded bs c).enableWrite 0 0 1).setF Reg.hifVer 15 8 (commandVersion (byteAt c.entry 20)), 0,
      some (commandVersion (byteAt c.entry 20))) := by
  have hfree : ¬ (u.sys.programStarted || u.anyEngine || regionOf (leAt c.entry 8 6) (leAt c.entry 14 4) != .ss ||
      !u.ownerCode (leAt c.entry 8 6 - ssBase) (leAt c.entry 14 4)) = true := by simp [hst, heng, hreg, hown]
  have hlen0 : leAt c.entry 14 4 ≠ 0 := by omega
  have hin : ¬ (512 ≤ leAt c.entry 18 2 ∨ leAt c.entry 14 4 < 2048) := by omega
  refine (if_neg hlen0).trans ((if_neg hfree).trans ((if_neg hin).trans ((if_neg habi).trans ?_)))
  rw [hread]
  rfl

theorem programStarted_programLoaded (r : State) (bs : List Byte) (c : HostCmd) : (r.programLoaded bs c).sys.programStarted = true := rfl

theorem programStart_ends {r : State} {bs : List Byte} (hst : u.sys.programStarted = false) (heng : u.anyEngine = false)
    (hreg : regionOf (leAt c.entry 8 6) (leAt c.entry 14 4) = .ss) (hown : u.ownerCode (leAt c.entry 8 6 - ssBase) (leAt c.entry 14 4) = true)
    (hentry : leAt c.entry 18 2 < 512) (hlen : 2048 ≤ leAt c.entry 14 4) (habi : byteAt c.entry 20 % 4 ≠ 0)
    (hread : u.ssRead ⟨1, 0⟩ (leAt c.entry 8 6) (leAt c.entry 8 6 - ssBase) 2048 = (r, .ok, bs)) :
    ∃ w, u.programStart c = (w, 0, some (byteAt c.entry 20 % 4 / 2 + 1)) ∧ w.sys.programStarted = true ∧
      w.getF Reg.hifVer 15 8 = byteAt c.entry 20 % 4 / 2 + 1 := by
  have hver : commandVersion (byteAt c.entry 20) = byteAt c.entry 20 % 4 / 2 + 1 := (commandVersion_eq _).trans (if_neg habi)
  have hend := programStart_loads hst heng hreg hown hentry hlen (by omega) hread
  rw [hver] at hend
  have hsys : ((r.programLoaded bs c).enableWrite 0 0 1).sys = (r.programLoaded bs c).sys := State.SysKept.enableWrite _ 0 0 1
  refine ⟨_, hend, ?_, ?_⟩
  · rw [State.setF_sys, hsys, programStarted_programLoaded]
  · exact State.getF_setF_same _ _ _ _ _ (by decide) (by omega)

/-- ROUTE of a mailbox left out of use (R523). -/
theorem hostRoute_mailbox (h8 : byteAt c.entry 8 = 0) (h9 : byteAt c.entry 9 < 32) (h12 : byteAt c.entry 12 % 2 = 0) :
    u.hostRoute c = (u.mbxCfgWrite .spine (byteAt c.entry 9) (BitVec.ofNat 32 (leAt c.entry 12 4)), 0, none) := by
  have hoff : bit (BitVec.ofNat 32 (leAt c.entry 12 4)) 0 = false := by
    have heven := leAt_mod_two c.entry 12 3
    unfold bit
    rw [BitVec.getLsbD_ofNat, Nat.testBit_zero]
    simp [heven, h12]
  unfold State.hostRoute
  rw [h8]
  exact if_pos ⟨h9, by rw [hoff]; rfl⟩

theorem hostRoute_dbi (h8 : byteAt c.entry 8 = 1) (h9 : byteAt c.entry 9 < 64) :
    u.hostRoute c = (u.dbiRouteWrite .spine (byteAt c.entry 9) (BitVec.ofNat 32 (leAt c.entry 12 4)), 0, none) := by
  unfold State.hostRoute
  rw [h8]
  exact if_pos h9

theorem hostRoute_range (h : 2 ≤ byteAt c.entry 8 ∨ byteAt c.entry 8 = 0 ∧ 32 ≤ byteAt c.entry 9 ∨ byteAt c.entry 8 = 1 ∧ 64 ≤ byteAt c.entry 9) :
    u.hostRoute c = (u, 3, none) := by
  unfold State.hostRoute
  dsimp only
  split
  · exact if_neg (by omega)
  · exact if_neg (by omega)
  · rfl

/-- FLASH_READ or FLASH_WRITE past the end of the flash (R523). -/
theorem flashRead_range (h0 : leAt c.entry 20 4 ≠ 0) (h : Config.flashSize < leAt c.entry 16 4 + leAt c.entry 20 4) : u.flashRead c = (u, 3, none) :=
  (if_neg h0).trans (if_pos h)

theorem flashRead_inside (h0 : leAt c.entry 20 4 ≠ 0) (h : leAt c.entry 16 4 + leAt c.entry 20 4 ≤ Config.flashSize) :
    u.flashRead c = if c.flashFail then (u, 7, none)
      else u.toHost c (leAt c.entry 8 8) ((List.range (leAt c.entry 20 4)).map (fun i => u.flashAt (leAt c.entry 16 4 + i))) none :=
  (if_neg h0).trans (if_neg (Nat.not_lt.mpr h))

theorem flashWrite_range (h0 : leAt c.entry 20 4 ≠ 0) (h : Config.flashSize < leAt c.entry 16 4 + leAt c.entry 20 4) : u.flashWrite c = (u, 3, none) :=
  (if_neg h0).trans (if_pos h)

/-- A programmed byte reads as it was written. -/
theorem flashAt_setFlash_inside (a i : Nat) (bs : List Byte) (h : i < bs.length) : (u.setFlash a bs).flashAt (a + i) = bs[i] := by
  have hget := SMap.get_setList_inside (fun _ => (none : Option Byte)) (bs.map some) u.sys.flash a i (by rwa [List.length_map])
  unfold State.flashAt State.setFlash
  rw [hget, List.getElem_map, Option.getD_some]

theorem flashAt_setFlash_outside (a b : Nat) (bs : List Byte) (h : b < a ∨ a + bs.length ≤ b) : (u.setFlash a bs).flashAt b = u.flashAt b := by
  unfold State.flashAt State.setFlash
  rw [SMap.get_setList_ne _ _ _ _ _ (by rwa [List.length_map])]

/-- FLASH_WRITE of n bytes at a (R523): the sectors the range touches. -/
def State.flashSectors (c : HostCmd) (a n : Nat) : List Byte :=
  (List.range (roundUp (a + n) 4096 - a / 4096 * 4096)).map (fun i =>
    if a ≤ a / 4096 * 4096 + i ∧ a / 4096 * 4096 + i < a + n then c.hostData.getD (a / 4096 * 4096 + i - a) 0 else 0xFF)

theorem flashWrite_inside (h0 : leAt c.entry 20 4 ≠ 0) (h : leAt c.entry 16 4 + leAt c.entry 20 4 ≤ Config.flashSize) (hf : c.flashFail = false)
    (hp : c.pcieFail = false) : u.flashWrite c =
      (u.setFlash (leAt c.entry 16 4 / 4096 * 4096) (State.flashSectors c (leAt c.entry 16 4) (leAt c.entry 20 4)), 0, none) := by
  unfold State.flashWrite
  dsimp only
  rw [if_neg h0, if_neg (Nat.not_lt.mpr h), if_neg (by simp [hp]), if_neg (by simp [hf])]
  rfl

/-- A byte of a sector the range touches. -/
theorem flashAt_sectors_inside (a n b : Nat) (hn : n ≠ 0) (hlo : a / 4096 ≤ b / 4096) (hhi : b / 4096 ≤ (a + n - 1) / 4096) :
    (u.setFlash (a / 4096 * 4096) (State.flashSectors c a n)).flashAt b = if a ≤ b ∧ b < a + n then c.hostData.getD (b - a) 0 else 0xFF := by
  obtain ⟨i, rfl⟩ : ∃ i, b = a / 4096 * 4096 + i := ⟨b - a / 4096 * 4096, by omega⟩
  have hlen : i < (State.flashSectors c a n).length := by
    unfold State.flashSectors roundUp ceilDiv
    rw [List.length_map, List.length_range]
    omega
  rw [flashAt_setFlash_inside _ _ _ hlen]
  simp only [State.flashSectors, List.getElem_map, List.getElem_range]

/-- Sectors the range does not touch are kept. -/
theorem flashAt_sectors_outside (a n b : Nat) (h : b / 4096 < a / 4096 ∨ (a + n - 1) / 4096 < b / 4096) :
    (u.setFlash (a / 4096 * 4096) (State.flashSectors c a n)).flashAt b = u.flashAt b := by
  refine flashAt_setFlash_outside _ _ _ ?_
  unfold State.flashSectors roundUp ceilDiv
  rw [List.length_map, List.length_range]
  omega

theorem trunkSet_ends : u.trunkSet c = if byteAt c.entry 8 ≠ 1 ∧ byteAt c.entry 8 ≠ 2 then (u, 3, none)
    else if u.trunkFree = false then (u, 4, none) else (u.setF Reg.hifVer 23 16 (byteAt c.entry 8), 0, none) := by
  unfold State.trunkSet
  simp only [Bool.not_eq_true']

/-- GPIO drives the masked pins and answers with the driven level of an output, the read level of an input (R523). -/
theorem gpio_ends : ∃ w r, u.gpio c = (w, 0, some r) ∧ w.sys.gpioDir.toNat = leAt c.entry 8 4 ∧ ∀ b, b < 32 →
    w.sys.gpioOut.getLsbD b = (if (leAt c.entry 12 4).testBit b then (leAt c.entry 16 4).testBit b else u.sys.gpioOut.getLsbD b) ∧
    r.testBit b = if (leAt c.entry 8 4).testBit b then w.sys.gpioOut.getLsbD b else c.pins.getLsbD b := by
  refine ⟨_, _, rfl, ?_, fun b hb => ⟨?_, ?_⟩⟩
  · exact Nat.mod_eq_of_lt (leAt_lt c.entry 8 4)
  · simp only [State.emit, BitVec.getLsbD_or, BitVec.getLsbD_and, BitVec.getLsbD_not, BitVec.getLsbD_ofNat, hb, decide_true, Bool.true_and]
    cases (leAt c.entry 12 4).testBit b <;> simp
  · simp only [State.emit, BitVec.testBit_toNat, BitVec.getLsbD_or, BitVec.getLsbD_and, BitVec.getLsbD_not, BitVec.getLsbD_ofNat, hb, decide_true,
      Bool.true_and]
    cases (leAt c.entry 8 4).testBit b <;> simp

theorem smbus_range (h : 32 < byteAt c.entry 9 ∨ 32 < byteAt c.entry 10) : u.smbus c = (u, 3, none) := if_pos h

/-- The transfer's write part (R523). -/
def State.smbusSent (u : State) (c : HostCmd) : State := u.emit (.smbus (byteAt c.entry 8) ((c.entry.drop 16).take (byteAt c.entry 9)))

theorem smbus_nack {i : Nat} (h9 : byteAt c.entry 9 ≤ 32) (h10 : byteAt c.entry 10 ≤ 32) (h0 : byteAt c.entry 9 ≠ 0 ∨ byteAt c.entry 10 ≠ 0)
    (hn : c.smbusNack = some i) : u.smbus c = (u.smbusSent c, 0, some (i + 1)) := by
  unfold State.smbus
  dsimp only
  rw [if_neg (by omega), if_neg (by omega), hn]
  rfl

theorem smbus_ack (h9 : byteAt c.entry 9 ≤ 32) (h10 : byteAt c.entry 10 ≤ 32) (h0 : byteAt c.entry 9 ≠ 0 ∨ byteAt c.entry 10 ≠ 0)
    (hn : c.smbusNack = none) : u.smbus c = if byteAt c.entry 10 = 0 then (u.smbusSent c, 0, some 0)
      else (u.smbusSent c).toHost c (leAt c.entry 48 8) (padTo (byteAt c.entry 10) (c.smbusData.take (byteAt c.entry 10))) (some 0) := by
  unfold State.smbus
  dsimp only
  rw [if_neg (by omega), if_neg (by omega), hn]
  rfl

end Commands

/-- Settles O58. Every command the Spine fetches ends as its own lemma says (`identify`, `programStart_ends`, `flashAt_sectors_inside`, …) and is
completed by the fetch (`exec_ends`). The order of refusals (TRUNK_SET's RANGE before STATE, PROGRAM_START's length 0 before STATE) is the
model's reading (log entry 136). -/
theorem hostCommandsTakeEffect : Obligations.HostCommandsTakeEffect := by
  unfold Obligations.HostCommandsTakeEffect
  rintro q c s u _ _ rfl rfl
  refine ⟨fun h => ?identify, fun h => ?negotiate, fun h => ⟨fun hok => ?avs, fun hbad => ?avsRange⟩, fun h => ?therm, fun h => ?sensors,
    fun h h0 => ?startNone, fun h h0 hbusy => ?startBusy, fun r bs h hst heng hreg hown hentry hlen habi hread => ?start,
    fun h => ⟨fun n h8 h9 h12 => ?routeMbx, fun n h8 h9 => ?routeDbi, fun hbad => ?routeRange⟩,
    fun h h0 => ⟨fun hbad => ?readRange, fun hin hf => ?readFlash, fun hin hf hp => ?read⟩,
    fun h h0 => ⟨fun hbad => ?writeRange, fun hin hf hp => ?write⟩, fun h => ?trunk, fun h => ?gpio,
    fun h => ⟨fun hbad => ?smbusRange, fun h9 h10 h0 => ⟨fun i hn => ?smbusNack, fun hn hr => ?smbusWrite, fun hn hr hp => ?smbusRead⟩⟩⟩
  case identify =>
    cases hp : c.pcieFail
    · exact exec_ends rfl h rfl (by decide) (toHost_of_ok hp _ _ _)
    · exact exec_ends rfl h rfl (by decide) (toHost_of_fail hp _ _ _)
  case negotiate =>
    have hend := hostNegotiate_ends (u := u) (c := c)
    split
    · next h0 => exact exec_ends rfl h rfl (by decide) (hend.trans (if_pos h0))
    · next h0 => exact exec_ends rfl h rfl (by decide) (hend.trans (if_neg h0))
  case avs =>
    obtain ⟨w, hend, hfields⟩ := avsLimits_ends hok
    exact ⟨w, exec_ends rfl h rfl (by decide) hend, hfields⟩
  case avsRange => exact exec_ends rfl h rfl (by decide) (if_pos hbad)
  case therm =>
    obtain ⟨w, hend, hfields⟩ := thermLimits_ends (u := u) (c := c)
    exact ⟨w, exec_ends rfl h rfl (by decide) hend, hfields⟩
  case sensors =>
    cases hp : c.pcieFail
    · exact ⟨u.sensorBytes, exec_ends rfl h rfl (by decide) (toHost_of_ok hp _ _ _), length_sensorBytes, take_drop_sensorBytes⟩
    · exact exec_ends rfl h rfl (by decide) (toHost_of_fail hp _ _ _)
  case startNone => exact exec_ends rfl h rfl (by decide) ((commandEnd_programStart u c).trans (programStart_none h0))
  case startBusy => exact exec_ends rfl h rfl (by decide) ((commandEnd_programStart u c).trans (programStart_busy h0 hbusy))
  case start =>
    obtain ⟨w, hend, hleft⟩ := programStart_ends hst heng hreg hown hentry hlen habi hread
    exact ⟨w, exec_ends rfl h rfl (by decide) ((commandEnd_programStart u c).trans hend), hleft⟩
  case routeMbx => exact exec_ends rfl h rfl (by decide) (h9 ▸ hostRoute_mailbox h8 (h9 ▸ n.isLt) h12)
  case routeDbi => exact exec_ends rfl h rfl (by decide) (h9 ▸ hostRoute_dbi h8 (h9 ▸ n.isLt))
  case routeRange => exact exec_ends rfl h rfl (by decide) (hostRoute_range hbad)
  case readRange => exact exec_ends rfl h rfl (by decide) (flashRead_range h0 hbad)
  case readFlash => exact exec_ends rfl h rfl (by decide) ((flashRead_inside h0 hin).trans (if_pos hf))
  case read =>
    have hok : ¬ c.flashFail = true := by simp [hf]
    exact exec_ends rfl h rfl (by decide) ((flashRead_inside h0 hin).trans ((if_neg hok).trans (toHost_of_ok hp _ _ _)))
  case writeRange => exact exec_ends rfl h rfl (by decide) (flashWrite_range h0 hbad)
  case write =>
    refine ⟨_, exec_ends rfl h rfl (by decide) (flashWrite_inside h0 hin hf hp), fun i hi => ?_, fun b hlo hout hhi => ?_, fun b hout => ?_⟩
    · rw [flashAt_sectors_inside _ _ _ h0 (by omega) (by omega), if_pos (by omega), Nat.add_sub_cancel_left]
    · rw [flashAt_sectors_inside _ _ _ h0 hlo hhi, if_neg (by omega)]
    · exact flashAt_sectors_outside _ _ _ hout
  case trunk =>
    have hend := trunkSet_ends (u := u) (c := c)
    split
    · next hv => exact exec_ends rfl h rfl (by decide) (hend.trans (if_pos hv))
    · next hv =>
      split
      · next hf => exact exec_ends rfl h rfl (by decide) (hend.trans ((if_neg hv).trans (if_pos hf)))
      · next hf => exact exec_ends rfl h rfl (by decide) (hend.trans ((if_neg hv).trans (if_neg hf)))
  case gpio =>
    obtain ⟨w, r, hend, hpins⟩ := gpio_ends (u := u) (c := c)
    exact ⟨w, r, exec_ends rfl h rfl (by decide) hend, hpins⟩
  case smbusRange => exact exec_ends rfl h rfl (by decide) (smbus_range hbad)
  case smbusNack => exact exec_ends rfl h rfl (by decide) (smbus_nack h9 h10 h0 hn)
  case smbusWrite => exact exec_ends rfl h rfl (by decide) ((smbus_ack h9 h10 h0 hn).trans (if_pos hr))
  case smbusRead =>
    exact exec_ends rfl h rfl (by decide) ((smbus_ack h9 h10 h0 hn).trans ((if_neg hr).trans (toHost_of_ok hp _ _ _)))

end Sys2Proof.Machine
